-- ==== Sys2Proof/Word.lean ====
section
/-! DEFINITION. The word types of the device: bytes of frames and memories, and the 32-bit register word. -/

namespace Sys2Proof

/-- A byte of a frame, a payload or a memory. -/
abbrev Byte := BitVec 8

/-- A 32-bit register word of the expert register window. -/
abbrev Word32 := BitVec 32

end Sys2Proof
end

