-- ==== Sys2Proof/Machine/Bits.lean ====
section
/-! DEFINITION. Bit-field, sign, byte-order, rounding and CRC helpers shared by every block. -/

namespace Sys2Proof.Machine

/-- The low `w` bits of `v` read as a two's complement number. -/
def sx (w v : Nat) : Int :=
  let m := v % 2 ^ w
  if 2 * m < 2 ^ w then (m : Int) else (m : Int) - (2 ^ w : Nat)

/-- The `w`-bit two's complement code of `x` (wrapping). -/
def tc (w : Nat) (x : Int) : Nat := (x % (2 ^ w : Nat)).toNat

/-- Bit `i` of `n`. -/
def bitOf (n i : Nat) : Bool := n.testBit i

/-- `true` as 1. -/
def b2n (b : Bool) : Nat := if b then 1 else 0

/-- Bits `lo` to `lo + w - 1` of `n`. -/
def slice (n lo w : Nat) : Nat := n / 2 ^ lo % 2 ^ w

/-- `n` with bit `i` set to `b`. -/
def withBit (n i : Nat) (b : Bool) : Nat :=
  if n.testBit i = b then n else if b then n + 2 ^ i else n - 2 ^ i

/-- `x` limited to `lo … hi`. -/
def clampI (lo hi x : Int) : Int := if x < lo then lo else if hi < x then hi else x

/-- `x` limited to at most `hi`. -/
def satN (hi x : Nat) : Nat := if hi < x then hi else x

/-- `x` rounded to a multiple of `2^k` and divided by it, half to even (R190). -/
def rneShift (x : Int) (k : Nat) : Int :=
  let d : Int := (2 ^ k : Nat)
  let q := x.fdiv d
  let r := x.fmod d
  if 2 * r < d then q else if d < 2 * r then q + 1 else if q % 2 = 0 then q else q + 1

/-- `n / d` rounded half to even (`d` positive). -/
def rneDiv (n : Int) (d : Nat) : Int :=
  let q := n.fdiv d
  let r := n.fmod d
  if 2 * r < (d : Int) then q else if (d : Int) < 2 * r then q + 1 else if q % 2 = 0 then q else q + 1

/-- `n / d` rounded to nearest, halves away from zero (`d` positive). -/
def rnaDiv (n : Int) (d : Nat) : Int :=
  if 0 ≤ n then (2 * n + d).fdiv (2 * d) else -((2 * (-n) + d).fdiv (2 * d))

/-- `n / d` rounded up (`d` positive). -/
def ceilDiv (n d : Nat) : Nat := (n + (d - 1)) / d

/-- `n` as `k` bytes, most significant first (R271). -/
def be : Nat → Nat → List Byte
  | 0, _ => []
  | k + 1, n => BitVec.ofNat 8 (n / 256 ^ k) :: be k n

/-- A big-endian byte string as a number. -/
def beNat (l : List Byte) : Nat := l.foldl (fun a b => a * 256 + b.toNat) 0

/-- `n` bytes of `l` from offset `o`. -/
def bytesAt (l : List Byte) (o n : Nat) : List Byte := (l.drop o).take n

/-- The big-endian number of `n` bytes at offset `o`. -/
def fieldAt (l : List Byte) (o n : Nat) : Nat := beNat (bytesAt l o n)

/-- `n` zero bytes. -/
def zeros (n : Nat) : List Byte := List.replicate n 0

/-- `n` bits of `v`, most significant first. -/
def bitsMsb : Nat → Nat → List Bool
  | 0, _ => []
  | n + 1, v => v.testBit n :: bitsMsb n v

/-- The bits of a byte string, most significant bit of each byte first. -/
def bytesBits (l : List Byte) : List Bool := l.flatMap (fun b => bitsMsb 8 b.toNat)

/-- A bit string, most significant first, as a number. -/
def bitsNat (l : List Bool) : Nat := l.foldl (fun a b => 2 * a + b2n b) 0

/-- One step of a left-shifting CRC of width `w` with polynomial `poly`. -/
def crcStep (w poly : Nat) (c : Nat) (b : Bool) : Nat :=
  let top := c.testBit (w - 1)
  let sh := (2 * c) % 2 ^ w
  if top != b then sh ^^^ poly else sh

/-- CRC-16/CCITT of R272: polynomial 0x1021, initial value 0xFFFF, MSB first, no final XOR. -/
def crc16 (l : List Byte) : Nat := (bytesBits l).foldl (crcStep 16 0x1021) 0xFFFF

/-- The sum of a list of integers. -/
def sumI (l : List Int) : Int := l.foldl (· + ·) 0

/-- The eight line lanes. -/
def lanes8 : List (Fin 8) := [0, 1, 2, 3, 4, 5, 6, 7]

/-- The sixteen host lanes (and bias channels). -/
def hosts16 : List (Fin 16) := [0, 1, 2, 3, 4, 5, 6, 7, 8, 9, 10, 11, 12, 13, 14, 15]

/-- The host lanes a line lane owns: 2k and 2k + 1. -/
def hostEven (k : Fin 8) : Fin 16 := ⟨2 * k.val, by omega⟩
/-- Host lane 2k + 1. -/
def hostOdd (k : Fin 8) : Fin 16 := ⟨2 * k.val + 1, by omega⟩
/-- The line lane that owns host lane `n`. -/
def laneOfHost (n : Fin 16) : Fin 8 := ⟨n.val / 2, by omega⟩

/-- Replace the elements at the position `i`. -/
def setAt {α : Type} : List α → Nat → α → List α
  | [], _, _ => []
  | _ :: t, 0, a => a :: t
  | h :: t, i + 1, a => h :: setAt t i a

end Sys2Proof.Machine
end

