-- ==== Sys2Proof/Syntax.lean ====
section
/-! DEFINITION. The commands the block takes: one constructor of `Instr` per row of spec/opcode_table.json, in the table's
order, with the row's operands, and the operand types. A quantity that only the analogue world or the far end can supply
(a measured level, a conversion's raw value, a received word) is an operand of the event that brings it. -/

namespace Sys2Proof

/-- Who sent a KCI command (R258, R294, R357): native SPI with its SEQ, a CDB window, an applet through the Karsyn applet
API, or the twin's endpoint relaying it with its SEQ. -/
inductive Src where
  | spi (seq : Byte)
  | cdb (inst : Fin 2)
  | applet (slot : Fin 4)
  | twin (seq : Byte)
  deriving DecidableEq, Repr

/-- The register-window accessors of R284, and the twin, whose relayed accesses R365 executes. -/
inductive Accessor where
  | ws | mgmt | spi | mbox | twin
  deriving DecidableEq, Repr

/-- What a protected-memory access finds (R302): no error, a correctable one, an uncorrectable one. -/
inductive Ecc where
  | ok | ce | ue
  deriving DecidableEq, Repr

/-- The protected memories, coded as MI_ECCLAST.MEM (Table 12-1). -/
inductive MemId where
  | mgmt | pattern | prog | x | y
  deriving DecidableEq, Repr

/-- What one scrubber read meets (R302, R303, R305, R306): `dropped` is a correctable word whose write-back a newer write
overtakes, `collide` a read discarded because a write hit the same word in the same cycle. -/
inductive ScrubResult where
  | clean | correctable | dropped | uncorrectable | collide
  deriving DecidableEq, Repr

/-- What the refresh walker's reads of a block meet (R313): all pages read; a page that needed more than the LDPC correction threshold; a
page that LDPC cannot correct, with the LOG records (by SEQ), the CONF key, the image slot (0 A, 1 B) or the vote copy on it. -/
inductive FlashRead where
  | good
  | weak
  | log (seqs : List Nat)
  | conf (key : BitVec 16)
  | img (slot : Fin 2)
  | vote (copy : Fin 3)
  deriving DecidableEq, Repr

/-- The Whetstone's task kinds, coded as WS_STAT.TASK (R198). -/
inductive TaskKind where
  | loop | rloop | cal | dpd | sys
  deriving DecidableEq, Repr

/-- Post-modify steps of R191. -/
inductive PostStep where
  | p1 | m1 | p2 | m2 | mod
  deriving DecidableEq, Repr

/-- Where a multiply takes its X operand: the X operand latch, or X memory through A0 to A3 with post-modify. -/
inductive XSrc where
  | latch
  | load (a : Fin 4) (step : PostStep)
  deriving DecidableEq, Repr

/-- Where a multiply takes its Y operand: the Y operand latch, or Y memory through A4 to A7 with post-modify. -/
inductive YSrc where
  | latch
  | load (a : Fin 4) (step : PostStep)
  deriving DecidableEq, Repr

/-- An arithmetic operand: an accumulator half (AC0R, AC0I, AC1R, AC1I) or an integer register. -/
inductive AluReg where
  | acc (half : Fin 4)
  | int (r : Fin 8)
  deriving DecidableEq, Repr

/-- A count given as an immediate or from an integer register (R193, shifts). -/
inductive Count where
  | imm (n : Nat)
  | reg (r : Fin 8)
  deriving DecidableEq, Repr

/-- The registers LD, ST and MOV name: accumulator halves, whole complex accumulators, integer registers, and the address,
base, length and modifier registers (R191). -/
inductive WReg where
  | half (h : Fin 4)
  | ac (n : Fin 2)
  | int (r : Fin 8)
  | a (n : Fin 8)
  | b (n : Fin 8)
  | l (n : Fin 8)
  | m (n : Fin 8)
  deriving DecidableEq, Repr

/-- Branch conditions on a bank's zero and negative status. -/
inductive Cond where
  | eq | ne | lt | ge
  deriving DecidableEq, Repr

/-- The two-wire transaction a STOP ends: a read of `count` bytes from byte `off` of the selected page, a write from there, to a 7-bit
address; or one without either. -/
inductive TwoWire where
  | other
  | read (addr : BitVec 7) (off : Byte) (count : Nat)
  | write (addr : BitVec 7) (off : Byte) (data : List Byte)
  deriving DecidableEq, Repr

/-- What becomes of an output-fault condition (R217): it begins, it has lasted the detection filter, it ends. -/
inductive FaultPhase where
  | begins | persists | ends
  deriving DecidableEq, Repr

/-- The events of R197 that are no task's own. -/
inductive WsEvent where
  | tapDone (lane : Fin 8)
  | obsDone
  | madcEnd (conv : Fin 2)
  | mailbox
  | crosscut
  deriving DecidableEq, Repr

/-- What WAITEV names: an event, or a time delay of its own in REFCLK cycles. -/
inductive WsWait where
  | event (ev : WsEvent)
  | delay (cycles : Nat)
  deriving DecidableEq, Repr

/-- What arrives: an event, for every task, or the end of one task's time delay. -/
inductive WsWake where
  | event (ev : WsEvent)
  | delay (task : TaskKind)
  deriving DecidableEq, Repr

/-- What a sub-ADC meets in one UI: the differential input at its nominal instant in nV, after the front end's bandwidth and peaking and
referred to the balls, and the input's change per 25 fs in nV (log entry 81). -/
structure RxSample where
  v : Int
  slope : Int
  deriving DecidableEq, Repr

/-- One lane's measured latencies at activation, in femtoseconds (R32, R152): LN_LATTX, LN_LATRX and HL_LATTX of host lane
2k + 1. -/
structure LatReport where
  lane : Fin 8
  tx : Nat
  rx : Nat
  odd : Nat
  deriving DecidableEq, Repr

/-- A CMIS host equalisation write (R146, R147): an output code, or the adaptation enable with its fixed target. -/
inductive EqWrite where
  | amp (code : Fin 4)
  | pre (code : Fin 8)
  | post (code : Fin 8)
  | adapt (on : Bool)
  | fixedTarget (code : Fin 13)
  deriving DecidableEq, Repr

/-- What the far end sends for verification (R355): its device certificate and the signed attestation object of R381, or, where it
cannot sign, its certificate alone. -/
inductive Cred where
  | full (cert object : List Byte)
  | certOnly (cert : List Byte)
  deriving DecidableEq, Repr

/-- What the attach handshake learns of the far end (R355): part number, strap (true for B), protocol levels, the CRC of its
lane map, its certificate and attestation, serial and firmware version. -/
structure AttachInfo where
  part : Nat
  isB : Bool
  xproto : Byte
  xmin : Byte
  mapCrc : Nat
  cred : Cred
  serial : Nat
  fwver : Nat
  deriving DecidableEq, Repr

/-- LOOP_HANDOVER messages (R366): TAKE, the receiver's acknowledgement of TAKE, BACK. -/
inductive Handover where
  | take | takeAck | back
  deriving DecidableEq, Repr

/-- Firmware messages over MAILBOX_RELAY (Table 15-2, R357, R368): a relayed KCI request frame, a relayed response frame, a
relayed CMIS write, part of an image for the inactive slot, the requests to restart into it and to commit, the report that a
copy or commit is done, the nonce of the attach handshake for which this device sends its certificate and attestation
(R355), and that a host lane's CMIS flag has been read or its mask written. -/
inductive RelayMsg where
  | command (frame : List Byte)
  | reply (frame : List Byte)
  | select (first mode size lrm outputs pretx prerx : Byte)
  | output (hlane : Fin 16) (disable : Bool)
  | eq (hlane : Fin 16) (write : EqWrite)
  | image (size offset : Nat) (data : List Byte)
  | restart
  | commit
  | done (ok : Bool)
  | attest (nonce : BitVec 256)
  | clear (hlane : Fin 16) (bit : Fin 4)
  | mask (hlane : Fin 16) (bit : Fin 4) (on : Bool)
  deriving DecidableEq, Repr

/-- What one test step measured (R408, Table 18-1): test ID, unit, SNR_F in 0.1 dB, errors (bit errors, failing words,
mismatches, detectors or rails out of limits), the worst deviation in the test's unit, and whether the test's last step has
run. -/
structure StepMeas where
  test : Nat
  unit : Nat
  snr : Nat
  errors : Nat
  dev : Int
  last : Bool
  deriving DecidableEq, Repr

/-- The commands (spec/opcode_table.json). -/
inductive Instr where
  /-- APP_STAT_GET (R39): Returns mode, first lane, state and line rate mode for each of the eight lanes. -/
  | appStatGet (src : Src)
  /-- APP_SELECT (R39): Evaluates a data-path selection under the coexistence rules; if valid, powers the group and starts bring-up. -/
  | appSelect (src : Src) (first mode size lrm outputs pretx prerx : Byte)
  /-- APP_DEACT (R40): Deactivates the named group under steps 2 to 4 of the low-power sequence, for that group alone. -/
  | appDeact (src : Src) (first : Byte)
  /-- ACTIVATION_START (R432): After domains are powered and restoring commits are made, the lane leaves OFF for ALIGN. -/
  | activationStart (lane : Fin 8)
  /-- DATAPATH_STOP (R29): A deactivating data path stops at its next frame or block boundary; frames in flight are dropped and the output is squelched. -/
  | datapathStop (lane : Fin 8)
  /-- TX_COMMIT_BOUNDARY (R128): At each transmit commit boundary, a requested shaping-set commit and the pending transmit changes apply. -/
  | txCommitBoundary (lane : Fin 8) (even : BitVec 2176) (odd : BitVec 1024)
  /-- BEACON_BLOCK_TX (R62): At each beacon block boundary, the next 256-bit beacon block, or the first one of a bring-up, is sent. -/
  | beaconBlockTx (lane : Fin 8)
  /-- BEACON_BLOCK_RX (R163): A received beacon block is validated and drives HEARD, BCNLOCK, MISMATCH and AGREED. -/
  | beaconBlockRx (lane : Fin 8) (samples : List Int) (start : Int) (grid : Bool)
  /-- BEACON_LOSS (R166): The far-end beacon ends before a nonzero SWITCH is decoded, and bring-up restarts at SEARCH. -/
  | beaconLoss (lane : Fin 8)
  /-- FRAME0_START (R165): At block count SWITCH the transmitter switches from beacon to frame 0. -/
  | frame0Start (lane : Fin 8)
  /-- RX_FRAME0 (R153): Received frame 0, or symbol 0, starts the host-transmit divider, and the lane enters TRAIN. -/
  | rxFrame0 (lane : Fin 8)
  /-- UTRAIN_START (R173): After ALIGN, a U-mode lane goes to DATA at the next 1,088-UI boundary and enters UTRAIN with symbol 0. -/
  | utrainStart (lane : Fin 8)
  /-- OVERRANGE_SAMPLE (R73): An over-range or hard-overdrive sample sets its flags and opens or restarts the recovering window. -/
  | overrangeSample (lane : Fin 8) (sample : RxSample)
  /-- REC_WINDOW_END (R74): The recovering window of N samples expires. -/
  | recWindowEnd (lane : Fin 8)
  /-- AGC_STEP (R69): Every 8,704 UI the AGC moves GAIN by at most one code towards the target. -/
  | agcStep (lane : Fin 8) (outer : Nat)
  /-- SA_AFE_WRITE (R70): A change of RANGE, PEAK or GAIN during an active data path takes effect at once and starts 2 µs of settling. -/
  | saAfeWrite (acc : Accessor) (vga : Bool) (value : Word32)
  /-- AFE_SETTLE_END (R70): The 2 µs AFE settling ends and SETTLING clears. -/
  | afeSettleEnd (lane : Fin 8)
  /-- SA_LCTL_CMTREQ (R81): A write of 1 requests a trim commit at the lane's next commit boundary. -/
  | saLctlCmtreq (acc : Accessor) (value : Word32)
  /-- SA_COMMIT_BOUNDARY (R81): At the receive commit boundary, pending trim commits and boundary-timed receive changes apply. -/
  | saCommitBoundary (lane : Fin 8)
  /-- SA_TBCTL_REQ (R90): Setting REQ posts the accessor's tap-buffer request. -/
  | saTbctlReq (acc : Accessor) (value : Word32)
  /-- TB_GRANT (R90): The next queued request is granted when the buffer is free, and the capture starts or arms. -/
  | tbGrant (lane : Fin 8)
  /-- TB_TRIGGER (R89): An OVR or CYCLE trigger occurs for an armed capture. -/
  | tbTrigger (lane : Fin 8) (cycle : Bool)
  /-- TB_TRIG_TIMEOUT (R89): A capture that has not triggered 1 ms after its grant completes with TRIGGERED = 0. -/
  | tbTrigTimeout (lane : Fin 8)
  /-- TB_DONE (R88): The capture completes once the decision for its last entry exists. -/
  | tbDone (lane : Fin 8)
  /-- SA_TBREL_RELEASE (R91): RELEASE frees the held buffer or withdraws a queued request. -/
  | saTbrelRelease (acc : Accessor) (value : Word32)
  /-- TB_HOLD_TIMEOUT (R91): The buffer is released 200 µs after DONE. -/
  | tbHoldTimeout (lane : Fin 8)
  /-- LINE_AFE_GET (R68): Returns the AFE settings and status of a lane. -/
  | lineAfeGet (src : Src) (lane : Byte)
  /-- LINE_AFE_SET (R70): Sets the AFE range, peaking, AGC and gain of a lane. -/
  | lineAfeSet (src : Src) (lane range peak agcen agctgt gain : Byte)
  /-- LINE_ADC_TRIM_GET (R80): Returns the active trims of consecutive sub-ADC phases. -/
  | lineAdcTrimGet (src : Src) (lane first count : Byte)
  /-- LINE_ADC_TRIM_SET (R81): Stages trim targets and commits them until they are reached. -/
  | lineAdcTrimSet (src : Src) (lane phase which : Byte) (gain offs skew : BitVec 16)
  /-- LINE_ADC_CAPTURE (R88): Takes a tap-buffer capture and keeps firmware's copy. -/
  | lineAdcCapture (src : Src) (lane mode phase trig : Byte) (trigpos : BitVec 16)
  /-- LINE_ADC_READ (R87): Returns entries of the held capture copy. -/
  | lineAdcRead (src : Src) (lane seq : Byte) (first count : BitVec 16)
  /-- LINE_ADC_STAT_GET (R78): Returns the lane's over-range, recovery, commit and clamp counters. -/
  | lineAdcStatGet (src : Src) (lane : Byte)
  /-- CAL_VISIT_START (R202): The CAL task starts a visit on the next eligible lane and phase, no sooner than GAP. -/
  | calVisitStart
  /-- CAL_VISIT_END (R203): A visit ends, staging its corrections and requesting commits, or counting THIN. -/
  | calVisitEnd
  /-- LQF_BLOCK_END (R115): At the end of each 2^23-UI block the SNR figures and the LQF update, and the lock and activation conditions are judged. -/
  | lqfBlockEnd (lane : Fin 8)
  /-- TR_FREQ_LIMIT (R97): The frequency integrator reaches ±250 ppm and LOCK clears. -/
  | trFreqLimit (lane : Fin 8) (positive : Bool)
  /-- FRAME_SIGN_DECIDE (R56): One clock after a frame's last word, s is decided from Λ, and the level means update. -/
  | frameSignDecide (lane : Fin 8)
  /-- WINDOW_DECODE (R113): A decoding window is loaded and decoded, and its decisions leave 168 clocks later. -/
  | windowDecode (lane : Fin 8)
  /-- LN_FFETAP_WRITE (R103): A tap write sets the tap and clears its accumulator's low bits. -/
  | lnFfetapWrite (acc : Accessor) (tap : Fin 48) (value : Word32)
  /-- DEC_CTL_HSNAP (R118): A write of 1 requests a margin-histogram snapshot at the next commit boundary. -/
  | decCtlHsnap (acc : Accessor) (value : Word32)
  /-- LINE_RX_STAT_GET (R97): Returns the receive timing, quality and latency status of a lane. -/
  | lineRxStatGet (src : Src) (lane : Byte)
  /-- LINE_RX_CFG_SET (R95): Sets the timing loop, LMS, cursor, target and decoder weights. -/
  | lineRxCfgSet (src : Src) (lane bw trfrz mu ffefrz cursor alpha twt mth : Byte)
  /-- LINE_FFE_GET (R100): Returns the receive FFE taps, cursor and flags. -/
  | lineFfeGet (src : Src) (lane : Byte)
  /-- LINE_FFE_SET (R103): Writes receive FFE taps. -/
  | lineFfeSet (src : Src) (lane first count : Byte) (taps : List (BitVec 16))
  /-- LINE_DEC_HIST_GET (R118): Returns firmware's latest margin-histogram snapshot. -/
  | lineDecHistGet (src : Src) (lane : Byte)
  /-- TX_CTL_CMTREQ (R128): A write of 1 requests a shaping-set commit at the next transmit commit boundary. -/
  | txCtlCmtreq (acc : Accessor) (value : Word32)
  /-- TX_OBSCTL_START (R136): Starts a 4,096-sample observation slice on the selected input. -/
  | txObsctlStart (acc : Accessor) (value : Word32)
  /-- OBS_SLICE_DONE (R137): An observation slice completes or ends early. -/
  | obsSliceDone (samples : List Int)
  /-- DPD_PASS (R138): Every PERIOD the Whetstone runs a DPD identification pass and stages an update. -/
  | dpdPass (lane : Fin 8)
  /-- LINE_TX_GET (R128): Returns the transmit state, shaping set and DPD status. -/
  | lineTxGet (src : Src) (lane : Byte)
  /-- LINE_TX_SET (R132): Sets full scale, inversion, squelch and levels. -/
  | lineTxSet (src : Src) (lane fs inv sq v1 v3 : Byte)
  /-- LINE_TX_FFE_SET (R130): Stages transmit FFE taps and commits them whole. -/
  | lineTxFfeSet (src : Src) (lane main first count : Byte) (taps : List (BitVec 16))
  /-- LINE_TX_DPD_SET (R127): Sets the DPD controls and optionally loads its coefficients. -/
  | lineTxDpdSet (src : Src) (lane en iden linmem step period load : Byte) (h1 h3 : List (BitVec 16))
  /-- HOST_CDR_LOCK (R151): With CDRLOCK on every used host lane, the device locks the transmit rotator, sets the pads and sets ALIGNED. -/
  | hostCdrLock (lane : Fin 8) (phiEven phiOdd : Nat)
  /-- HOST_CDR_LOSS (R155): CDRLOCK clears during a data path; the rotator holds and LOSS sets. -/
  | hostCdrLoss (hlane : Fin 16)
  /-- HOST_CDR_RETURN (R155): CDRLOCK returns and the rotator is steered back to its locked phase. -/
  | hostCdrReturn (hlane : Fin 16)
  /-- HOST_SLIP (R156): A host lane's phase moves beyond ±8 UI; SLIP sets and the lane is realigned. -/
  | hostSlip (hlane : Fin 16)
  /-- HOST_REALIGN_DONE (R156): Realignment of a slipped host lane completes and its latency is restored. -/
  | hostRealignDone (hlane : Fin 16) (phi lat : Nat)
  /-- HOST_STAT_GET (R152): Returns a host lane's status, state, alignment and latency. -/
  | hostStatGet (src : Src) (hlane : Byte)
  /-- HOST_EQ_GET (R147): Returns a host lane's equalisation settings. -/
  | hostEqGet (src : Src) (hlane : Byte)
  /-- HOST_EQ_SET (R149): Sets host transmit FIR, amplitude and receive base values. -/
  | hostEqSet (src : Src) (hlane pre2 pre1 post1 amp ctle vga dfe1 adapt : Byte)
  /-- LN_CTL_RETRAIN (R175): A write of 1 requests a retrain, or a restart in an earlier step. -/
  | lnCtlRetrain (acc : Accessor) (value : Word32)
  /-- SIGDET_UPDATE (R171): Every 8,704 UI the lane's RMS is judged for SIGDET. -/
  | sigdetUpdate (lane : Fin 8) (rms : Nat)
  /-- SRCHTO_EXPIRY (R170): SRCHTO expires before frame 0, and the lane takes its outcome. -/
  | srchtoExpiry (lane : Fin 8)
  /-- TRNTO_EXPIRY (R170): TRNTO expires after frame 0; the outcome is TRAINTO and the lane restarts. -/
  | trntoExpiry (lane : Fin 8)
  /-- RETRAIN_DELAY_EXPIRY (R175): LOCK has stayed clear for RTDLY; with AUTORT set, the lane retrains. -/
  | retrainDelayExpiry (lane : Fin 8)
  /-- DATAPATH_ACTIVATED (R168): Once every lane is ACTIVE, firmware writes the latencies and reports the data path activated. -/
  | datapathActivated (first : Fin 8) (lats : List LatReport)
  /-- PTNR_PACKET_TX_START (R178): A booked Partner packet starts on the line. -/
  | ptnrPacketTxStart (lane : Fin 8)
  /-- PTNR_RETRY_TIMER (R185): Every 10 µs a refused ALARM, READY or CAP is presented again. -/
  | ptnrRetryTimer (lane : Fin 8)
  /-- EQHINT_TIMER (R182): Every 100 ms an EQHINT is presented to the calendar. -/
  | eqhintTimer (lane : Fin 8) (deltas : List (BitVec 8))
  /-- LVLHINT_TIMER (R182): Every 2 s an LVLHINT is presented. -/
  | lvlhintTimer (lane : Fin 8)
  /-- ALARM_TIMER (R182): Every 1 s while any alarm bit is set, an ALARM is presented. -/
  | alarmTimer (lane : Fin 8)
  /-- TELEM_TIMER (R183): Every 1 s a TELEM is presented on the lead lane. -/
  | telemTimer (first : Fin 8)
  /-- HINT_STEP_COMMIT (R184): Every 8,704 UI, up to 8 units per tap of a pending hint delta are staged and committed. -/
  | hintStepCommit (lane : Fin 8)
  /-- PREAMBLE_MATCH (R180): The preamble correlator matches and starts a reception, aborting any current one. -/
  | preambleMatch (lane : Fin 8)
  /-- PTNR_BAD_PACKET (R180): A reception fails HCRC, LEN or CRC and is discarded and counted. -/
  | ptnrBadPacket (lane : Fin 8)
  /-- PTNR_READY_RX (R167): A far-end READY is received and the lane enters ACTIVE once it is itself in READY. -/
  | ptnrReadyRx (lane : Fin 8)
  /-- PTNR_CAP_RX (R182): A far-end CAP is received and the feature negotiation completes. -/
  | ptnrCapRx (lane : Fin 8)
  /-- PTNR_EQHINT_RX (R184): A received EQHINT adds its deltas to the pending transmit FFE changes. -/
  | ptnrEqhintRx (lane : Fin 8)
  /-- PTNR_LVLHINT_RX (R184): A received LVLHINT moves V1STG by at most 1 LSB. -/
  | ptnrLvlhintRx (lane : Fin 8)
  /-- PTNR_ALARM_RX (R184): A received ALARM updates LN_FEALM on the matching lane. -/
  | ptnrAlarmRx (lane : Fin 8)
  /-- PTNR_TELEM_RX (R182): A received TELEM is delivered to firmware. -/
  | ptnrTelemRx (lane : Fin 8)
  /-- PTNR_TTSTAMP_RX (R346): A received TTSTAMP completes a link-delay exchange. -/
  | ptnrTtstampRx (lane : Fin 8)
  /-- PTNR_TTRPT_RX (R345): A received TTRPT from a slave is delivered to firmware. -/
  | ptnrTtrptRx (lane : Fin 8)
  /-- PTNR_HOST_RX (R181): A HOST packet enters the receive FIFO, or is dropped as RXOVF. -/
  | ptnrHostRx (lane : Fin 8)
  /-- PTNR_RESERVED_RX (R181): A valid packet of reserved type is dropped and counted as BADTYPE. -/
  | ptnrReservedRx (lane : Fin 8)
  /-- LINE_BRUP_GET (R161): Returns bring-up step, outcome, counters and far-end identity. -/
  | lineBrupGet (src : Src) (lane : Byte)
  /-- LINE_BRUP_CFG_SET (R170): Sets bring-up timeouts, margins and Partner controls. -/
  | lineBrupCfgSet (src : Src) (lane srchto : Byte) (trnto : BitVec 16) (rtdly actmarg autort urxinv lead ptflags pcth : Byte)
  /-- LINE_FALLBACK_SET (R172): Arms or disarms a group's U-mode fallback. -/
  | lineFallbackSet (src : Src) (lane fbmode pretx prerx : Byte)
  /-- LINE_RETRAIN (R175): Retrains the named lane and completes at its outcome. -/
  | lineRetrain (src : Src) (lane : Byte)
  /-- LINE_PTNR_SEND (R185): Presents a HOST packet to the lane's send calendar. -/
  | linePtnrSend (src : Src) (lane type : Byte) (len : BitVec 16) (payload : List Byte)
  /-- LINE_PTNR_RECV (R181): Reads payload bytes of the oldest receive-FIFO entry. -/
  | linePtnrRecv (src : Src) (lane flags : Byte) (offset max : BitVec 16)
  /-- LINE_PTNR_STAT_GET (R186): Returns the lane's Partner counters. -/
  | linePtnrStatGet (src : Src) (lane : Byte)
  /-- CMAC (R189): Adds a complex product to an accumulator. -/
  | cmac (ac : Fin 2) (x : XSrc) (y : YSrc) (ecc : List Ecc)
  /-- CMACJ (R189): Adds a complex product with the conjugate of y. -/
  | cmacj (ac : Fin 2) (x : XSrc) (y : YSrc) (ecc : List Ecc)
  /-- CMUL (R189): Replaces an accumulator with a complex product. -/
  | cmul (ac : Fin 2) (x : XSrc) (y : YSrc) (ecc : List Ecc)
  /-- MAC (R188): Real multiply-accumulate. -/
  | mac (half : Fin 4) (x : XSrc) (y : YSrc) (ecc : List Ecc)
  /-- MSU (R188): Real multiply-subtract. -/
  | msu (half : Fin 4) (x : XSrc) (y : YSrc) (ecc : List Ecc)
  /-- MPY (R188): Real multiply. -/
  | mpy (half : Fin 4) (x : XSrc) (y : YSrc) (ecc : List Ecc)
  /-- ADD (R188): Accumulator or integer add. -/
  | add (dst src : AluReg)
  /-- SUB (R188): Accumulator or integer subtract. -/
  | sub (dst src : AluReg)
  /-- NEG (R188): Accumulator or integer negate. -/
  | neg (dst : AluReg)
  /-- ABS (R188): Accumulator or integer absolute value. -/
  | abs (dst : AluReg)
  /-- SHL (R188): Shift left. -/
  | shl (dst : AluReg) (n : Count)
  /-- SHR (R188): Shift right. -/
  | shr (dst : AluReg) (n : Count) (logical : Bool)
  /-- RND (R190): Rounds an accumulator half to even. -/
  | rnd (half : Fin 4)
  /-- LD (R191): Loads from memory with post-modified addressing. -/
  | ld (wide : Bool) (a : Fin 8) (step : PostStep) (dst : WReg) (ecc : List Ecc)
  /-- ST (R190): Stores to memory with rounding, saturation and post-modify. -/
  | st (wide : Bool) (a : Fin 8) (step : PostStep) (src : WReg) (ecc : List Ecc)
  /-- MOV (R192): Moves between registers, including address registers. -/
  | mov (dst src : WReg)
  /-- REP (R193): Repeats the next instruction n times, uninterruptibly. -/
  | rep (n : Count)
  /-- JMP (R188): Jumps. -/
  | jmp (target : BitVec 16)
  /-- JSR (R188): Jumps to a subroutine. -/
  | jsr (target : BitVec 16)
  /-- RTS (R188): Returns from a subroutine. -/
  | rts
  /-- BCC (R188): Conditional branch. -/
  | bcc (cond : Cond) (target : BitVec 16)
  /-- RDREG (R196): Reads a device register after earlier posted writes complete. -/
  | rdreg (addr : Word32) (dst : Fin 8)
  /-- WRREG (R196): Posts a device register write into the 8-entry queue. -/
  | wrreg (addr : Word32) (src : Fin 8)
  /-- WRREG_COMPLETE (R196): A posted register write completes, in order. -/
  | wrregComplete
  /-- WAITEV (R197): The task waits for a named event and gives up the slot. -/
  | waitev (ev : WsWait)
  /-- WAITEV_WAKE (R197): The awaited event arrives and the task becomes ready. -/
  | waitevWake (ev : WsWake)
  /-- YIELD (R200): The task ends its work for the round. -/
  | yieldSlot
  /-- HALT (R205): The core stops as for a halt request. -/
  | halt
  /-- SLOT_START (R200): At each slot start the owner runs or the slot is lent; overruns and skips are judged. -/
  | slotStart (unfinished : Bool) (work : List TaskKind)
  /-- ROUND_START (R201): At each round start a pending round-table swap is applied or refused. -/
  | roundStart
  /-- WS_CTL_HALTREQ (R205): Requests a halt of the Whetstone. -/
  | wsCtlHaltreq (acc : Accessor) (value : Word32)
  /-- WS_HALTED (R205): The halt takes effect at the next instruction boundary and the loops freeze. -/
  | wsHalted
  /-- WS_CTL_RUN (R206): Resumes a halted core at WS_PC. -/
  | wsCtlRun (acc : Accessor) (value : Word32)
  /-- WS_CTL_RTSWAP (R201): Requests a round-table swap at the next round start. -/
  | wsCtlRtswap (acc : Accessor) (value : Word32)
  /-- WS_RESTART_TIMER (R208): 1 ms after a trap, firmware restarts the core, or leaves it trapped after a third trap. -/
  | wsRestartTimer
  /-- WS_RESTART_DONE (R206): A firmware restart of the Whetstone completes and the loops re-seed. -/
  | wsRestartDone
  /-- WS_MEMORY_WINDOW_ACCESS (R207): An access to a Whetstone memory window reaches memory only while the core is halted or trapped. -/
  | wsMemoryWindowAccess (acc : Accessor) (addr : Word32) (write : Option Word32)
  /-- SYS_WS_STAT_GET (R205): Returns the Whetstone state, load and counters. -/
  | sysWsStatGet (src : Src)
  /-- SYS_WS_CTL (R205): Halts, runs or restarts the Whetstone. -/
  | sysWsCtl (src : Src) (action : Byte)
  /-- LINE_CAL_GET (R202): Returns a lane's calibration state. -/
  | lineCalGet (src : Src) (lane : Byte)
  /-- LINE_CAL_SET (R202): Enables calibration and sets GAP. -/
  | lineCalSet (src : Src) (lane en : Byte) (gap : BitVec 16)
  /-- BIAS_TICK (R209): At each bias tick, outputs, NCO phases, strobes and triggers advance. -/
  | biasTick
  /-- OC_STRB_SW (R212): SW0 or SW1 requests a software strobe. -/
  | ocStrbSw (acc : Accessor) (value : Word32)
  /-- OC_BCTL_EN_WRITE (R214): Enabling or disabling a bias channel. -/
  | ocBctlEnWrite (acc : Accessor) (value : Word32)
  /-- OC_BCTL_RANGE_WRITE (R215): A range change forces zero output and starts 20 µs of settling. -/
  | ocBctlRangeWrite (acc : Accessor) (value : Word32)
  /-- RANGE_SETTLE_END (R215): Range settling ends, and the next strobe loads the channel. -/
  | rangeSettleEnd (ch : Fin 16)
  /-- BIAS_FAULT_DETECT (R217): A persisting compliance or open condition latches its flag and may shut the channel. -/
  | biasFaultDetect (ch : Fin 16) (openLoop : Bool) (phase : FaultPhase)
  /-- OC_NCOCTL_EARM (R222): Arms an NCO epoch capture. -/
  | ocNcoctlEarm (acc : Accessor) (value : Word32)
  /-- MADC_PASS_TRIGGER (R226): A software, timer, NCO or SYNC trigger starts a pass, or is refused. -/
  | madcPassTrigger (conv : Fin 2) (source : Fin 5)
  /-- COMMON_TRIGGER (R227): The common trigger starts aligned passes on both converters, or both refuse it. -/
  | commonTrigger
  /-- MADC_CONVERSION_DONE (R229): A conversion completes and writes a ring entry. -/
  | madcConversionDone (conv : Fin 2) (raw : Int)
  /-- OC_MAINJ_REQ (R228): Requests an injected conversion. -/
  | ocMainjReq (acc : Accessor) (value : Word32)
  /-- OC_MACTL_CALREQ (R231): Requests converter self-calibration. -/
  | ocMactlCalreq (acc : Accessor) (value : Word32)
  /-- MADC_CAL_DONE (R231): Self-calibration ends, writes GC and OFF and sets CALDONE. -/
  | madcCalDone (conv : Fin 2) (factors : List (Nat × Nat))
  /-- OC_OSPITX_WRITE (R233): Enqueues an OSPI frame, or drops it when the queue is full. -/
  | ocOspitxWrite (acc : Accessor) (value : Word32)
  /-- OSPI_FRAME_DONE (R233): An OSPI frame completes and its result enters the accessor's FIFO. -/
  | ospiFrameDone (bus : Fin 2) (data : BitVec 16)
  /-- OC_OSPIRX_READ (R233): Reading pops the accessor's oldest result. -/
  | ocOspirxRead (acc : Accessor)
  /-- OPT_BIAS_GET (R211): Returns a bias channel's settings and status. -/
  | optBiasGet (src : Src) (ch : Byte)
  /-- OPT_BIAS_SET (R211): Sets a bias channel and optionally strobes it. -/
  | optBiasSet (src : Src) (ch en range nco : Byte) (code damp : BitVec 16) (sd strobe : Byte)
  /-- OPT_NCO_SET (R221): Sets an NCO and optionally arms its epoch. -/
  | optNcoSet (src : Src) (nco en tb : Byte) (fw phoff esec : Word32)
  /-- OPT_MADC_READ (R228): Performs one injected conversion and scales it. -/
  | optMadcRead (src : Src) (conv chan stime gain : Byte)
  /-- OPT_MADC_CAL (R231): Self-calibrates one or both converters. -/
  | optMadcCal (src : Src) (conv : Byte)
  /-- OPT_LOOP_GET (R236): Returns a lane's loop state. -/
  | optLoopGet (src : Src) (lane : Byte)
  /-- OPT_LOOP_SET (R237): Configures and starts or stops a lane's loop. -/
  | optLoopSet (src : Src) (lane en auto mode lch lmon mch mmon nco ramp nint bstep : Byte) (setpt ilim kp ki kb mcode : BitVec 16)
  /-- OPT_OSPI_XFER (R233): Queues OSPI frames and returns their results. -/
  | optOspiXfer (src : Src) (bus count : Byte) (frames : List Word32)
  /-- SYNC_IN_EDGE (R255): A SYNC_IN rising edge is time-stamped and acts on the generator and optics. -/
  | syncInEdge (phase : Fin 64)
  /-- PG_CTL_START (R247): Starts the stream, or arms it when SYNCARM is set. -/
  | pgCtlStart (acc : Accessor) (value : Word32)
  /-- PG_CTL_STOP (R247): Stops the stream at the end of the current play. -/
  | pgCtlStop (acc : Accessor) (value : Word32)
  /-- PG_PLAY_END (R246): A play ends; the next play, visit, jump, stall or stop follows. -/
  | pgPlayEnd
  /-- PG_GRANULE_START (R248): At a granule start, a posted jump request is sampled. -/
  | pgGranuleStart (ecc : Ecc) (word : Fin 16)
  /-- PG_JMP_REQ (R248): Posts a jump to TARGET. -/
  | pgJmpReq (acc : Accessor) (value : Word32)
  /-- PG_SEGSTRM_RDY (R250): Marks a streaming half ready. -/
  | pgSegstrmRdy (acc : Accessor) (value : Word32)
  /-- MARKER_PULSE (R252): A marker pulses at its offset symbol. -/
  | markerPulse (m : Fin 4)
  /-- MARKER_PULSE_END (R252): A marker pulse's WIDTH × 64 UI expires. -/
  | markerPulseEnd (m : Fin 4)
  /-- PG_SYNCCTL_CAL (R257): Starts sync calibration on a master. -/
  | pgSyncctlCal (acc : Accessor) (value : Word32)
  /-- SYNC_CAL_EDGE (R257): Each of the 16 calibration edges is emitted and measured; the last one sets LAUNCH and CALDONE. -/
  | syncCalEdge (rt : BitVec 16)
  /-- PAT_SEG_SET (R244): Sets a segment. -/
  | patSegSet (src : Src) (seg type stream : Byte) (start len : BitVec 16)
  /-- PAT_SEQ_SET (R246): Sets a sequence entry. -/
  | patSeqSet (src : Src) (entry seg next flags : Byte) (loop : Word32)
  /-- PAT_RAM_WRITE (R243): Writes pattern RAM granules and optionally sets RDY. -/
  | patRamWrite (src : Src) (granule : BitVec 16) (count ready : Byte) (data : List Byte)
  /-- PAT_RUN (R247): Starts, stops or jumps the stream. -/
  | patRun (src : Src) (action entry sync : Byte)
  /-- PAT_MK_SET (R252): Configures a marker. -/
  | patMkSet (src : Src) (marker en ref width : Byte) (ofs : Word32) (adj : BitVec 16)
  /-- PAT_SYNC_CAL (R257): Sets the sync role and runs calibration on a master. -/
  | patSyncCal (src : Src) (role delay : Byte)
  /-- PAT_STAT_GET (R251): Returns generator status. -/
  | patStatGet (src : Src)
  /-- STATUS (R262): The SPI STATUS instruction returns the status byte and clears REQDROP. -/
  | status
  /-- KCI_WRITE (R273): An SPI request frame is checked and admitted or answered. -/
  | kciWrite (frame : List Byte)
  /-- KCI_READ (R264): Returns and removes the oldest response frame. -/
  | kciRead (whole : Bool)
  /-- REG_READ (R283): SPI read of consecutive registers through the expert window. -/
  | regRead (addr : Word32) (count : Nat)
  /-- REG_WRITE (R283): SPI write of consecutive registers through the expert window. -/
  | regWrite (addr : Word32) (values : List Word32)
  /-- EXPORT_READ (R320): Returns the next Stockpot export chunk. -/
  | exportRead (whole : Bool)
  /-- LEG_WRITE (R292): Queues a legacy-window write. -/
  | legWrite (addr data : BitVec 16)
  /-- LEG_READ (R293): Returns a legacy register from firmware's cache. -/
  | legRead (addr : BitVec 16)
  /-- LEGACY_WRITE_APPLY (R292): A queued legacy write is translated and takes effect. -/
  | legacyWriteApply
  /-- LEGACY_CACHE_REFRESH (R293): Every 1 ms firmware refreshes the legacy read cache. -/
  | legacyCacheRefresh
  /-- REGISTER_WRITE (R12): A write to a register that has no row of its own, applied by access type, channel select and broadcast. -/
  | registerWrite (acc : Accessor) (addr value : Word32)
  /-- SETDASA (R259): An I3C dynamic address is assigned. -/
  | setdasa (addr : BitVec 7)
  /-- MODSEL_L_RISE (R260): MODSEL_L rises and any two-wire transaction is abandoned. -/
  | modselLRise
  /-- LPMODE_CHANGE (R261): LPMODE changes the effective low-power request. -/
  | lpmodeChange (level : Bool)
  /-- TWO_WIRE_STOP (R367): A STOP condition at which a pending endpoint swap takes place. -/
  | twoWireStop (xfer : TwoWire)
  /-- CMIS_APPSEL_WRITE (R266): An AppSel write selects an application mode for a data path. -/
  | cmisAppselWrite (first : Fin 8) (appSel : BitVec 4) (size lrm outputs pretx prerx : Byte)
  /-- CMIS_OUTPUT_DISABLE_WRITE (R237): OutputDisableTx turns a lane's loop off, and clearing it restarts RAMP. -/
  | cmisOutputDisableWrite (hlane : Fin 16) (disable : Bool)
  /-- CMIS_LOWPWR_SW_WRITE (R395): A LowPwrRequestSW write changes the effective low-power request. -/
  | cmisLowpwrSwWrite (request allowHW : Bool)
  /-- CMIS_EQ_CODE_WRITE (R146): Host equalisation or adaptation codes are written through CMIS. -/
  | cmisEqCodeWrite (hlane : Fin 16) (eq : EqWrite)
  /-- CMIS_STATUS_REFRESH (R267): Every 1 ms firmware refreshes pages 00h, 11h and 14h. -/
  | cmisStatusRefresh
  /-- SYS_ID_GET (R6): Returns part, stepping, grade, serial, life cycle and boot state. -/
  | sysIdGet (src : Src)
  /-- SYS_RESET (R280): Posts its response and schedules a soft reset. -/
  | sysReset (src : Src)
  /-- SOFT_RESET_START (R280): The soft reset begins once the response is read, or after 1 s. -/
  | softResetStart
  /-- WATCHDOG_RESET (R279): A watchdog soft reset ends accepted commands with FAULT. -/
  | watchdogReset
  /-- SYS_LEGACY_SET (R291): Enables or disables the legacy window. -/
  | sysLegacySet (src : Src) (en : Byte)
  /-- SYS_LEGACY_COV_GET (R293): Returns the coverage class of a legacy address. -/
  | sysLegacyCovGet (src : Src) (addr : BitVec 16)
  /-- SYS_APPLET_LOAD (R294): Writes an applet image block and verifies it on the last block. -/
  | sysAppletLoad (src : Src) (slot last : Byte) (size : BitVec 16) (offset : Word32) (data : List Byte)
  /-- SYS_APPLET_CTL (R296): Starts, stops or deletes an applet. -/
  | sysAppletCtl (src : Src) (slot action : Byte)
  /-- SYS_APPLET_LIST (R294): Lists the applet slots. -/
  | sysAppletList (src : Src)
  /-- APPLET_FAULT (R296): An applet that violates confinement or runs too long is stopped. -/
  | appletFault (slot : Fin 4)
  /-- APPLET_RESTART (R296): 1 s after a stop, firmware restarts the applet unless it has been stopped three times. -/
  | appletRestart (slot : Fin 4)
  /-- APPLET_PREEMPT (R294): An applet that has used 2 ms in a 20 ms window is preempted. -/
  | appletPreempt (slot : Fin 4)
  /-- EXP_UNLOCK (R281): Unlocks expert access with the token. -/
  | expUnlock (src : Src) (token : BitVec 64)
  /-- EXP_LOCK (R281): Ends expert access. -/
  | expLock (src : Src)
  /-- EXPERT_ACCESS_TIMEOUT (R281): 30 minutes without expert activity end the unlock. -/
  | expertAccessTimeout
  /-- UNLOCK_LOCKOUT_END (R282): The 60 s wrong-token lockout ends. -/
  | unlockLockoutEnd
  /-- EXP_REG_RD (R284): Reads registers through the expert mailbox. -/
  | expRegRd (src : Src) (addr : Word32) (count : Byte)
  /-- EXP_REG_WR (R288): Writes a register under a mask through the expert mailbox. -/
  | expRegWr (src : Src) (addr mask value : Word32)
  /-- EXP_PIN (R290): Pins, releases or releases all pinned fields. -/
  | expPin (src : Src) (action unit : Byte) (index : BitVec 16) (addr mask value : Word32)
  /-- EXP_PIN_LIST (R290): Lists pin entries. -/
  | expPinList (src : Src) (first : Byte)
  /-- QUERY_STATUS (R269): CDB Query Status. -/
  | queryStatus (inst : Fin 2)
  /-- MODULE_FEATURES (R269): CDB Module Features. -/
  | moduleFeatures (inst : Fin 2)
  /-- FIRMWARE_MANAGEMENT_FEATURES (R269): CDB Firmware Management Features. -/
  | firmwareManagementFeatures (inst : Fin 2)
  /-- GET_FIRMWARE_INFO (R269): CDB Get Firmware Info. -/
  | getFirmwareInfo (inst : Fin 2)
  /-- START_FIRMWARE_DOWNLOAD (R378): Opens the slot that is neither SLOT nor TRIAL. -/
  | startFirmwareDownload (inst : Fin 2)
  /-- WRITE_FIRMWARE_BLOCK_LPL (R378): Writes and hashes a firmware body block. -/
  | writeFirmwareBlockLpl (inst : Fin 2) (addr : Word32) (data : List Byte)
  /-- COMPLETE_FIRMWARE_DOWNLOAD (R378): Verifies the downloaded image and marks the slot verified. -/
  | completeFirmwareDownload (inst : Fin 2)
  /-- ABORT_FIRMWARE_DOWNLOAD (R378): Leaves the slot unverified. -/
  | abortFirmwareDownload (inst : Fin 2)
  /-- RUN_FIRMWARE_IMAGE (R378): Arms a trial boot and performs a soft reset. -/
  | runFirmwareImage (inst : Fin 2)
  /-- COMMIT_FIRMWARE_IMAGE (R378): Commits the trial slot and raises the rollback floor in one update. -/
  | commitFirmwareImage (inst : Fin 2)
  /-- RESET_L_HOLD (R418): RESET_L held low for 1 µs resets the device. -/
  | resetLHold
  /-- RESET_L_RISE (R297): RESET_L rises and the start-up timeline begins. -/
  | resetLRise (legacy : Bool) (twinId : Fin 3)
  /-- AON_READY (R309): AON is up and the vote words are loaded from the best copy. -/
  | aonReady
  /-- BOOT_ROM_START (R377): The boot ROM runs, selects the boot slot and verifies the image. -/
  | bootRomStart
  /-- SRAM_INIT_DONE (R300): Memory initialisation completes. -/
  | sramInitDone
  /-- FIRMWARE_START (R297): Verified firmware runs, ModuleLowPwr is reported and firmware starts its services. -/
  | firmwareStart
  /-- VOTE_REVOTE (R308): Every 1 ms the three vote copies are compared and repaired. -/
  | voteRevote
  /-- MI_VWR_GO (R308): Writes MI_VWDATA to all three copies of a vote word. -/
  | miVwrGo (acc : Accessor) (user : Bool) (value : Word32)
  /-- VOTE_PAGE_PROGRAMMED (R310): A vote page program completes; it is verified and the next copy or the flops follow. -/
  | votePageProgrammed (ok : Bool)
  /-- SCRUB_READ (R305): The scrubber reads the next protected word and corrects or logs it. -/
  | scrubRead (mem : MemId) (result : ScrubResult)
  /-- REFRESH_WALKER (R314): A block that is due is rewritten to a fresh block. -/
  | refreshWalker (block : Nat) (read : FlashRead) (fails : Bool)
  /-- RECORD_FLUSH (R316): Buffered records are programmed to flash. -/
  | recordFlush (block : Nat) (fails : Bool)
  /-- LOG_MOUNT (R317): LOG mount completes and held records are written. -/
  | logMount
  /-- EVENT_SUMMARY (R318): At the end of a second with counted events, summary records are written. -/
  | eventSummary
  /-- TALLY_RECORD (R331): Every 10 s a TALLY record is written from the cache. -/
  | tallyRecord
  /-- CONF_COPY_HOURLY (R84): Once per hour firmware copies committed trims and shaping sets to CONF. -/
  | confCopyHourly
  /-- POT_STAT_GET (R312): Returns Stockpot status. -/
  | potStatGet (src : Src)
  /-- POT_QUERY (R315): Searches records. -/
  | potQuery (src : Src) (tmask : Byte) (rsrc : BitVec 16) (start : BitVec 64) (tfirst tlast : BitVec 48)
  /-- POT_READ (R315): Reads bytes of a record. -/
  | potRead (src : Src) (seq : BitVec 64) (offset count : BitVec 16)
  /-- POT_SNAP (R326): Takes a tap-buffer or Colander snapshot into a SNAP record. -/
  | potSnap (src : Src) (kind ch mode : Byte)
  /-- POT_CONF_WRITE (R319): Appends a CONF record version. -/
  | potConfWrite (src : Src) (key len : BitVec 16) (data : List Byte)
  /-- POT_CONF_READ (R319): Reads the current CONF record. -/
  | potConfRead (src : Src) (key offset count : BitVec 16)
  /-- POT_EXPORT (R320): Opens or closes an export session. -/
  | potExport (src : Src) (action mode : Byte) (first : BitVec 64)
  /-- TELEMETRY_REFRESH (R321): Every 1 ms the lane and host-lane telemetry cache is refreshed. -/
  | telemetryRefresh
  /-- COLANDER_CODEWORD (R324): Each codeword updates the marker lock and one live bin and writes the ring. -/
  | colanderCodeword (hlane : Fin 16) (marker : Option Bool) (codeword : List (BitVec 10))
  /-- TM_CLCTL_SNAP (R325): Requests a Colander snapshot. -/
  | tmClctlSnap (acc : Accessor) (value : Word32)
  /-- TL_CNTLO_READ (R329): Returns a counter's low half and latches its high half. -/
  | tlCntloRead (acc : Accessor) (c : Fin 32) (user : Bool)
  /-- TL_CNTHI_WRITE (R329): Stages a counter's high half in the accessor's latch. -/
  | tlCnthiWrite (acc : Accessor) (c : Fin 32) (user : Bool) (value : Word32)
  /-- TL_CNTLO_WRITE (R329): Loads both halves of a counter in one clock. -/
  | tlCntloWrite (acc : Accessor) (c : Fin 32) (user : Bool) (value : Word32)
  /-- TEL_LANE_GET (R321): Returns a lane's cached telemetry. -/
  | telLaneGet (src : Src) (lane what : Byte)
  /-- TEL_COL_GET (R325): Returns Colander totals. -/
  | telColGet (src : Src) (hlane part : Byte)
  /-- TEL_TALLY_SET (R327): Configures a Tally counter. -/
  | telTallySet (src : Src) (cnt uen load : Byte) (cfg base limit : Word32)
  /-- TEL_TALLY_GET (R330): Returns counter snapshots. -/
  | telTallyGet (src : Src) (first count : Byte)
  /-- TU_TNS_READ (R334): Returns NS and latches SEC and FRAC. -/
  | tuTnsRead (acc : Accessor) (tb : Fin 4)
  /-- TU_RATEHI_WRITE (R334): Stages the high half of RATE. -/
  | tuRatehiWrite (acc : Accessor) (tb : Fin 4) (value : Word32)
  /-- TU_RATELO_WRITE (R334): Loads both halves of RATE in one tick. -/
  | tuRateloWrite (acc : Accessor) (tb : Fin 4) (value : Word32)
  /-- TU_OFFSET_WRITE (R337): Submits a host offset. -/
  | tuOffsetWrite (acc : Accessor) (tb : Fin 4) (value : Word32)
  /-- SERVO_OFFSET_APPLY (R338): An accepted offset updates the integrator and RATE at the next tick. -/
  | servoOffsetApply (tb : Fin 4)
  /-- TB_STEP_APPLY (R336): An accepted set or step takes effect at one tick. -/
  | tbStepApply (tb : Fin 4)
  /-- PPS_IN_EDGE (R341): A PPS_IN edge is stamped and yields offsets. -/
  | ppsInEdge (falling : Bool)
  /-- PPS_OUT_PULSE (R342): A PPS output pulses at a new second. -/
  | ppsOutPulse (n : Fin 2)
  /-- PPS_WIDTH_EXPIRY (R342): A PPS output pulse's WIDTH ends. -/
  | ppsWidthExpiry (n : Fin 2)
  /-- TU_FIFOHDR_READ (R343): Removes the oldest FIFO entry and latches its timestamp. -/
  | tuFifohdrRead (acc : Accessor)
  /-- TU_FIFOCTL_SWSTAMP (R343): Records a software stamp. -/
  | tuFifoctlSwstamp (acc : Accessor) (value : Word32)
  /-- FIFO_DRAIN (R343): Firmware drains a FIFO entry within 5 µs. -/
  | fifoDrain
  /-- TTSTAMP_SEND (R345): Every PER marked cycles firmware presents a TTSTAMP. -/
  | ttstampSend (lane : Fin 8)
  /-- TIME_TB_GET (R332): Returns a time base's state. -/
  | timeTbGet (src : Src) (tb : Byte)
  /-- TIME_TB_CFG (R337): Configures the servo source and gains. -/
  | timeTbCfg (src : Src) (tb source lane : Byte) (kp ki : BitVec 16) (stepmax : Word32)
  /-- TIME_TB_STEP (R336): Sets or steps a time base. -/
  | timeTbStep (src : Src) (tb action : Byte) (sec : BitVec 48) (ns : Word32) (frac : BitVec 16) (delta : BitVec 64)
  /-- TIME_OFFSET (R338): Submits an offset and returns the result. -/
  | timeOffset (src : Src) (tb : Byte) (offset : Word32)
  /-- TIME_PPS_SET (R341): Configures a PPS pin. -/
  | timePpsSet (src : Src) (pin en tb pol width : Byte) (comp : BitVec 16)
  /-- TIME_LINK_GET (R346): Returns link-delay results. -/
  | timeLinkGet (src : Src) (lane : Byte)
  /-- TIME_LINK_SET (R344): Configures time transfer on a lane. -/
  | timeLinkSet (src : Src) (lane en role calmode per tb : Byte) (txcomp rxcomp : BitVec 16) (asym : Word32)
  /-- TIME_STAMP_READ (R343): Returns stamp entries. -/
  | timeStampRead (src : Src) (max : Byte)
  /-- XC_LANE_LOCK (R350): A Crosscut receive lane gains or loses lock. -/
  | xcLaneLock (xlane : Fin 2) (locked : Bool)
  /-- TRAIN_CELL (R352): A received TRAIN cell drives readiness and the rate steps. -/
  | trainCell (maxrate : Fin 4) (ready : Bool)
  /-- TRAIN_STEP_TIMEOUT (R352): A rate step that has not relocked in 1 ms falls back. -/
  | trainStepTimeout
  /-- ATTACH_CELL (R355): The attach handshake checks compatibility and sets the roles. -/
  | attachCell (seq : Byte) (far : AttachInfo)
  /-- HEARTBEAT_CELL (R360): A received HEARTBEAT is accepted. -/
  | heartbeatCell (seq : Byte) (role : Fin 3) (lowpwr alive : Bool)
  /-- HEARTBEAT_SEND (R360): Every 1 µs while ALIVE, hardware sends a HEARTBEAT. -/
  | heartbeatSend
  /-- XC_HB_KICK (R360): Refreshes ALIVE. -/
  | xcHbKick (acc : Accessor) (value : Word32)
  /-- ALIVE_EXPIRY (R360): ALIVE clears 16 µs after the last kick. -/
  | aliveExpiry
  /-- HBLOSS (R360): 20 µs without an accepted HEARTBEAT on a live link declares heartbeat loss. -/
  | hbloss
  /-- TAKEOVER_CELL (R364): A received TAKEOVER sets DEPOSED and LOOPSOUT. -/
  | takeoverCell (seq : Byte)
  /-- FAULT_DETECT (R361): A fault source sends a FAULT cell and drives TWIN_FLT. -/
  | faultDetect (source : Fin 4)
  /-- FAULT_CELL (R361): A received FAULT triggers the configured actions. -/
  | faultCell (seq : Byte) (cause : BitVec 4)
  /-- TWIN_FLT_FALL (R361): A TWIN_FLT falling edge triggers the configured actions. -/
  | twinFltFall
  /-- DETACH_CELL (R362): A received DETACH makes the device solo and start retraining. -/
  | detachCell (seq : Byte)
  /-- XC_CTL_DETACH (R362): Requests a commanded detach. -/
  | xcCtlDetach (acc : Accessor) (value : Word32)
  /-- LINK_LOSS (R362): 10 µs without a valid block forces a detach. -/
  | linkLoss
  /-- SWAP_CELL (R367): A received SWAP prepares the endpoint switch. -/
  | swapCell (seq : Byte)
  /-- RREQ_CELL (R365): A complete RREQ message is executed and answered by an RRSP. -/
  | rreqCell (seq : Byte) (body : List Byte)
  /-- RREQ_TIMEOUT (R365): An RREQ whose cells do not all arrive within 1 µs is discarded. -/
  | rreqTimeout
  /-- RRSP_CELL (R365): A received RRSP delivers the remote register results. -/
  | rrspCell (seq : Byte) (body : List Byte)
  /-- LOOP_HANDOVER_CELL (R366): TAKE or BACK moves loops between the devices. -/
  | loopHandoverCell (seq : Byte) (kind : Handover) (mask : Byte)
  /-- MIRROR_CELL (R358): A received MIRROR fragment updates the management image. -/
  | mirrorCell (seq : Byte) (offset : Nat) (data : List Byte) (first last : Bool)
  /-- MIRROR_REFRESH (R358): Every 1 s the endpoint sends a full MIRROR refresh. -/
  | mirrorRefresh
  /-- MAILBOX_RELAY_CELL (R357): A received firmware relay message: relayed commands, images or certificates. -/
  | mailboxRelayCell (seq : Byte) (msg : RelayMsg)
  /-- SLEEP_CELL (R353): The far direction goes to sleep. -/
  | sleepCell (seq : Byte)
  /-- SLEEP_WAKE_TIMER (R353): Every 1 ms a sleeping direction wakes to send commas and a HEARTBEAT. -/
  | sleepWakeTimer
  /-- SLEEP_HEARTBEAT_TIMEOUT (R353): No HEARTBEAT within 2 ms on a sleeping direction counts as lost. -/
  | sleepHeartbeatTimeout
  /-- RESERVED_CELL (R351): A cell of reserved TYPE is discarded and counted. -/
  | reservedCell (xlane : Fin 2) (type : Byte)
  /-- TWIN_STAT_GET (R359): Returns twin status. -/
  | twinStatGet (src : Src)
  /-- TWIN_CFG_SET (R361): Configures the twin link and fault path. -/
  | twinCfgSet (src : Src) (atten maxrate strict sleepen fltsrc fltact pinen : Byte)
  /-- TWIN_ATTACH (R355): Trains the link and runs the attach handshake. -/
  | twinAttach (src : Src)
  /-- TWIN_DETACH (R362): Makes a commanded detach. -/
  | twinDetach (src : Src)
  /-- TWIN_SWAP (R367): Swaps the management endpoint. -/
  | twinSwap (src : Src)
  /-- TWIN_RELAY (R357): Relays a KCI frame to the twin. -/
  | twinRelay (src : Src) (frame : List Byte)
  /-- TWIN_UPGRADE (R368): Copies the image to the twin, restarts FOLLOW, or commits both. -/
  | twinUpgrade (src : Src) (action : Byte)
  /-- TWIN_FAULT_SEND (R361): Raises fault source 3. -/
  | twinFaultSend (src : Src)
  /-- SEC_STAT_GET (R383): Returns security status. -/
  | secStatGet (src : Src)
  /-- SEC_ATTEST (R384): Signs an attestation report with the next leaf. -/
  | secAttest (src : Src) (nonce : BitVec 256)
  /-- SEC_ATTEST_READ (R381): Reads the signed object. -/
  | secAttestRead (src : Src) (offset count : BitVec 16)
  /-- SEC_CERT_READ (R382): Reads the device certificate. -/
  | secCertRead (src : Src) (offset count : BitVec 16)
  /-- SEC_CHALLENGE (R382): Returns the RMA challenge. -/
  | secChallenge (src : Src)
  /-- SEC_LC_ADVANCE (R372): Advances the life-cycle state. -/
  | secLcAdvance (src : Src) (target : Byte)
  /-- SEC_KEYGEN (R373): Starts device key generation. -/
  | secKeygen (src : Src)
  /-- KEYGEN_DONE (R373): Key generation ends with KEYOK or KEYERR. -/
  | keygenDone (ok : Bool)
  /-- SEC_ROOT_SET (R379): Fuses the module-maker root. -/
  | secRootSet (src : Src) (root : BitVec 256)
  /-- SEC_TICKET_LOAD (R382): Loads a certificate or RMA ticket block. -/
  | secTicketLoad (src : Src) (kind last : Byte) (size : BitVec 16) (offset : Word32) (data : List Byte)
  /-- TOKEN_DUE (R383): An attestation token falls due 480 s of TB3 after the last. -/
  | tokenDue
  /-- PW_DREQ_WRITE (R388): Requests domains on or off. -/
  | pwDreqWrite (acc : Accessor) (i : Fin 3) (value : Word32)
  /-- DOMAIN_WAKE_DONE (R388): A domain completes its wake and shows in PW_DON. -/
  | domainWakeDone (domain : Fin 80)
  /-- DOMAIN_DOWN_DONE (R388): A domain completes its power-down. -/
  | domainDownDone (domain : Fin 80)
  /-- LOWPWR_REQUEST_CHANGE (R395): The effective low-power request changes and a power-up or power-down starts. -/
  | lowpwrRequestChange
  /-- MODULE_READY_ENTRY (R395): The Whetstone is restarted, loops are loaded and ModuleReady is entered. -/
  | moduleReadyEntry
  /-- AVS_SET (R403): 2 ms after AVS_PWM is driven, AVSSET sets. -/
  | avsSet
  /-- CORE_CLOCK_LOWER (R392): 1 ms after the last need, the core clock returns to 312.5 MHz. -/
  | coreClockLower
  /-- REFCLK_LOSS (R393): No REFCLK edge for 2 µs; the PLLs hold and the bias tick switches to AON. -/
  | refclkLoss
  /-- REFCLK_RETURN (R393): REFCLK returns and the PLLs relock. -/
  | refclkReturn
  /-- THERMAL_TRIP (R404): A sensor trips at 125 °C; bias is cut and the device goes to LOWPWR with ModuleFault. -/
  | thermalTrip (sensor : Fin 4)
  /-- SUPPLY_UNDERVOLTAGE (R422): A rail below its limit for 1 µs resets the device. -/
  | supplyUndervoltage
  /-- OFF_AON_ENTRY (R399): Entry to OFF-AON begins: detach, flush, lock, arm the timer, power down. -/
  | offAonEntry
  /-- OFF_AON_WAKE (R400): A latched wake source wakes MGMT. -/
  | offAonWake (sources : BitVec 4) (seconds : Nat)
  /-- WAKE_TIMER_EXPIRY (R401): PW_WAKETMR reaches 0 and wakes the device for a flash refresh. -/
  | wakeTimerExpiry
  /-- SYS_PWR_GET (R395): Returns power status. -/
  | sysPwrGet (src : Src)
  /-- SYS_PWR_SET (R399): Sets the low-power request or enters OFF-AON. -/
  | sysPwrSet (src : Src) (target wakeen : Byte) (waketmr : Word32)
  /-- BIST_RUN (R411): Starts a self-test run. -/
  | bistRun (src : Src) (set lanes : Byte) (tests : BitVec 16) (flags : Byte)
  /-- BIST_STEP (R408): A test step boundary; the next step runs or the run ends. -/
  | bistStep (meas : List StepMeas)
  /-- BIST_STAT_GET (R414): Returns run status. -/
  | bistStatGet (src : Src)
  /-- BIST_RESULT_GET (R414): Returns result entries. -/
  | bistResultGet (src : Src) (first : Byte)
  /-- BIST_ABORT (R413): Ends the run at a step boundary. -/
  | bistAbort (src : Src)
  /-- JTAG_EXTEST (R428): The EXTEST instruction makes the single-ended pins follow the boundary register. -/
  | jtagExtest (drive : BitVec 25)
  /-- JTAG_BYPASS (R428): The BYPASS instruction. -/
  | jtagBypass (tdi : Bool)
  /-- JTAG_IDCODE (R428): The IDCODE instruction returns 0xB340_072B. -/
  | jtagIdcode
  /-- JTAG_SAMPLE_PRELOAD (R428): The SAMPLE/PRELOAD instruction. -/
  | jtagSamplePreload (pins preload : BitVec 25)
  /-- RX_DATAPATH_CLOCK (R102): Once per receive datapath clock the FFE taps adapt by LMS, timing recovery updates its phase, and in U modes the MLSE decides a block. -/
  | rxDatapathClock (lane : Fin 8) (samples : List RxSample)
  /-- CDB_COMMAND_ID_WRITE (R270): A host write of a CDB command ID is checked for CdbChkCode, length, support and a busy instance, then dispatched or failed. -/
  | cdbCommandIdWrite (inst : Fin 2) (cmd : BitVec 16) (lpl : List Byte) (chk : Byte)
  /-- MODSEL_L_FALL (R260): MODSEL_L falls and the device begins to acknowledge two-wire transactions. -/
  | modselLFall
  /-- LOSS_OF_SUPPLIES (R421): The supplies fall without RESET_L falling first, losing unprogrammed records and leaving any vote-word update torn. -/
  | lossOfSupplies
  deriving DecidableEq, Repr

end Sys2Proof
end

