-- ==== Sys2Proof/Decode.lean ====
section
/-! DEFINITION. The command a table word spells, and the command an SPI transaction spells. The table's rows give no bits: commands come
with their operands, not as words (log entry 2). -/

namespace Sys2Proof

/-- No row of spec/opcode_table.json gives bits, so no word spells a command. -/
def decodeTableWord (_nbits _w : Nat) : Option Instr := none

/-- The 32-bit words of a byte string, most significant byte first; a word cut short is none. -/
def spiWords (l : List Byte) : List Word32 :=
  (List.range (l.length / 4)).map fun i => BitVec.ofNat 32 (Machine.fieldAt l (4 * i) 4)

/-- The command that an SPI transaction spells (Table 11-2): its instruction byte, the bytes the host sends after it, the number of
registers a REG.READ clocks out, and whether the device's answer was clocked out whole. None of the table's codes: ignored (R262). -/
def spiCommand (code : Byte) (data : List Byte) (count : Nat) (whole : Bool) : Option Instr :=
  if code = 0x05 then some .status
  else if code = 0x10 then some (.kciWrite data)
  else if code = 0x11 then some (.kciRead whole)
  else if code = 0x12 then some (.regRead (BitVec.ofNat 32 (Machine.fieldAt data 0 4)) count)
  else if code = 0x13 then some (.regWrite (BitVec.ofNat 32 (Machine.fieldAt data 0 4)) (spiWords (data.drop 4)))
  else if code = 0x14 then some (.exportRead whole)
  else if code = 0x60 then some (.legWrite (BitVec.ofNat 16 (Machine.fieldAt data 0 2)) (BitVec.ofNat 16 (Machine.fieldAt data 2 2)))
  else if code = 0x61 then some (.legRead (BitVec.ofNat 16 (Machine.fieldAt data 0 2)))
  else none

end Sys2Proof
end

