-- ==== Sys2Proof/Config.lean ====
section
/-! DEFINITION. What one part or one board fixes (fuses, straps, delivered images) and the values the spec leaves open.
Every constant here is opaque: no proof can see a value of it, so a claim holds whatever the value is. -/

namespace Sys2Proof.Config

/-- A free value: the `n`-th value the spec leaves open (log entry 3). Applied to the counter `Dev.free`, which every use
advances. -/
opaque freeValue : Nat → Nat

/-- The serial number fused into the part (GLB_SERLO, GLB_SERHI; R6). -/
opaque serial : Nat
/-- The fused temperature grade, 0 C or 1 E (GLB_ID.GRADE; R6). -/
opaque grade : Nat
/-- The fused AVS target (PW_AVS.TARGET; R403). -/
opaque avsTarget : Nat
/-- The life-cycle fuses as delivered, coded as SYS.ID.GET codes them (R371). -/
opaque lifeCycle : Nat
/-- Whether a device key is in the key store as delivered (SEC_LC.KEYOK). -/
opaque keyPresent : Bool
/-- SK_SEED and SK_PRF in the key store as delivered (R369). -/
opaque keyMaterial : List Byte
/-- The device public key with PUB_SEED in the key store as delivered (R369). -/
opaque keyPublic : List Byte
/-- The tree nodes of level 10 in the key store as delivered (R369). -/
opaque keyNodes : List Byte
/-- The device certificate in the key store as delivered; empty when none (SEC_LC.CERTOK). -/
opaque certificate : List Byte
/-- The module-maker root as delivered; empty when not yet fused (SEC_LC.ROOTSET). -/
opaque moduleRoot : List Byte
/-- The per-device expert token key (R370). -/
opaque tokenKey : List Byte
/-- Vankobo's firmware root in the boot ROM (R376). -/
opaque vankoboRoot : List Byte
/-- SVN, version and twin protocol levels of the production image in slot A (R430). -/
opaque imageSvn : Nat
/-- FWVER of the production image. -/
opaque imageVersion : Nat
/-- XPROTO and XMIN of the production image (Table 16-3). -/
opaque imageXproto : Nat
/-- XMIN of the production image. -/
opaque imageXmin : Nat
/-- DIGEST of the production image. -/
opaque imageDigest : List Byte
/-- The vote words the flash holds as delivered, by index (R309). -/
opaque deliveredVote : Nat → Nat

/-- GEN of the newest page of every vote copy as delivered (R309). -/
opaque deliveredGen : Nat

/-- The CODE of each kind of EVENT record (Table 12-7 gives it 16 bits and no values), by the kinds of `Machine/Ops.lean`. -/
opaque eventCode : Nat → Nat

/-- The Whetstone program image inside Karsyn firmware, by byte offset (R206). -/
opaque program : Nat → Byte
/-- The entry point of each Whetstone task in that image, by task number (R206). -/
opaque taskEntry : Nat → Nat

/-- The pattern the `n`-th MEM self-test leaves in the pattern RAM, by byte address (R410). -/
opaque marchByte : Nat → Nat → Byte

/-- SHAKE256 with the given output length in bytes (FIPS 202 names it; R370, R375). -/
opaque shake256 : List Byte → Nat → List Byte
/-- XMSS-SHAKE256 verification of SP 800-208: public key, message, signature (R376). -/
opaque xmssVerify : List Byte → List Byte → List Byte → Bool
/-- XMSS signature with the device key: SK_SEED, SK_PRF and the public key, leaf, message (R381). -/
opaque xmssSign : List Byte → Nat → List Byte → List Byte
/-- The tree nodes of level 10 of the key with the seeds SK_SEED, SK_PRF and PUB_SEED (R373). -/
opaque xmssNodes : List Byte → List Byte
/-- The root above tree nodes of level 10, with a PUB_SEED (R369). -/
opaque xmssRoot : List Byte → List Byte → List Byte
/-- The on-die entropy source: its `n`-th output byte (R373, R382). -/
opaque entropy : Nat → Byte
/-- Byte `o` of CMIS page `p` where neither this manual nor a state of the device gives it: identity, advertising, Application descriptors,
thresholds, diagnostics (R265, log entry 88). -/
opaque cmisStatic (p o : Nat) : Byte
/-- Field `n` of a lane's board-table entry (CONF keys 0x0200 to 0x0400 + k), whose byte layout the spec does not give: receive
entry 0 RANGE, 1 PEAK, 2 ALPHA; transmit entry 0 V1, 1 V3, 2 to 10 the taps (10 bits each), 11 DMIN, 12 DMAX; optics entry (0x0400 + k)
0 to 15 the fields of `LoopCfg`, 16 the dither's frequency word (log entry 28). -/
opaque boardField : List Byte → Nat → Nat
/-- Spare flash blocks as delivered (R313). -/
opaque spareBlocks : Nat
/-- The codeword interleave of an application mode's host streams (R323), as TM_CLCTL.ILV minus 1, mod 3. -/
opaque ilv : Nat → Nat
/-- Bit `n` of the SSPRQ pattern of the 100G/200G optical standards (Table 10-1). -/
opaque ssprq : Nat → Bool

/-- The public key a device certificate names (R369, R382), whose layout the spec does not give. -/
opaque certKey : List Byte → List Byte
/-- The EFZ1608 reset value of a legacy register of class ignored (Table 11-10). -/
opaque legacyReset : Nat → Nat
/-- A device certificate verifies against Vankobo's root (R382). -/
opaque certValid : List Byte → List Byte → Bool
/-- An object is a ticket signed by Vankobo (R382), with the root. -/
opaque ticketValid : List Byte → List Byte → Bool
/-- The serial number and challenge an RMA ticket names (R382). -/
opaque ticketNames : List Byte → Nat × List Byte
/-- The reply payload of a standard CDB command (R269; CMIS lays it out), from the command ID and the values it reports. -/
opaque cmisReply : Nat → List Nat → List Byte
/-- Decoded bytes of physical flash page `n` (raw export, R320), at the `m`-th read. -/
opaque flashPage : Nat → Nat → List Byte
/-- The number of pages of all partitions (R320). -/
opaque flashPages : Nat

end Sys2Proof.Config
end

