-- ==== Sys2Proof/Machine/Regs.lean ====
section
/-! DEFINITION. The register map of the spec: every field of every register table of chapters 03 to 17, with its
address, bit position, width, access type (Table 0-3) and Reset value, and the table of registers with the GLB_CHSEL unit
and the power domain each one belongs to. Only data stands here; `Machine/Ops.lean` gives reads and writes their meaning. -/

namespace Sys2Proof.Machine

/-- The access types of Table 0-3 (R12). -/
inductive Access where
  | rw | ro | w1c | w1s | wo | rws
  deriving DecidableEq, Repr

/-- One register field: byte address of its register, lowest bit, width, access type and Reset value. -/
structure Fld where
  addr : Nat
  lo : Nat
  w : Nat
  ty : Access
  rst : Nat
  deriving DecidableEq, Repr

/-- The `n`-th member of a register array with the given byte stride. -/
def Fld.at (f : Fld) (n : Nat) (stride : Nat := 4) : Fld := { f with addr := f.addr + stride * n }

/-- The kind of power domain a register lies in (Table 17-1). `opt` is readable from BDAC or MADC (OC_TICK). -/
inductive DomKind where
  | aon | mgmt | whet | xcut | madc | bdac | opt | time | sec | ladc | lrxd | ltxd | hrx | htx
  deriving DecidableEq, Repr

/-- One register (or register array) of the map: first address, number of members, byte stride, GLB_CHSEL unit
(`none` for a register of unit none), whether each accessor has its own copy, and its domain. -/
structure RegDesc where
  base : Nat
  count : Nat
  stride : Nat
  unit : Option Nat
  perAcc : Bool
  dom : DomKind
  fields : List Fld
  deriving DecidableEq, Repr

namespace F

/-! SA_AFE at 0x20000 (chapter 03) -/
def SA_AFE_RANGE : Fld := ⟨0x20000, 0, 2, .rws, 2⟩
def SA_AFE_PEAK : Fld := ⟨0x20000, 4, 4, .rws, 0⟩
def SA_AFE_AGCEN : Fld := ⟨0x20000, 8, 1, .rws, 1⟩
def SA_AFE_AGCTGT : Fld := ⟨0x20000, 16, 7, .rws, 96⟩
/-! SA_VGA at 0x20004 (chapter 03) -/
def SA_VGA_GAIN : Fld := ⟨0x20004, 0, 7, .rws, 0⟩
/-! SA_LCTL at 0x20008 (chapter 03) -/
def SA_LCTL_CMTREQ : Fld := ⟨0x20008, 0, 1, .w1s, 0⟩
/-! SA_LSTAT at 0x2000C (chapter 03) -/
def SA_LSTAT_ALIGNED : Fld := ⟨0x2000C, 0, 1, .ro, 0⟩
def SA_LSTAT_INV : Fld := ⟨0x2000C, 1, 1, .ro, 0⟩
def SA_LSTAT_SETTLING : Fld := ⟨0x2000C, 2, 1, .ro, 0⟩
def SA_LSTAT_OVR : Fld := ⟨0x2000C, 4, 1, .w1c, 0⟩
def SA_LSTAT_HARDOVR : Fld := ⟨0x2000C, 5, 1, .w1c, 0⟩
def SA_LSTAT_CLAMPED : Fld := ⟨0x2000C, 6, 1, .w1c, 0⟩
def SA_LSTAT_AGCLIM : Fld := ⟨0x2000C, 7, 1, .w1c, 0⟩
/-! SA_OVRCNT at 0x20010 (chapter 03) -/
def SA_OVRCNT_COUNT : Fld := ⟨0x20010, 0, 32, .ro, 0⟩
/-! SA_RECCNT at 0x20014 (chapter 03) -/
def SA_RECCNT_COUNT : Fld := ⟨0x20014, 0, 32, .ro, 0⟩
/-! SA_HARDCNT at 0x20018 (chapter 03) -/
def SA_HARDCNT_COUNT : Fld := ⟨0x20018, 0, 32, .ro, 0⟩
/-! SA_CMTCNT at 0x2001C (chapter 03) -/
def SA_CMTCNT_COUNT : Fld := ⟨0x2001C, 0, 32, .ro, 0⟩
/-! SA_CLAMPCNT at 0x20020 (chapter 03) -/
def SA_CLAMPCNT_COUNT : Fld := ⟨0x20020, 0, 32, .ro, 0⟩
/-! SA_TBCTL at 0x20030 (chapter 03) -/
def SA_TBCTL_MODE : Fld := ⟨0x20030, 0, 2, .rw, 0⟩
def SA_TBCTL_TRIG : Fld := ⟨0x20030, 2, 2, .rw, 0⟩
def SA_TBCTL_PHASE : Fld := ⟨0x20030, 4, 6, .rw, 0⟩
def SA_TBCTL_TRIGPOS : Fld := ⟨0x20030, 10, 12, .rw, 0⟩
def SA_TBCTL_REQ : Fld := ⟨0x20030, 31, 1, .w1s, 0⟩
/-! SA_TBSTAT at 0x20034 (chapter 03) -/
def SA_TBSTAT_COUNT : Fld := ⟨0x20034, 0, 13, .ro, 0⟩
def SA_TBSTAT_DONE : Fld := ⟨0x20034, 13, 1, .ro, 0⟩
def SA_TBSTAT_QUEUED : Fld := ⟨0x20034, 14, 1, .ro, 0⟩
def SA_TBSTAT_TRIGGERED : Fld := ⟨0x20034, 15, 1, .ro, 0⟩
def SA_TBSTAT_INV : Fld := ⟨0x20034, 16, 1, .ro, 0⟩
def SA_TBSTAT_OWNER : Fld := ⟨0x20034, 17, 3, .ro, 0⟩
def SA_TBSTAT_SEQ : Fld := ⟨0x20034, 20, 8, .ro, 0⟩
/-! SA_TBREL at 0x20038 (chapter 03) -/
def SA_TBREL_RELEASE : Fld := ⟨0x20038, 0, 1, .wo, 0⟩
/-! SA_GAIN at 0x20040 (chapter 03) -/
def SA_GAIN_STG : Fld := ⟨0x20040, 0, 12, .rws, 0⟩
def SA_GAIN_ACT : Fld := ⟨0x20040, 16, 12, .ro, 0⟩
/-! SA_OFFS at 0x20044 (chapter 03) -/
def SA_OFFS_STG : Fld := ⟨0x20044, 0, 10, .rws, 0⟩
def SA_OFFS_ACT : Fld := ⟨0x20044, 16, 10, .ro, 0⟩
/-! SA_SKEW at 0x20048 (chapter 03) -/
def SA_SKEW_STG : Fld := ⟨0x20048, 0, 9, .rws, 0⟩
def SA_SKEW_ACT : Fld := ⟨0x20048, 16, 9, .ro, 0⟩
/-! SA_LASTCMT at 0x2004C (chapter 03) -/
def SA_LASTCMT_BOUNDARY : Fld := ⟨0x2004C, 0, 32, .ro, 0⟩
/-! SA_TBDATA at 0x24000 (chapter 03) -/
def SA_TBDATA_ENTRY : Fld := ⟨0x24000, 0, 32, .ro, 0⟩
/-! LN_TRCTL at 0x10100 (chapter 04) -/
def LN_TRCTL_BW : Fld := ⟨0x10100, 0, 2, .rw, 2⟩
def LN_TRCTL_FREEZE : Fld := ⟨0x10100, 4, 1, .rw, 0⟩
/-! LN_TRSTAT at 0x10104 (chapter 04) -/
def LN_TRSTAT_LOCK : Fld := ⟨0x10104, 0, 1, .ro, 0⟩
def LN_TRSTAT_LOL : Fld := ⟨0x10104, 1, 1, .w1c, 0⟩
def LN_TRSTAT_FLIM : Fld := ⟨0x10104, 2, 1, .w1c, 0⟩
def LN_TRSTAT_LOLCNT : Fld := ⟨0x10104, 16, 16, .ro, 0⟩
/-! LN_TRFREQ at 0x10108 (chapter 04) -/
def LN_TRFREQ_FREQ : Fld := ⟨0x10108, 0, 24, .ro, 0⟩
/-! LN_TRPHASE at 0x1010C (chapter 04) -/
def LN_TRPHASE_PHASE : Fld := ⟨0x1010C, 0, 8, .ro, 0⟩
/-! LN_FFECTL at 0x10110 (chapter 04) -/
def LN_FFECTL_CURSOR : Fld := ⟨0x10110, 0, 4, .rw, 7⟩
def LN_FFECTL_MU : Fld := ⟨0x10110, 4, 3, .rw, 3⟩
def LN_FFECTL_FREEZE : Fld := ⟨0x10110, 8, 1, .rw, 0⟩
/-! LN_TGT at 0x10114 (chapter 04) -/
def LN_TGT_ALPHA : Fld := ⟨0x10114, 0, 8, .rw, 0⟩
/-! LN_LEVEL at 0x10118 (chapter 04) -/
def LN_LEVEL_MP3 : Fld := ⟨0x10118, 0, 8, .ro, 0⟩
def LN_LEVEL_MP1 : Fld := ⟨0x10118, 8, 8, .ro, 0⟩
def LN_LEVEL_MM1 : Fld := ⟨0x10118, 16, 8, .ro, 0⟩
def LN_LEVEL_MM3 : Fld := ⟨0x10118, 24, 8, .ro, 0⟩
/-! LN_SNR at 0x1011C (chapter 04) -/
def LN_SNR_PILOT : Fld := ⟨0x1011C, 0, 12, .ro, 0⟩
def LN_SNR_FFE : Fld := ⟨0x1011C, 16, 12, .ro, 0⟩
/-! LN_LQF at 0x10120 (chapter 04) -/
def LN_LQF_LQF : Fld := ⟨0x10120, 0, 12, .ro, 0⟩
def LN_LQF_VALID : Fld := ⟨0x10120, 12, 1, .ro, 0⟩
def LN_LQF_BLOCKS : Fld := ⟨0x10120, 16, 16, .ro, 0⟩
/-! LN_LATRX at 0x10124 (chapter 04) -/
def LN_LATRX_LAT : Fld := ⟨0x10124, 0, 32, .ro, 0⟩
/-! LN_FFETAP at 0x10200 (chapter 04) -/
def LN_FFETAP_VAL : Fld := ⟨0x10200, 0, 12, .rw, 0⟩
/-! DEC_CTL at 0x50000 (chapter 04) -/
def DEC_CTL_TWT : Fld := ⟨0x50000, 0, 2, .rw, 2⟩
def DEC_CTL_MTH : Fld := ⟨0x50000, 8, 7, .rw, 8⟩
def DEC_CTL_HSNAP : Fld := ⟨0x50000, 16, 1, .w1s, 0⟩
/-! DEC_STAT at 0x50004 (chapter 04) -/
def DEC_STAT_MODE : Fld := ⟨0x50004, 0, 2, .ro, 0⟩
def DEC_STAT_HSEQ : Fld := ⟨0x50004, 8, 8, .ro, 0⟩
/-! DEC_TAINTCNT at 0x50008 (chapter 04) -/
def DEC_TAINTCNT_COUNT : Fld := ⟨0x50008, 0, 32, .ro, 0⟩
/-! DEC_LOWMCNT at 0x5000C (chapter 04) -/
def DEC_LOWMCNT_COUNT : Fld := ⟨0x5000C, 0, 32, .ro, 0⟩
/-! DEC_ERASCNT at 0x50010 (chapter 04) -/
def DEC_ERASCNT_COUNT : Fld := ⟨0x50010, 0, 32, .ro, 0⟩
/-! DEC_FRMCNT at 0x50014 (chapter 04) -/
def DEC_FRMCNT_COUNT : Fld := ⟨0x50014, 0, 32, .ro, 0⟩
/-! DEC_HFRM at 0x50018 (chapter 04) -/
def DEC_HFRM_COUNT : Fld := ⟨0x50018, 0, 32, .ro, 0⟩
/-! DEC_HIST at 0x50040 (chapter 04) -/
def DEC_HIST_COUNT : Fld := ⟨0x50040, 0, 32, .ro, 0⟩
/-! LN_LATTX at 0x10128 (chapter 05) -/
def LN_LATTX_LAT : Fld := ⟨0x10128, 0, 32, .ro, 0⟩
/-! TX_CTL at 0x40000 (chapter 05) -/
def TX_CTL_INV : Fld := ⟨0x40000, 0, 1, .rw, 0⟩
def TX_CTL_SQ : Fld := ⟨0x40000, 1, 1, .rw, 0⟩
def TX_CTL_CMTREQ : Fld := ⟨0x40000, 8, 1, .w1s, 0⟩
/-! TX_STAT at 0x40004 (chapter 05) -/
def TX_STAT_STATE : Fld := ⟨0x40004, 0, 2, .ro, 0⟩
def TX_STAT_SQACT : Fld := ⟨0x40004, 2, 1, .ro, 0⟩
def TX_STAT_CLIP : Fld := ⟨0x40004, 3, 1, .w1c, 0⟩
/-! TX_DAC at 0x40008 (chapter 05) -/
def TX_DAC_FS : Fld := ⟨0x40008, 0, 6, .rws, 30⟩
/-! TX_LEVEL at 0x4000C (chapter 05) -/
def TX_LEVEL_V1STG : Fld := ⟨0x4000C, 0, 7, .rws, 32⟩
def TX_LEVEL_V3STG : Fld := ⟨0x4000C, 8, 7, .rws, 96⟩
def TX_LEVEL_V1ACT : Fld := ⟨0x4000C, 16, 7, .ro, 32⟩
def TX_LEVEL_V3ACT : Fld := ⟨0x4000C, 24, 7, .ro, 96⟩
/-! TX_FFECTL at 0x40010 (chapter 05) -/
def TX_FFECTL_MAIN : Fld := ⟨0x40010, 0, 4, .rw, 2⟩
/-! TX_CMTCNT at 0x40014 (chapter 05) -/
def TX_CMTCNT_COUNT : Fld := ⟨0x40014, 0, 32, .ro, 0⟩
/-! TX_CLIPCNT at 0x40018 (chapter 05) -/
def TX_CLIPCNT_COUNT : Fld := ⟨0x40018, 0, 32, .ro, 0⟩
/-! TX_DPDCTL at 0x40020 (chapter 05) -/
def TX_DPDCTL_EN : Fld := ⟨0x40020, 0, 1, .rw, 1⟩
def TX_DPDCTL_IDEN : Fld := ⟨0x40020, 1, 1, .rw, 1⟩
def TX_DPDCTL_LINMEM : Fld := ⟨0x40020, 2, 1, .rw, 0⟩
def TX_DPDCTL_STEP : Fld := ⟨0x40020, 4, 3, .rw, 4⟩
def TX_DPDCTL_PERIOD : Fld := ⟨0x40020, 8, 8, .rw, 8⟩
/-! TX_DPDSTAT at 0x40024 (chapter 05) -/
def TX_DPDSTAT_NMSE : Fld := ⟨0x40024, 0, 12, .rw, 0⟩
def TX_DPDSTAT_LOCKED : Fld := ⟨0x40024, 12, 1, .rw, 0⟩
def TX_DPDSTAT_IDCNT : Fld := ⟨0x40024, 16, 16, .rw, 0⟩
/-! TX_FFETAP at 0x40040 (chapter 05) -/
def TX_FFETAP_STG : Fld := ⟨0x40040, 0, 10, .rws, 0⟩
def TX_FFETAP_ACT : Fld := ⟨0x40040, 16, 10, .ro, 0⟩
/-! TX_DPDH1 at 0x40080 (chapter 05) -/
def TX_DPDH1_STG : Fld := ⟨0x40080, 0, 16, .rws, 0⟩
def TX_DPDH1_ACT : Fld := ⟨0x40080, 16, 16, .ro, 0⟩
/-! TX_DPDH3 at 0x400A0 (chapter 05) -/
def TX_DPDH3_STG : Fld := ⟨0x400A0, 0, 16, .rws, 0⟩
def TX_DPDH3_ACT : Fld := ⟨0x400A0, 16, 16, .ro, 0⟩
/-! TX_OBSLANE at 0x40100 (chapter 05) -/
def TX_OBSLANE_DELAY : Fld := ⟨0x40100, 0, 14, .rw, 0⟩
def TX_OBSLANE_PHASE : Fld := ⟨0x40100, 16, 6, .rw, 0⟩
/-! TX_OBSCTL at 0x40104 (chapter 05) -/
def TX_OBSCTL_INPUT : Fld := ⟨0x40104, 0, 3, .rw, 0⟩
def TX_OBSCTL_START : Fld := ⟨0x40104, 8, 1, .w1s, 0⟩
/-! TX_OBSSTAT at 0x40108 (chapter 05) -/
def TX_OBSSTAT_COUNT : Fld := ⟨0x40108, 0, 13, .ro, 0⟩
def TX_OBSSTAT_DONE : Fld := ⟨0x40108, 13, 1, .ro, 0⟩
def TX_OBSSTAT_BUSY : Fld := ⟨0x40108, 14, 1, .ro, 0⟩
def TX_OBSSTAT_INPUT : Fld := ⟨0x40108, 16, 3, .ro, 0⟩
def TX_OBSSTAT_SEQ : Fld := ⟨0x40108, 20, 8, .ro, 0⟩
/-! TX_OBSBUF at 0x48000 (chapter 05) -/
def TX_OBSBUF_ENTRY : Fld := ⟨0x48000, 0, 32, .ro, 0⟩
/-! HL_CTL at 0x30000 (chapter 06) -/
def HL_CTL_FILL : Fld := ⟨0x30000, 0, 1, .rws, 1⟩
def HL_CTL_LOLACT : Fld := ⟨0x30000, 1, 1, .rws, 0⟩
def HL_CTL_ADAPT : Fld := ⟨0x30000, 2, 1, .rw, 1⟩
def HL_CTL_IDLE : Fld := ⟨0x30000, 3, 1, .rw, 0⟩
/-! HL_STAT at 0x30004 (chapter 06) -/
def HL_STAT_SIGDET : Fld := ⟨0x30004, 0, 1, .ro, 0⟩
def HL_STAT_CDRLOCK : Fld := ⟨0x30004, 1, 1, .ro, 0⟩
def HL_STAT_TXLOCK : Fld := ⟨0x30004, 2, 1, .ro, 0⟩
def HL_STAT_ALIGNED : Fld := ⟨0x30004, 3, 1, .ro, 0⟩
def HL_STAT_HTXIDLE : Fld := ⟨0x30004, 4, 1, .ro, 0⟩
def HL_STAT_DEFTAB : Fld := ⟨0x30004, 5, 1, .ro, 0⟩
def HL_STAT_ADLIM : Fld := ⟨0x30004, 6, 1, .w1c, 0⟩
def HL_STAT_SLIP : Fld := ⟨0x30004, 7, 1, .w1c, 0⟩
def HL_STAT_LOSS : Fld := ⟨0x30004, 8, 1, .w1c, 0⟩
def HL_STAT_RATE : Fld := ⟨0x30004, 16, 2, .ro, 0⟩
/-! HL_TXEQ at 0x30008 (chapter 06) -/
def HL_TXEQ_PRE2 : Fld := ⟨0x30008, 0, 3, .rw, 0⟩
def HL_TXEQ_PRE1 : Fld := ⟨0x30008, 4, 4, .rw, 0⟩
def HL_TXEQ_POST1 : Fld := ⟨0x30008, 8, 4, .rw, 0⟩
def HL_TXEQ_AMP : Fld := ⟨0x30008, 16, 2, .rw, 1⟩
/-! HL_RXEQ at 0x3000C (chapter 06) -/
def HL_RXEQ_CTLE : Fld := ⟨0x3000C, 0, 4, .rw, 6⟩
def HL_RXEQ_VGA : Fld := ⟨0x3000C, 8, 5, .rw, 16⟩
def HL_RXEQ_DFE1 : Fld := ⟨0x3000C, 16, 5, .rw, 0⟩
/-! HL_RXBASE at 0x30010 (chapter 06) -/
def HL_RXBASE_CTLE : Fld := ⟨0x30010, 0, 4, .rws, 6⟩
def HL_RXBASE_VGA : Fld := ⟨0x30010, 8, 5, .rws, 16⟩
def HL_RXBASE_DFE1 : Fld := ⟨0x30010, 16, 5, .rws, 0⟩
/-! HL_ALIGN at 0x30014 (chapter 06) -/
def HL_ALIGN_PHASE : Fld := ⟨0x30014, 0, 8, .ro, 0⟩
def HL_ALIGN_PAD : Fld := ⟨0x30014, 16, 8, .ro, 0⟩
/-! HL_LATTX at 0x30018 (chapter 06) -/
def HL_LATTX_LAT : Fld := ⟨0x30018, 0, 32, .ro, 0⟩
/-! HL_SLIPCNT at 0x3001C (chapter 06) -/
def HL_SLIPCNT_SLIPCNT : Fld := ⟨0x3001C, 0, 16, .ro, 0⟩
def HL_SLIPCNT_LOSSCNT : Fld := ⟨0x3001C, 16, 16, .ro, 0⟩
/-! LN_CTL at 0x10000 (chapter 07) -/
def LN_CTL_RETRAIN : Fld := ⟨0x10000, 0, 1, .w1s, 0⟩
def LN_CTL_AUTORT : Fld := ⟨0x10000, 1, 1, .rws, 1⟩
def LN_CTL_URXINV : Fld := ⟨0x10000, 2, 1, .rws, 0⟩
/-! LN_STAT at 0x10004 (chapter 07) -/
def LN_STAT_STEP : Fld := ⟨0x10004, 0, 4, .ro, 0⟩
def LN_STAT_TRAINING : Fld := ⟨0x10004, 4, 1, .ro, 0⟩
def LN_STAT_SIGDET : Fld := ⟨0x10004, 5, 1, .ro, 0⟩
def LN_STAT_BCNLOCK : Fld := ⟨0x10004, 6, 1, .ro, 0⟩
def LN_STAT_XLANE : Fld := ⟨0x10004, 7, 1, .ro, 0⟩
def LN_STAT_FOREIGN : Fld := ⟨0x10004, 8, 1, .ro, 0⟩
def LN_STAT_MISMATCH : Fld := ⟨0x10004, 9, 1, .ro, 0⟩
def LN_STAT_NOSIG : Fld := ⟨0x10004, 10, 1, .ro, 0⟩
def LN_STAT_TRAINTO : Fld := ⟨0x10004, 11, 1, .w1c, 0⟩
def LN_STAT_PEERC : Fld := ⟨0x10004, 12, 1, .ro, 0⟩
def LN_STAT_FBDONE : Fld := ⟨0x10004, 13, 1, .w1c, 0⟩
def LN_STAT_FBREF : Fld := ⟨0x10004, 14, 1, .w1c, 0⟩
def LN_STAT_RTEV : Fld := ⟨0x10004, 15, 1, .w1c, 0⟩
def LN_STAT_NOAGREE : Fld := ⟨0x10004, 16, 1, .ro, 0⟩
/-! LN_BRCFG at 0x10008 (chapter 07) -/
def LN_BRCFG_SRCHTO : Fld := ⟨0x10008, 0, 8, .rws, 100⟩
def LN_BRCFG_RTDLY : Fld := ⟨0x10008, 8, 8, .rws, 10⟩
def LN_BRCFG_TRNTO : Fld := ⟨0x10008, 16, 9, .rws, 100⟩
def LN_BRCFG_ACTMARG : Fld := ⟨0x10008, 25, 6, .rws, 0⟩
/-! LN_FEID at 0x1000C (chapter 07) -/
def LN_FEID_PART : Fld := ⟨0x1000C, 0, 16, .ro, 0⟩
def LN_FEID_LANE : Fld := ⟨0x1000C, 16, 3, .ro, 0⟩
def LN_FEID_MODE : Fld := ⟨0x1000C, 20, 2, .ro, 0⟩
/-! LN_FEALM at 0x10010 (chapter 07) -/
def LN_FEALM_LIVE : Fld := ⟨0x10010, 0, 8, .ro, 0⟩
def LN_FEALM_LATCH : Fld := ⟨0x10010, 16, 8, .w1c, 0⟩
/-! LN_RTCNT at 0x10014 (chapter 07) -/
def LN_RTCNT_RETRAINS : Fld := ⟨0x10014, 0, 16, .ro, 0⟩
def LN_RTCNT_SYNCFAIL : Fld := ⟨0x10014, 16, 16, .ro, 0⟩
/-! LN_PTCTL at 0x10018 (chapter 07) -/
def LN_PTCTL_LEAD : Fld := ⟨0x10018, 0, 3, .rws, 0⟩
def LN_PTCTL_HINTTX : Fld := ⟨0x10018, 4, 1, .rws, 1⟩
def LN_PTCTL_HINTRX : Fld := ⟨0x10018, 5, 1, .rws, 1⟩
def LN_PTCTL_TELEM : Fld := ⟨0x10018, 6, 1, .rws, 1⟩
def LN_PTCTL_HOSTRX : Fld := ⟨0x10018, 7, 1, .rws, 1⟩
/-! DEC_PCTH at 0x50100 (chapter 07) -/
def DEC_PCTH_PCTH : Fld := ⟨0x50100, 0, 7, .rw, 52⟩
/-! DEC_PFALSE at 0x50104 (chapter 07) -/
def DEC_PFALSE_COUNT : Fld := ⟨0x50104, 0, 32, .ro, 0⟩
/-! DEC_PABORT at 0x50108 (chapter 07) -/
def DEC_PABORT_COUNT : Fld := ⟨0x50108, 0, 32, .ro, 0⟩
/-! DEC_PCRCERR at 0x5010C (chapter 07) -/
def DEC_PCRCERR_COUNT : Fld := ⟨0x5010C, 0, 32, .ro, 0⟩
/-! DEC_PRXCNT at 0x50110 (chapter 07) -/
def DEC_PRXCNT_COUNT : Fld := ⟨0x50110, 0, 32, .ro, 0⟩
/-! WS_CTL at 0x100000 (chapter 08) -/
def WS_CTL_HALTREQ : Fld := ⟨0x100000, 0, 1, .w1s, 0⟩
def WS_CTL_RUN : Fld := ⟨0x100000, 1, 1, .w1s, 0⟩
def WS_CTL_RTSWAP : Fld := ⟨0x100000, 4, 1, .w1s, 0⟩
/-! WS_STAT at 0x100004 (chapter 08) -/
def WS_STAT_SAT : Fld := ⟨0x100004, 0, 1, .w1c, 0⟩
def WS_STAT_OVF : Fld := ⟨0x100004, 1, 1, .w1c, 0⟩
def WS_STAT_RTBAD : Fld := ⟨0x100004, 2, 1, .w1c, 0⟩
def WS_STAT_PMWP : Fld := ⟨0x100004, 3, 1, .w1c, 0⟩
def WS_STAT_REPACT : Fld := ⟨0x100004, 4, 1, .ro, 0⟩
def WS_STAT_STATE : Fld := ⟨0x100004, 8, 2, .ro, 0⟩
def WS_STAT_TASK : Fld := ⟨0x100004, 16, 3, .ro, 0⟩
/-! WS_PC at 0x100008 (chapter 08) -/
def WS_PC_PC : Fld := ⟨0x100008, 0, 16, .rw, 0⟩
/-! WS_TRAP at 0x10000C (chapter 08) -/
def WS_TRAP_CAUSE : Fld := ⟨0x10000C, 0, 4, .ro, 0⟩
def WS_TRAP_TASK : Fld := ⟨0x10000C, 4, 3, .ro, 0⟩
def WS_TRAP_PC : Fld := ⟨0x10000C, 16, 16, .ro, 0⟩
/-! WS_LOAD at 0x100010 (chapter 08) -/
def WS_LOAD_LOOP : Fld := ⟨0x100010, 0, 8, .ro, 0⟩
def WS_LOAD_CAL : Fld := ⟨0x100010, 8, 8, .ro, 0⟩
def WS_LOAD_DPD : Fld := ⟨0x100010, 16, 8, .ro, 0⟩
def WS_LOAD_SYS : Fld := ⟨0x100010, 24, 8, .ro, 0⟩
/-! WS_RTCUR at 0x100014 (chapter 08) -/
def WS_RTCUR_SLOT : Fld := ⟨0x100014, 0, 10, .ro, 0⟩
def WS_RTCUR_ROUND : Fld := ⟨0x100014, 16, 16, .ro, 0⟩
/-! WS_CALCFG at 0x100018 (chapter 08) -/
def WS_CALCFG_GAP : Fld := ⟨0x100018, 0, 12, .rws, 125⟩
/-! WS_CALSTAT at 0x10001C (chapter 08) -/
def WS_CALSTAT_SWEEPMS : Fld := ⟨0x10001C, 0, 16, .ro, 0⟩
def WS_CALSTAT_SWEEPS : Fld := ⟨0x10001C, 16, 16, .ro, 0⟩
/-! WS_LOOPCNT at 0x100020 (chapter 08) -/
def WS_LOOPCNT_SKIP : Fld := ⟨0x100020, 0, 16, .ro, 0⟩
def WS_LOOPCNT_OVRRUN : Fld := ⟨0x100020, 16, 16, .ro, 0⟩
/-! WS_PMPAGE at 0x100024 (chapter 08) -/
def WS_PMPAGE_PAGE : Fld := ⟨0x100024, 0, 2, .rw, 0⟩
/-! WS_CALSTAT2 at 0x100028 (chapter 08) -/
def WS_CALSTAT2_THIN : Fld := ⟨0x100028, 0, 16, .ro, 0⟩
/-! WS_CALLANE at 0x100030 (chapter 08) -/
def WS_CALLANE_EN : Fld := ⟨0x100030, 0, 1, .rws, 1⟩
def WS_CALLANE_NEXTPH : Fld := ⟨0x100030, 8, 6, .ro, 0⟩
def WS_CALLANE_VISITS : Fld := ⟨0x100030, 16, 16, .ro, 0⟩
/-! WS_RTAB at 0x101000 (chapter 08) -/
def WS_RTAB_TASK : Fld := ⟨0x101000, 0, 3, .rw, 0⟩
def WS_RTAB_LANE : Fld := ⟨0x101000, 4, 3, .rw, 0⟩
/-! WS_RTACT at 0x102000 (chapter 08) -/
def WS_RTACT_TASK : Fld := ⟨0x102000, 0, 3, .ro, 0⟩
def WS_RTACT_LANE : Fld := ⟨0x102000, 4, 3, .ro, 0⟩
/-! OC_BCTL at 0x60000 (chapter 09) -/
def OC_BCTL_EN : Fld := ⟨0x60000, 0, 1, .rw, 0⟩
def OC_BCTL_RANGE : Fld := ⟨0x60000, 1, 2, .rws, 0⟩
def OC_BCTL_DITH : Fld := ⟨0x60000, 3, 1, .rw, 0⟩
def OC_BCTL_NCO : Fld := ⟨0x60000, 4, 3, .rw, 0⟩
def OC_BCTL_SDCOMP : Fld := ⟨0x60000, 8, 1, .rws, 0⟩
def OC_BCTL_SDOPEN : Fld := ⟨0x60000, 9, 1, .rws, 0⟩
/-! OC_BHOLD at 0x60004 (chapter 09) -/
def OC_BHOLD_CODE : Fld := ⟨0x60004, 0, 14, .rw, 0⟩
def OC_BHOLD_DAMP : Fld := ⟨0x60004, 16, 10, .rw, 0⟩
/-! OC_BACT at 0x60008 (chapter 09) -/
def OC_BACT_CODE : Fld := ⟨0x60008, 0, 14, .ro, 0⟩
def OC_BACT_DAMP : Fld := ⟨0x60008, 16, 10, .ro, 0⟩
/-! OC_BSTAT at 0x6000C (chapter 09) -/
def OC_BSTAT_LIVE : Fld := ⟨0x6000C, 0, 1, .ro, 0⟩
def OC_BSTAT_SETTLE : Fld := ⟨0x6000C, 1, 1, .ro, 0⟩
def OC_BSTAT_SHUT : Fld := ⟨0x6000C, 2, 1, .ro, 0⟩
def OC_BSTAT_COMPLNOW : Fld := ⟨0x6000C, 3, 1, .ro, 0⟩
def OC_BSTAT_OPENNOW : Fld := ⟨0x6000C, 4, 1, .ro, 0⟩
def OC_BSTAT_COMPL : Fld := ⟨0x6000C, 8, 1, .w1c, 0⟩
def OC_BSTAT_OPEN : Fld := ⟨0x6000C, 9, 1, .w1c, 0⟩
/-! OC_STRB at 0x60010 (chapter 09) -/
def OC_STRB_G0SRC : Fld := ⟨0x60010, 0, 3, .rw, 3⟩
def OC_STRB_G0NCO : Fld := ⟨0x60010, 4, 3, .rw, 0⟩
def OC_STRB_G1SRC : Fld := ⟨0x60010, 8, 3, .rw, 4⟩
def OC_STRB_G1NCO : Fld := ⟨0x60010, 12, 3, .rw, 0⟩
def OC_STRB_ALL : Fld := ⟨0x60010, 16, 1, .rw, 0⟩
def OC_STRB_SW0 : Fld := ⟨0x60010, 24, 1, .w1s, 0⟩
def OC_STRB_SW1 : Fld := ⟨0x60010, 25, 1, .w1s, 0⟩
/-! OC_BSUM at 0x60014 (chapter 09) -/
def OC_BSUM_LIMIT : Fld := ⟨0x60014, 0, 11, .rws, 1600⟩
def OC_BSUM_REF : Fld := ⟨0x60014, 12, 1, .w1c, 0⟩
def OC_BSUM_REFCNT : Fld := ⟨0x60014, 16, 16, .ro, 0⟩
/-! OC_TICK at 0x60018 (chapter 09) -/
def OC_TICK_COUNT : Fld := ⟨0x60018, 0, 32, .ro, 0⟩
/-! OC_NCOCTL at 0x60040 (chapter 09) -/
def OC_NCOCTL_EN : Fld := ⟨0x60040, 0, 1, .rw, 0⟩
def OC_NCOCTL_TB : Fld := ⟨0x60040, 4, 2, .rw, 3⟩
def OC_NCOCTL_EARM : Fld := ⟨0x60040, 8, 1, .w1s, 0⟩
/-! OC_NCOFW at 0x60044 (chapter 09) -/
def OC_NCOFW_VALUE : Fld := ⟨0x60044, 0, 32, .rw, 0⟩
/-! OC_NCOPH at 0x60048 (chapter 09) -/
def OC_NCOPH_VALUE : Fld := ⟨0x60048, 0, 32, .rw, 0⟩
/-! OC_NCOE at 0x6004C (chapter 09) -/
def OC_NCOE_VALUE : Fld := ⟨0x6004C, 0, 32, .rw, 0⟩
/-! OC_NCOESEC at 0x60050 (chapter 09) -/
def OC_NCOESEC_VALUE : Fld := ⟨0x60050, 0, 32, .rw, 0⟩
/-! OC_MACTL at 0x60080 (chapter 09) -/
def OC_MACTL_TRIG : Fld := ⟨0x60080, 0, 3, .rw, 1⟩
def OC_MACTL_NCO : Fld := ⟨0x60080, 4, 3, .rw, 0⟩
def OC_MACTL_LEN : Fld := ⟨0x60080, 8, 4, .rw, 8⟩
def OC_MACTL_GO : Fld := ⟨0x60080, 16, 1, .w1s, 0⟩
def OC_MACTL_CALREQ : Fld := ⟨0x60080, 17, 1, .w1s, 0⟩
def OC_MACTL_EN : Fld := ⟨0x60080, 24, 1, .rw, 0⟩
/-! OC_MAPER at 0x60084 (chapter 09) -/
def OC_MAPER_PER : Fld := ⟨0x60084, 0, 16, .rw, 20⟩
/-! OC_MASTAT at 0x60088 (chapter 09) -/
def OC_MASTAT_BUSY : Fld := ⟨0x60088, 0, 1, .ro, 0⟩
def OC_MASTAT_CAL : Fld := ⟨0x60088, 1, 1, .ro, 0⟩
def OC_MASTAT_INJPEND : Fld := ⟨0x60088, 2, 1, .ro, 0⟩
def OC_MASTAT_OVR : Fld := ⟨0x60088, 4, 1, .w1c, 0⟩
def OC_MASTAT_PASSINC : Fld := ⟨0x60088, 5, 1, .w1c, 0⟩
def OC_MASTAT_INJREF : Fld := ⟨0x60088, 6, 1, .w1c, 0⟩
def OC_MASTAT_CALDONE : Fld := ⟨0x60088, 7, 1, .w1c, 0⟩
def OC_MASTAT_WIDX : Fld := ⟨0x60088, 8, 8, .ro, 0⟩
def OC_MASTAT_PASS : Fld := ⟨0x60088, 16, 7, .ro, 0⟩
/-! OC_MACNT at 0x6008C (chapter 09) -/
def OC_MACNT_MA_MISSED : Fld := ⟨0x6008C, 0, 16, .ro, 0⟩
def OC_MACNT_OVRCNT : Fld := ⟨0x6008C, 16, 16, .ro, 0⟩
/-! OC_MAINJ at 0x60090 (chapter 09) -/
def OC_MAINJ_CHAN : Fld := ⟨0x60090, 0, 5, .rw, 0⟩
def OC_MAINJ_STIME : Fld := ⟨0x60090, 8, 4, .rw, 0⟩
def OC_MAINJ_GAIN : Fld := ⟨0x60090, 12, 2, .rw, 0⟩
def OC_MAINJ_REQ : Fld := ⟨0x60090, 16, 1, .w1s, 0⟩
/-! OC_MAINJRES at 0x60094 (chapter 09) -/
def OC_MAINJRES_CODE : Fld := ⟨0x60094, 0, 12, .ro, 0⟩
def OC_MAINJRES_OVR : Fld := ⟨0x60094, 12, 1, .ro, 0⟩
def OC_MAINJRES_SUSP : Fld := ⟨0x60094, 13, 1, .ro, 0⟩
def OC_MAINJRES_DONE : Fld := ⟨0x60094, 15, 1, .ro, 0⟩
def OC_MAINJRES_SEQ : Fld := ⟨0x60094, 16, 8, .ro, 0⟩
/-! OC_MACOM at 0x60098 (chapter 09) -/
def OC_MACOM_SRC : Fld := ⟨0x60098, 0, 2, .rw, 0⟩
def OC_MACOM_NCO : Fld := ⟨0x60098, 4, 3, .rw, 0⟩
def OC_MACOM_GO : Fld := ⟨0x60098, 8, 1, .w1s, 0⟩
def OC_MACOM_PER : Fld := ⟨0x60098, 16, 16, .rw, 20⟩
/-! OC_MACAL at 0x600A0 (chapter 09) -/
def OC_MACAL_GC : Fld := ⟨0x600A0, 0, 16, .rws, 0⟩
def OC_MACAL_OFF : Fld := ⟨0x600A0, 16, 12, .rws, 0⟩
/-! OC_MASEQ at 0x600C0 (chapter 09) -/
def OC_MASEQ_CHAN : Fld := ⟨0x600C0, 0, 5, .rw, 0⟩
def OC_MASEQ_STIME : Fld := ⟨0x600C0, 8, 4, .rw, 0⟩
def OC_MASEQ_GAIN : Fld := ⟨0x600C0, 12, 2, .rw, 0⟩
/-! OC_OSPICTL at 0x60100 (chapter 09) -/
def OC_OSPICTL_RATE0 : Fld := ⟨0x60100, 0, 2, .rws, 2⟩
def OC_OSPICTL_RATE1 : Fld := ⟨0x60100, 4, 2, .rws, 2⟩
def OC_OSPICTL_BUSY0 : Fld := ⟨0x60100, 8, 1, .ro, 0⟩
def OC_OSPICTL_BUSY1 : Fld := ⟨0x60100, 9, 1, .ro, 0⟩
def OC_OSPICTL_OVF : Fld := ⟨0x60100, 12, 1, .w1c, 0⟩
/-! OC_OSPIHDR at 0x60104 (chapter 09) -/
def OC_OSPIHDR_BUS : Fld := ⟨0x60104, 0, 1, .rw, 0⟩
def OC_OSPIHDR_TAG : Fld := ⟨0x60104, 4, 4, .rw, 0⟩
/-! OC_OSPITX at 0x60108 (chapter 09) -/
def OC_OSPITX_FRAME : Fld := ⟨0x60108, 0, 32, .wo, 0⟩
/-! OC_OSPIRX at 0x6010C (chapter 09) -/
def OC_OSPIRX_DATA : Fld := ⟨0x6010C, 0, 16, .ro, 0⟩
def OC_OSPIRX_TAG : Fld := ⟨0x6010C, 16, 4, .ro, 0⟩
def OC_OSPIRX_BUS : Fld := ⟨0x6010C, 20, 1, .ro, 0⟩
def OC_OSPIRX_LEFT : Fld := ⟨0x6010C, 24, 4, .ro, 0⟩
def OC_OSPIRX_VALID : Fld := ⟨0x6010C, 31, 1, .ro, 0⟩
/-! OC_MARING at 0x61000 (chapter 09) -/
def OC_MARING_ENTRY : Fld := ⟨0x61000, 0, 32, .ro, 0⟩
/-! PG_CTL at 0x70000 (chapter 10) -/
def PG_CTL_START : Fld := ⟨0x70000, 0, 1, .w1s, 0⟩
def PG_CTL_STOP : Fld := ⟨0x70000, 1, 1, .w1s, 0⟩
def PG_CTL_SYNCARM : Fld := ⟨0x70000, 2, 1, .rw, 0⟩
def PG_CTL_ENTRY : Fld := ⟨0x70000, 8, 8, .rw, 0⟩
/-! PG_STAT at 0x70004 (chapter 10) -/
def PG_STAT_STATE : Fld := ⟨0x70004, 0, 3, .ro, 0⟩
def PG_STAT_DOMAIN : Fld := ⟨0x70004, 4, 2, .ro, 0⟩
def PG_STAT_UNDERRUN : Fld := ⟨0x70004, 8, 1, .w1c, 0⟩
def PG_STAT_JREPL : Fld := ⟨0x70004, 9, 1, .w1c, 0⟩
def PG_STAT_MKMERGE : Fld := ⟨0x70004, 10, 1, .w1c, 0⟩
def PG_STAT_ECCU : Fld := ⟨0x70004, 11, 1, .w1c, 0⟩
def PG_STAT_BADCFG : Fld := ⟨0x70004, 12, 1, .w1c, 0⟩
def PG_STAT_ENTRY : Fld := ⟨0x70004, 16, 8, .ro, 0⟩
/-! PG_JMP at 0x70008 (chapter 10) -/
def PG_JMP_TARGET : Fld := ⟨0x70008, 0, 8, .rw, 0⟩
def PG_JMP_REQ : Fld := ⟨0x70008, 31, 1, .w1s, 0⟩
/-! PG_PLAY at 0x7000C (chapter 10) -/
def PG_PLAY_COUNT : Fld := ⟨0x7000C, 0, 32, .ro, 0⟩
/-! PG_UNDCNT at 0x70010 (chapter 10) -/
def PG_UNDCNT_COUNT : Fld := ⟨0x70010, 0, 32, .ro, 0⟩
/-! PG_BUILTIN at 0x70014 (chapter 10) -/
def PG_BUILTIN_HOSTPAT : Fld := ⟨0x70014, 0, 3, .rw, 5⟩
def PG_BUILTIN_HALF : Fld := ⟨0x70014, 8, 8, .rw, 1⟩
def PG_BUILTIN_HI : Fld := ⟨0x70014, 16, 2, .rw, 3⟩
def PG_BUILTIN_LO : Fld := ⟨0x70014, 18, 2, .rw, 0⟩
/-! PG_SYNCCTL at 0x70018 (chapter 10) -/
def PG_SYNCCTL_ROLE : Fld := ⟨0x70018, 0, 2, .rw, 0⟩
def PG_SYNCCTL_LAUNCH : Fld := ⟨0x70018, 8, 6, .rw, 0⟩
def PG_SYNCCTL_DELAY : Fld := ⟨0x70018, 16, 8, .rw, 64⟩
def PG_SYNCCTL_CAL : Fld := ⟨0x70018, 31, 1, .w1s, 0⟩
/-! PG_SYNCSTAT at 0x7001C (chapter 10) -/
def PG_SYNCSTAT_ARRPH : Fld := ⟨0x7001C, 0, 6, .ro, 0⟩
def PG_SYNCSTAT_SKEWWARN : Fld := ⟨0x7001C, 8, 1, .w1c, 0⟩
def PG_SYNCSTAT_CALDONE : Fld := ⟨0x7001C, 9, 1, .w1c, 0⟩
def PG_SYNCSTAT_RT : Fld := ⟨0x7001C, 16, 16, .ro, 0⟩
/-! PG_RAMPAGE at 0x70020 (chapter 10) -/
def PG_RAMPAGE_PAGE : Fld := ⟨0x70020, 0, 5, .rw, 0⟩
/-! PG_LOUT at 0x70030 (chapter 10) -/
def PG_LOUT_EN : Fld := ⟨0x70030, 0, 1, .rw, 1⟩
def PG_LOUT_INV : Fld := ⟨0x70030, 1, 1, .rw, 0⟩
def PG_LOUT_DELAY : Fld := ⟨0x70030, 8, 8, .rw, 0⟩
/-! PG_HOUT at 0x70034 (chapter 10) -/
def PG_HOUT_EN : Fld := ⟨0x70034, 0, 1, .rw, 1⟩
def PG_HOUT_INV : Fld := ⟨0x70034, 1, 1, .rw, 0⟩
def PG_HOUT_DELAY : Fld := ⟨0x70034, 8, 8, .rw, 0⟩
/-! PG_SEGBASE at 0x70040 (chapter 10) -/
def PG_SEGBASE_START : Fld := ⟨0x70040, 0, 14, .rw, 0⟩
def PG_SEGBASE_TYPE : Fld := ⟨0x70040, 16, 3, .rw, 0⟩
def PG_SEGBASE_STREAM : Fld := ⟨0x70040, 24, 1, .rw, 0⟩
/-! PG_SEGLEN at 0x70044 (chapter 10) -/
def PG_SEGLEN_LEN : Fld := ⟨0x70044, 0, 15, .rw, 16⟩
/-! PG_SEGSTRM at 0x70048 (chapter 10) -/
def PG_SEGSTRM_RDY0 : Fld := ⟨0x70048, 0, 1, .w1s, 0⟩
def PG_SEGSTRM_RDY1 : Fld := ⟨0x70048, 1, 1, .w1s, 0⟩
def PG_SEGSTRM_NEXT : Fld := ⟨0x70048, 4, 1, .ro, 0⟩
/-! PG_MKCFG at 0x70080 (chapter 10) -/
def PG_MKCFG_EN : Fld := ⟨0x70080, 0, 1, .rw, 0⟩
def PG_MKCFG_REF : Fld := ⟨0x70080, 1, 1, .rw, 0⟩
def PG_MKCFG_REFIDX : Fld := ⟨0x70080, 4, 4, .rw, 0⟩
def PG_MKCFG_WIDTH : Fld := ⟨0x70080, 8, 8, .rw, 1⟩
def PG_MKCFG_ADJ : Fld := ⟨0x70080, 16, 16, .rw, 0⟩
/-! PG_MKOFS at 0x70084 (chapter 10) -/
def PG_MKOFS_OFS : Fld := ⟨0x70084, 0, 22, .rw, 0⟩
/-! PG_SEQA at 0x70400 (chapter 10) -/
def PG_SEQA_SEG : Fld := ⟨0x70400, 0, 6, .rw, 0⟩
def PG_SEQA_MARK : Fld := ⟨0x70400, 8, 4, .rw, 0⟩
def PG_SEQA_END : Fld := ⟨0x70400, 12, 1, .rw, 0⟩
def PG_SEQA_NEXT : Fld := ⟨0x70400, 16, 8, .rw, 0⟩
/-! PG_SEQB at 0x70404 (chapter 10) -/
def PG_SEQB_LOOP : Fld := ⟨0x70404, 0, 24, .rw, 0⟩
/-! PG_RAMWIN at 0x78000 (chapter 10) -/
def PG_RAMWIN_DATA : Fld := ⟨0x78000, 0, 32, .rw, 0⟩
/-! GLB_ID at 0x0 (chapter 11) -/
def GLB_ID_PART : Fld := ⟨0x0, 0, 16, .ro, 13312⟩
def GLB_ID_STEP : Fld := ⟨0x0, 16, 8, .ro, 176⟩
def GLB_ID_GRADE : Fld := ⟨0x0, 24, 1, .ro, 0⟩
/-! GLB_SERLO at 0x4 (chapter 11) -/
def GLB_SERLO_SERIAL : Fld := ⟨0x4, 0, 32, .ro, 0⟩
/-! GLB_SERHI at 0x8 (chapter 11) -/
def GLB_SERHI_SERIAL : Fld := ⟨0x8, 0, 32, .ro, 0⟩
/-! GLB_STAT at 0xC (chapter 11) -/
def GLB_STAT_BOOT : Fld := ⟨0xC, 0, 3, .ro, 0⟩
def GLB_STAT_SRAMRDY : Fld := ⟨0xC, 3, 1, .ro, 0⟩
def GLB_STAT_EXPERT : Fld := ⟨0xC, 4, 1, .ro, 0⟩
def GLB_STAT_LEGACY : Fld := ⟨0xC, 5, 1, .ro, 0⟩
def GLB_STAT_LEGSTRAP : Fld := ⟨0xC, 6, 1, .ro, 0⟩
def GLB_STAT_FWRUN : Fld := ⟨0xC, 7, 1, .ro, 0⟩
/-! GLB_CHSEL at 0x10 (chapter 11) -/
def GLB_CHSEL_INDEX : Fld := ⟨0x10, 0, 10, .rw, 0⟩
def GLB_CHSEL_UNIT : Fld := ⟨0x10, 16, 4, .rw, 0⟩
def GLB_CHSEL_BCAST : Fld := ⟨0x10, 31, 1, .rw, 0⟩
/-! GLB_ACCERR at 0x14 (chapter 11) -/
def GLB_ACCERR_NOREG : Fld := ⟨0x14, 0, 1, .w1c, 0⟩
def GLB_ACCERR_CHSEL : Fld := ⟨0x14, 1, 1, .w1c, 0⟩
def GLB_ACCERR_PWROFF : Fld := ⟨0x14, 2, 1, .w1c, 0⟩
def GLB_ACCERR_LOCKED : Fld := ⟨0x14, 3, 1, .w1c, 0⟩
def GLB_ACCERR_WINDOW : Fld := ⟨0x14, 4, 1, .w1c, 0⟩
/-! GLB_KCICNT at 0x18 (chapter 11) -/
def GLB_KCICNT_BUSY : Fld := ⟨0x18, 0, 16, .ro, 0⟩
def GLB_KCICNT_CRCERR : Fld := ⟨0x18, 16, 16, .ro, 0⟩
/-! GLB_LEGSTAT at 0x1C (chapter 11) -/
def GLB_LEGSTAT_QDEPTH : Fld := ⟨0x1C, 0, 7, .ro, 0⟩
def GLB_LEGSTAT_DROP : Fld := ⟨0x1C, 7, 1, .w1c, 0⟩
def GLB_LEGSTAT_WRITES : Fld := ⟨0x1C, 16, 16, .ro, 0⟩
/-! MI_SCRUBCFG at 0xB0000 (chapter 12) -/
def MI_SCRUBCFG_MPER : Fld := ⟨0xB0000, 0, 8, .rws, 30⟩
def MI_SCRUBCFG_WPER : Fld := ⟨0xB0000, 8, 8, .rws, 5⟩
/-! MI_SCRUBSTAT at 0xB0004 (chapter 12) -/
def MI_SCRUBSTAT_MPASS : Fld := ⟨0xB0004, 0, 12, .ro, 0⟩
def MI_SCRUBSTAT_WPASS : Fld := ⟨0xB0004, 12, 12, .ro, 0⟩
def MI_SCRUBSTAT_LOGCNT : Fld := ⟨0xB0004, 24, 4, .ro, 0⟩
def MI_SCRUBSTAT_LOST : Fld := ⟨0xB0004, 28, 4, .ro, 0⟩
/-! MI_ECCCNT at 0xB0008 (chapter 12) -/
def MI_ECCCNT_CE : Fld := ⟨0xB0008, 0, 16, .ro, 0⟩
def MI_ECCCNT_UE : Fld := ⟨0xB0008, 16, 16, .ro, 0⟩
/-! MI_ECCLAST at 0xB000C (chapter 12) -/
def MI_ECCLAST_MEM : Fld := ⟨0xB000C, 0, 3, .ro, 0⟩
def MI_ECCLAST_UE : Fld := ⟨0xB000C, 3, 1, .ro, 0⟩
def MI_ECCLAST_MASTER : Fld := ⟨0xB000C, 4, 4, .ro, 0⟩
def MI_ECCLAST_KIND : Fld := ⟨0xB000C, 8, 2, .ro, 0⟩
/-! MI_ECCADDR at 0xB0010 (chapter 12) -/
def MI_ECCADDR_ADDR : Fld := ⟨0xB0010, 0, 32, .ro, 0⟩
/-! MI_SCRUBLOG at 0xB0020 (chapter 12) -/
def MI_SCRUBLOG_WORD : Fld := ⟨0xB0020, 0, 22, .ro, 0⟩
def MI_SCRUBLOG_MEM : Fld := ⟨0xB0020, 22, 3, .ro, 0⟩
def MI_SCRUBLOG_VALID : Fld := ⟨0xB0020, 31, 1, .w1c, 0⟩
/-! MI_VSTAT at 0xB0040 (chapter 12) -/
def MI_VSTAT_CURRENT : Fld := ⟨0xB0040, 0, 3, .ro, 0⟩
def MI_VSTAT_STALE : Fld := ⟨0xB0040, 3, 3, .ro, 0⟩
def MI_VSTAT_LOADERR : Fld := ⟨0xB0040, 6, 1, .ro, 0⟩
def MI_VSTAT_REVOTES : Fld := ⟨0xB0040, 8, 8, .ro, 0⟩
def MI_VSTAT_GENLO : Fld := ⟨0xB0040, 16, 16, .ro, 0⟩
/-! MI_VWDATA at 0xB0044 (chapter 12) -/
def MI_VWDATA_DATA : Fld := ⟨0xB0044, 0, 32, .rw, 0⟩
/-! MI_VWR at 0xB0048 (chapter 12) -/
def MI_VWR_INDEX : Fld := ⟨0xB0048, 0, 4, .wo, 0⟩
def MI_VWR_GO : Fld := ⟨0xB0048, 31, 1, .wo, 0⟩
/-! MI_VOTE at 0xB0080 (chapter 12) -/
def MI_VOTE_VALUE : Fld := ⟨0xB0080, 0, 32, .ro, 0⟩
/-! TL_CFG at 0xA0000 (chapter 13) -/
def TL_CFG_EVENT : Fld := ⟨0xA0000, 0, 4, .rw, 0⟩
def TL_CFG_PRIV : Fld := ⟨0xA0000, 4, 2, .rw, 3⟩
def TL_CFG_CLASS : Fld := ⟨0xA0000, 6, 2, .rw, 0⟩
def TL_CFG_MASTER : Fld := ⟨0xA0000, 8, 12, .rw, 4095⟩
def TL_CFG_EN : Fld := ⟨0xA0000, 31, 1, .rw, 0⟩
/-! TL_BASE at 0xA0004 (chapter 13) -/
def TL_BASE_ADDR : Fld := ⟨0xA0004, 0, 32, .rw, 0⟩
/-! TL_LIMIT at 0xA0008 (chapter 13) -/
def TL_LIMIT_ADDR : Fld := ⟨0xA0008, 0, 32, .rw, 4294967295⟩
/-! TL_STAT at 0xA000C (chapter 13) -/
def TL_STAT_OVF : Fld := ⟨0xA000C, 0, 1, .w1c, 0⟩
/-! TL_UEN at 0xA0010 (chapter 13) -/
def TL_UEN_UEN : Fld := ⟨0xA0010, 0, 32, .rw, 0⟩
/-! TL_GCTL at 0xA0014 (chapter 13) -/
def TL_GCTL_FREEZE : Fld := ⟨0xA0014, 0, 1, .rw, 0⟩
/-! TL_CNTLO at 0xA0100 (chapter 13) -/
def TL_CNTLO_VALUE : Fld := ⟨0xA0100, 0, 32, .rw, 0⟩
/-! TL_CNTHI at 0xA0104 (chapter 13) -/
def TL_CNTHI_VALUE : Fld := ⟨0xA0104, 0, 16, .rw, 0⟩
/-! TM_CLCTL at 0xF0000 (chapter 13) -/
def TM_CLCTL_EN : Fld := ⟨0xF0000, 0, 1, .rw, 1⟩
def TM_CLCTL_ILV : Fld := ⟨0xF0000, 1, 2, .rw, 1⟩
def TM_CLCTL_SNAP : Fld := ⟨0xF0000, 8, 1, .w1s, 0⟩
/-! TM_CLSTAT at 0xF0004 (chapter 13) -/
def TM_CLSTAT_LOCK : Fld := ⟨0xF0004, 0, 1, .ro, 0⟩
def TM_CLSTAT_LOL : Fld := ⟨0xF0004, 1, 1, .w1c, 0⟩
def TM_CLSTAT_SSEQ : Fld := ⟨0xF0004, 8, 8, .ro, 0⟩
def TM_CLSTAT_LOLCNT : Fld := ⟨0xF0004, 16, 16, .ro, 0⟩
/-! TM_CLBIN at 0xF0040 (chapter 13) -/
def TM_CLBIN_COUNT : Fld := ⟨0xF0040, 0, 32, .ro, 0⟩
/-! TM_CLUNC at 0xF0080 (chapter 13) -/
def TM_CLUNC_COUNT : Fld := ⟨0xF0080, 0, 32, .ro, 0⟩
/-! TM_CLRING at 0xF1000 (chapter 13) -/
def TM_CLRING_NU : Fld := ⟨0xF1000, 0, 32, .ro, 0⟩
/-! TU_TBCTL at 0x80000 (chapter 14) -/
def TU_TBCTL_SRC : Fld := ⟨0x80000, 0, 2, .rw, 0⟩
def TU_TBCTL_LANE : Fld := ⟨0x80000, 4, 3, .rw, 0⟩
/-! TU_TBSTAT at 0x80004 (chapter 14) -/
def TU_TBSTAT_VALID : Fld := ⟨0x80004, 0, 1, .ro, 0⟩
def TU_TBSTAT_REFUSED : Fld := ⟨0x80004, 1, 1, .w1c, 0⟩
def TU_TBSTAT_CLAMP : Fld := ⟨0x80004, 2, 1, .w1c, 0⟩
def TU_TBSTAT_STEPPED : Fld := ⟨0x80004, 3, 1, .w1c, 0⟩
def TU_TBSTAT_SRCERR : Fld := ⟨0x80004, 4, 1, .w1c, 0⟩
def TU_TBSTAT_REFCNT : Fld := ⟨0x80004, 16, 16, .ro, 0⟩
/-! TU_TNS at 0x80008 (chapter 14) -/
def TU_TNS_VALUE : Fld := ⟨0x80008, 0, 32, .ro, 0⟩
/-! TU_TSECLO at 0x8000C (chapter 14) -/
def TU_TSECLO_VALUE : Fld := ⟨0x8000C, 0, 32, .ro, 0⟩
/-! TU_THI at 0x80010 (chapter 14) -/
def TU_THI_VALUE : Fld := ⟨0x80010, 0, 32, .ro, 0⟩
/-! TU_RATELO at 0x80014 (chapter 14) -/
def TU_RATELO_VALUE : Fld := ⟨0x80014, 0, 32, .rw, 0⟩
/-! TU_RATEHI at 0x80018 (chapter 14) -/
def TU_RATEHI_VALUE : Fld := ⟨0x80018, 0, 32, .rw, 0⟩
/-! TU_SRVGAIN at 0x8001C (chapter 14) -/
def TU_SRVGAIN_KP : Fld := ⟨0x8001C, 0, 16, .rws, 44⟩
def TU_SRVGAIN_KI : Fld := ⟨0x8001C, 16, 16, .rws, 3⟩
/-! TU_STEPMAX at 0x80020 (chapter 14) -/
def TU_STEPMAX_NS : Fld := ⟨0x80020, 0, 20, .rws, 1000⟩
/-! TU_OFFSET at 0x80024 (chapter 14) -/
def TU_OFFSET_VALUE : Fld := ⟨0x80024, 0, 32, .wo, 0⟩
/-! TU_LASTOFS at 0x80028 (chapter 14) -/
def TU_LASTOFS_VALUE : Fld := ⟨0x80028, 0, 32, .ro, 0⟩
/-! TU_INTEG at 0x8002C (chapter 14) -/
def TU_INTEG_VALUE : Fld := ⟨0x8002C, 0, 32, .ro, 0⟩
/-! TU_PPSCFG at 0x80100 (chapter 14) -/
def TU_PPSCFG_EN : Fld := ⟨0x80100, 0, 1, .rw, 0⟩
def TU_PPSCFG_EDGE : Fld := ⟨0x80100, 1, 1, .rw, 0⟩
def TU_PPSCFG_TB : Fld := ⟨0x80100, 4, 2, .rw, 0⟩
def TU_PPSCFG_COMP : Fld := ⟨0x80100, 16, 16, .rws, 0⟩
/-! TU_PPSOUT at 0x80104 (chapter 14) -/
def TU_PPSOUT_EN : Fld := ⟨0x80104, 0, 1, .rw, 0⟩
def TU_PPSOUT_POL : Fld := ⟨0x80104, 1, 1, .rw, 0⟩
def TU_PPSOUT_TB : Fld := ⟨0x80104, 4, 2, .rw, 0⟩
def TU_PPSOUT_WIDTH : Fld := ⟨0x80104, 8, 8, .rw, 100⟩
/-! TU_FIFOCTL at 0x8010C (chapter 14) -/
def TU_FIFOCTL_SRCEN : Fld := ⟨0x8010C, 0, 6, .rw, 0⟩
def TU_FIFOCTL_TB : Fld := ⟨0x8010C, 8, 2, .rw, 0⟩
def TU_FIFOCTL_SWSTAMP : Fld := ⟨0x8010C, 16, 1, .w1s, 0⟩
/-! TU_FIFOSTAT at 0x80110 (chapter 14) -/
def TU_FIFOSTAT_COUNT : Fld := ⟨0x80110, 0, 5, .ro, 0⟩
def TU_FIFOSTAT_OVF : Fld := ⟨0x80110, 8, 1, .w1c, 0⟩
def TU_FIFOSTAT_LOST : Fld := ⟨0x80110, 16, 16, .ro, 0⟩
/-! TU_FIFOHDR at 0x80114 (chapter 14) -/
def TU_FIFOHDR_SRC : Fld := ⟨0x80114, 0, 4, .ro, 0⟩
def TU_FIFOHDR_CH : Fld := ⟨0x80114, 4, 3, .ro, 0⟩
def TU_FIFOHDR_TB : Fld := ⟨0x80114, 8, 2, .ro, 0⟩
def TU_FIFOHDR_VALID : Fld := ⟨0x80114, 15, 1, .ro, 0⟩
def TU_FIFOHDR_AUX : Fld := ⟨0x80114, 16, 16, .ro, 0⟩
/-! TU_FIFONS at 0x80118 (chapter 14) -/
def TU_FIFONS_VALUE : Fld := ⟨0x80118, 0, 32, .ro, 0⟩
/-! TU_FIFOSECLO at 0x8011C (chapter 14) -/
def TU_FIFOSECLO_VALUE : Fld := ⟨0x8011C, 0, 32, .ro, 0⟩
/-! TU_FIFOHI at 0x80120 (chapter 14) -/
def TU_FIFOHI_VALUE : Fld := ⟨0x80120, 0, 32, .ro, 0⟩
/-! TU_TTCTL at 0x80200 (chapter 14) -/
def TU_TTCTL_EN : Fld := ⟨0x80200, 0, 1, .rws, 0⟩
def TU_TTCTL_ROLE : Fld := ⟨0x80200, 1, 2, .rws, 0⟩
def TU_TTCTL_CALMODE : Fld := ⟨0x80200, 3, 1, .rw, 0⟩
def TU_TTCTL_PER : Fld := ⟨0x80200, 8, 8, .rws, 4⟩
def TU_TTCTL_TB : Fld := ⟨0x80200, 16, 2, .rws, 2⟩
/-! TU_TTCOMP at 0x80204 (chapter 14) -/
def TU_TTCOMP_TXCOMP : Fld := ⟨0x80204, 0, 16, .rws, 0⟩
def TU_TTCOMP_RXCOMP : Fld := ⟨0x80204, 16, 16, .rws, 0⟩
/-! TU_ASYM at 0x80208 (chapter 14) -/
def TU_ASYM_VALUE : Fld := ⟨0x80208, 0, 32, .rws, 0⟩
/-! TU_LDELAY at 0x8020C (chapter 14) -/
def TU_LDELAY_VALUE : Fld := ⟨0x8020C, 0, 32, .ro, 0⟩
/-! TU_LOFS at 0x80210 (chapter 14) -/
def TU_LOFS_VALUE : Fld := ⟨0x80210, 0, 32, .ro, 0⟩
/-! TU_LASYMM at 0x80214 (chapter 14) -/
def TU_LASYMM_VALUE : Fld := ⟨0x80214, 0, 32, .ro, 0⟩
/-! TU_TTCNT at 0x80218 (chapter 14) -/
def TU_TTCNT_EXCH : Fld := ⟨0x80218, 0, 16, .ro, 0⟩
def TU_TTCNT_DISC : Fld := ⟨0x80218, 16, 16, .ro, 0⟩
/-! XC_CTL at 0x90000 (chapter 15) -/
def XC_CTL_ATTEN : Fld := ⟨0x90000, 0, 1, .rws, 1⟩
def XC_CTL_DETACH : Fld := ⟨0x90000, 1, 1, .w1s, 0⟩
def XC_CTL_MAXRATE : Fld := ⟨0x90000, 2, 2, .rws, 3⟩
def XC_CTL_STRICT : Fld := ⟨0x90000, 4, 1, .rws, 0⟩
def XC_CTL_SLEEPEN : Fld := ⟨0x90000, 5, 1, .rws, 1⟩
/-! XC_STAT at 0x90004 (chapter 15) -/
def XC_STAT_STATE : Fld := ⟨0x90004, 0, 3, .ro, 0⟩
def XC_STAT_ROLE : Fld := ⟨0x90004, 4, 2, .ro, 0⟩
def XC_STAT_RATE : Fld := ⟨0x90004, 6, 2, .ro, 0⟩
def XC_STAT_DEGRADED : Fld := ⟨0x90004, 8, 1, .ro, 0⟩
def XC_STAT_ENDPT : Fld := ⟨0x90004, 9, 1, .ro, 0⟩
def XC_STAT_RLOOPS : Fld := ⟨0x90004, 10, 1, .ro, 0⟩
def XC_STAT_TXSLEEP : Fld := ⟨0x90004, 11, 1, .ro, 0⟩
def XC_STAT_RXSLEEP : Fld := ⟨0x90004, 12, 1, .ro, 0⟩
def XC_STAT_LINKLOSS : Fld := ⟨0x90004, 16, 1, .w1c, 0⟩
def XC_STAT_HBLOSS : Fld := ⟨0x90004, 17, 1, .w1c, 0⟩
def XC_STAT_ATTFAIL : Fld := ⟨0x90004, 18, 1, .w1c, 0⟩
def XC_STAT_COMPAT : Fld := ⟨0x90004, 19, 1, .w1c, 0⟩
def XC_STAT_IDCLASH : Fld := ⟨0x90004, 20, 1, .w1c, 0⟩
def XC_STAT_NEWTWIN : Fld := ⟨0x90004, 21, 1, .w1c, 0⟩
def XC_STAT_RATEFB : Fld := ⟨0x90004, 22, 1, .w1c, 0⟩
/-! XC_HB at 0x90008 (chapter 15) -/
def XC_HB_KICK : Fld := ⟨0x90008, 0, 1, .w1s, 0⟩
def XC_HB_ALIVE : Fld := ⟨0x90008, 1, 1, .ro, 0⟩
def XC_HB_AGE : Fld := ⟨0x90008, 8, 8, .ro, 255⟩
/-! XC_FLTCFG at 0x9000C (chapter 15) -/
def XC_FLTCFG_SRC : Fld := ⟨0x9000C, 0, 4, .rws, 15⟩
def XC_FLTCFG_ACT : Fld := ⟨0x9000C, 8, 3, .rws, 4⟩
def XC_FLTCFG_PINEN : Fld := ⟨0x9000C, 12, 1, .rws, 0⟩
/-! XC_FLTSTAT at 0x90010 (chapter 15) -/
def XC_FLTSTAT_RXCAUSE : Fld := ⟨0x90010, 0, 4, .ro, 0⟩
def XC_FLTSTAT_TXCAUSE : Fld := ⟨0x90010, 4, 4, .ro, 0⟩
def XC_FLTSTAT_RXFLT : Fld := ⟨0x90010, 8, 1, .w1c, 0⟩
def XC_FLTSTAT_PINFLT : Fld := ⟨0x90010, 9, 1, .w1c, 0⟩
def XC_FLTSTAT_RXCNT : Fld := ⟨0x90010, 16, 16, .ro, 0⟩
/-! XC_CNT at 0x90014 (chapter 15) -/
def XC_CNT_TAKEOVERS : Fld := ⟨0x90014, 0, 8, .ro, 0⟩
def XC_CNT_DETACHES : Fld := ⟨0x90014, 8, 8, .ro, 0⟩
def XC_CNT_HBLOSSES : Fld := ⟨0x90014, 16, 8, .ro, 0⟩
def XC_CNT_SWAPS : Fld := ⟨0x90014, 24, 8, .ro, 0⟩
/-! XC_TWINSER at 0x90018 (chapter 15) -/
def XC_TWINSER_SERIAL : Fld := ⟨0x90018, 0, 32, .ro, 0⟩
/-! XC_AON at 0x9001C (chapter 15) -/
def XC_AON_DEPOSED : Fld := ⟨0x9001C, 0, 1, .ro, 0⟩
def XC_AON_LOOPSOUT : Fld := ⟨0x9001C, 8, 8, .ro, 0⟩
/-! XC_LANE at 0x90020 (chapter 15) -/
def XC_LANE_PRE : Fld := ⟨0x90020, 0, 3, .rws, 0⟩
def XC_LANE_POST : Fld := ⟨0x90020, 4, 4, .rws, 4⟩
def XC_LANE_AMP : Fld := ⟨0x90020, 8, 2, .rws, 2⟩
def XC_LANE_CTLE : Fld := ⟨0x90020, 12, 4, .rws, 4⟩
def XC_LANE_RXLOCK : Fld := ⟨0x90020, 16, 1, .ro, 0⟩
/-! XC_LERR at 0x90024 (chapter 15) -/
def XC_LERR_CRCERR : Fld := ⟨0x90024, 0, 16, .ro, 0⟩
def XC_LERR_LOCKLOSS : Fld := ⟨0x90024, 16, 16, .ro, 0⟩
/-! SEC_LC at 0xD0000 (chapter 16) -/
def SEC_LC_STATE : Fld := ⟨0xD0000, 0, 3, .ro, 0⟩
def SEC_LC_KEYGEN : Fld := ⟨0xD0000, 3, 1, .ro, 0⟩
def SEC_LC_KEYOK : Fld := ⟨0xD0000, 4, 1, .ro, 0⟩
def SEC_LC_KEYERR : Fld := ⟨0xD0000, 5, 1, .ro, 0⟩
def SEC_LC_CERTOK : Fld := ⟨0xD0000, 6, 1, .ro, 0⟩
def SEC_LC_ROOTSET : Fld := ⟨0xD0000, 7, 1, .ro, 0⟩
def SEC_LC_ZEROERR : Fld := ⟨0xD0000, 8, 1, .ro, 0⟩
def SEC_LC_SHADOWFIX : Fld := ⟨0xD0000, 16, 8, .ro, 0⟩
/-! SEC_BOOT at 0xD0004 (chapter 16) -/
def SEC_BOOT_SLOT : Fld := ⟨0xD0004, 0, 2, .ro, 0⟩
def SEC_BOOT_RUN : Fld := ⟨0xD0004, 2, 2, .ro, 0⟩
def SEC_BOOT_TRIAL : Fld := ⟨0xD0004, 4, 2, .ro, 0⟩
def SEC_BOOT_ARMED : Fld := ⟨0xD0004, 6, 1, .ro, 0⟩
def SEC_BOOT_ROLLBACK : Fld := ⟨0xD0004, 16, 16, .ro, 0⟩
/-! SEC_ATT at 0xD0008 (chapter 16) -/
def SEC_ATT_XMSSNEXT : Fld := ⟨0xD0008, 0, 21, .ro, 0⟩
def SEC_ATT_TOKENS : Fld := ⟨0xD0008, 24, 7, .ro, 0⟩
def SEC_ATT_SIGOK : Fld := ⟨0xD0008, 31, 1, .ro, 0⟩
/-! SEC_RMA at 0xD000C (chapter 16) -/
def SEC_RMA_RMANEXT : Fld := ⟨0xD000C, 0, 21, .ro, 0⟩
/-! SEC_ROOT at 0xD0020 (chapter 16) -/
def SEC_ROOT_ROOT : Fld := ⟨0xD0020, 0, 32, .ro, 0⟩
/-! PW_STAT at 0xC0000 (chapter 17) -/
def PW_STAT_STATE : Fld := ⟨0xC0000, 0, 2, .ro, 1⟩
def PW_STAT_TRANS : Fld := ⟨0xC0000, 2, 1, .ro, 0⟩
def PW_STAT_CMIS : Fld := ⟨0xC0000, 4, 3, .ro, 0⟩
def PW_STAT_TTRIP : Fld := ⟨0xC0000, 8, 1, .ro, 0⟩
def PW_STAT_AVSSET : Fld := ⟨0xC0000, 9, 1, .ro, 0⟩
/-! PW_DREQ0 at 0xC0010 (chapter 17) -/
def PW_DREQ0_LRXA : Fld := ⟨0xC0010, 0, 8, .rw, 0⟩
def PW_DREQ0_LADC : Fld := ⟨0xC0010, 8, 8, .rw, 0⟩
def PW_DREQ0_LRXD : Fld := ⟨0xC0010, 16, 8, .rw, 0⟩
def PW_DREQ0_LTXD : Fld := ⟨0xC0010, 24, 8, .rw, 0⟩
/-! PW_DREQ1 at 0xC0014 (chapter 17) -/
def PW_DREQ1_LDAC : Fld := ⟨0xC0014, 0, 8, .rw, 0⟩
def PW_DREQ1_HRX : Fld := ⟨0xC0014, 8, 16, .rw, 0⟩
def PW_DREQ1_HTXL : Fld := ⟨0xC0014, 24, 8, .rw, 0⟩
/-! PW_DREQ2 at 0xC0018 (chapter 17) -/
def PW_DREQ2_HTXH : Fld := ⟨0xC0018, 0, 8, .rw, 0⟩
def PW_DREQ2_SYS : Fld := ⟨0xC0018, 8, 8, .rw, 137⟩
/-! PW_DON0 at 0xC0020 (chapter 17) -/
def PW_DON0_LRXA : Fld := ⟨0xC0020, 0, 8, .ro, 0⟩
def PW_DON0_LADC : Fld := ⟨0xC0020, 8, 8, .ro, 0⟩
def PW_DON0_LRXD : Fld := ⟨0xC0020, 16, 8, .ro, 0⟩
def PW_DON0_LTXD : Fld := ⟨0xC0020, 24, 8, .ro, 0⟩
/-! PW_DON1 at 0xC0024 (chapter 17) -/
def PW_DON1_LDAC : Fld := ⟨0xC0024, 0, 8, .ro, 0⟩
def PW_DON1_HRX : Fld := ⟨0xC0024, 8, 16, .ro, 0⟩
def PW_DON1_HTXL : Fld := ⟨0xC0024, 24, 8, .ro, 0⟩
/-! PW_DON2 at 0xC0028 (chapter 17) -/
def PW_DON2_HTXH : Fld := ⟨0xC0028, 0, 8, .ro, 0⟩
def PW_DON2_SYS : Fld := ⟨0xC0028, 8, 8, .ro, 137⟩
/-! PW_CLKSTAT at 0xC0030 (chapter 17) -/
def PW_CLKSTAT_H0LOCK : Fld := ⟨0xC0030, 0, 1, .ro, 0⟩
def PW_CLKSTAT_H0FAM : Fld := ⟨0xC0030, 1, 1, .ro, 0⟩
def PW_CLKSTAT_H1LOCK : Fld := ⟨0xC0030, 2, 1, .ro, 0⟩
def PW_CLKSTAT_H1FAM : Fld := ⟨0xC0030, 3, 1, .ro, 0⟩
def PW_CLKSTAT_HP0LOCK : Fld := ⟨0xC0030, 4, 1, .ro, 0⟩
def PW_CLKSTAT_HP1LOCK : Fld := ⟨0xC0030, 5, 1, .ro, 0⟩
def PW_CLKSTAT_CORELOCK : Fld := ⟨0xC0030, 6, 1, .ro, 0⟩
def PW_CLKSTAT_TIMELOCK : Fld := ⟨0xC0030, 7, 1, .ro, 0⟩
def PW_CLKSTAT_XCLOCK : Fld := ⟨0xC0030, 8, 1, .ro, 0⟩
def PW_CLKSTAT_REFOK : Fld := ⟨0xC0030, 9, 1, .ro, 0⟩
def PW_CLKSTAT_REFLOS : Fld := ⟨0xC0030, 10, 1, .w1c, 0⟩
def PW_CLKSTAT_REFLOSCNT : Fld := ⟨0xC0030, 16, 16, .ro, 0⟩
/-! PW_WAKE at 0xC0034 (chapter 17) -/
def PW_WAKE_TWI : Fld := ⟨0xC0034, 0, 1, .rw, 1⟩
def PW_WAKE_SPI : Fld := ⟨0xC0034, 1, 1, .rw, 1⟩
def PW_WAKE_LPM : Fld := ⟨0xC0034, 2, 1, .rw, 1⟩
def PW_WAKE_TMR : Fld := ⟨0xC0034, 3, 1, .rw, 1⟩
def PW_WAKE_LAST : Fld := ⟨0xC0034, 8, 4, .ro, 0⟩
/-! PW_WAKETMR at 0xC0038 (chapter 17) -/
def PW_WAKETMR_SEC : Fld := ⟨0xC0038, 0, 24, .rw, 0⟩
/-! PW_AVS at 0xC003C (chapter 17) -/
def PW_AVS_TARGET : Fld := ⟨0xC003C, 0, 8, .ro, 0⟩
def PW_AVS_DUTY : Fld := ⟨0xC003C, 8, 8, .rw, 0⟩
/-! PW_THERM at 0xC0040 (chapter 17) -/
def PW_THERM_TMAX : Fld := ⟨0xC0040, 0, 8, .ro, 0⟩
def PW_THERM_TRIPSRC : Fld := ⟨0xC0040, 8, 4, .ro, 0⟩
/-! PW_OFFTIME at 0xC0044 (chapter 17) -/
def PW_OFFTIME_SEC : Fld := ⟨0xC0044, 0, 32, .ro, 0⟩

end F

/-- Registers of block GLB. -/
def regsGLB : List RegDesc := [
  ⟨0x0, 1, 4, none, false, .mgmt, [F.GLB_ID_PART, F.GLB_ID_STEP, F.GLB_ID_GRADE]⟩,
  ⟨0x4, 1, 4, none, false, .mgmt, [F.GLB_SERLO_SERIAL]⟩,
  ⟨0x8, 1, 4, none, false, .mgmt, [F.GLB_SERHI_SERIAL]⟩,
  ⟨0xC, 1, 4, none, false, .mgmt, [F.GLB_STAT_BOOT, F.GLB_STAT_SRAMRDY, F.GLB_STAT_EXPERT, F.GLB_STAT_LEGACY, F.GLB_STAT_LEGSTRAP, F.GLB_STAT_FWRUN]⟩,
  ⟨0x10, 1, 4, none, true, .mgmt, [F.GLB_CHSEL_INDEX, F.GLB_CHSEL_UNIT, F.GLB_CHSEL_BCAST]⟩,
  ⟨0x14, 1, 4, none, true, .mgmt, [F.GLB_ACCERR_NOREG, F.GLB_ACCERR_CHSEL, F.GLB_ACCERR_PWROFF, F.GLB_ACCERR_LOCKED, F.GLB_ACCERR_WINDOW]⟩,
  ⟨0x18, 1, 4, none, false, .mgmt, [F.GLB_KCICNT_BUSY, F.GLB_KCICNT_CRCERR]⟩,
  ⟨0x1C, 1, 4, none, false, .mgmt, [F.GLB_LEGSTAT_QDEPTH, F.GLB_LEGSTAT_DROP, F.GLB_LEGSTAT_WRITES]⟩]

/-- Registers of block LN. -/
def regsLN : List RegDesc := [
  ⟨0x10000, 1, 4, some 0, false, .lrxd, [F.LN_CTL_RETRAIN, F.LN_CTL_AUTORT, F.LN_CTL_URXINV]⟩,
  ⟨0x10004, 1, 4, some 0, false, .lrxd, [F.LN_STAT_STEP, F.LN_STAT_TRAINING, F.LN_STAT_SIGDET, F.LN_STAT_BCNLOCK, F.LN_STAT_XLANE, F.LN_STAT_FOREIGN, F.LN_STAT_MISMATCH, F.LN_STAT_NOSIG, F.LN_STAT_TRAINTO, F.LN_STAT_PEERC, F.LN_STAT_FBDONE, F.LN_STAT_FBREF, F.LN_STAT_RTEV, F.LN_STAT_NOAGREE]⟩,
  ⟨0x10008, 1, 4, some 0, false, .lrxd, [F.LN_BRCFG_SRCHTO, F.LN_BRCFG_RTDLY, F.LN_BRCFG_TRNTO, F.LN_BRCFG_ACTMARG]⟩,
  ⟨0x1000C, 1, 4, some 0, false, .lrxd, [F.LN_FEID_PART, F.LN_FEID_LANE, F.LN_FEID_MODE]⟩,
  ⟨0x10010, 1, 4, some 0, false, .lrxd, [F.LN_FEALM_LIVE, F.LN_FEALM_LATCH]⟩,
  ⟨0x10014, 1, 4, some 0, false, .lrxd, [F.LN_RTCNT_RETRAINS, F.LN_RTCNT_SYNCFAIL]⟩,
  ⟨0x10018, 1, 4, some 0, false, .lrxd, [F.LN_PTCTL_LEAD, F.LN_PTCTL_HINTTX, F.LN_PTCTL_HINTRX, F.LN_PTCTL_TELEM, F.LN_PTCTL_HOSTRX]⟩,
  ⟨0x10100, 1, 4, some 0, false, .lrxd, [F.LN_TRCTL_BW, F.LN_TRCTL_FREEZE]⟩,
  ⟨0x10104, 1, 4, some 0, false, .lrxd, [F.LN_TRSTAT_LOCK, F.LN_TRSTAT_LOL, F.LN_TRSTAT_FLIM, F.LN_TRSTAT_LOLCNT]⟩,
  ⟨0x10108, 1, 4, some 0, false, .lrxd, [F.LN_TRFREQ_FREQ]⟩,
  ⟨0x1010C, 1, 4, some 0, false, .lrxd, [F.LN_TRPHASE_PHASE]⟩,
  ⟨0x10110, 1, 4, some 0, false, .lrxd, [F.LN_FFECTL_CURSOR, F.LN_FFECTL_MU, F.LN_FFECTL_FREEZE]⟩,
  ⟨0x10114, 1, 4, some 0, false, .lrxd, [F.LN_TGT_ALPHA]⟩,
  ⟨0x10118, 1, 4, some 0, false, .lrxd, [F.LN_LEVEL_MP3, F.LN_LEVEL_MP1, F.LN_LEVEL_MM1, F.LN_LEVEL_MM3]⟩,
  ⟨0x1011C, 1, 4, some 0, false, .lrxd, [F.LN_SNR_PILOT, F.LN_SNR_FFE]⟩,
  ⟨0x10120, 1, 4, some 0, false, .lrxd, [F.LN_LQF_LQF, F.LN_LQF_VALID, F.LN_LQF_BLOCKS]⟩,
  ⟨0x10124, 1, 4, some 0, false, .lrxd, [F.LN_LATRX_LAT]⟩,
  ⟨0x10128, 1, 4, some 0, false, .ltxd, [F.LN_LATTX_LAT]⟩,
  ⟨0x10200, 48, 4, some 0, false, .lrxd, [F.LN_FFETAP_VAL]⟩]

/-- Registers of block SA. -/
def regsSA : List RegDesc := [
  ⟨0x20000, 1, 4, some 0, false, .ladc, [F.SA_AFE_RANGE, F.SA_AFE_PEAK, F.SA_AFE_AGCEN, F.SA_AFE_AGCTGT]⟩,
  ⟨0x20004, 1, 4, some 0, false, .ladc, [F.SA_VGA_GAIN]⟩,
  ⟨0x20008, 1, 4, some 0, false, .ladc, [F.SA_LCTL_CMTREQ]⟩,
  ⟨0x2000C, 1, 4, some 0, false, .ladc, [F.SA_LSTAT_ALIGNED, F.SA_LSTAT_INV, F.SA_LSTAT_SETTLING, F.SA_LSTAT_OVR, F.SA_LSTAT_HARDOVR, F.SA_LSTAT_CLAMPED, F.SA_LSTAT_AGCLIM]⟩,
  ⟨0x20010, 1, 4, some 0, false, .ladc, [F.SA_OVRCNT_COUNT]⟩,
  ⟨0x20014, 1, 4, some 0, false, .ladc, [F.SA_RECCNT_COUNT]⟩,
  ⟨0x20018, 1, 4, some 0, false, .ladc, [F.SA_HARDCNT_COUNT]⟩,
  ⟨0x2001C, 1, 4, some 0, false, .ladc, [F.SA_CMTCNT_COUNT]⟩,
  ⟨0x20020, 1, 4, some 0, false, .ladc, [F.SA_CLAMPCNT_COUNT]⟩,
  ⟨0x20030, 1, 4, some 0, true, .ladc, [F.SA_TBCTL_MODE, F.SA_TBCTL_TRIG, F.SA_TBCTL_PHASE, F.SA_TBCTL_TRIGPOS, F.SA_TBCTL_REQ]⟩,
  ⟨0x20034, 1, 4, some 0, false, .ladc, [F.SA_TBSTAT_COUNT, F.SA_TBSTAT_DONE, F.SA_TBSTAT_QUEUED, F.SA_TBSTAT_TRIGGERED, F.SA_TBSTAT_INV, F.SA_TBSTAT_OWNER, F.SA_TBSTAT_SEQ]⟩,
  ⟨0x20038, 1, 4, some 0, false, .ladc, [F.SA_TBREL_RELEASE]⟩,
  ⟨0x20040, 1, 4, some 1, false, .ladc, [F.SA_GAIN_STG, F.SA_GAIN_ACT]⟩,
  ⟨0x20044, 1, 4, some 1, false, .ladc, [F.SA_OFFS_STG, F.SA_OFFS_ACT]⟩,
  ⟨0x20048, 1, 4, some 1, false, .ladc, [F.SA_SKEW_STG, F.SA_SKEW_ACT]⟩,
  ⟨0x2004C, 1, 4, some 1, false, .ladc, [F.SA_LASTCMT_BOUNDARY]⟩,
  ⟨0x24000, 4096, 4, some 0, false, .ladc, [F.SA_TBDATA_ENTRY]⟩]

/-- Registers of block HL. -/
def regsHL : List RegDesc := [
  ⟨0x30000, 1, 4, some 2, false, .hrx, [F.HL_CTL_FILL, F.HL_CTL_LOLACT, F.HL_CTL_ADAPT, F.HL_CTL_IDLE]⟩,
  ⟨0x30004, 1, 4, some 2, false, .hrx, [F.HL_STAT_SIGDET, F.HL_STAT_CDRLOCK, F.HL_STAT_TXLOCK, F.HL_STAT_ALIGNED, F.HL_STAT_HTXIDLE, F.HL_STAT_DEFTAB, F.HL_STAT_ADLIM, F.HL_STAT_SLIP, F.HL_STAT_LOSS, F.HL_STAT_RATE]⟩,
  ⟨0x30008, 1, 4, some 2, false, .htx, [F.HL_TXEQ_PRE2, F.HL_TXEQ_PRE1, F.HL_TXEQ_POST1, F.HL_TXEQ_AMP]⟩,
  ⟨0x3000C, 1, 4, some 2, false, .hrx, [F.HL_RXEQ_CTLE, F.HL_RXEQ_VGA, F.HL_RXEQ_DFE1]⟩,
  ⟨0x30010, 1, 4, some 2, false, .hrx, [F.HL_RXBASE_CTLE, F.HL_RXBASE_VGA, F.HL_RXBASE_DFE1]⟩,
  ⟨0x30014, 1, 4, some 2, false, .hrx, [F.HL_ALIGN_PHASE, F.HL_ALIGN_PAD]⟩,
  ⟨0x30018, 1, 4, some 2, false, .hrx, [F.HL_LATTX_LAT]⟩,
  ⟨0x3001C, 1, 4, some 2, false, .hrx, [F.HL_SLIPCNT_SLIPCNT, F.HL_SLIPCNT_LOSSCNT]⟩]

/-- Registers of block TX. -/
def regsTX : List RegDesc := [
  ⟨0x40000, 1, 4, some 0, false, .ltxd, [F.TX_CTL_INV, F.TX_CTL_SQ, F.TX_CTL_CMTREQ]⟩,
  ⟨0x40004, 1, 4, some 0, false, .ltxd, [F.TX_STAT_STATE, F.TX_STAT_SQACT, F.TX_STAT_CLIP]⟩,
  ⟨0x40008, 1, 4, some 0, false, .ltxd, [F.TX_DAC_FS]⟩,
  ⟨0x4000C, 1, 4, some 0, false, .ltxd, [F.TX_LEVEL_V1STG, F.TX_LEVEL_V3STG, F.TX_LEVEL_V1ACT, F.TX_LEVEL_V3ACT]⟩,
  ⟨0x40010, 1, 4, some 0, false, .ltxd, [F.TX_FFECTL_MAIN]⟩,
  ⟨0x40014, 1, 4, some 0, false, .ltxd, [F.TX_CMTCNT_COUNT]⟩,
  ⟨0x40018, 1, 4, some 0, false, .ltxd, [F.TX_CLIPCNT_COUNT]⟩,
  ⟨0x40020, 1, 4, some 0, false, .ltxd, [F.TX_DPDCTL_EN, F.TX_DPDCTL_IDEN, F.TX_DPDCTL_LINMEM, F.TX_DPDCTL_STEP, F.TX_DPDCTL_PERIOD]⟩,
  ⟨0x40024, 1, 4, some 0, false, .ltxd, [F.TX_DPDSTAT_NMSE, F.TX_DPDSTAT_LOCKED, F.TX_DPDSTAT_IDCNT]⟩,
  ⟨0x40040, 9, 4, some 0, false, .ltxd, [F.TX_FFETAP_STG, F.TX_FFETAP_ACT]⟩,
  ⟨0x40080, 5, 4, some 0, false, .ltxd, [F.TX_DPDH1_STG, F.TX_DPDH1_ACT]⟩,
  ⟨0x400A0, 5, 4, some 0, false, .ltxd, [F.TX_DPDH3_STG, F.TX_DPDH3_ACT]⟩,
  ⟨0x40100, 1, 4, some 0, false, .whet, [F.TX_OBSLANE_DELAY, F.TX_OBSLANE_PHASE]⟩,
  ⟨0x40104, 1, 4, none, false, .whet, [F.TX_OBSCTL_INPUT, F.TX_OBSCTL_START]⟩,
  ⟨0x40108, 1, 4, none, false, .whet, [F.TX_OBSSTAT_COUNT, F.TX_OBSSTAT_DONE, F.TX_OBSSTAT_BUSY, F.TX_OBSSTAT_INPUT, F.TX_OBSSTAT_SEQ]⟩,
  ⟨0x48000, 8192, 4, none, false, .whet, [F.TX_OBSBUF_ENTRY]⟩]

/-- Registers of block DEC. -/
def regsDEC : List RegDesc := [
  ⟨0x50000, 1, 4, some 0, false, .lrxd, [F.DEC_CTL_TWT, F.DEC_CTL_MTH, F.DEC_CTL_HSNAP]⟩,
  ⟨0x50004, 1, 4, some 0, false, .lrxd, [F.DEC_STAT_MODE, F.DEC_STAT_HSEQ]⟩,
  ⟨0x50008, 1, 4, some 0, false, .lrxd, [F.DEC_TAINTCNT_COUNT]⟩,
  ⟨0x5000C, 1, 4, some 0, false, .lrxd, [F.DEC_LOWMCNT_COUNT]⟩,
  ⟨0x50010, 1, 4, some 0, false, .lrxd, [F.DEC_ERASCNT_COUNT]⟩,
  ⟨0x50014, 1, 4, some 0, false, .lrxd, [F.DEC_FRMCNT_COUNT]⟩,
  ⟨0x50018, 1, 4, some 0, false, .lrxd, [F.DEC_HFRM_COUNT]⟩,
  ⟨0x50040, 16, 4, some 0, false, .lrxd, [F.DEC_HIST_COUNT]⟩,
  ⟨0x50100, 1, 4, some 0, false, .lrxd, [F.DEC_PCTH_PCTH]⟩,
  ⟨0x50104, 1, 4, some 0, false, .lrxd, [F.DEC_PFALSE_COUNT]⟩,
  ⟨0x50108, 1, 4, some 0, false, .lrxd, [F.DEC_PABORT_COUNT]⟩,
  ⟨0x5010C, 1, 4, some 0, false, .lrxd, [F.DEC_PCRCERR_COUNT]⟩,
  ⟨0x50110, 1, 4, some 0, false, .lrxd, [F.DEC_PRXCNT_COUNT]⟩]

/-- Registers of block OC. -/
def regsOC0 : List RegDesc := [
  ⟨0x60000, 1, 4, some 3, false, .bdac, [F.OC_BCTL_EN, F.OC_BCTL_RANGE, F.OC_BCTL_DITH, F.OC_BCTL_NCO, F.OC_BCTL_SDCOMP, F.OC_BCTL_SDOPEN]⟩,
  ⟨0x60004, 1, 4, some 3, false, .bdac, [F.OC_BHOLD_CODE, F.OC_BHOLD_DAMP]⟩,
  ⟨0x60008, 1, 4, some 3, false, .bdac, [F.OC_BACT_CODE, F.OC_BACT_DAMP]⟩,
  ⟨0x6000C, 1, 4, some 3, false, .bdac, [F.OC_BSTAT_LIVE, F.OC_BSTAT_SETTLE, F.OC_BSTAT_SHUT, F.OC_BSTAT_COMPLNOW, F.OC_BSTAT_OPENNOW, F.OC_BSTAT_COMPL, F.OC_BSTAT_OPEN]⟩,
  ⟨0x60010, 1, 4, none, false, .bdac, [F.OC_STRB_G0SRC, F.OC_STRB_G0NCO, F.OC_STRB_G1SRC, F.OC_STRB_G1NCO, F.OC_STRB_ALL, F.OC_STRB_SW0, F.OC_STRB_SW1]⟩,
  ⟨0x60014, 1, 4, none, false, .bdac, [F.OC_BSUM_LIMIT, F.OC_BSUM_REF, F.OC_BSUM_REFCNT]⟩,
  ⟨0x60018, 1, 4, none, false, .opt, [F.OC_TICK_COUNT]⟩,
  ⟨0x60040, 1, 4, some 4, false, .bdac, [F.OC_NCOCTL_EN, F.OC_NCOCTL_TB, F.OC_NCOCTL_EARM]⟩,
  ⟨0x60044, 1, 4, some 4, false, .bdac, [F.OC_NCOFW_VALUE]⟩,
  ⟨0x60048, 1, 4, some 4, false, .bdac, [F.OC_NCOPH_VALUE]⟩,
  ⟨0x6004C, 1, 4, some 4, false, .bdac, [F.OC_NCOE_VALUE]⟩,
  ⟨0x60050, 1, 4, some 4, false, .bdac, [F.OC_NCOESEC_VALUE]⟩,
  ⟨0x60080, 1, 4, some 5, false, .madc, [F.OC_MACTL_TRIG, F.OC_MACTL_NCO, F.OC_MACTL_LEN, F.OC_MACTL_GO, F.OC_MACTL_CALREQ, F.OC_MACTL_EN]⟩,
  ⟨0x60084, 1, 4, some 5, false, .madc, [F.OC_MAPER_PER]⟩,
  ⟨0x60088, 1, 4, some 5, false, .madc, [F.OC_MASTAT_BUSY, F.OC_MASTAT_CAL, F.OC_MASTAT_INJPEND, F.OC_MASTAT_OVR, F.OC_MASTAT_PASSINC, F.OC_MASTAT_INJREF, F.OC_MASTAT_CALDONE, F.OC_MASTAT_WIDX, F.OC_MASTAT_PASS]⟩,
  ⟨0x6008C, 1, 4, some 5, false, .madc, [F.OC_MACNT_MA_MISSED, F.OC_MACNT_OVRCNT]⟩,
  ⟨0x60090, 1, 4, some 5, false, .madc, [F.OC_MAINJ_CHAN, F.OC_MAINJ_STIME, F.OC_MAINJ_GAIN, F.OC_MAINJ_REQ]⟩,
  ⟨0x60094, 1, 4, some 5, false, .madc, [F.OC_MAINJRES_CODE, F.OC_MAINJRES_OVR, F.OC_MAINJRES_SUSP, F.OC_MAINJRES_DONE, F.OC_MAINJRES_SEQ]⟩,
  ⟨0x60098, 1, 4, none, false, .madc, [F.OC_MACOM_SRC, F.OC_MACOM_NCO, F.OC_MACOM_GO, F.OC_MACOM_PER]⟩,
  ⟨0x600A0, 4, 4, some 5, false, .madc, [F.OC_MACAL_GC, F.OC_MACAL_OFF]⟩,
  ⟨0x600C0, 16, 4, some 5, false, .madc, [F.OC_MASEQ_CHAN, F.OC_MASEQ_STIME, F.OC_MASEQ_GAIN]⟩,
  ⟨0x60100, 1, 4, none, false, .bdac, [F.OC_OSPICTL_RATE0, F.OC_OSPICTL_RATE1, F.OC_OSPICTL_BUSY0, F.OC_OSPICTL_BUSY1, F.OC_OSPICTL_OVF]⟩,
  ⟨0x60104, 1, 4, none, true, .bdac, [F.OC_OSPIHDR_BUS, F.OC_OSPIHDR_TAG]⟩,
  ⟨0x60108, 1, 4, none, true, .bdac, [F.OC_OSPITX_FRAME]⟩]

/-- Registers of block OC. -/
def regsOC1 : List RegDesc := [
  ⟨0x6010C, 1, 4, none, true, .bdac, [F.OC_OSPIRX_DATA, F.OC_OSPIRX_TAG, F.OC_OSPIRX_BUS, F.OC_OSPIRX_LEFT, F.OC_OSPIRX_VALID]⟩,
  ⟨0x61000, 512, 4, some 5, false, .madc, [F.OC_MARING_ENTRY]⟩]

/-- Registers of block PG. -/
def regsPG : List RegDesc := [
  ⟨0x70000, 1, 4, none, false, .mgmt, [F.PG_CTL_START, F.PG_CTL_STOP, F.PG_CTL_SYNCARM, F.PG_CTL_ENTRY]⟩,
  ⟨0x70004, 1, 4, none, false, .mgmt, [F.PG_STAT_STATE, F.PG_STAT_DOMAIN, F.PG_STAT_UNDERRUN, F.PG_STAT_JREPL, F.PG_STAT_MKMERGE, F.PG_STAT_ECCU, F.PG_STAT_BADCFG, F.PG_STAT_ENTRY]⟩,
  ⟨0x70008, 1, 4, none, false, .mgmt, [F.PG_JMP_TARGET, F.PG_JMP_REQ]⟩,
  ⟨0x7000C, 1, 4, none, false, .mgmt, [F.PG_PLAY_COUNT]⟩,
  ⟨0x70010, 1, 4, none, false, .mgmt, [F.PG_UNDCNT_COUNT]⟩,
  ⟨0x70014, 1, 4, none, false, .mgmt, [F.PG_BUILTIN_HOSTPAT, F.PG_BUILTIN_HALF, F.PG_BUILTIN_HI, F.PG_BUILTIN_LO]⟩,
  ⟨0x70018, 1, 4, none, false, .mgmt, [F.PG_SYNCCTL_ROLE, F.PG_SYNCCTL_LAUNCH, F.PG_SYNCCTL_DELAY, F.PG_SYNCCTL_CAL]⟩,
  ⟨0x7001C, 1, 4, none, false, .mgmt, [F.PG_SYNCSTAT_ARRPH, F.PG_SYNCSTAT_SKEWWARN, F.PG_SYNCSTAT_CALDONE, F.PG_SYNCSTAT_RT]⟩,
  ⟨0x70020, 1, 4, none, false, .mgmt, [F.PG_RAMPAGE_PAGE]⟩,
  ⟨0x70030, 1, 4, some 0, false, .mgmt, [F.PG_LOUT_EN, F.PG_LOUT_INV, F.PG_LOUT_DELAY]⟩,
  ⟨0x70034, 1, 4, some 2, false, .mgmt, [F.PG_HOUT_EN, F.PG_HOUT_INV, F.PG_HOUT_DELAY]⟩,
  ⟨0x70040, 1, 4, some 10, false, .mgmt, [F.PG_SEGBASE_START, F.PG_SEGBASE_TYPE, F.PG_SEGBASE_STREAM]⟩,
  ⟨0x70044, 1, 4, some 10, false, .mgmt, [F.PG_SEGLEN_LEN]⟩,
  ⟨0x70048, 1, 4, some 10, false, .mgmt, [F.PG_SEGSTRM_RDY0, F.PG_SEGSTRM_RDY1, F.PG_SEGSTRM_NEXT]⟩,
  ⟨0x70080, 4, 8, none, false, .mgmt, [F.PG_MKCFG_EN, F.PG_MKCFG_REF, F.PG_MKCFG_REFIDX, F.PG_MKCFG_WIDTH, F.PG_MKCFG_ADJ]⟩,
  ⟨0x70084, 4, 8, none, false, .mgmt, [F.PG_MKOFS_OFS]⟩,
  ⟨0x70400, 256, 8, none, false, .mgmt, [F.PG_SEQA_SEG, F.PG_SEQA_MARK, F.PG_SEQA_END, F.PG_SEQA_NEXT]⟩,
  ⟨0x70404, 256, 8, none, false, .mgmt, [F.PG_SEQB_LOOP]⟩,
  ⟨0x78000, 8192, 4, none, false, .mgmt, [F.PG_RAMWIN_DATA]⟩]

/-- Registers of block TU. -/
def regsTU0 : List RegDesc := [
  ⟨0x80000, 1, 4, some 9, false, .time, [F.TU_TBCTL_SRC, F.TU_TBCTL_LANE]⟩,
  ⟨0x80004, 1, 4, some 9, false, .time, [F.TU_TBSTAT_VALID, F.TU_TBSTAT_REFUSED, F.TU_TBSTAT_CLAMP, F.TU_TBSTAT_STEPPED, F.TU_TBSTAT_SRCERR, F.TU_TBSTAT_REFCNT]⟩,
  ⟨0x80008, 1, 4, some 9, false, .time, [F.TU_TNS_VALUE]⟩,
  ⟨0x8000C, 1, 4, some 9, true, .time, [F.TU_TSECLO_VALUE]⟩,
  ⟨0x80010, 1, 4, some 9, true, .time, [F.TU_THI_VALUE]⟩,
  ⟨0x80014, 1, 4, some 9, false, .time, [F.TU_RATELO_VALUE]⟩,
  ⟨0x80018, 1, 4, some 9, false, .time, [F.TU_RATEHI_VALUE]⟩,
  ⟨0x8001C, 1, 4, some 9, false, .time, [F.TU_SRVGAIN_KP, F.TU_SRVGAIN_KI]⟩,
  ⟨0x80020, 1, 4, some 9, false, .time, [F.TU_STEPMAX_NS]⟩,
  ⟨0x80024, 1, 4, some 9, false, .time, [F.TU_OFFSET_VALUE]⟩,
  ⟨0x80028, 1, 4, some 9, false, .time, [F.TU_LASTOFS_VALUE]⟩,
  ⟨0x8002C, 1, 4, some 9, false, .time, [F.TU_INTEG_VALUE]⟩,
  ⟨0x80100, 1, 4, none, false, .time, [F.TU_PPSCFG_EN, F.TU_PPSCFG_EDGE, F.TU_PPSCFG_TB, F.TU_PPSCFG_COMP]⟩,
  ⟨0x80104, 2, 4, none, false, .time, [F.TU_PPSOUT_EN, F.TU_PPSOUT_POL, F.TU_PPSOUT_TB, F.TU_PPSOUT_WIDTH]⟩,
  ⟨0x8010C, 1, 4, none, false, .time, [F.TU_FIFOCTL_SRCEN, F.TU_FIFOCTL_TB, F.TU_FIFOCTL_SWSTAMP]⟩,
  ⟨0x80110, 1, 4, none, false, .time, [F.TU_FIFOSTAT_COUNT, F.TU_FIFOSTAT_OVF, F.TU_FIFOSTAT_LOST]⟩,
  ⟨0x80114, 1, 4, none, false, .time, [F.TU_FIFOHDR_SRC, F.TU_FIFOHDR_CH, F.TU_FIFOHDR_TB, F.TU_FIFOHDR_VALID, F.TU_FIFOHDR_AUX]⟩,
  ⟨0x80118, 1, 4, none, true, .time, [F.TU_FIFONS_VALUE]⟩,
  ⟨0x8011C, 1, 4, none, true, .time, [F.TU_FIFOSECLO_VALUE]⟩,
  ⟨0x80120, 1, 4, none, true, .time, [F.TU_FIFOHI_VALUE]⟩,
  ⟨0x80200, 1, 4, some 0, false, .time, [F.TU_TTCTL_EN, F.TU_TTCTL_ROLE, F.TU_TTCTL_CALMODE, F.TU_TTCTL_PER, F.TU_TTCTL_TB]⟩,
  ⟨0x80204, 1, 4, some 0, false, .time, [F.TU_TTCOMP_TXCOMP, F.TU_TTCOMP_RXCOMP]⟩,
  ⟨0x80208, 1, 4, some 0, false, .time, [F.TU_ASYM_VALUE]⟩,
  ⟨0x8020C, 1, 4, some 0, false, .time, [F.TU_LDELAY_VALUE]⟩]

/-- Registers of block TU. -/
def regsTU1 : List RegDesc := [
  ⟨0x80210, 1, 4, some 0, false, .time, [F.TU_LOFS_VALUE]⟩,
  ⟨0x80214, 1, 4, some 0, false, .time, [F.TU_LASYMM_VALUE]⟩,
  ⟨0x80218, 1, 4, some 0, false, .time, [F.TU_TTCNT_EXCH, F.TU_TTCNT_DISC]⟩]

/-- Registers of block XC. -/
def regsXC : List RegDesc := [
  ⟨0x90000, 1, 4, none, false, .xcut, [F.XC_CTL_ATTEN, F.XC_CTL_DETACH, F.XC_CTL_MAXRATE, F.XC_CTL_STRICT, F.XC_CTL_SLEEPEN]⟩,
  ⟨0x90004, 1, 4, none, false, .xcut, [F.XC_STAT_STATE, F.XC_STAT_ROLE, F.XC_STAT_RATE, F.XC_STAT_DEGRADED, F.XC_STAT_ENDPT, F.XC_STAT_RLOOPS, F.XC_STAT_TXSLEEP, F.XC_STAT_RXSLEEP, F.XC_STAT_LINKLOSS, F.XC_STAT_HBLOSS, F.XC_STAT_ATTFAIL, F.XC_STAT_COMPAT, F.XC_STAT_IDCLASH, F.XC_STAT_NEWTWIN, F.XC_STAT_RATEFB]⟩,
  ⟨0x90008, 1, 4, none, false, .xcut, [F.XC_HB_KICK, F.XC_HB_ALIVE, F.XC_HB_AGE]⟩,
  ⟨0x9000C, 1, 4, none, false, .xcut, [F.XC_FLTCFG_SRC, F.XC_FLTCFG_ACT, F.XC_FLTCFG_PINEN]⟩,
  ⟨0x90010, 1, 4, none, false, .xcut, [F.XC_FLTSTAT_RXCAUSE, F.XC_FLTSTAT_TXCAUSE, F.XC_FLTSTAT_RXFLT, F.XC_FLTSTAT_PINFLT, F.XC_FLTSTAT_RXCNT]⟩,
  ⟨0x90014, 1, 4, none, false, .xcut, [F.XC_CNT_TAKEOVERS, F.XC_CNT_DETACHES, F.XC_CNT_HBLOSSES, F.XC_CNT_SWAPS]⟩,
  ⟨0x90018, 1, 4, none, false, .xcut, [F.XC_TWINSER_SERIAL]⟩,
  ⟨0x9001C, 1, 4, none, false, .aon, [F.XC_AON_DEPOSED, F.XC_AON_LOOPSOUT]⟩,
  ⟨0x90020, 1, 4, some 6, false, .xcut, [F.XC_LANE_PRE, F.XC_LANE_POST, F.XC_LANE_AMP, F.XC_LANE_CTLE, F.XC_LANE_RXLOCK]⟩,
  ⟨0x90024, 1, 4, some 6, false, .xcut, [F.XC_LERR_CRCERR, F.XC_LERR_LOCKLOSS]⟩]

/-- Registers of block TL. -/
def regsTL : List RegDesc := [
  ⟨0xA0000, 1, 4, some 7, false, .mgmt, [F.TL_CFG_EVENT, F.TL_CFG_PRIV, F.TL_CFG_CLASS, F.TL_CFG_MASTER, F.TL_CFG_EN]⟩,
  ⟨0xA0004, 1, 4, some 7, false, .mgmt, [F.TL_BASE_ADDR]⟩,
  ⟨0xA0008, 1, 4, some 7, false, .mgmt, [F.TL_LIMIT_ADDR]⟩,
  ⟨0xA000C, 1, 4, some 7, false, .mgmt, [F.TL_STAT_OVF]⟩,
  ⟨0xA0010, 1, 4, none, false, .mgmt, [F.TL_UEN_UEN]⟩,
  ⟨0xA0014, 1, 4, none, false, .mgmt, [F.TL_GCTL_FREEZE]⟩,
  ⟨0xA0100, 32, 8, none, false, .mgmt, [F.TL_CNTLO_VALUE]⟩,
  ⟨0xA0104, 32, 8, none, true, .mgmt, [F.TL_CNTHI_VALUE]⟩]

/-- Registers of block MI. -/
def regsMI : List RegDesc := [
  ⟨0xB0000, 1, 4, none, false, .mgmt, [F.MI_SCRUBCFG_MPER, F.MI_SCRUBCFG_WPER]⟩,
  ⟨0xB0004, 1, 4, none, false, .mgmt, [F.MI_SCRUBSTAT_MPASS, F.MI_SCRUBSTAT_WPASS, F.MI_SCRUBSTAT_LOGCNT, F.MI_SCRUBSTAT_LOST]⟩,
  ⟨0xB0008, 1, 4, none, false, .mgmt, [F.MI_ECCCNT_CE, F.MI_ECCCNT_UE]⟩,
  ⟨0xB000C, 1, 4, none, false, .mgmt, [F.MI_ECCLAST_MEM, F.MI_ECCLAST_UE, F.MI_ECCLAST_MASTER, F.MI_ECCLAST_KIND]⟩,
  ⟨0xB0010, 1, 4, none, false, .mgmt, [F.MI_ECCADDR_ADDR]⟩,
  ⟨0xB0020, 8, 4, none, false, .mgmt, [F.MI_SCRUBLOG_WORD, F.MI_SCRUBLOG_MEM, F.MI_SCRUBLOG_VALID]⟩,
  ⟨0xB0040, 1, 4, none, false, .aon, [F.MI_VSTAT_CURRENT, F.MI_VSTAT_STALE, F.MI_VSTAT_LOADERR, F.MI_VSTAT_REVOTES, F.MI_VSTAT_GENLO]⟩,
  ⟨0xB0044, 1, 4, none, false, .aon, [F.MI_VWDATA_DATA]⟩,
  ⟨0xB0048, 1, 4, none, false, .aon, [F.MI_VWR_INDEX, F.MI_VWR_GO]⟩,
  ⟨0xB0080, 16, 4, none, false, .aon, [F.MI_VOTE_VALUE]⟩]

/-- Registers of block PW. -/
def regsPW : List RegDesc := [
  ⟨0xC0000, 1, 4, none, false, .aon, [F.PW_STAT_STATE, F.PW_STAT_TRANS, F.PW_STAT_CMIS, F.PW_STAT_TTRIP, F.PW_STAT_AVSSET]⟩,
  ⟨0xC0010, 1, 4, none, false, .aon, [F.PW_DREQ0_LRXA, F.PW_DREQ0_LADC, F.PW_DREQ0_LRXD, F.PW_DREQ0_LTXD]⟩,
  ⟨0xC0014, 1, 4, none, false, .aon, [F.PW_DREQ1_LDAC, F.PW_DREQ1_HRX, F.PW_DREQ1_HTXL]⟩,
  ⟨0xC0018, 1, 4, none, false, .aon, [F.PW_DREQ2_HTXH, F.PW_DREQ2_SYS]⟩,
  ⟨0xC0020, 1, 4, none, false, .aon, [F.PW_DON0_LRXA, F.PW_DON0_LADC, F.PW_DON0_LRXD, F.PW_DON0_LTXD]⟩,
  ⟨0xC0024, 1, 4, none, false, .aon, [F.PW_DON1_LDAC, F.PW_DON1_HRX, F.PW_DON1_HTXL]⟩,
  ⟨0xC0028, 1, 4, none, false, .aon, [F.PW_DON2_HTXH, F.PW_DON2_SYS]⟩,
  ⟨0xC0030, 1, 4, none, false, .aon, [F.PW_CLKSTAT_H0LOCK, F.PW_CLKSTAT_H0FAM, F.PW_CLKSTAT_H1LOCK, F.PW_CLKSTAT_H1FAM, F.PW_CLKSTAT_HP0LOCK, F.PW_CLKSTAT_HP1LOCK, F.PW_CLKSTAT_CORELOCK, F.PW_CLKSTAT_TIMELOCK, F.PW_CLKSTAT_XCLOCK, F.PW_CLKSTAT_REFOK, F.PW_CLKSTAT_REFLOS, F.PW_CLKSTAT_REFLOSCNT]⟩,
  ⟨0xC0034, 1, 4, none, false, .aon, [F.PW_WAKE_TWI, F.PW_WAKE_SPI, F.PW_WAKE_LPM, F.PW_WAKE_TMR, F.PW_WAKE_LAST]⟩,
  ⟨0xC0038, 1, 4, none, false, .aon, [F.PW_WAKETMR_SEC]⟩,
  ⟨0xC003C, 1, 4, none, false, .aon, [F.PW_AVS_TARGET, F.PW_AVS_DUTY]⟩,
  ⟨0xC0040, 1, 4, none, false, .aon, [F.PW_THERM_TMAX, F.PW_THERM_TRIPSRC]⟩,
  ⟨0xC0044, 1, 4, none, false, .aon, [F.PW_OFFTIME_SEC]⟩]

/-- Registers of block SEC. -/
def regsSEC : List RegDesc := [
  ⟨0xD0000, 1, 4, none, false, .sec, [F.SEC_LC_STATE, F.SEC_LC_KEYGEN, F.SEC_LC_KEYOK, F.SEC_LC_KEYERR, F.SEC_LC_CERTOK, F.SEC_LC_ROOTSET, F.SEC_LC_ZEROERR, F.SEC_LC_SHADOWFIX]⟩,
  ⟨0xD0004, 1, 4, none, false, .sec, [F.SEC_BOOT_SLOT, F.SEC_BOOT_RUN, F.SEC_BOOT_TRIAL, F.SEC_BOOT_ARMED, F.SEC_BOOT_ROLLBACK]⟩,
  ⟨0xD0008, 1, 4, none, false, .sec, [F.SEC_ATT_XMSSNEXT, F.SEC_ATT_TOKENS, F.SEC_ATT_SIGOK]⟩,
  ⟨0xD000C, 1, 4, none, false, .sec, [F.SEC_RMA_RMANEXT]⟩,
  ⟨0xD0020, 8, 4, none, false, .sec, [F.SEC_ROOT_ROOT]⟩]

/-- Registers of block TM. -/
def regsTM : List RegDesc := [
  ⟨0xF0000, 1, 4, some 2, false, .htx, [F.TM_CLCTL_EN, F.TM_CLCTL_ILV, F.TM_CLCTL_SNAP]⟩,
  ⟨0xF0004, 1, 4, some 2, false, .htx, [F.TM_CLSTAT_LOCK, F.TM_CLSTAT_LOL, F.TM_CLSTAT_SSEQ, F.TM_CLSTAT_LOLCNT]⟩,
  ⟨0xF0040, 16, 4, some 2, false, .htx, [F.TM_CLBIN_COUNT]⟩,
  ⟨0xF0080, 1, 4, some 2, false, .htx, [F.TM_CLUNC_COUNT]⟩,
  ⟨0xF1000, 512, 4, some 2, false, .htx, [F.TM_CLRING_NU]⟩]

/-- Registers of block WS. -/
def regsWS : List RegDesc := [
  ⟨0x100000, 1, 4, none, false, .whet, [F.WS_CTL_HALTREQ, F.WS_CTL_RUN, F.WS_CTL_RTSWAP]⟩,
  ⟨0x100004, 1, 4, none, false, .whet, [F.WS_STAT_SAT, F.WS_STAT_OVF, F.WS_STAT_RTBAD, F.WS_STAT_PMWP, F.WS_STAT_REPACT, F.WS_STAT_STATE, F.WS_STAT_TASK]⟩,
  ⟨0x100008, 1, 4, none, false, .whet, [F.WS_PC_PC]⟩,
  ⟨0x10000C, 1, 4, none, false, .whet, [F.WS_TRAP_CAUSE, F.WS_TRAP_TASK, F.WS_TRAP_PC]⟩,
  ⟨0x100010, 1, 4, none, false, .whet, [F.WS_LOAD_LOOP, F.WS_LOAD_CAL, F.WS_LOAD_DPD, F.WS_LOAD_SYS]⟩,
  ⟨0x100014, 1, 4, none, false, .whet, [F.WS_RTCUR_SLOT, F.WS_RTCUR_ROUND]⟩,
  ⟨0x100018, 1, 4, none, false, .whet, [F.WS_CALCFG_GAP]⟩,
  ⟨0x10001C, 1, 4, none, false, .whet, [F.WS_CALSTAT_SWEEPMS, F.WS_CALSTAT_SWEEPS]⟩,
  ⟨0x100020, 1, 4, none, false, .whet, [F.WS_LOOPCNT_SKIP, F.WS_LOOPCNT_OVRRUN]⟩,
  ⟨0x100024, 1, 4, none, false, .whet, [F.WS_PMPAGE_PAGE]⟩,
  ⟨0x100028, 1, 4, none, false, .whet, [F.WS_CALSTAT2_THIN]⟩,
  ⟨0x100030, 1, 4, some 0, false, .whet, [F.WS_CALLANE_EN, F.WS_CALLANE_NEXTPH, F.WS_CALLANE_VISITS]⟩,
  ⟨0x101000, 1024, 4, none, false, .whet, [F.WS_RTAB_TASK, F.WS_RTAB_LANE]⟩,
  ⟨0x102000, 1024, 4, none, false, .whet, [F.WS_RTACT_TASK, F.WS_RTACT_LANE]⟩]

/-- The whole register map. -/
def regTable : List RegDesc :=
  regsGLB ++ regsLN ++ regsSA ++ regsHL ++ regsTX ++ regsDEC ++ regsOC0 ++ regsOC1 ++ regsPG ++ regsTU0 ++ regsTU1 ++ regsXC ++ regsTL ++ regsMI ++ regsPW ++ regsSEC ++ regsTM ++ regsWS

end Sys2Proof.Machine
end

