-- ==== Sys2Proof/Machine/State.lean ====
section
/-! DEFINITION. The state of the block as plain data: the field store (every register of the map), the hidden state behind
the registers, the memories, and the queue of waiting commands; the reasons a step can stop; and the state after reset. -/

namespace Sys2Proof.Machine

/-- A canonical sparse store of register fields: keys strictly rising, no entry equal to its field's Reset value. The key
of a field's copy is `ch * 2^26 + address * 32 + lowest bit` (`Fld.key`). -/
abbrev FieldFile := List (Nat × Nat)

/-- Memory bytes at internal bus addresses (R327): addresses strictly rising, no byte equal to 0, which is what an unlisted
address reads as (R300). -/
abbrev Memory := List Host.Cell

/-- The classes of Table 11-8. -/
inductive Cls where
  | q | c | s | d | f
  deriving DecidableEq, Repr

/-- The KCI statuses of Table 11-6. -/
inductive Status where
  | ok | busy | notReady | badParam | denied | unsupported | exhausted | fault
  deriving DecidableEq, Repr

/-- What an accepted command that is not yet complete waits for. -/
inductive Wait where
  /-- nothing: the command executes now -/
  | start
  /-- an activation: bring-up outcomes of the lanes from `first` (R170) -/
  | activate (first : Nat)
  /-- a deactivation: every lane OFF and the domains down (R40) -/
  | deact (lanes : Nat)
  /-- the outcome of the retrained lane (R170) -/
  | retrain (lane : Nat)
  /-- DONE of a capture for LINE.ADC.CAPTURE (R92) -/
  | capture (lane mode phase trig trigpos : Nat)
  /-- DONE of a capture for POT.SNAP (R326) -/
  | snap (lane mode : Nat)
  /-- trim targets not yet reached (LINE.ADC.TRIM.SET), with the commits used -/
  | trim (lane phase gain offs skew used : Nat)
  /-- transmit commit boundaries still to pass (LINE.TX.SET, LINE.TX.FFE.SET, LINE.TX.DPD.SET) -/
  | txCommit (lane : Nat)
  /-- AFE settling (LINE.AFE.SET) -/
  | afe (lane : Nat)
  /-- an injected conversion (OPT.MADC.READ), requested from the converter or still to be -/
  | inject (conv chan stime gain : Nat) (issued : Bool)
  /-- CALDONE of the converters still to calibrate (OPT.MADC.CAL), with MA_MISSED at the start -/
  | madcCal (convs missed : Nat)
  /-- OSPI results still due (OPT.OSPI.XFER), frames the queue had no room for yet, and the results received -/
  | ospi (bus left : Nat) (todo got : List Nat)
  /-- an NCO change that takes effect at the next bias tick (OPT.NCO.SET) -/
  | nco
  /-- a bias strobe (OPT.BIAS.SET) -/
  | strobe (group : Nat)
  /-- a vote-word update (SEC and image commands) -/
  | vote
  /-- a Whetstone halt or restart (SYS.WS.CTL) -/
  | wsHalt
  | wsRestart
  /-- sync calibration (PAT.SYNC.CAL) -/
  | patCal
  /-- twin operations -/
  | twinAttach
  | twinRelay
  | twinSwap
  | twinUpgrade
  | timeStep (tb : Nat)
  | timeOffset (tb : Nat)
  /-- the end of a self-test run (BIST.ABORT) -/
  | bistEnd
  deriving DecidableEq, Repr

/-- An accepted, uncompleted command: its path, opcode, class, acceptance time, the lanes it touches and the halves whose
family it changes (bit masks, R277), and what it waits for. -/
structure Accepted where
  src : Src
  op : Nat
  cls : Cls
  since : Nat
  lanes : Nat
  fam : Nat
  wait : Wait
  deriving DecidableEq, Repr

/-- A CDB command window: busy, CdbStatus success, failure reason, reply LPL, next SEQ, and whether completion was read. -/
structure Cdb where
  cmd : Nat := 0
  busy : Bool := false
  success : Bool := false
  failure : Nat := 0
  reply : List Byte := []
  seq : Nat := 0
  deriving DecidableEq, Repr

/-- A pin entry (R290); unit 0xFF is a register of unit none. -/
structure Pin where
  addr : Nat
  unit : Nat
  index : Nat
  mask : Nat
  value : Nat
  deriving DecidableEq, Repr

/-- An applet slot (Table 11-14): state 0 empty, 1 verified and stopped, 2 running, 3 stopped by fault. `stops` are the
times of the fault stops, `window` the 20 ms window in which the applet has used its 2 ms (R294). -/
structure Applet where
  state : Nat := 0
  stops : List Nat := []
  version : Nat := 0
  digest : List Byte := []
  image : List Byte := []
  checked : Bool := false
  window : Option Nat := none
  restart : Bool := false
  replies : List (List Byte) := []
  deriving DecidableEq, Repr

/-- An image under load over SYS.APPLET.LOAD or SEC.TICKET.LOAD: slot or kind, and the bytes so far. -/
structure Upload where
  slot : Nat := 0
  data : List Byte := []
  deriving DecidableEq, Repr

/-- A data-path selection as APP.SELECT or CMIS carries it (Table 1-10). -/
structure AppReq where
  first : Nat
  mode : Nat
  size : Nat
  lrm : Nat
  outputs : Nat
  pretx : Nat
  prerx : Nat
  deriving DecidableEq, Repr

/-- The refreshed status of a host lane in page 11h: the CMIS data path state, RxOutputStatus (R158), the Application and the first lane of
its data path. -/
structure Page11 where
  dp : Nat := 1
  rxOut : Bool := false
  app : Nat := 0
  first : Nat := 0
  deriving DecidableEq, Repr

/-- The management interface: accepted commands, SPI queues, CDB windows, legacy window, pins, applets, CMIS state. -/
structure Mgmt where
  /-- accepted, uncompleted commands, oldest first -/
  outst : List Accepted := []
  /-- the 8-frame response queue of R264, oldest first -/
  rspq : List (List Byte) := []
  /-- responses that became ready while the queue was full -/
  rsphold : List (List Byte) := []
  reqdrop : Bool := false
  /-- what the SPI port drove back in the last transaction -/
  spiOut : List Byte := []
  /-- the value the last register read of each accessor returned (Whetstone, management core, SPI, mailbox, twin) -/
  busData : Vector Nat 5 := Vector.replicate 5 0
  cdb : Vector Cdb 2 := Vector.replicate 2 {}
  /-- replies the twin's endpoint receives for relayed commands -/
  twinReplies : List (List Byte) := []
  legq : List (Nat × Nat) := []
  /-- legacy registers whose cached value differs from the value read without a write -/
  legCache : List (Nat × Nat) := []
  pins : List Pin := []
  applets : Vector Applet 4 := Vector.replicate 4 {}
  upload : Option Upload := none
  /-- consecutive wrong tokens and the running lockout (AON, R282) -/
  wrongTokens : Nat := 0
  lockout : Bool := false
  /-- a soft reset or OFF-AON entry waits for its response to be read, or for 1 s (R280, R399) -/
  resetDue : Bool := false
  offDue : Bool := false
  /-- SYS.PWR.SET TARGET 0 completed: wake sources are latched from here (R400) -/
  wakeLatched : Nat := 0
  coreFast : Bool := false
  i3cAddr : Option (BitVec 7) := none
  modselHigh : Bool := false
  lpmode : Bool := false
  lowPwrAllowHW : Bool := true
  lowPwrSW : Bool := false
  intL : Bool := false
  /-- the latched module flags and their masks, bytes 8 to 13 and 31 to 36 of page 00h, byte 8's bit 0 first (R259) -/
  modFlags : Nat := 0
  modMasks : Nat := 0
  /-- the module state page 00h reports -/
  page00 : Nat := 0
  /-- page 11h of each own host lane, and page 14h: the SNR of each line lane and its selector (R265, R267) -/
  page11 : Vector Page11 16 := Vector.replicate 16 {}
  page14 : Vector Nat 8 := Vector.replicate 8 0
  diag : Nat := 0
  /-- the bank and page selected on the two-wire bus, and what the device returned in the last transaction -/
  bankSel : Nat := 0
  pageSel : Nat := 0
  twoOut : List Byte := []
  /-- configuration status per lane: 0 undefined, 1 ConfigSuccess, 2 ConfigRejected, 4 ConfigRejectedInvalidDataPath -/
  config : Vector Nat 8 := Vector.replicate 8 0
  appselWait : List AppReq := []
  outDis : Vector Bool 16 := Vector.replicate 16 false
  fixedTarget : Vector Nat 16 := Vector.replicate 16 0
  /-- refreshed CMIS flags: Tx LOS, Tx CDR LOL, Rx CDR LOL, data path state changed per host lane (R142, R267), latched -/
  cmisFlags : List Nat := []
  /-- the masks of those flags -/
  laneMasks : List Nat := []
  /-- TWIN_ID as sampled at RESET_L (R417): 0 solo, 1 A, 2 B; whether the device holds the endpoint (R356) -/
  twinId : Nat := 0
  /-- LEGACY as sampled at RESET_L (R291, R417) -/
  legStrap : Bool := false
  endpt : Bool := false
  deriving DecidableEq, Repr

/-- Where the device stands on the start-up timeline of R297. -/
inductive Phase where
  /-- RESET_L low -/
  | held
  /-- t0 to t1 -/
  | rising
  /-- from t1: AON up, vote words loaded, before the boot ROM serves -/
  | aon
  /-- from t3: the boot ROM answers, image verified, firmware not yet running -/
  | rom
  /-- both slots failed, or no vote copy was valid (R299, R309) -/
  | romFailed
  /-- Karsyn firmware runs -/
  | fw
  /-- OFF-AON (R399) -/
  | off
  deriving DecidableEq, Repr

/-- An armed fallback (R172): first lane, mode and precoding. -/
structure Fallback where
  first : Nat
  mode : Nat
  pretx : Bool
  prerx : Bool
  deriving DecidableEq, Repr

/-- A CMIS data path: lanes `first … first + size - 1`, its application and line rate modes, outputs and precoding, its state
(1 activating, 2 activated, 3 deactivating), and its armed fallback. -/
structure Path where
  first : Nat
  size : Nat
  mode : Nat
  lrm : Nat
  outputs : Nat := 0
  pretx : Bool := false
  prerx : Bool := false
  state : Nat := 1
  /-- activated has been reported with the latencies of this training (R33, R168) -/
  reported : Bool := false
  /-- selected by a fallback, and the fallback that takes the path's place once it is down (R172) -/
  fb : Bool := false
  next : Option Fallback := none
  deriving DecidableEq, Repr

/-- A booked Partner packet: start and end in frames of the lane, TYPE, SEQ and payload. -/
structure Booking where
  start : Nat
  stop : Nat
  type : Nat
  seq : Nat
  payload : List Byte
  deriving DecidableEq, Repr

/-- A HOST packet in the receive FIFO (R181). -/
structure RxPacket where
  type : Nat
  seq : Nat
  payload : List Byte
  frame : Nat
  deriving DecidableEq, Repr

/-- A converted sample after the inversion of R78: its code and the flags OVR, REC and HARD (R73 to R75). -/
structure Conv where
  code : Int
  ovr : Bool
  recov : Bool
  hard : Bool
  deriving DecidableEq, Repr

/-- One FFE output kept for the decoder: value in 1/8 unit, tainted, and whether its own sample was flagged (R57). -/
structure YOut where
  y : Int
  taint : Bool
  own : Bool
  deriving DecidableEq, Repr

/-- A tap-buffer entry (Table 3-6): the sample and the phase that took it; the symbol's number in the data path once there is one; the
decided levels of the symbol and of its two neighbours (for the slope of R86). -/
structure TapEntry where
  n : Option Nat
  conv : Conv
  pilot : Bool
  phase : Nat
  dec : Option Int := none
  prev : Option Int := none
  next : Option Int := none
  deriving DecidableEq, Repr

/-- A tap-buffer capture in progress or held: its settings, whether its trigger has come (`hit`) and has been reported, whether the
trigger entry is placed, and the entries recorded. -/
structure Capture where
  owner : Accessor
  mode : Nat
  trig : Nat
  phase : Nat
  trigpos : Nat
  triggered : Bool
  done : Bool
  hit : Bool := false
  placed : Bool := false
  ents : List TapEntry := []
  deriving DecidableEq, Repr

/-- Firmware's copy of a capture (R92). -/
structure TapCopy where
  seq : Nat
  triggered : Bool
  count : Nat
  inv : Bool
  entries : List Word32
  deriving DecidableEq, Repr

/-- The transmit half of a lane. -/
structure TxLane where
  /-- frames (C) or 1,088-UI blocks (U, pattern) sent since the stream began -/
  frame : Nat := 0
  /-- free-running transmit commit boundaries (R128), and their count at the last commit -/
  freeBlocks : Nat := 0
  lastCmt : Nat := 0
  /-- whether a stream (DATA or PATTERN) is running -/
  streaming : Bool := false
  /-- encoder state of R49 and whitener register of R48 -/
  enc : Nat := 0
  wq : Nat := 0
  /-- P(−1) of the precoder (R43) -/
  pre : Nat := 0
  /-- symbol values of the last frame or block, and the last 32 that entered the FFE (for the observation converter) -/
  syms : List Nat := []
  tail : List Nat := []
  /-- the last symbol values entering the FFE and the last FFE outputs (1/4 LSB), oldest first -/
  hist : List Int := []
  zhist : List Int := []
  /-- DAC codes of the last frame, block or beacon block -/
  dac : List Int := []
  /-- MAIN read at activation, INV read on leaving SQUELCH, FS and EN in force -/
  main : Nat := 2
  inv : Bool := false
  fs : Nat := 30
  dpdEn : Bool := true
  /-- the packet being sent and its raw Partner bits still to go -/
  cur : Option Booking := none
  raw : List Bool := []
  /-- a change of output state that waits for the next boundary: the new TX_STAT.STATE -/
  pend : Option Nat := none
  /-- beacon: next BLKCNT, own SWITCH (0 none), bits of the last block, and its line UI after the next commit boundary -/
  blk : Nat := 0
  switch : Nat := 0
  lastBlock : Nat := 0
  rest : List Bool := []
  /-- own frame 0 has been sent -/
  switched : Bool := false
  calendar : List Booking := []
  seq : Nat := 0
  txpkt : Nat := 0
  txdrop : Nat := 0
  refused : Nat := 0
  /-- firmware packets refused and retried (R185): TYPE and payload -/
  retry : List (Nat × List Byte) := []
  /-- pending hint deltas t0 … t8 (R184) -/
  hint : List Int := []
  /-- the last committed shaping set firmware keeps (R129) -/
  saved : List Nat := []
  deriving DecidableEq, Repr

/-- The receive half of a lane. -/
structure RxLane where
  frame : Nat := 0
  /-- free-running receive commit boundaries (R81), and boundaries since symbol 0 -/
  freeBlocks : Nat := 0
  blocks : Nat := 0
  /-- the free-running count at the last trim commit, commits a calibration visit may still request, and whether its first is still to
  be requested (R86) -/
  lastCmt : Nat := 0
  calLeft : Nat := 0
  calWant : Bool := false
  /-- the last measured skew error of each phase, in 1/256 fs, positive when it samples early (R99) -/
  skew : List Int := List.replicate 64 0
  /-- frame 0 or symbol 0 has been received -/
  started : Bool := false
  /-- samples of the recovering window still to come; whether it is a hard-overdrive window; whether this episode is counted hard
  (R74, R75, R78) -/
  window : Nat := 0
  hardWin : Bool := false
  hardEp : Bool := false
  /-- the phase that takes the next sample (R71), and samples of the next datapath word that are converted already -/
  ph : Nat := 0
  part : List Conv := []
  /-- receive values of LN_TRCTL and DEC_CTL in force since the last boundary (R95, R120) -/
  bw : Nat := 2
  trfrz : Bool := false
  twt : Nat := 2
  mth : Nat := 8
  /-- K and ALPHA read at activation -/
  cursor : Nat := 7
  alpha : Nat := 0
  precode : Bool := false
  /-- lower 12 bits of the 48 tap accumulators (R102) -/
  acc : List Nat := List.replicate 48 0
  /-- datapath words received since frame 0 or symbol 0, and of them adapted (their decisions used by LMS) -/
  words : Nat := 0
  adapted : Nat := 0
  /-- the last samples after inversion, oldest first -/
  xs : List Conv := []
  /-- FFE outputs still needed, oldest first, and the index of the first -/
  ys : List YOut := []
  ybase : Nat := 0
  /-- frames whose sign is decided and whose windows are not all decoded: signs, oldest first -/
  signs : List Int := []
  /-- decided levels of the symbols from the first not adapted on, and the level of the symbol before -/
  dec : List Int := []
  prevLevel : Int := 0
  /-- level means in 2^-16 output units and noise variance in 2^-16 squared output units (R105) -/
  m3 : Int := 0
  mm3 : Int := 0
  m1 : Int := 0
  mm1 : Int := 0
  var : Int := 0
  /-- pilots whose neighbour before them is decided, for the means: output, level, preceding level (R105) -/
  obs : List (YOut × Int × Int) := []
  /-- the timing errors of the last datapath clock (R96), and the integrator's last value inside ±200 ppm (R97) -/
  et : List Int := []
  freqIn : Int := 0
  /-- LOCK has come back; the host lanes return to DATA with the next frame or block (R159) -/
  relock : Bool := false
  /-- decoder: next window (C) or block (U), host bits of the last one and their log-likelihood ratios in 1/4 units -/
  window0 : Nat := 0
  bits : List Bool := []
  llr : List Int := []
  dewq : Nat := 0
  /-- P(j−1) of the receive precoder (R43) -/
  lastSym : Nat := 0
  /-- decoded payload still to be sent back under far-end line loopback (R433) -/
  loopq : List Bool := []
  /-- SNR sums of R115 in 1/64 squared units, and counts -/
  sumP : Nat := 0
  cntP : Nat := 0
  sumF : Nat := 0
  cntF : Nat := 0
  lowBlocks : Nat := 0
  goodBlocks : Nat := 0
  /-- live margin bins and boundaries since the last snapshot (R117, R118) -/
  bins : List Nat := List.replicate 16 0
  hfrm : Nat := 0
  snapped : Bool := false
  /-- the last 64 hard raw bits (none for an erasure) and the soft values of the reception in progress (R180) -/
  corr : List (Option Bool) := []
  soft : Option (List Int) := none
  fifo : List RxPacket := []
  rxovf : Nat := 0
  badtype : Nat := 0
  /-- far-end CAP, beacon identity and beacon reception state (R163 to R166) -/
  farCap : List Byte := []
  feFwver : Nat := 0
  feDevid : Nat := 0
  lastBlk : Option Nat := none
  runValid : Nat := 0
  runMatch : Nat := 0
  farSwitch : Nat := 0
  farReady : Bool := false
  /-- converged tap sets per line rate mode (R104) -/
  taps : Vector (List Nat) 4 := Vector.replicate 4 []
  /-- tap buffer -/
  tbq : List Accessor := []
  tb : Option Capture := none
  copy : Option TapCopy := none
  deriving DecidableEq, Repr

/-- One line lane: bring-up state and the two halves. -/
structure Lane where
  /-- a data path is active on the lane (R432) -/
  active : Bool := false
  /-- firmware has staged this activation's restoring commits (R432) -/
  prepared : Bool := false
  outcome : Option Nat := none
  /-- HEARD reached in this bring-up; ACTIVE reached in this data path -/
  heard : Bool := false
  wasActive : Bool := false
  lastLrm : Nat := 0
  /-- SRCHTO and TRNTO running; when the bring-up started -/
  srch : Bool := false
  trn : Bool := false
  since : Nat := 0
  lolTimer : Bool := false
  capSent : Bool := false
  /-- last committed trims firmware keeps (R84): gain, offset, skew of phases 0 to 63 -/
  trims : List (Nat × Nat × Nat) := []
  /-- alarm bits this lane raises over the Partner channel, and those last presented -/
  alarm : Nat := 0
  alarmSent : Nat := 0
  tx : TxLane := {}
  rx : RxLane := {}
  deriving DecidableEq, Repr

/-- A timestamp: SEC, NS, FRAC. -/
structure Stamp where
  sec : Nat := 0
  ns : Nat := 0
  frac : Nat := 0
  deriving DecidableEq, Repr

/-- One host lane: transmit state (Table 6-5), state the pads were measured in, and the Colander's live counters. -/
structure HostLane where
  state : Nat := 0
  realign : Bool := false
  /-- unlocked CDR during a data path: the rotator holds (R155) -/
  lost : Bool := false
  /-- Colander: consecutive matched and missed markers, live bins 0 to 15 and UNC, ring write index -/
  mkGood : Nat := 0
  mkBad : Nat := 0
  live : List Nat := List.replicate 17 0
  ringAt : Nat := 0
  /-- firmware has asked for a snapshot, its 64-bit totals, and the totals at the last TALLY record -/
  snap : Bool := false
  totals : List Nat := List.replicate 17 0
  /-- the TB3 time of the cache entry's refresh (R321) -/
  time : Stamp := {}
  prev : List Nat := List.replicate 17 0
  /-- in IDLE because LOCK cleared with LOLACT = 1 (R159) -/
  lolIdle : Bool := false
  /-- CMIS pre-cursor and post-cursor codes in force (R146) -/
  preCode : Nat := 0
  postCode : Nat := 0
  /-- the board-table row in use (R148), empty when none has been taken -/
  row : List Byte := []
  /-- what the receiver started from (R147, R149): CTLE, VGA and DFE1 of the base, and whether it adapts -/
  base : List Nat := [6, 16, 0]
  adapting : Bool := true
  /-- the transmitter: PRBS31Q register of FILL, decoded bits not yet paired, the last symbols sent, the last levels in the FIR
  (oldest first), and the FIR outputs of the last symbols in 1/384 mV (R146, R158) -/
  fill : Nat := 2 ^ 31 - 1
  bits : List Bool := []
  out : List Nat := []
  hist : List Int := []
  wave : List Int := []
  deriving DecidableEq, Repr

/-- One Whetstone register bank (R198): PC, address registers with base, length and modifier, accumulator halves (40-bit,
signed), integer registers, operand latches, status, REP state, return addresses, and the task's readiness and events. -/
structure Bank where
  pc : Nat := 0
  a : Vector Nat 8 := Vector.replicate 8 0
  b : Vector Nat 8 := Vector.replicate 8 0
  l : Vector Nat 8 := Vector.replicate 8 0
  m : Vector Nat 8 := Vector.replicate 8 0
  ac : Vector Int 4 := Vector.replicate 4 0
  r : Vector Nat 8 := Vector.replicate 8 0
  xl : Nat × Nat := (0, 0)
  yl : Nat × Nat := (0, 0)
  z : Bool := false
  n : Bool := false
  rep : Nat := 0
  ret : List Nat := []
  ready : Bool := false
  waiting : Option WsWait := none
  seen : List WsEvent := []
  deriving DecidableEq, Repr

/-- One observation entry (R136): the symbol's number n_j in the lane's stream, whether it is a pilot, the sixteen recorded symbols, the
sampling instant in 1/64 UI, and once sampled the code and over-range. -/
structure ObsEntry where
  n : Nat
  pilot : Bool
  syms : Word32
  instant : Int
  code : Int := 0
  ovr : Bool := false
  deriving DecidableEq, Repr

/-- The observation slice under way or last taken: its input, DELAY and PHASE as read at the start, the next symbol to sample, and the
entries. -/
structure ObsRun where
  lane : Nat := 0
  delay : Nat := 0
  phase : Nat := 0
  next : Nat := 0
  ents : List ObsEntry := []
  deriving DecidableEq, Repr

/-- A DPD identification pass (R138): its lane, the slices taken, how many of them search the delay (and sixteen more the phase), the best
delay and phase so far with their figures, the samples kept, and TX_CMTCNT before them. -/
structure DpdPass where
  lane : Nat
  slice : Nat := 0
  coarse : Option Nat := none
  delay : Option (Int × Rat) := none
  gain : Option (Int × Rat) := none
  kept : List ObsEntry := []
  cnt : Nat := 0
  deriving DecidableEq, Repr

/-- A calibration visit in progress (R202): lane, phase, its start, and whether the capture has completed. -/
structure Visit where
  lane : Fin 8
  phase : Nat
  since : Nat
  void : Bool := false
  deriving DecidableEq, Repr

/-- A posted register write (R196), with the task and the address of the WRREG that posted it. -/
structure Posted where
  addr : Nat
  data : Nat
  task : Nat
  pc : Nat
  deriving DecidableEq, Repr

/-- The Whetstone behind its registers. -/
structure Ws where
  banks : Vector Bank 5 := Vector.replicate 5 {}
  /-- posted register writes, oldest first (R196) -/
  posted : List Posted := []
  /-- the task the present slot's switch gives the core to once the REP under way has ended (R193) -/
  next : Option Nat := none
  /-- lane whose LOOP or RLOOP execution is unfinished, with its kind -/
  running : Option (TaskKind × Nat) := none
  /-- overrunning executions (R200) -/
  overran : List (TaskKind × Nat) := []
  /-- slot 0 of the present round has not started; the halted task; loop executions due during a halt (R206) -/
  fresh : Bool := false
  halted : Nat := 0
  overdue : Nat := 0
  /-- lanes whose loops this core runs for the twin (R366) -/
  remote : Nat := 0
  /-- times of recent traps (R208), a restart that is due, and a restart in progress -/
  traps : List Nat := []
  restartDue : Bool := false
  restarting : Bool := false
  /-- a trap whose EVENT record firmware still has to write -/
  trapDue : Bool := false
  visit : Option Visit := none
  lastVisit : Option Nat := none
  turn : Nat := 0
  sweepVisits : Nat := 0
  sweepStart : Nat := 0
  /-- the observation slice, the DPD pass in progress, and when each lane's last pass started (R136, R138, R203) -/
  obs : ObsRun := {}
  dpd : Option DpdPass := none
  dpdLast : Vector (Option Nat) 8 := Vector.replicate 8 none
  /-- slots used by LOOP and RLOOP, CAL, DPD and SYS, and rounds since WS_LOAD was last set -/
  used : Vector Nat 4 := Vector.replicate 4 0
  rounds : Nat := 0
  /-- firmware's verified copy of the core's program is loaded (R206) -/
  loaded : Bool := false
  deriving DecidableEq, Repr

/-- The configuration of a lane's optics loop (Table 9-16). -/
structure LoopCfg where
  auto : Bool := false
  mode : Nat := 1
  lch : Nat
  lmon : Nat
  mch : Nat
  mmon : Nat
  nco : Nat
  ramp : Nat := 1
  nint : Nat := 8
  bstep : Nat := 1
  setpt : Nat := 0
  ilim : Nat := 0
  kp : Nat := 0
  ki : Nat := 0
  kb : Nat := 0
  mcode : Nat := 0
  deriving DecidableEq, Repr

/-- A lane's optics loop (R235, R236). `acc` is in 1/256 code; `a1`, `a2` are sums of code × sine in 2^−30. -/
structure Loop where
  cfg : LoopCfg
  state : Nat := 0
  fcause : Nat := 0
  lcode : Nat := 0
  acc : Int := 0
  a1 : Int := 0
  a2 : Int := 0
  nm : Nat := 0
  rounds : Nat := 0
  holds : Nat := 0
  monl : Nat := 0
  lastA1 : Int := 0
  lastA2 : Int := 0
  atLimit : Nat := 0
  overRounds : Nat := 0
  refused : Nat := 0
  prior : Nat := 2
  /-- turned on by firmware or a command; OFF only while CMIS disables an output (R237) -/
  want : Bool := false
  deriving DecidableEq, Repr

/-- One monitor converter behind its registers (R225 to R231). Instants are in 1/8 bias tick. -/
structure Madc where
  /-- latched sequence of the pass in progress: channel, sampling code, gain -/
  seq : List (Nat × Nat × Nat) := []
  /-- entries converted in this pass -/
  done : Nat := 0
  /-- start of the sampling in progress -/
  start : Nat := 0
  /-- an injected conversion is the one in progress -/
  inj : Bool := false
  /-- channel, sampling code and gain of the injected conversion that was accepted last (R228) -/
  inject : Nat × Nat × Nat := (0, 0, 0)
  /-- a self-calibration has completed since MADC powered up (R231) -/
  calibrated : Bool := false
  /-- hold instant of the last over-ranged entry -/
  ovrHold : Option Nat := none
  /-- calibration waits for the next boundary -/
  calWait : Bool := false
  /-- ticks since the last timer trigger -/
  timer : Nat := 0
  deriving DecidableEq, Repr

/-- An OSPI frame in a queue (R233): accessor, tag and frame. -/
structure OspiFrame where
  acc : Accessor
  /-- queued by firmware for OPT.OSPI.XFER -/
  own : Bool
  tag : Nat
  frame : Nat
  deriving DecidableEq, Repr

/-- An OSPI result in an accessor's FIFO. -/
structure OspiResult where
  data : Nat
  tag : Nat
  bus : Nat
  deriving DecidableEq, Repr

/-- The optics block behind its registers. -/
structure Optics where
  /-- the full bias-tick count and the phases θ of the last tick -/
  tick : Nat := 0
  theta : Vector Nat 8 := Vector.replicate 8 0
  /-- output codes of the bias channels at the last tick -/
  iout : Vector Nat 16 := Vector.replicate 16 0
  /-- passes that have ended since the last tick (R229), NCOs that ticked at the last tick (R223), and whether a SYNC_IN edge
  acted at it -/
  passEnd : Vector Bool 2 := Vector.replicate 2 false
  nco : Vector Bool 8 := Vector.replicate 8 false
  syncNow : Bool := false
  /-- ticks until each SYNC_IN edge under way acts -/
  sync : List Nat := []
  comTimer : Nat := 0
  madc : Vector Madc 2 := Vector.replicate 2 {}
  ospiq : Vector (List OspiFrame) 2 := Vector.replicate 2 []
  ospir : List (Accessor × OspiResult) := []
  /-- what the device drove on OSPIn_SDIO in the last frame, clock by clock with CS_L low; none where it had released it (R232) -/
  ospiOut : Vector (List (Option Bool)) 2 := Vector.replicate 2 []
  loops : Vector Loop 8
  /-- codes of TS0 to TS3 as firmware last read them, and their sum at the last calibration (R231) -/
  temps : Vector (Option Nat) 4 := Vector.replicate 4 none
  /-- codes of the rails (channels 17 to 23) as firmware last read them (Table 13-3) -/
  rails : Vector Nat 7 := Vector.replicate 7 0
  /-- the highest of them at the latest telemetry refresh, in 1/16 degree + 800 (R182) -/
  dieTemp : Nat := 0
  calTemp : Option Nat := none
  /-- starts of the previous and the present Whetstone round, in 1/8 tick (R235) -/
  round0 : Nat := 0
  round1 : Nat := 0
  deriving DecidableEq, Repr

/-- A lane's cached telemetry (R321). -/
structure TelLane where
  since : Nat := 0
  /-- the TB3 time of the refresh (R321) -/
  time : Stamp := {}
  stale : Bool := true
  lqf : Nat := 0
  valid : Bool := false
  snrp : Nat := 0
  snrf : Nat := 0
  lock : Bool := false
  level : Nat := 0
  taps : List Nat := []
  bins : List Nat := List.replicate 16 0
  hfrm : Nat := 0
  hseq : Nat := 0
  snap : Bool := false
  /-- counters at the last TALLY record: taint, low margin, over-range, LOL -/
  prev : List Nat := List.replicate 4 0
  deriving DecidableEq, Repr

/-- The Tally counters (48 bits) and the accessors' high-half latches (R329). -/
structure Tally where
  count : Vector Nat 32 := Vector.replicate 32 0
  latch : Vector (Vector Nat 32) 5 := Vector.replicate 5 (Vector.replicate 32 0)
  deriving DecidableEq, Repr

/-- A Stockpot record (Table 12-6). -/
structure Record where
  type : Nat
  flags : Nat
  src : Nat
  seq : Nat
  tsec : Nat
  tns : Nat
  payload : List Byte
  deriving DecidableEq, Repr

/-- Events counted instead of written (R318): CODE, SRC, exact count, first and last timestamps. -/
structure Coalesced where
  code : Nat
  src : Nat
  count : Nat
  first : Nat × Nat
  last : Nat × Nat
  deriving DecidableEq, Repr

/-- An export session (R320): mode, next SEQ or page, last SEQ at open, next CHUNK number, and the chunk being resent. -/
structure Session where
  mode : Nat
  next : Nat
  last : Nat
  chunk : Nat
  again : Option (List Byte)
  /-- bytes of the record (mode 0) already exported -/
  off : Nat := 0
  deriving DecidableEq, Repr

/-- A written flash block: the TB3 second of its last rewrite, and the off time added to its age (R314, R402). -/
structure Block where
  id : Nat
  written : Nat
  off : Nat := 0
  deriving DecidableEq, Repr

/-- The Stockpot. The log, CONF, images, blocks and SEQ live in flash; the rest in management SRAM. -/
structure Pot where
  mounted : Bool := false
  /-- records programmed in LOG, and records buffered in SRAM, oldest first -/
  log : List Record := []
  buf : List Record := []
  /-- current CONF records (SRC is the key), the previous version of each, and a record written in parts -/
  conf : List Record := []
  prior : List Record := []
  parts : Option (Nat × List Byte) := none
  nextSeq : Nat := 0
  /-- the event bucket of R318, in time-unit ticks of credit, and when it was last filled -/
  credit : Nat := 5000 * 1562500
  creditAt : Nat := 0
  folded : List Coalesced := []
  coalesced : Nat := 0
  dropped : Nat := 0
  session : Option Session := none
  spares : Nat := 0
  retired : Nat := 0
  logCap : Nat := 106496
  /-- the SEQs of LOG records on pages that LDPC cannot correct (R313) -/
  unread : List Nat := []
  blocks : List Block := []
  /-- PW_OFFTIME at the previous wake (R402) -/
  offSeen : Nat := 0
  /-- scrubber positions: management SRAM, pattern RAM, program, X, Y memory (R305) -/
  scrub : Vector Nat 5 := Vector.replicate 5 0
  deriving DecidableEq, Repr

/-- What follows the last step of a vote-word update (R310): nothing, a response, a response and a soft reset, the effects of a
life-cycle transition, or a signature (for the twin when there is no source). -/
inductive VoteThen where
  | nothing
  | respond (src : Src) (op : Nat)
  | reset (src : Src) (op : Nat)
  | advance (src : Src) (target : Nat)
  | sign (src : Option Src) (nonce : List Byte)
  | role
  deriving DecidableEq, Repr

/-- A vote-word update (R310): new values by index, the copy being programmed (0 to 2), failures on it, the leaf a signature
uses, and what follows. -/
structure VoteJob where
  changes : List (Nat × Nat)
  stage : Nat := 0
  fails : Nat := 0
  leaf : Nat := 0
  after : VoteThen := .nothing
  deriving DecidableEq, Repr

/-- One persistent vote copy: the GEN and words of its newest page, and whether that page checks (R309). -/
structure VoteCopy where
  gen : Nat
  words : List Nat
  valid : Bool := true
  deriving DecidableEq, Repr

/-- The vote words: three flop copies of 16 words, three persistent copies, and the updates under way. -/
structure Vote where
  flops : Vector (List Nat) 3
  copies : Vector VoteCopy 3
  gen : Nat := 0
  jobs : List VoteJob := []
  deriving DecidableEq, Repr

/-- An image in a firmware slot: whether it verifies, and its header fields (Table 16-3). -/
structure Image where
  good : Bool := false
  svn : Nat := 0
  version : Nat := 0
  xproto : Nat := 0
  xmin : Nat := 0
  digest : List Byte := []
  deriving DecidableEq, Repr

/-- Security state: fuses and key store (one-time programmable), firmware slots (flash), and the attestation unit. -/
structure Sec where
  lc : Nat
  serial : Nat
  grade : Nat
  avsTarget : Nat
  /-- SK_SEED and SK_PRF (64 bytes), then PUB_SEED and the device public key, and the tree nodes of level 10 (R369) -/
  key : List Byte
  pub : List Byte
  nodes : List Byte
  keyOk : Bool
  tokenKey : List Byte
  cert : List Byte
  root : List Byte
  slotA : Image
  slotB : Image
  /-- bytes of the image being downloaded (R378) and the slot it goes to -/
  download : Option (Nat × List Byte) := none
  running : Image := {}
  /-- the slot the boot ROM chose at this boot: 1 A, 2 B, 0 none -/
  chosen : Nat := 0
  /-- the signed object of R381; empty when none is held -/
  signed : List Byte := []
  challenge : List Byte := []
  /-- a valid RMA ticket has been loaded (R382) -/
  rmaOk : Bool := false
  /-- entropy bytes drawn so far -/
  entropyAt : Nat := 0
  /-- TB3 second at which the next token is due; none when the bucket is full (R383) -/
  nextDue : Option Nat := none
  /-- the object being loaded by SEC.TICKET.LOAD; its slot is the KIND -/
  ticket : Option Upload := none
  deriving DecidableEq, Repr

/-- Power sequencing behind the PW registers: domains waking and going down (bit masks over the 80 domains, in PW_DON
order), and the ModulePwrUp and ModulePwrDn progress. -/
structure Power where
  waking : Nat := 0
  downing : Nat := 0
  /-- 0 none, 1 waiting for WHET, BDAC (and XCUT), 2 awake and waiting for the Whetstone -/
  upStep : Nat := 0
  /-- steps of R29: 0 none, 1 accepted commands complete, 2 data paths stop, 3 domains go down -/
  downStep : Nat := 0
  /-- how the boot under way came about: 0 RESET_L, 1 a wake from OFF-AON, 2 a soft reset -/
  boot : Nat := 0
  /-- woken by the timer: re-enter OFF-AON after the refresh (R401) -/
  timerWake : Bool := false
  deriving DecidableEq, Repr

/-- A segment's fields and its entry's fields as the play in progress read them at its beginning (R245). -/
structure Play where
  entry : Nat := 0
  type : Nat := 0
  start : Nat := 0
  len : Nat := 16
  /-- the streaming half played; none for a segment without STREAM -/
  half : Option Nat := none
  seg : Nat := 0
  loop : Nat := 0
  next : Nat := 0
  mark : Nat := 0
  stop : Bool := false
  deriving DecidableEq, Repr

/-- The state of one built-in pattern generator (R242): shift register, and position in the period of SSPRQ or the square
wave. -/
structure Gen where
  lfsr : Nat := 0
  at_ : Nat := 0
  deriving DecidableEq, Repr

/-- The pattern generator behind its registers. -/
structure Pg where
  play : Play := {}
  /-- granules of the play in progress already started -/
  gran : Nat := 0
  /-- a posted jump and its target: 2 not yet sampled, otherwise the plays that still end before the one it takes effect at -/
  jump : Option (Nat × Nat) := none
  stopReq : Bool := false
  /-- the idle play of a stall is in progress (R251) -/
  idle : Bool := false
  /-- the generators by TYPE, the idle segment's, and each host lane's own (Table 10-1) -/
  gens : Vector Gen 8 := Vector.replicate 8 {}
  idleGen : Gen := {}
  hostGens : Vector Gen 16 := Vector.replicate 16 {}
  /-- the symbols each host output sent for the last granule, and those its DELAY still holds back (R241) -/
  hostSyms : Vector (List Nat) 16 := Vector.replicate 16 []
  hostWait : Vector (List Nat) 16 := Vector.replicate 16 []
  /-- the last symbols of the stream, oldest first, and the number of symbols generated -/
  recent : List Nat := []
  pos : Nat := 0
  /-- outputs' EN, INV and DELAY as read when the stream started: line lanes, host lanes -/
  lout : Vector (Bool × Bool × Nat) 8 := Vector.replicate 8 (true, false, 0)
  hout : Vector (Bool × Bool × Nat) 16 := Vector.replicate 16 (true, false, 0)
  /-- marker outputs that are high, the marker pulses that are due, the stream symbol each marks, and the stream symbol at which each
  marker falls (R252) -/
  high : Vector Bool 4 := Vector.replicate 4 false
  due : Vector Bool 4 := Vector.replicate 4 false
  mkSym : Vector Nat 4 := Vector.replicate 4 0
  mkEnd : Vector Nat 4 := Vector.replicate 4 0
  /-- refill events raised, per segment and half (R250) -/
  refill : List (Nat × Nat) := []
  /-- MEM self-tests that have left their last pattern in the RAM (R410); the bytes listed in memory are kept relative to it -/
  march : Nat := 0
  /-- SYNC_OUT edges launched, and of the calibration the edges still due and the round trips measured -/
  edges : Nat := 0
  calLeft : Nat := 0
  trips : List Nat := []
  deriving DecidableEq, Repr

/-- A pending set or step of a time base (R336): set to an absolute time, or add a signed amount in 2^-16 ns. -/
inductive TbMove where
  | set (sec ns frac : Nat)
  | add (delta : Int)
  deriving DecidableEq, Repr

/-- A submitted offset (R337): source, value in 2^-16 ps, the number of steps made when its stamps were taken, and the
command that waits for its result. -/
structure Offset where
  source : Nat
  theta : Int
  epoch : Nat
  src : Option Src := none
  deriving DecidableEq, Repr

/-- One time base. `sub` is the time within the second in units of 2^-48 / 25 ns, so that 0.64 ns is exact (R333). -/
structure Tb where
  sec : Nat := 0
  sub : Nat := 0
  rate : Int := 0
  stage : Vector Nat 5 := Vector.replicate 5 0
  /-- accepted offsets not yet applied, oldest first -/
  offs : List Offset := []
  /-- accepted sets and steps not yet applied, oldest first -/
  moves : List (TbMove × Src) := []
  steps : Nat := 0
  /-- when an offset was last refused (R339) -/
  lastRef : Option Nat := none
  /-- the proportional path's F in 2^-16 ppm -/
  f : Int := 0
  /-- the last tick passed NS 0; when an offset was last applied or refused -/
  passed : Bool := false
  applied : Option Nat := none
  deriving DecidableEq, Repr

/-- A FIFO entry (R343). -/
structure FifoEntry where
  src : Nat := 0
  ch : Nat := 0
  tb : Nat := 0
  aux : Nat := 0
  time : Stamp := {}
  epoch : Nat := 0
  deriving DecidableEq, Repr

/-- A marked-cycle stamp held by firmware: P and the time in 2^-16 ns, with the number of steps made before it. -/
structure Mark where
  p : Nat
  time : Stamp
  epoch : Nat
  deriving DecidableEq, Repr

/-- Time transfer on one lane. -/
structure TtLane where
  tx : List Mark := []
  rx : List Mark := []
  /-- marked cycles since the last TTSTAMP -/
  since : Nat := 0
  running : Bool := false
  feflags : Nat := 0
  felattx : Nat := 0
  felatrx : Nat := 0
  /-- a CAP without FEAT bit 3 has stopped the packets (R345) -/
  barred : Bool := false
  deriving DecidableEq, Repr

/-- The time unit behind its registers. -/
structure Tu where
  tbs : Vector Tb 4 := Vector.replicate 4 {}
  latch : Vector (Vector Stamp 4) 5 := Vector.replicate 5 (Vector.replicate 4 {})
  fifo : List FifoEntry := []
  /-- firmware's copy of the latest 64 entries of sources 0, 4 and 5 -/
  kept : List FifoEntry := []
  fifoLatch : Vector Stamp 5 := Vector.replicate 5 {}
  lastEdge : Option Nat := none
  ppsSec : Vector Nat 2 := Vector.replicate 2 0
  ppsHigh : Vector Bool 2 := Vector.replicate 2 false
  /-- when each PPS output's last pulse began -/
  ppsAt : Vector Nat 2 := Vector.replicate 2 0
  tt : Vector TtLane 8 := Vector.replicate 8 {}
  deriving DecidableEq, Repr

/-- A cell of the Crosscut link: TYPE, SEQ and BODY (R351). -/
structure XCell where
  type : Nat
  seq : Nat
  body : List Byte
  deriving DecidableEq, Repr

/-- An RREQ this device has sent and whose RRSP it awaits (R365): its TAG, the registers it reads (address and index), and the remote loop
execution it belongs to (lane and step; none when it reads the status of a deposed twin's lanes). -/
structure XAsk where
  tag : Nat
  regs : List (Nat × Nat) := []
  lane : Option (Nat × Nat) := none
  deriving DecidableEq, Repr

/-- A loop of the twin that this device runs (R366): the lane, whether it has yet to be seeded from the active code, and the loop. -/
structure RLoop where
  lane : Nat
  fresh : Bool := true
  loop : Loop
  deriving DecidableEq, Repr

/-- One operation record of an RREQ (R365). -/
structure XOp where
  write : Bool
  count : Nat
  unit : Nat
  index : Nat
  addr : Nat
  data : Nat
  deriving DecidableEq, Repr

/-- The Crosscut link and twin behind the XC registers. -/
structure Xc where
  /-- cells queued, in the order they will be sent, thirty-seconds of a bit sent of the block in transmission, and the next SEQ -/
  txq : List XCell := []
  credit : Nat := 0
  /-- the cell of the block in transmission (none: IDLE), the block's bits, and the scrambler register, q1 in bit 0 (R350) -/
  block : Option XCell := none
  bits : List Bool := []
  scr : Nat := 2 ^ 31 - 1
  /-- what each transmit lane drove in the last whole block, in 1/32 of its swing (R349) -/
  wave : Vector (List Int) 2 := Vector.replicate 2 []
  seq : Nat := 1
  /-- the last 16 accepted SEQ values -/
  seen : List Nat := []
  sentReady : Bool := false
  rxReady : Nat := 0
  farMax : Nat := 3
  /-- a rate step waits for lock -/
  stepping : Bool := false
  trained : Bool := false
  /-- the far end's handshake data, kept while attached -/
  far : Option AttachInfo := none
  /-- a failed handshake keeps the devices solo until TWIN.ATTACH (R355) -/
  failed : Bool := false
  tag : Nat := 0
  rreq : Option (Nat × List XOp) := none
  /-- the last RRSP received: STAT and values -/
  rrsp : Option (Nat × List Nat) := none
  /-- lanes of the twin whose TAKE this device has asked for -/
  asked : Nat := 0
  swap : Bool := false
  /-- this device sent the SWAP -/
  swapOwn : Bool := false
  /-- the mirrored management image: bytes by offset, and the refresh in progress -/
  image : List (Nat × Byte) := []
  part : Option (List (Nat × Byte)) := none
  upg : Nat := 0
  upgPct : Nat := 0
  /-- since when this device drives TWIN_FLT low (R361) -/
  fltAt : Option Nat := none
  /-- when a fault was last acted on, and whether TWIN_FLT brought it (R361: the first of the two is acted on) -/
  acted : Option (Nat × Bool) := none
  /-- when the last HEARTBEAT was accepted, when one receive lane alone has locked, and when something other than IDLE and
  HEARTBEAT was last queued (R352, R353) -/
  lastHb : Option Nat := none
  /-- what the last HEARTBEAT carried: role, LOWPWR, ALIVE (Table 15-2) -/
  farHb : Option (Nat × Bool × Bool) := none
  lockAt : Option Nat := none
  busyAt : Nat := 0
  /-- when ALIVE was last kicked, and since when the receive direction sleeps (R353, R360) -/
  kickAt : Nat := 0
  rxSleepAt : Nat := 0
  /-- the twin is deposed and has not reattached (R364) -/
  twinDown : Bool := false
  /-- the image as sent last (R358) -/
  sent : List Byte := []
  /-- the nonce of the handshake under way (R355) -/
  nonce : List Byte := []
  /-- RREQs that wait for their RRSP, the twin's registers as read last, by stored key, and the twin's loops that run here -/
  asks : List XAsk := []
  view : FieldFile := []
  rloops : List RLoop := []
  /-- BACK waits until the executions under way are done (R366) -/
  backDue : Bool := false
  deriving DecidableEq, Repr

/-- A self-test result entry (Table 18-6). -/
structure BistEntry where
  test : Nat
  unit : Nat
  result : Nat
  value : Int
  limit : Nat
  deriving DecidableEq, Repr

/-- A test under way: ID, unit, the worst value so far, whether a step has been measured, and whether one failed. -/
structure BistTest where
  test : Nat
  unit : Nat
  value : Int := 0
  started : Bool := false
  failed : Bool := false
  deriving DecidableEq, Repr

/-- The self-test run (R408 to R414). -/
structure Bist where
  runid : Nat := 0
  state : Nat := 0
  full : Bool := false
  notify : Bool := false
  since : Nat := 0
  elapsed : Nat := 0
  lanes : Nat := 0
  /-- tests still to start, in order, and tests running -/
  todo : List (Nat × Nat) := []
  running : List BistTest := []
  entries : List BistEntry := []
  /-- BIST.ABORT or an ending event waits for the next step boundary -/
  ending : Bool := false
  /-- families of the halves when the run started (bit h: half h in family U) -/
  fams : Nat := 0
  /-- lane domains powered only for the test -/
  powered : List Nat := []
  deriving DecidableEq, Repr

/-- The JTAG instruction in force (R428). -/
inductive JtagIr where
  | idcode | bypass | sample | extest
  deriving DecidableEq, Repr

/-- The test port: instruction, boundary register (one cell per single-ended pin), bypass bit and the captured register. -/
structure Jtag where
  ir : JtagIr := .idcode
  boundary : BitVec 25 := 0
  bypass : Bool := false
  captured : Nat := 0
  deriving DecidableEq, Repr

/-- A window write of the present clock: its accessor, register, channel and mask (R288). -/
structure WriteMark where
  acc : Accessor
  addr : Nat
  ch : Nat
  mask : Nat
  deriving DecidableEq, Repr

/-- The whole device but the memory bytes and the command queue. -/
structure Dev where
  /-- time-unit ticks (0.64 ns) since power-up -/
  now : Nat := 0
  /-- the model's own counter of free values used (log entry 3) -/
  free : Nat := 0
  phase : Phase := .held
  /-- the registers, and firmware's configuration copies (R11) -/
  regs : FieldFile := []
  fw : FieldFile := []
  mgmt : Mgmt := {}
  paths : List Path := []
  fallbacks : List Fallback := []
  lanes : Vector Lane 8 := Vector.replicate 8 {}
  hosts : Vector HostLane 16 := Vector.replicate 16 {}
  ws : Ws := {}
  optics : Optics
  tel : Vector TelLane 8 := Vector.replicate 8 {}
  tally : Tally := {}
  pot : Pot := {}
  vote : Vote
  sec : Sec
  power : Power := {}
  pg : Pg := {}
  tu : Tu := {}
  xc : Xc := {}
  bist : Bist := {}
  jtag : Jtag := {}
  /-- the window writes of the present clock (R288) -/
  writes : List WriteMark := []
  /-- the protected words (memory and number) that have been found uncorrectable and not written whole since (R302, R305) -/
  bad : List (MemId × Nat) := []
  deriving DecidableEq, Repr

/-- The machine: the commands that wait, the memory bytes, and the device. -/
structure State where
  pending : List Instr
  mem : Memory
  dev : Dev
  deriving DecidableEq, Repr

/-- The reasons a step stops. There is none: every command of the table has an effect the spec describes, so no meaning raises a
fault, which is safe and unsafe for nobody. -/
inductive Fault where
  deriving DecidableEq, Repr

/-- The refusals. -/
inductive Refusal where
  /-- The dispatch gives it for a command that has no meaning yet; no meaning gives it. Safe: the machine stops where the
  hardware goes on. -/
  | notModelled (mnemonic : String)
  deriving DecidableEq, Repr

/-- The optics loops as Table 9-8 assigns them by default (R234). -/
def Loop.default (k : Nat) : Loop :=
  { cfg := { lch := 2 * k, lmon := 2 * k, mch := 2 * k + 1, mmon := 2 * k + 1, nco := k } }

/-- The vote words the flash holds as delivered (R309, Table 12-4, R430): BOOTSLOT names slot A, ROLLBACK the SVN of its image;
words 6 to 15 read 0. -/
def deliveredWords : List Nat :=
  [Config.deliveredVote 0, Config.deliveredVote 1, Config.imageSvn % 2 ^ 16, 1,
   Config.deliveredVote 4, Config.deliveredVote 5, 0, 0, 0, 0, 0, 0, 0, 0, 0, 0]

/-- The vote words at power-up: persistent copies as delivered, flops not yet loaded. -/
def Vote.initial : Vote :=
  { flops := Vector.replicate 3 (List.replicate 16 0)
    copies := Vector.replicate 3 { gen := Config.deliveredGen, words := deliveredWords } }

/-- The one-time and flash security state as delivered. -/
def Sec.initial : Sec :=
  { lc := Config.lifeCycle, serial := Config.serial, grade := Config.grade, avsTarget := Config.avsTarget % 131
    key := Config.keyMaterial, pub := Config.keyPublic, nodes := Config.keyNodes, keyOk := Config.keyPresent, tokenKey := Config.tokenKey, cert := Config.certificate
    root := Config.moduleRoot
    slotA := { good := true, svn := Config.imageSvn, version := Config.imageVersion, xproto := Config.imageXproto
               xmin := Config.imageXmin, digest := Config.imageDigest }
    slotB := {} }

/-- The management interface with its control pins open (Table 19-3): LPMODE and MODSEL_L pulled up. -/
def Mgmt.initial : Mgmt := { lpmode := true, modselHigh := true }

/-- The device under RESET_L (R418). -/
def Dev.initial : Dev :=
  { mgmt := Mgmt.initial
    optics := { loops := Vector.ofFn fun k => Loop.default k.val }
    vote := Vote.initial
    pot := { spares := Config.spareBlocks }
    sec := Sec.initial }

/-- The machine right after reset: RESET_L low, every register at its Reset value, no command waiting, no byte of memory
written. -/
def State.reset : State := { pending := [], mem := [], dev := Dev.initial }

end Sys2Proof.Machine
end

