-- ==== Sys2Proof/Machine/Ops.lean ====
section
/-! DEFINITION. The named operations over the device: the field store, memory bytes, power domains, pins and the writers of
R20, interrupts, time stamps, Stockpot records, vote words, Tally events and free values. -/

namespace Sys2Proof.Machine

/-! ## The canonical sparse stores -/

/-- The value listed under a key. -/
def ffGet : FieldFile → Nat → Option Nat
  | [], _ => none
  | (k, v) :: t, q => if k = q then some v else ffGet t q

/-- The store without the key. -/
def ffDel (l : FieldFile) (q : Nat) : FieldFile := l.filter fun e => e.1 != q

/-- The store with `v` under the key, keys rising. -/
def ffPut : FieldFile → Nat → Nat → FieldFile
  | [], q, v => [(q, v)]
  | (k, w) :: t, q, v =>
    if k = q then (q, v) :: t else if q < k then (q, v) :: (k, w) :: t else (k, w) :: ffPut t q v

/-- The byte at an address; an unlisted address reads 0 (R300). -/
def memGet : Memory → Nat → Byte
  | [], _ => 0
  | (k, v) :: t, q => if k = q then v else memGet t q

/-- The memory with no entry at the address. -/
def memDel (m : Memory) (q : Nat) : Memory := m.filter fun c => c.1 != q

/-- The memory with an entry at the address. -/
def memIns : Memory → Nat → Byte → Memory
  | [], q, v => [(q, v)]
  | (k, w) :: t, q, v =>
    if k = q then (q, v) :: t else if q < k then (q, v) :: (k, w) :: t else (k, w) :: memIns t q v

/-- Writes one byte; writing 0 removes the entry. -/
def memPut (m : Memory) (a : Nat) (v : Byte) : Memory := if v = 0 then memDel m a else memIns m a v

/-- Writes the low `n` bytes of `v`, least significant byte at the lowest address (R243). -/
def memPutLe : Nat → Memory → Nat → Nat → Memory
  | 0, m, _, _ => m
  | n + 1, m, a, v => memPutLe n (memPut m a (BitVec.ofNat 8 v)) (a + 1) (v / 256)

/-- Reads `n` bytes, least significant byte at the lowest address. -/
def memGetLe : Nat → Memory → Nat → Nat
  | 0, _, _ => 0
  | n + 1, m, a => (memGet m a).toNat + 256 * memGetLe n m (a + 1)

/-- Writes a byte string at consecutive addresses. -/
def memPutBytes : Memory → Nat → List Byte → Memory
  | m, _, [] => m
  | m, a, b :: t => memPutBytes (memPut m a b) (a + 1) t

/-- Drops every byte in `lo ≤ address < hi`: memory initialised to zero (R300). -/
def memClear (m : Memory) (lo hi : Nat) : Memory := m.filter fun c => c.1 < lo || hi ≤ c.1

/-- A memory in canonical form above a bound: addresses rising, no zero byte. -/
def Memory.wfFrom : Nat → Memory → Bool
  | _, [] => true
  | lo, (k, v) :: t => decide (lo ≤ k) && (v != 0) && Memory.wfFrom (k + 1) t

/-- The canonical form: addresses strictly rising, no entry equal to what an unlisted address reads as. -/
def Memory.wf (m : Memory) : Bool := Memory.wfFrom 0 m

/-- Where the memories lie on the internal bus (R327); program, X and Y memory of the Whetstone are not on it and take the
addresses above (PRESUMED, log entry 20). -/
def patBase : Nat := 0x21000000
/-- Whetstone X memory. -/
def xBase : Nat := 0x30000000
/-- Whetstone Y memory. -/
def yBase : Nat := 0x30100000
/-- Whetstone program memory. -/
def pmBase : Nat := 0x30200000

/-! ## Register fields -/

/-- The key of channel `ch`'s copy of a field. -/
def Fld.key (f : Fld) (ch : Nat) : Nat := ch * 2 ^ 26 + f.addr * 32 + f.lo

/-- The owner of round-table slot `n` in the default schedule (Table 8-4). -/
def defaultTask (n : Nat) : Nat :=
  let p := n % 128
  if p < 24 then 1 else if p < 48 then 2 else if p < 96 then 3 else if p < 118 then 4 else 5

/-- A field's Reset value in channel `ch`: the register table's `rst`, or what the table gives per member or channel: the
main tap of TX_FFETAP and of TX_DPDH1 is 1, segment 0 plays TYPE 3, WS_RTAB and WS_RTACT hold Table 8-4, and entry e of
OC_MASEQ samples MA(e) on converter 0 and MA(8 + e) on converter 1 (entries 8 to 15 channel 16). -/
def resetOf (f : Fld) (ch : Nat) : Nat :=
  if f.addr < 0x40040 then f.rst
  else if f.addr = 0x40048 then 256
  else if f.addr = 0x40080 then 4096
  else if f.addr = 0x70040 then (if f.lo = 16 && ch = 0 then 3 else 0)
  else if 0x600C0 ≤ f.addr && f.addr < 0x60100 && f.lo = 0 then
    (if f.addr < 0x600E0 then (f.addr - 0x600C0) / 4 + 8 * ch else 16)
  else if 0x101000 ≤ f.addr && f.addr < 0x103000 then
    (if f.lo = 0 then defaultTask (f.addr % 0x1000 / 4) else f.addr % 0x1000 / 512)
  else f.rst

/-- The value of a field. -/
def Dev.rd (d : Dev) (f : Fld) (ch : Nat := 0) : Nat := (ffGet d.regs (f.key ch)).getD (resetOf f ch)

/-- A one-bit field as a Boolean. -/
def Dev.on (d : Dev) (f : Fld) (ch : Nat := 0) : Bool := d.rd f ch != 0

/-- A field read as a two's complement number. -/
def Dev.rdS (d : Dev) (f : Fld) (ch : Nat := 0) : Int := sx f.w (d.rd f ch)

/-- A field store with one field set; a field at its Reset value is not listed. -/
def putField (r : FieldFile) (f : Fld) (ch v : Nat) : FieldFile :=
  if v % 2 ^ f.w = resetOf f ch then ffDel r (f.key ch) else ffPut r (f.key ch) (v % 2 ^ f.w)

/-- Sets a field (modulo its width). -/
def Dev.wr (d : Dev) (f : Fld) (ch v : Nat) : Dev := { d with regs := putField d.regs f ch v }

/-- Sets a signed field. -/
def Dev.wrS (d : Dev) (f : Fld) (ch : Nat) (v : Int) : Dev := d.wr f ch (tc f.w v)

/-- Sets a one-bit field. -/
def Dev.set (d : Dev) (f : Fld) (ch : Nat := 0) : Dev := d.wr f ch 1

/-- Clears a field. -/
def Dev.clr (d : Dev) (f : Fld) (ch : Nat := 0) : Dev := d.wr f ch 0

/-- Increments a counter field that wraps. -/
def Dev.inc (d : Dev) (f : Fld) (ch : Nat := 0) (n : Nat := 1) : Dev := d.wr f ch (d.rd f ch + n)

/-- Increments a counter field that saturates. -/
def Dev.incSat (d : Dev) (f : Fld) (ch : Nat := 0) (n : Nat := 1) : Dev :=
  d.wr f ch (satN (2 ^ f.w - 1) (d.rd f ch + n))

/-- A 64-bit counter held in a low and a high register. -/
def Dev.rd64 (d : Dev) (lo hi : Fld) (ch : Nat := 0) : Nat := d.rd lo ch + 2 ^ 32 * d.rd hi ch

/-- Repeats an update for `i = 0 … n - 1`. -/
def iter {α : Type} : Nat → (Nat → α → α) → α → α
  | 0, _, a => a
  | n + 1, f, a => f n (iter n f a)

/-! ## Power domains

Domains are numbered in the bit order of PW_DON0 to PW_DON2. -/

/-- LRXA of lane k. -/
def dLRXA (k : Nat) : Nat := k
/-- LADC of lane k. -/
def dLADC (k : Nat) : Nat := 8 + k
/-- LRXD of lane k. -/
def dLRXD (k : Nat) : Nat := 16 + k
/-- LTXD of lane k. -/
def dLTXD (k : Nat) : Nat := 24 + k
/-- LDAC of lane k. -/
def dLDAC (k : Nat) : Nat := 32 + k
/-- HRX of host lane n. -/
def dHRX (n : Nat) : Nat := 40 + n
/-- HTX of host lane n. -/
def dHTX (n : Nat) : Nat := 56 + n
/-- MGMT, WHET, XCUT, STOCK, MADC, BDAC, TIME, SEC. -/
def dMGMT : Nat := 72
/-- WHET. -/
def dWHET : Nat := 73
/-- XCUT. -/
def dXCUT : Nat := 74
/-- STOCK. -/
def dSTOCK : Nat := 75
/-- MADC. -/
def dMADC : Nat := 76
/-- BDAC. -/
def dBDAC : Nat := 77
/-- TIME. -/
def dTIME : Nat := 78
/-- SEC. -/
def dSEC : Nat := 79

/-- The PW_DON field and the bit of a domain. -/
def donFld (i : Nat) : Fld × Nat :=
  if i < 8 then (F.PW_DON0_LRXA, i) else if i < 16 then (F.PW_DON0_LADC, i - 8)
  else if i < 24 then (F.PW_DON0_LRXD, i - 16) else if i < 32 then (F.PW_DON0_LTXD, i - 24)
  else if i < 40 then (F.PW_DON1_LDAC, i - 32) else if i < 56 then (F.PW_DON1_HRX, i - 40)
  else if i < 64 then (F.PW_DON1_HTXL, i - 56) else if i < 72 then (F.PW_DON2_HTXH, i - 64)
  else (F.PW_DON2_SYS, i - 72)

/-- The PW_DREQ field and the bit of a domain. -/
def dreqFld (i : Nat) : Fld × Nat :=
  if i < 8 then (F.PW_DREQ0_LRXA, i) else if i < 16 then (F.PW_DREQ0_LADC, i - 8)
  else if i < 24 then (F.PW_DREQ0_LRXD, i - 16) else if i < 32 then (F.PW_DREQ0_LTXD, i - 24)
  else if i < 40 then (F.PW_DREQ1_LDAC, i - 32) else if i < 56 then (F.PW_DREQ1_HRX, i - 40)
  else if i < 64 then (F.PW_DREQ1_HTXL, i - 56) else if i < 72 then (F.PW_DREQ2_HTXH, i - 64)
  else (F.PW_DREQ2_SYS, i - 72)

/-- Whether a domain is fully on (PW_DON). -/
def Dev.domOn (d : Dev) (i : Nat) : Bool := (d.rd (donFld i).1).testBit (donFld i).2

/-- Whether a domain is requested on (PW_DREQ). -/
def Dev.domReq (d : Dev) (i : Nat) : Bool := (d.rd (dreqFld i).1).testBit (dreqFld i).2

/-- Sets a domain's PW_DON bit. -/
def Dev.setDon (d : Dev) (i : Nat) (b : Bool) : Dev :=
  d.wr (donFld i).1 0 (withBit (d.rd (donFld i).1) (donFld i).2 b)

/-- Sets a domain's PW_DREQ bit. -/
def Dev.setDreq (d : Dev) (i : Nat) (b : Bool) : Dev :=
  d.wr (dreqFld i).1 0 (withBit (d.rd (dreqFld i).1) (dreqFld i).2 b)

/-- PW_STAT.TRANS: any domain waking or going down (R388). -/
def Dev.fixTrans (d : Dev) : Dev :=
  d.wr F.PW_STAT_TRANS 0 (b2n (d.power.waking != 0 || d.power.downing != 0))

/-- Whether any of the domains in the list is on. -/
def Dev.anyOn (d : Dev) (l : List Nat) : Bool := l.any d.domOn

/-- The five line domains of lanes `4h … 4h + 3`. -/
def halfDomains (h : Nat) : List Nat :=
  [0, 1, 2, 3].flatMap fun j =>
    [dLRXA (4 * h + j), dLADC (4 * h + j), dLRXD (4 * h + j), dLTXD (4 * h + j), dLDAC (4 * h + j)]

/-- The host-lane domains of bank `b`. -/
def bankDomains (b : Nat) : List Nat :=
  [0, 1, 2, 3, 4, 5, 6, 7].flatMap fun j => [dHRX (8 * b + j), dHTX (8 * b + j)]

/-- PLL lock bits follow the consumers of Table 17-2 (R390, R391). -/
def Dev.fixPlls (d : Dev) : Dev :=
  ((((((d.wr F.PW_CLKSTAT_H0LOCK 0 (b2n (d.anyOn (halfDomains 0)))).wr F.PW_CLKSTAT_H1LOCK 0 (b2n (d.anyOn (halfDomains 1)))).wr
    F.PW_CLKSTAT_HP0LOCK 0 (b2n (d.anyOn (bankDomains 0)))).wr F.PW_CLKSTAT_HP1LOCK 0 (b2n (d.anyOn (bankDomains 1)))).wr
    F.PW_CLKSTAT_CORELOCK 0 (b2n (d.domOn dMGMT))).wr F.PW_CLKSTAT_TIMELOCK 0 (b2n (d.domOn dTIME))).wr
    F.PW_CLKSTAT_XCLOCK 0 (b2n (d.domOn dXCUT))

/-- Requests a domain on: it wakes if it is off (R388). -/
def Dev.wake (d : Dev) (i : Nat) : Dev :=
  let d1 := d.setDreq i true
  if d.domOn i && !d.power.downing.testBit i then d1
  else ({ d1 with power := { d1.power with waking := withBit d1.power.waking i true } }).fixTrans

/-- Updates the element `n` of a vector. -/
def vset {α : Type} {n : Nat} (v : Vector α n) (i : Nat) (f : α → α) : Vector α n :=
  v.mapIdx fun j x => if j = i then f x else x

/-- Requests a domain off: it goes down if it is on or waking; PW_DON reads 0 from then on. -/
def Dev.down (d : Dev) (i : Nat) : Dev :=
  let d1 := d.setDreq i false
  if d.domOn i || d.power.waking.testBit i then
    let d2 := d1.setDon i false
    let d3 := if dLRXD 0 ≤ i && i < dLRXD 0 + 8 then { d2 with tel := vset d2.tel (i - dLRXD 0) fun t => { t with stale := true } } else d2
    ({ d3 with power := { d3.power with waking := withBit d3.power.waking i false
                                        downing := withBit d3.power.downing i true } }).fixTrans.fixPlls
  else d1

/-- Requests every domain of a list on. -/
def Dev.wakeAll (d : Dev) (l : List Nat) : Dev := l.foldl Dev.wake d

/-- Requests every domain of a list off. -/
def Dev.downAll (d : Dev) (l : List Nat) : Dev := l.foldl Dev.down d

/-- Whether firmware runs. -/
def Dev.fwRun (d : Dev) : Bool := d.phase == .fw

/-- The power state is READY (Table 1-5). -/
def Dev.isReady (d : Dev) : Bool := d.rd F.PW_STAT_CMIS == 3

/-- Whether the single-ended pins have their normal functions: not while EXTEST is loaded (R428). -/
def Dev.pinsLive (d : Dev) : Bool := d.jtag.ir != .extest

/-- A pattern RAM byte: what memory lists, relative to the pattern a MEM self-test left (R410). -/
def Pg.ramByte (p : Pg) (m : Memory) (off : Nat) : Nat :=
  (memGet m (patBase + off)).toNat ^^^ (if p.march = 0 then 0 else (Config.marchByte p.march off).toNat)

/-- Writes pattern RAM bytes. -/
def Pg.ramWrite (p : Pg) (m : Memory) (off : Nat) : List Byte → Memory
  | [] => m
  | b :: t =>
    let v := if p.march = 0 then b else b ^^^ Config.marchByte p.march off
    p.ramWrite (memPut m (patBase + off) v) (off + 1) t

/-! ## Sub-structure updates -/

/-- The lane with the number `k` (the numbers run over 0 to 7). -/
def Dev.lane (d : Dev) (k : Nat) : Lane := d.lanes.getD k {}

/-- Updates one lane. -/
def Dev.mapLane (d : Dev) (k : Nat) (f : Lane → Lane) : Dev :=
  { d with lanes := d.lanes.mapIdx fun i x => if i = k then f x else x }

/-- Updates the transmit half of one lane. -/
def Dev.mapTx (d : Dev) (k : Nat) (f : TxLane → TxLane) : Dev := d.mapLane k fun l => { l with tx := f l.tx }

/-- Updates the receive half of one lane. -/
def Dev.mapRx (d : Dev) (k : Nat) (f : RxLane → RxLane) : Dev := d.mapLane k fun l => { l with rx := f l.rx }

/-- The host lane with the number `n`. -/
def Dev.host (d : Dev) (n : Nat) : HostLane := d.hosts.getD n {}

/-- Updates one host lane. -/
def Dev.mapHost (d : Dev) (n : Nat) (f : HostLane → HostLane) : Dev :=
  { d with hosts := d.hosts.mapIdx fun i x => if i = n then f x else x }

/-- Updates the management interface. -/
def Dev.mapMgmt (d : Dev) (f : Mgmt → Mgmt) : Dev := { d with mgmt := f d.mgmt }

/-- Updates one telemetry cache entry. -/
def Dev.mapTel (d : Dev) (k : Nat) (f : TelLane → TelLane) : Dev :=
  { d with tel := d.tel.mapIdx fun i x => if i = k then f x else x }

/-- The data path that holds lane `k`. -/
def Dev.pathOf (d : Dev) (k : Nat) : Option Path := d.paths.find? fun p => p.first ≤ k && k < p.first + p.size

/-- The line rate mode of lane `k`'s data path (0 C225, 1 C113, 2 U106, 3 U53); 0xFF for none. -/
def Dev.lrm (d : Dev) (k : Nat) : Nat := match d.pathOf k with | some p => p.lrm | none => 0xFF

/-- Lane `k` carries a C-mode data path. -/
def Dev.isC (d : Dev) (k : Nat) : Bool := d.lrm k < 2

/-- The A11 group; at most one exists (R24). -/
def Dev.a11 (d : Dev) : Option Path := d.paths.find? fun p => p.mode == 11

/-- The host lanes a lane's line rate mode uses (Table 1-3): both in C225, the even one otherwise. -/
def hostsOfLane (lrm k : Nat) : List Nat := if lrm = 0 then [2 * k, 2 * k + 1] else [2 * k]

/-- The lanes of a data path. -/
def Path.lanes (p : Path) : List Nat := (List.range p.size).map fun j => p.first + j

/-- The host lanes of a data path. -/
def Path.hosts (p : Path) : List Nat := p.lanes.flatMap (hostsOfLane p.lrm)

/-- Takes the next free value, reduced to `w` bits (log entry 3). -/
def Dev.freeVal (d : Dev) (w : Nat) : Nat × Dev := (Config.freeValue d.free % 2 ^ w, { d with free := d.free + 1 })

/-! ## Writers of a configured field (R20, R289, R290) -/

/-- The unit code a pin entry of a register with GLB_CHSEL unit `u` carries. -/
def unitCode (u : Option Nat) : Nat := u.getD 0xFF

/-- Whether the field's bits are pinned in channel `ch`. A register of unit none ignores the pin's index (R285). -/
def Dev.pinned (d : Dev) (f : Fld) (ch : Nat) : Bool :=
  d.mgmt.pins.any fun p => p.addr == f.addr && (p.unit == 0xFF || p.index == ch) && p.mask.testBit f.lo

/-- An update by the field's background writer, dropped while the field is pinned. -/
def Dev.bg (d : Dev) (f : Fld) (ch v : Nat) : Dev := if d.pinned f ch then d else d.wr f ch v

/-- A background update of a signed field. -/
def Dev.bgS (d : Dev) (f : Fld) (ch : Nat) (v : Int) : Dev := d.bg f ch (tc f.w v)

/-- Firmware's own copy of a field (R11, R429). -/
def Dev.fwGet (d : Dev) (f : Fld) (ch : Nat) : Nat := (ffGet d.fw (f.key ch)).getD (resetOf f ch)

/-- Records a value in firmware's configuration copy. -/
def Dev.fwPut (d : Dev) (f : Fld) (ch v : Nat) : Dev := { d with fw := ffPut d.fw (f.key ch) (v % 2 ^ f.w) }

/-- A command's configuration of a field of domain `dom`: kept by firmware, and written when the domain is on. -/
def Dev.cfg (d : Dev) (dom : Nat) (f : Fld) (ch v : Nat) : Dev :=
  if d.domOn dom then (d.fwPut f ch v).wr f ch v else d.fwPut f ch v

/-- Firmware's own configuration of a field: kept, and written when the domain is on and no pin holds it (R289). -/
def Dev.fwCfg (d : Dev) (dom : Nat) (f : Fld) (ch v : Nat) : Dev :=
  if d.domOn dom then (d.fwPut f ch v).bg f ch v else d.fwPut f ch v

/-- `cfg` unless the operand is the keep value. -/
def Dev.cfgKeep (d : Dev) (dom : Nat) (f : Fld) (ch v keep : Nat) : Dev := if v = keep then d else d.cfg dom f ch v

/-- Firmware's rewrite of a field from its own copy at retrain or activation; a pinned field keeps its value (R289). -/
def Dev.refresh (d : Dev) (f : Fld) (ch : Nat) : Dev :=
  match ffGet d.fw (f.key ch) with
  | some v => d.bg f ch v
  | none => d

/-! ## The bus map -/

/-- The register that holds an address: its row and the member's number. -/
def findReg (addr : Nat) : Option (RegDesc × Nat) :=
  (regTable.find? fun r => r.base ≤ addr && (addr - r.base) % r.stride == 0 && (addr - r.base) / r.stride < r.count).map
    fun r => (r, (addr - r.base) / r.stride)

/-- The domain that holds channel `ch` of a register of the given kind and unit; none for AON, which is always on, and for OC_TICK,
which two domains hold (R209). -/
def domainOf (k : DomKind) (unit : Option Nat) (ch : Nat) : Option Nat :=
  match k with
  | .aon => none
  | .mgmt => some dMGMT
  | .whet => some dWHET
  | .xcut => some dXCUT
  | .madc => some dMADC
  | .bdac => some dBDAC
  | .opt => none
  | .time => some dTIME
  | .sec => some dSEC
  | .ladc => some (dLADC (if unit = some 1 then ch / 64 else ch))
  | .lrxd => some (dLRXD ch)
  | .ltxd => some (dLTXD ch)
  | .hrx => some (dHRX ch)
  | .htx => some (dHTX ch)

/-- Whether channel `ch` of a register can be accessed; OC_TICK needs BDAC or MADC, and SEC_LC reads from t1 of R297 (Table 16-7). -/
def Dev.regOn (d : Dev) (r : RegDesc) (ch : Nat) : Bool :=
  match r.dom with
  | .opt => d.domOn dBDAC || d.domOn dMADC
  | .sec => d.domOn dSEC || r.base == 0xD0000
  | k => match domainOf k r.unit ch with
    | none => true
    | some i => d.domOn i

/-- The domain a stored key belongs to. The copies of a register that each accessor has its own of are numbered accessor +
8 × channel. -/
def keyDomain (key : Nat) : Option Nat :=
  match findReg (key % 2 ^ 26 / 32) with
  | none => none
  | some (r, _) => domainOf r.dom r.unit (if r.perAcc then key / 2 ^ 26 / 8 else key / 2 ^ 26)

/-- The field of a stored key. -/
def keyField (key : Nat) : Option Fld :=
  match findReg (key % 2 ^ 26 / 32) with
  | none => none
  | some (r, m) => (r.fields.find? fun f => f.lo == key % 32).map fun f => f.at m r.stride

/-- Every register of a domain takes its Reset value (R387). -/
def Dev.wipe (d : Dev) (i : Nat) : Dev := { d with regs := d.regs.filter fun e => keyDomain e.1 != some i }

/-- Firmware's restore of a domain from its configuration copies, then the pinned values (R289, R290). The bias channels come up with every
field at reset (R218). -/
def Dev.restore (d : Dev) (i : Nat) : Dev :=
  let regs := d.fw.foldl (fun r e =>
    match keyField e.1 with
    | some f => if keyDomain e.1 = some i && !(0x60000 ≤ f.addr && f.addr < 0x60010) then putField r f (e.1 / 2 ^ 26) e.2 else r
    | none => r) d.regs
  let d1 := { d with regs := regs }
  d.mgmt.pins.foldl (fun d2 p =>
    match findReg p.addr with
    | none => d2
    | some (r, m) =>
      if !r.perAcc && domainOf r.dom r.unit p.index = some i then
        r.fields.foldl (fun d3 f =>
          let g := f.at m r.stride
          if p.mask.testBit g.lo then d3.wr g p.index (slice p.value g.lo g.w) else d3) d2
      else d2) d1

/-! ## Time, interrupts and records -/

/-- Time-unit ticks in a second, a millisecond and a microsecond (1.5625 GHz, R333); 1.5625 ticks are a nanosecond. -/
def tickS : Nat := 1562500000
/-- Ticks in a millisecond. -/
def tickMs : Nat := 1562500
/-- Units of `Tb.sub` in a nanosecond. -/
def subNs : Nat := 25 * 2 ^ 48

/-- The reading of time base `i`. -/
def Dev.stamp (d : Dev) (i : Nat) : Stamp :=
  let t := d.tu.tbs.getD i {}
  { sec := t.sec, ns := t.sub / subNs, frac := t.sub / (25 * 2 ^ 32) % 2 ^ 16 }

/-- INT_L is asserted while a flag that is not masked is latched (R259; PRESUMED, log entry 62). -/
def Mgmt.intEval (m : Mgmt) : Mgmt :=
  { m with intL := (List.range 48).any (fun i => m.modFlags.testBit i && !m.modMasks.testBit i) ||
      (List.range 16).any fun n => (List.range 4).any fun i => (m.cmisFlags.getD n 0).testBit i && !(m.laneMasks.getD n 0).testBit i }

/-- Latches module flag `i` (byte 8 + i div 8 of page 00h). -/
def Mgmt.flag (m : Mgmt) (i : Nat) : Mgmt := { m with modFlags := m.modFlags ||| 2 ^ i }.intEval

/-- Firmware flags a module state change (byte 8 bit 0). -/
def Dev.stateInt (d : Dev) : Dev := d.mapMgmt fun m => m.flag 0

/-- Firmware asserts INT_L for a cause of the device's own: a vendor flag (byte 13 bit 0). -/
def Dev.int (d : Dev) : Dev := d.mapMgmt fun m => m.flag 40

/-- Adds a record: with FLAGS bit 1 while LOG is not mounted (R317), when only 512 are held. -/
def Dev.record (d : Dev) (type flags src : Nat) (payload : List Byte) : Dev :=
  let t := d.stamp 3
  let r : Record := { type := type, flags := if d.pot.mounted then flags else flags + 2, src := src, seq := d.pot.nextSeq
                      tsec := t.sec, tns := t.ns, payload := payload }
  { d with pot := { d.pot with buf := d.pot.buf ++ [r], nextSeq := d.pot.nextSeq + 1 } }

/-- Counts an event under its CODE and SRC instead of writing it (R318). -/
def Dev.fold (d : Dev) (code src : Nat) : Dev :=
  let t := d.stamp 3
  let p := d.pot
  let l := if p.folded.any (fun c => c.code == code && c.src == src) then
      p.folded.map fun c => if c.code == code && c.src == src then { c with count := c.count + 1, last := (t.sec, t.ns) } else c
    else p.folded ++ [{ code := code, src := src, count := 1, first := (t.sec, t.ns), last := (t.sec, t.ns) }]
  { d with pot := { p with folded := l, coalesced := (p.coalesced + 1) % 2 ^ 32 } }

/-- The event bucket's credit at this moment, in ticks of refill (R318): 1,000 events a second, at most 5,000. -/
def Dev.eventCredit (d : Dev) : Nat := satN (5000 * tickMs) (d.pot.credit + (d.now - d.pot.creditAt))

/-- An EVENT record of a kind (numbered below), admitted through the bucket of R318; before the mount at most 512 records
are held, and events beyond are coalesced (R317). -/
def Dev.event (d : Dev) (kind src : Nat) (data : List Byte := []) : Dev :=
  let code := Config.eventCode kind
  let c := d.eventCredit
  if !d.pot.mounted && 512 ≤ d.pot.buf.length then d.fold code src
  else if c < tickMs then
    ({ d with pot := { d.pot with credit := c, creditAt := d.now } }).fold code src
  else
    ({ d with pot := { d.pot with credit := c - tickMs, creditAt := d.now } }).record 2 0 src (be 2 code ++ data)

/-- Kinds of EVENT records. -/
def evWrongToken : Nat := 1
/-- An uncorrectable ECC event (R304, R305). -/
def evEcc : Nat := 2
/-- LOG has shrunk by a block (R313). -/
def evShrink : Nat := 3
/-- A CONF write, naming the key (Table 12-7). -/
def evConf : Nat := 4
/-- A REFCLK loss (R393). -/
def evRefclk : Nat := 5
/-- An applet stopped (R296) or failing its check (R380). -/
def evApplet : Nat := 6
/-- An attestation (R383). -/
def evAttest : Nat := 7
/-- A Whetstone trap (R208). -/
def evTrap : Nat := 8
/-- A bias channel SHUT (R217). -/
def evBias : Nat := 9
/-- An optics loop FAULT (R236). -/
def evLoop : Nat := 10
/-- A step of a time base (R336). -/
def evStep : Nat := 11
/-- A refused offset (R339). -/
def evOffset : Nat := 12
/-- Heartbeat loss on LEAD (R360). -/
def evHbLoss : Nat := 13
/-- A forced detach (R362). -/
def evDetach : Nat := 14
/-- A new twin (R355). -/
def evNewTwin : Nat := 15
/-- A self-test run (R414). -/
def evBist : Nat := 16
/-- A fallback or bring-up outcome (R171, R172). -/
def evBringup : Nat := 17
/-- Whatever else a chapter has firmware record. -/
def evOther : Nat := 18

/-- The current CONF record of a key (R319). -/
def Dev.conf (d : Dev) (key : Nat) : Option (List Byte) := (d.pot.conf.find? fun e => e.src == key).map fun e => e.payload

/-! ## Tally events (R327 to R329) -/

/-- Adds `n` to a 48-bit counter; a wrap sets TL_STAT.OVF. -/
def Dev.tallyAdd (d : Dev) (c n : Nat) : Dev :=
  let v := d.tally.count.getD c 0 + n
  let d1 := { d with tally := { d.tally with count := vset d.tally.count c fun _ => v % 2 ^ 48 } }
  if 2 ^ 48 ≤ v then d1.set F.TL_STAT_OVF c else d1

/-- Whether counter `c` counts `event` by a master in a privilege (1 supervisor, 2 user), class and address; PRIV filters events 1, 3 and 4 only
(Table 13-2). -/
def Dev.tallyMatch (d : Dev) (c event : Nat) (master : Option Nat) (user : Bool) (cls : Nat) (addr : Option Nat) : Bool :=
  let p := if event = 1 || event = 3 || event = 4 then d.rd F.TL_CFG_PRIV c else 0
  d.on F.TL_CFG_EN c && d.rd F.TL_CFG_EVENT c == event &&
    (match master with | none => true | some m => (d.rd F.TL_CFG_MASTER c).testBit m) &&
    (p == 0 || p == 3 || (if user then p == 2 else p == 1)) &&
    (cls == 0 || d.rd F.TL_CFG_CLASS c == 0 || d.rd F.TL_CFG_CLASS c == cls) &&
    (match addr with | none => true | some a => d.rd F.TL_BASE_ADDR c ≤ a && a ≤ d.rd F.TL_LIMIT_ADDR c)

/-- `n` occurrences of an event reach every matching counter (R327), unless FREEZE is set (R328). -/
def Dev.tallyEvent (d : Dev) (event n : Nat) (master : Option Nat := none) (user : Bool := false) (cls : Nat := 0)
    (addr : Option Nat := none) : Dev :=
  if d.on F.TL_GCTL_FREEZE then d
  else iter 32 (fun c e => if d.tallyMatch c event master user cls addr then e.tallyAdd c n else e) d

/-- Firmware has a DMA channel move bytes (Tally event 2); the spec names neither the channel nor the destination: free values (log entry
94). -/
def Dev.dma (d : Dev) (bytes : Nat) : Dev :=
  let (ch, d1) := d.freeVal 3
  let (dest, d2) := d1.freeVal 32
  d2.tallyEvent 2 bytes (some (2 + ch)) false 0 (some dest)

/-! ## ECC events (R302) -/

/-- Bytes of a protected word (Table 12-1). -/
def memWord : MemId → Nat
  | .mgmt => 8
  | _ => 4

/-- The protected word at a byte address of a memory is known to be uncorrectable (log entry 92). -/
def Dev.isBad (d : Dev) (mem : MemId) (addr : Nat) : Bool := d.bad.contains (mem, addr / memWord mem)

/-- A word has been found uncorrectable. -/
def Dev.markBad (d : Dev) (mem : MemId) (addr : Nat) : Dev :=
  if d.isBad mem addr then d else { d with bad := d.bad ++ [(mem, addr / memWord mem)] }

/-- The whole word has been written. -/
def Dev.mended (d : Dev) (mem : MemId) (addr : Nat) : Dev := { d with bad := d.bad.erase (mem, addr / memWord mem) }

/-- Memories that have been initialised (R300). -/
def Dev.memFresh (d : Dev) (l : List MemId) : Dev := { d with bad := d.bad.filter fun e => !l.contains e.1 }

/-- Records an ECC event: counts it, and notes the memory, master, kind and address; an uncorrectable word stays so. -/
def Dev.eccEvent (d : Dev) (mem : MemId) (ue : Bool) (master kind addr : Nat) : Dev :=
  let m := match mem with | .mgmt => 1 | .pattern => 2 | .prog => 3 | .x => 4 | .y => 5
  let d1 := if ue then d.incSat F.MI_ECCCNT_UE else d.incSat F.MI_ECCCNT_CE
  let d2 := ((((d1.wr F.MI_ECCLAST_MEM 0 m).wr F.MI_ECCLAST_UE 0 (b2n ue)).wr F.MI_ECCLAST_MASTER 0 master).wr
    F.MI_ECCLAST_KIND 0 kind).wr F.MI_ECCADDR_ADDR 0 addr
  if ue then d2.markBad mem addr else d2.tallyEvent 5 1 (if master < 11 then some master else none)

/-! ## Vote words (R308 to R311) -/

/-- The bitwise 2-of-3 majority. -/
def majority (a b c : Nat) : Nat := (a &&& b) ||| (b &&& c) ||| (a &&& c)

/-- The voted value of vote word `i`. -/
def Vote.word (v : Vote) (i : Nat) : Nat :=
  majority ((v.flops.getD 0 []).getD i 0) ((v.flops.getD 1 []).getD i 0) ((v.flops.getD 2 []).getD i 0)

/-- Writes a vote word to the three flop copies. -/
def Vote.setFlops (v : Vote) (i w : Nat) : Vote := { v with flops := v.flops.map fun l => setAt l i w }

/-- The voted value of vote word `i`: 0 LCSTATE, 1 XMSSNEXT, 2 ROLLBACK, 3 BOOTSLOT, 4 TWINROLE, 5 RMANEXT. -/
def Dev.voteWord (d : Dev) (i : Nat) : Nat := d.vote.word i

/-- The committed slot and the trial slot of BOOTSLOT: 1 A, 2 B, 0 none. -/
def Dev.bootSlot (d : Dev) : Nat := d.voteWord 3 % 4
/-- TRIAL. -/
def Dev.trialSlot (d : Dev) : Nat := d.voteWord 3 / 16 % 4
/-- BOOTSLOT with SLOT, TRIAL and ARMED replaced. -/
def Dev.bootWord (d : Dev) (slot trial armed : Nat) : Nat :=
  d.voteWord 3 / 512 * 512 + 256 * armed + d.voteWord 3 / 64 % 4 * 64 + 16 * trial + d.voteWord 3 / 4 % 4 * 4 + slot

/-- The image in a slot. -/
def Dev.slotImage (d : Dev) (slot : Nat) : Image := if slot = 1 then d.sec.slotA else d.sec.slotB
/-- Replaces the image in a slot. -/
def Dev.setSlot (d : Dev) (slot : Nat) (i : Image) : Dev :=
  if slot = 1 then { d with sec := { d.sec with slotA := i } } else { d with sec := { d.sec with slotB := i } }
/-- The slot that is neither SLOT nor TRIAL (R378). -/
def Dev.freeSlot (d : Dev) : Nat := if d.bootSlot = 1 then 2 else 1

/-- The one vote-word update of a Commit, accepted only while the running slot is TRIAL (R378). -/
def Dev.commitWords (d : Dev) : Option (List (Nat × Nat)) :=
  if d.trialSlot ≠ 0 && d.rd F.GLB_STAT_BOOT = d.trialSlot then
    some [(3, d.bootWord d.trialSlot 0 0), (2, d.voteWord 2 / 2 ^ 16 * 2 ^ 16 + max (d.voteWord 2 % 2 ^ 16) d.sec.running.svn)]
  else none

/-- Queues a vote-word update of R310. -/
def Dev.voteJob (d : Dev) (changes : List (Nat × Nat)) (after : VoteThen) : Dev :=
  { d with vote := { d.vote with jobs := d.vote.jobs ++ [{ changes := changes, after := after }] } }

/-- A page with the changed words, at the next GEN, in all three copies and the flops: an update of R310 carried through
whole (boot ROM). -/
def Dev.voteNow (d : Dev) (changes : List (Nat × Nat)) : Dev :=
  let words := changes.foldl (fun l c => setAt l c.1 c.2) ((List.range 16).map d.vote.word)
  let gen := d.vote.gen + 1
  let v := { d.vote with gen := gen, flops := Vector.replicate 3 words
                         copies := Vector.replicate 3 { gen := gen, words := words, valid := true } }
  ({ d with vote := v }).wr F.MI_VSTAT_GENLO 0 gen

/-! ## The life cycle (R371, Table 16-1) -/

/-- The states coded as SYS.ID.GET codes them: 0 BLANK, 1 TEST, 2 PROVISION, 3 DEPLOYED, 4 RMA, 5 SCRAPPED. -/
def Dev.lc (d : Dev) : Nat := d.sec.lc

/-- Updates the security state. -/
def Dev.mapSec (d : Dev) (f : Sec → Sec) : Dev := { d with sec := f d.sec }

/-- Draws bytes from the on-die entropy source. -/
def Dev.draw (d : Dev) (n : Nat) : List Byte × Dev :=
  ((List.range n).map fun i => Config.entropy (d.sec.entropyAt + i), d.mapSec fun s => { s with entropyAt := s.entropyAt + n })

/-- Expert access is always unlocked in BLANK, TEST and RMA, and never in SCRAPPED (R281). -/
def Dev.expert (d : Dev) : Bool :=
  if d.lc == 0 || d.lc == 1 || d.lc == 4 then true else if d.lc == 5 then false else d.on F.GLB_STAT_EXPERT

end Sys2Proof.Machine
end

