-- ==== Sys2Proof/Machine/Kci.lean ====
section
/-! DEFINITION. The KCI admission logic (R271 to R280): statuses, classes, the command table, response frames, admission, and
the one path by which every KCI command of the table runs. -/

namespace Sys2Proof.Machine

/-- The status codes of Table 11-6. -/
def Status.code : Status → Nat
  | .ok => 0 | .busy => 1 | .notReady => 2 | .badParam => 3 | .denied => 4 | .unsupported => 5 | .exhausted => 8 | .fault => 9

/-- The class bounds of Table 11-8, in ticks (F: per block). -/
def Cls.bound : Cls → Nat
  | .q => 2 * tickMs | .c => 20 * tickMs | .s => 400 * tickMs | .d => 2500 * tickMs | .f => 50 * tickMs

/-- The depths of Table 11-8, for host paths and for one applet. -/
def Cls.depth : Cls → Bool → Nat
  | .q, false => 8 | .c, false => 4 | .s, false => 2 | .d, false => 2 | .f, false => 1
  | .q, true => 1 | .c, true => 1 | .s, true => 1 | .d, true => 0 | .f, true => 0

/-- How a command's request table fixes LEN. -/
inductive LenRule where
  /-- always this many bytes -/
  | fix (n : Nat)
  /-- `base + stride × (the number of `w` bytes at `off`, masked)` -/
  | var (base stride off w mask : Nat)
  /-- TIME.TB.STEP: 16 bytes for a set, 12 for a step -/
  | step
  /-- a complete inner frame of 8 to 1,016 bytes (TWIN.RELAY) -/
  | frame
  deriving DecidableEq, Repr

/-- The opcodes, classes and request lengths of every command (the command entries of chapters 01 to 18). -/
def kciTable : List (Nat × Cls × LenRule) :=
  [(0xA000, .q, .fix 0), (0xA001, .c, .fix 0), (0xA010, .c, .fix 1), (0xA011, .q, .fix 2), (0xA020, .f, .var 8 1 2 2 0xFFFF),
   (0xA021, .c, .fix 2), (0xA022, .q, .fix 0), (0xA040, .q, .fix 0), (0xA041, .c, .fix 1), (0xA050, .q, .fix 0),
   (0xA051, .c, .fix 8), (0xA110, .q, .fix 1), (0xA111, .c, .fix 11), (0xA112, .c, .fix 4), (0xA113, .d, .fix 1),
   (0xA130, .q, .fix 1), (0xA131, .c, .fix 6), (0xA132, .q, .fix 3), (0xA133, .c, .fix 10), (0xA134, .c, .fix 6),
   (0xA135, .q, .fix 6), (0xA136, .q, .fix 1), (0xA140, .q, .fix 1), (0xA141, .c, .fix 9), (0xA142, .q, .fix 1),
   (0xA143, .c, .var 4 2 2 1 0xFF), (0xA144, .q, .fix 1), (0xA150, .q, .fix 1), (0xA151, .c, .fix 6),
   (0xA152, .c, .var 4 2 3 1 0xFF), (0xA153, .c, .fix 28), (0xA160, .c, .var 4 1 2 2 0xFFFF), (0xA161, .q, .fix 6),
   (0xA162, .q, .fix 1), (0xA170, .q, .fix 1), (0xA171, .c, .fix 4)] ++
  [(0xA200, .q, .fix 1), (0xA201, .q, .fix 1), (0xA202, .c, .fix 9), (0xA300, .q, .fix 1), (0xA301, .c, .fix 10),
   (0xA310, .c, .fix 16), (0xA320, .c, .fix 4), (0xA321, .c, .fix 1), (0xA330, .q, .fix 1), (0xA331, .c, .fix 24),
   (0xA340, .c, .var 4 4 1 1 0xFF), (0xA400, .c, .fix 8), (0xA401, .c, .fix 8), (0xA402, .c, .var 4 64 2 1 0xFF),
   (0xA403, .c, .fix 4), (0xA404, .c, .fix 10), (0xA405, .c, .fix 2), (0xA406, .q, .fix 0), (0xA500, .q, .fix 1),
   (0xA501, .c, .fix 12), (0xA502, .c, .step), (0xA503, .c, .fix 8), (0xA504, .c, .fix 8), (0xA510, .q, .fix 1),
   (0xA511, .c, .fix 16), (0xA520, .q, .fix 1), (0xA600, .q, .fix 0), (0xA601, .c, .fix 7), (0xA602, .d, .fix 0),
   (0xA603, .c, .fix 0), (0xA604, .c, .fix 0), (0xA610, .c, .frame), (0xA620, .c, .fix 1), (0xA630, .c, .fix 0)] ++
  [(0xA700, .q, .fix 0), (0xA701, .s, .fix 24), (0xA702, .s, .fix 12), (0xA703, .s, .fix 3),
   (0xA704, .s, .var 4 1 2 2 0x7FFF), (0xA705, .s, .fix 6), (0xA706, .c, .fix 10), (0xA800, .q, .fix 0), (0xA810, .s, .fix 32),
   (0xA811, .q, .fix 4), (0xA812, .q, .fix 4), (0xA813, .q, .fix 0), (0xA820, .s, .fix 1), (0xA821, .c, .fix 0),
   (0xA822, .s, .fix 32), (0xA830, .f, .var 8 1 2 2 0xFFFF), (0xA900, .q, .fix 2), (0xA910, .q, .fix 2), (0xA920, .c, .fix 16),
   (0xA921, .q, .fix 2), (0xAA00, .c, .fix 8), (0xAA01, .c, .fix 0), (0xAA10, .q, .fix 5), (0xAA11, .c, .fix 12),
   (0xAA20, .c, .fix 16), (0xAA21, .q, .fix 1), (0xAB00, .c, .fix 8), (0xAB01, .q, .fix 0), (0xAB02, .q, .fix 1),
   (0xAB03, .c, .fix 0), (0xAC00, .q, .fix 0), (0xAC01, .d, .fix 8), (0xAC02, .d, .fix 1)]

/-- The class and length rule of an opcode; none for an opcode this manual does not define. -/
def kciRow (op : Nat) : Option (Cls × LenRule) := (kciTable.find? fun r => r.1 == op).map fun r => r.2

/-- Whether a payload's length matches the command's request table (R273 step 3). -/
def LenRule.fits : LenRule → List Byte → Bool
  | .fix n, p => p.length == n
  | .var base stride off w mask, p => off + w ≤ p.length && p.length == base + stride * (fieldAt p off w &&& mask)
  | .step, p => if fieldAt p 1 1 == 2 then p.length == 12 else p.length == 16
  | .frame, p => 8 ≤ p.length && p.length ≤ 1016

/-- The class of TWIN.RELAY is one step slower than the inner command's; none for an inner D or F command, or an inner
opcode the manual does not define. -/
def relayCls (inner : Nat) : Option Cls :=
  match kciRow inner with
  | some (.q, _) => some .c
  | some (.c, _) => some .s
  | some (.s, _) => some .d
  | _ => none

/-- The first six bytes of a response header (Table 11-5). -/
def rspHead (op : Nat) (seq : Byte) (st : Status) (len : Nat) : List Byte :=
  be 2 op ++ [seq, BitVec.ofNat 8 (0x80 + st.code)] ++ be 2 len

/-- A native response frame. -/
def rspFrame (op : Nat) (seq : Byte) (st : Status) (p : List Byte) : List Byte :=
  let h := rspHead op seq st p.length
  h ++ be 2 (crc16 (h ++ p)) ++ p

/-- The frame KCI.READ returns when the queue is empty (R264). -/
def emptyFrame : List Byte := be 2 0xFFFF ++ zeros 6

/-- A frame joins the 8-frame response queue, or waits for a place in it (R264). -/
def Mgmt.pushRsp (m : Mgmt) (fr : List Byte) : Mgmt :=
  if m.rspq.length < 8 then { m with rspq := m.rspq ++ [fr] } else { m with rsphold := m.rsphold ++ [fr] }

/-- Queues a Crosscut cell in priority order (Table 15-2); SEQ increases by 1 per cell (R351). -/
def Xc.queue (x : Xc) (type : Nat) (body : List Byte) (prio : Nat → Nat) : Xc :=
  let c : XCell := { type := type, seq := x.seq, body := body }
  let before := x.txq.takeWhile fun e => prio e.type ≤ prio type
  { x with txq := before ++ [c] ++ x.txq.drop before.length, seq := (x.seq + 1) % 256 }

/-- The priorities of Table 15-2. -/
def cellPrio (t : Nat) : Nat :=
  if t = 4 then 1 else if t = 8 || t = 9 || t = 13 then 2 else if t = 3 then 3 else if t = 10 || t = 11 then 4
  else if t = 6 then 5 else if t = 1 || t = 2 then 6 else if t = 5 then 7 else if t = 7 || t = 12 then 8 else 9

/-- Queues a cell on the Crosscut link; a sleeping transmit direction wakes for any but IDLE, HEARTBEAT and SLEEP (R353). -/
def Dev.cell (d : Dev) (type : Nat) (body : List Byte) : Dev :=
  let d1 := { d with xc := d.xc.queue type body cellPrio }
  if type = 0 || type = 3 || type = 12 then d1
  else ({ d1 with xc := { d1.xc with busyAt := d.now } }).clr F.XC_STAT_TXSLEEP

/-- A firmware message goes over MAILBOX_RELAY, 24 bytes a cell (Table 15-2; log entry 25). -/
def Dev.message (d : Dev) (bytes : List Byte) : Dev :=
  iter (ceilDiv bytes.length 24) (fun i e => e.cell 7 (bytesAt bytes (24 * i) 24)) d

/-- Delivers a response on the path its command came by; over CDB the command's completion is flagged. -/
def Dev.respond (d : Dev) (src : Src) (op : Nat) (st : Status) (p : List Byte) : Dev :=
  match src with
  | .spi seq => d.mapMgmt fun m => m.pushRsp (rspFrame op seq st p)
  | .cdb i => d.mapMgmt fun m => { m with cdb := m.cdb.set i (let c := m.cdb.get i
      { c with cmd := op, busy := false, success := true, failure := 0, seq := (c.seq + 1) % 256
               reply := [BitVec.ofNat 8 st.code, BitVec.ofNat 8 c.seq] ++ p }) }.flag (6 + i.val)
  | .applet a => d.mapMgmt fun m => { m with applets := m.applets.set a (let x := m.applets.get a
      { x with replies := x.replies ++ [rspFrame op 0 st p] }) }
  | .twin seq => (d.mapMgmt fun m => { m with twinReplies := m.twinReplies ++ [rspFrame op seq st p] }).message
      (rspFrame op seq st p)

/-- A BUSY response carries RETRY (R274); every one is counted (GLB_KCICNT.BUSY, Tally event 7). -/
def Dev.respondBusy (d : Dev) (src : Src) (op retry : Nat) : Dev :=
  ((d.respond src op .busy (be 2 (satN 65535 retry))).inc F.GLB_KCICNT_BUSY).tallyEvent 7 1

/-- Whether a source is a host path (or the twin's endpoint, which relays for a host). -/
def srcHost : Src → Bool
  | .applet _ => false
  | _ => true

/-- Whether a source is native SPI. -/
def srcSpi : Src → Bool
  | .spi _ => true
  | _ => false

/-- Whether an accepted command counts in the depth that a new command from `src` meets. -/
def sameDepth (src : Src) (a : Accepted) : Bool :=
  match src, a.src with
  | .applet i, .applet j => i == j
  | .applet _, _ => false
  | _, .applet _ => false
  | _, _ => true

/-- Milliseconds, rounded up and at least 1, until an accepted command reaches its class bound (R278). -/
def Dev.retryOf (d : Dev) (a : Accepted) : Nat := max 1 (ceilDiv (a.since + a.cls.bound - d.now) tickMs)

/-- A D command conflicts with an uncompleted D command on a common lane group, or on a common half when either changes the
half's family (R277). `lanes` and `fam` are masks of lanes and halves. -/
def conflicts (cls : Cls) (lanes fam : Nat) (a : Accepted) : Bool :=
  cls == .d && a.cls == .d &&
    ((lanes &&& a.lanes) != 0 ||
     [0, 1].any fun h => (fam.testBit h || a.fam.testBit h) &&
       (lanes / 16 ^ h % 16 != 0) && (a.lanes / 16 ^ h % 16 != 0))

/-- Admission (R263, R275, R277): none when the command is admitted, otherwise RETRY. -/
def Dev.admission (d : Dev) (src : Src) (cls : Cls) (lanes fam : Nat) : Option Nat :=
  let same := d.mgmt.outst.filter fun a => a.cls == cls && sameDepth src a
  if srcSpi src && 4 ≤ (d.mgmt.outst.filter fun a => srcSpi a.src).length then some 1
  else if cls.depth (!srcHost src) ≤ same.length then
    some (match same with | [] => 1 | a :: _ => d.retryOf a)
  else match d.mgmt.outst.find? (conflicts cls lanes fam) with
    | some a => some (d.retryOf a)
    | none => none

/-- What a command's body answers. -/
inductive Res where
  /-- accepted and complete, with the response payload -/
  | ok (d : Dev) (p : List Byte)
  /-- not accepted; nothing changed -/
  | no (st : Status)
  /-- BUSY from the command's own rule, with RETRY -/
  | busy (retry : Nat)
  /-- BUSY from the command's own rule, with what the refusal itself counts -/
  | busyWith (d : Dev) (retry : Nat)
  /-- not accepted, with what the refusal itself changes (a block that discards its object) -/
  | refuse (d : Dev) (st : Status)
  /-- accepted, ended with EXHAUSTED or FAULT -/
  | late (d : Dev) (st : Status)
  /-- accepted and not complete -/
  | hold (d : Dev) (w : Wait)

/-- The commands an applet may not send (R295): EXP, SEC but for status, certificate and signed-object reads, SYS.APPLET,
SYS.RESET, SYS.LEGACY and class F. -/
def appletDenied (op : Nat) (cls : Cls) : Bool :=
  op / 256 == 0xAA || (op / 256 == 0xA8 && op != 0xA800 && op != 0xA811 && op != 0xA812) ||
    op == 0xA001 || op / 16 == 0xA01 || op / 16 == 0xA02 || cls == .f

/-- The largest response payload a path carries (R270, R271). -/
def srcRoom : Src → Nat
  | .cdb _ => 118
  | _ => 1024

/-- Whether a two-wire transaction reaches the device (R260, R356). -/
def Dev.twoWire (d : Dev) : Bool := d.pinsLive && !d.mgmt.modselHigh && (d.mgmt.twinId == 0 || d.mgmt.endpt)

/-- A command that is accepted: firmware raises the core clock (R392) and Tally event 6 counts it. -/
def Dev.accepted (d : Dev) : Dev := (d.mapMgmt fun m => { m with coreFast := true }).tallyEvent 6 1

/-- A CDB instance shows its command in progress. -/
def Dev.cdbBusy (d : Dev) (src : Src) (op : Nat) : Dev :=
  match src with
  | .cdb i => d.mapMgmt fun m => { m with cdb := m.cdb.set i { m.cdb.get i with busy := true, cmd := op } }
  | _ => d

/-- Ends a standard CDB command: success with a reply, or failure with a reason and no KCI reply (R269, R270). The reasons are
CMIS's: 0 none given, 1 unknown command ID, 2 a parameter out of range, 5 CdbChkCode (PRESUMED, log entry 32). -/
def Dev.cdbDone (d : Dev) (i : Fin 2) (op : Nat) (success : Bool) (failure : Nat) (reply : List Byte) : Dev :=
  d.mapMgmt fun m => { m with cdb := m.cdb.set i { m.cdb.get i with
    cmd := op, busy := false, success := success, failure := failure, reply := reply } }.flag (6 + i.val)

/-- Firmware has accepted a command: it is counted (R392, Tally event 6). The boot ROM accepts SYS.ID.GET alone and counts nothing
(R297). -/
def Dev.count (d : Dev) : Dev := if d.fwRun then d.accepted else d

/-- A command that is complete: accepted, and its response delivered; a reply its path has no room for is BAD_PARAM without an
acceptance and with no effect (R270). `y` is the device after the command's effect, `x` the device before it. -/
def Dev.completes (x : Dev) (e : Accepted) (y : Dev) (p : List Byte) : Dev :=
  if p.length ≤ srcRoom e.src then (y.respond e.src e.op .ok p).count else x.respond e.src e.op .badParam []

/-- A command that its own checks turn away: a status and no effect. -/
def Dev.declines (x : Dev) (e : Accepted) (st : Status) : Dev := x.respond e.src e.op st []

/-- An accepted command that is not complete: it is listed with what it waits for. -/
def Dev.holds (y : Dev) (e : Accepted) (w : Wait) : Dev :=
  ((y.cdbBusy e.src e.op).mapMgmt fun m => { m with outst := m.outst ++ [{ e with wait := w }] }).count

/-- Runs an admitted command's body on the device and delivers its response. -/
def Dev.runBody (d : Dev) (e : Accepted) (body : Dev → Res) : Dev :=
  match body d with
  | .ok d1 p => d.completes e d1 p
  | .no st => d.declines e st
  | .busy r => d.respondBusy e.src e.op r
  | .busyWith d1 r => d1.respondBusy e.src e.op r
  | .refuse d1 st => d1.respond e.src e.op st []
  | .late d1 st => (d1.respond e.src e.op st []).count
  | .hold d1 w => d1.holds e w

/-- Drops one entry of the outstanding list. -/
def Dev.unlist (d : Dev) (a : Accepted) : Dev := d.mapMgmt fun m => { m with outst := m.outst.erase a }

/-- Whether the source's path can carry a command now: an SPI frame needs room in the response queue (R264), a CDB instance
must be reached and free (R260, R269), an applet must be running, a relayed command needs the twin attached. -/
def Dev.pathOpen (d : Dev) : Src → Bool
  | .spi _ => d.pinsLive
  | .cdb i => d.twoWire && !(d.mgmt.cdb.get i).busy
  | .applet a => (d.mgmt.applets.get a).state == 2 && (d.mgmt.applets.get a).window != some (d.now / (20 * tickMs))
  | .twin _ => d.rd F.XC_STAT_STATE == 3

/-- A command other than SYS.ID.GET, SYS.PWR.GET and POT.STAT.GET arrives: after a timer wake the device stays awake (R401). -/
def Dev.arrives (d : Dev) (op : Nat) : Dev :=
  if d.power.timerWake && op ≠ 0xA000 && op ≠ 0xA050 && op ≠ 0xA700 then { d with power := { d.power with timerWake := false } } else d

/-- The entry of a command accepted now: its source, opcode, class, the time, and the lanes it touches and the halves whose family it
changes. -/
def Dev.entry (d : Dev) (src : Src) (op : Nat) (cls : Cls) (lanes : Nat := 0) (fam : Nat := 0) : Accepted :=
  ⟨src, op, cls, d.now, lanes, fam, .start⟩

/-- Firmware admits a command (R264, R275, R277, R295): firmware runs, the command's path is open, SPI has room for its response, an
applet may give it, and neither a depth nor a conflict stands against it. -/
def Dev.admits (d : Dev) (src : Src) (op : Nat) (cls : Cls) (lanes : Nat := 0) (fam : Nat := 0) : Bool :=
  d.phase == .fw && d.pathOpen src && !(srcSpi src && 8 ≤ d.mgmt.rspq.length) && !(!srcHost src && appletDenied op cls) &&
    (d.admission src cls lanes fam).isNone

/-- Every KCI command, once its opcode and LEN have passed steps 2 and 3 of R273: under the boot ROM only SYS.ID.GET is served; under
firmware the command meets R295 and the admission of R275, and an admitted one executes at once. `lanes` and `fam` are the lanes
it touches and the halves whose family it changes. -/
def Dev.kci (d : Dev) (src : Src) (op : Nat) (cls : Cls) (body : Dev → Res) (lanes : Nat := 0) (fam : Nat := 0) : Dev :=
  if !(d.phase == .fw || d.phase == .rom || d.phase == .romFailed) || !d.pathOpen src then d
  else if srcSpi src && 8 ≤ d.mgmt.rspq.length then d.mapMgmt fun m => { m with reqdrop := true }
  else if d.phase != .fw then
    (if op == 0xA000 then d.runBody (d.entry src op cls) body else d.respond src op .notReady [])
  else if !srcHost src && appletDenied op cls then d.respond src op .denied []
  else match d.admission src cls lanes fam with
    | some r => (d.arrives op).respondBusy src op r
    | none => (d.arrives op).runBody ((d.arrives op).entry src op cls lanes fam) body

/-- A KCI command after which, once it has been admitted, the device goes on at once with what is then due. -/
def Dev.kciThen (d : Dev) (src : Src) (op : Nat) (cls : Cls) (body : Dev → Res) (lanes fam : Nat) (next : Dev → Dev) : Dev :=
  let r := d.kci src op cls body lanes fam
  if d.admits src op cls lanes fam then next r else r

/-- Completes every outstanding command that `f` has a result for. -/
def Dev.settle (d : Dev) (f : Accepted → Option (Status × List Byte)) : Dev :=
  d.mgmt.outst.foldl (fun e a =>
    match f a with
    | some (st, p) => (e.unlist a).respond a.src a.op st p
    | none => e) d

/-- Completes the outstanding commands that wait for exactly `w`. -/
def Dev.settleWait (d : Dev) (w : Wait) (st : Status) (p : List Byte) : Dev :=
  d.settle fun a => if a.wait == w then some (st, p) else none

/-- Changes what outstanding commands wait for. -/
def Dev.mapWait (d : Dev) (f : Wait → Wait) : Dev :=
  d.mapMgmt fun m => { m with outst := m.outst.map fun a => { a with wait := f a.wait } }

/-- A check of a byte operand against a keep value. -/
def okKeep (v hi : Nat) : Bool := v ≤ hi || v == 0xFF

/-- Lifts an effect on the device to the machine; memory and the queue stay. -/
def lift (f : Dev → Dev) (s : State) : Host.Outcome State Fault Refusal := .next { s with dev := f s.dev }

/-- Lifts an effect on memory and the device to the machine; the queue stays. -/
def liftMem (f : Memory → Dev → Memory × Dev) (s : State) : Host.Outcome State Fault Refusal :=
  .next { s with mem := (f s.mem s.dev).1, dev := (f s.mem s.dev).2 }

end Sys2Proof.Machine
end

