-- ==== Sys2Proof/Machine/Tu.lean ====
section
/-! DEFINITION. The time unit (chapter 14): time bases, setting and stepping, the servo, PPS, the stamp FIFO, link delay, and
the TIME commands. -/

namespace Sys2Proof.Machine

/-! ## Time bases (R332 to R336) -/

/-- Time base `i`. -/
def Dev.tb (d : Dev) (i : Nat) : Tb := d.tu.tbs.getD i {}

/-- Updates time base `i`. -/
def Dev.mapTb (d : Dev) (i : Nat) (f : Tb → Tb) : Dev := { d with tu := { d.tu with tbs := vset d.tu.tbs i f } }

/-- Units of `Tb.sub` in a second. -/
def subS : Nat := 1000000000 * subNs

/-- A time base moved to a whole number of sub-units since second 0; SEC wraps at 2^48 (R332). -/
def Tb.setTotal (t : Tb) (u : Int) : Tb :=
  { t with sec := tc 48 (u.fdiv subS), sub := (u.fmod subS).toNat }

/-- Sub-units since second 0. -/
def Tb.total (t : Tb) : Nat := t.sec * subS + t.sub

/-- One tick: 0.64 ns × (1 + RATE × 2^-48) (R333), the correction kept exactly (log entry 95). -/
def Tb.tick (t : Tb) : Tb :=
  let u := t.setTotal (t.total + 16 * (2 ^ 48 + t.rate))
  { u with passed := u.sec != t.sec }

/-- All four time bases advance by one tick while TIME is on. -/
def Dev.tuTick (d : Dev) : Dev :=
  if d.domOn dTIME then { d with tu := { d.tu with tbs := d.tu.tbs.map Tb.tick } } else d

/-- ±500 ppm (R333). -/
def rateMax : Int := 140737488355

/-- Loads RATE, confined to ±500 ppm; a clamp sets CLAMP. -/
def Dev.setRate (d : Dev) (i : Nat) (r : Int) : Dev :=
  let c := clampI (-rateMax) rateMax r
  let d1 := d.mapTb i fun t => { t with rate := c }
  if c = r then d1 else d1.set F.TU_TBSTAT_CLAMP i

/-- The number of an accessor: 0 Whetstone, 1 management core, 2 SPI host, 3 expert mailbox, 4 twin. -/
def Accessor.idx : Accessor → Nat
  | .ws => 0 | .mgmt => 1 | .spi => 2 | .mbox => 3 | .twin => 4

/-- A read of TU_TNS latches SEC and FRAC of the same tick for the accessor (R334). -/
def Dev.readTns (d : Dev) (a i : Nat) : Dev :=
  { d with tu := { d.tu with latch := vset d.tu.latch a fun l => vset l i fun _ => d.stamp i } }

/-- A write of TU_RATEHI stages the high half for the accessor. -/
def Dev.writeRateHi (d : Dev) (a i v : Nat) : Dev := d.mapTb i fun t => { t with stage := vset t.stage a fun _ => v % 2 ^ 16 }

/-- A write of TU_RATELO loads both halves in one tick and clears the staged half (R329, R334). -/
def Dev.writeRateLo (d : Dev) (a i v : Nat) : Dev :=
  let hi := (d.tb i).stage.getD a 0
  (d.setRate i (sx 48 (hi * 2 ^ 32 + v % 2 ^ 32))).mapTb i fun t => { t with stage := vset t.stage a fun _ => 0 }

/-- A 12-byte timestamp. -/
def stampBytes (t : Stamp) : List Byte := be 6 t.sec ++ be 4 t.ns ++ be 2 t.frac

/-- A timestamp in 2^-16 ns. -/
def Stamp.units (t : Stamp) : Int := ((t.sec * 1000000000 + t.ns) * 65536 + t.frac : Nat)

/-- A timestamp from 2^-16 ns. -/
def stampOf (u : Int) : Stamp :=
  { sec := tc 48 (u.fdiv 65536000000000), ns := (u.fmod 65536000000000 / 65536).toNat, frac := (u.fmod 65536).toNat }

/-- The time bases' offset source; SRC acts as 0 on TB3 (R335). -/
def Dev.tbSrc (d : Dev) (i : Nat) : Nat := if i = 3 then 0 else d.rd F.TU_TBCTL_SRC i

/-- Applies a set or a step at one tick (R336): a set on a time base not VALID makes it VALID; any other is a step. -/
def Dev.applyMove (d : Dev) (i : Nat) (m : TbMove) : Dev :=
  let valid := d.on F.TU_TBSTAT_VALID i
  let d1 := match m with
    | .set s n f => (d.mapTb i fun t => t.setTotal (((s * 1000000000 + n) * 65536 + f : Nat) * (25 * 2 ^ 32))).set F.TU_TBSTAT_VALID i
    | .add x => d.mapTb i fun t => t.setTotal (t.total + x * (25 * 2 ^ 32))
  let d1 := d1.mapTb i fun t => { t with passed := false }
  let isSet := match m with | .set .. => true | .add _ => false
  if isSet && !valid then d1
  else (((d1.mapTb i fun t => { t with steps := t.steps + 1 }).set F.TU_TBSTAT_STEPPED i).event evStep (0x0A00 + i))

/-! ## The servo (R337 to R340) -/

/-- Accepts an offset from a source for time base `i`: result 0 queued, 2 wrong source (SRCERR), 3 not VALID. -/
def Dev.offer (d : Dev) (i source : Nat) (theta : Int) (src : Option Src) : Nat × Dev :=
  if d.tbSrc i ≠ source then (2, d.set F.TU_TBSTAT_SRCERR i)
  else if !d.on F.TU_TBSTAT_VALID i then (3, d)
  else (0, d.mapTb i fun t => { t with offs := t.offs ++ [{ source := source, theta := theta, epoch := t.steps, src := src }] })

/-- θ rounded to the 2^-8 ns of TU_LASTOFS (DEDUCED, log entry 21). -/
def lastOfs (theta : Int) : Nat := tc 32 (rneDiv theta 256000)

/-- STEPMAX in 2^-16 ps: 0 acts as 1, above 1,000,000 as 1,000,000 (R339). -/
def Dev.stepMax (d : Dev) (i : Nat) : Int := (satN 1000000 (max 1 (d.rd F.TU_STEPMAX_NS i)) * 65536000 : Nat)

/-- An offset beyond STEPMAX (R339); refusals above one per second are coalesced. -/
def Dev.refuseOffset (d : Dev) (i : Nat) (theta : Int) : Dev :=
  let d1 := ((d.wr F.TU_LASTOFS_VALUE i (lastOfs theta)).set F.TU_TBSTAT_REFUSED i).inc F.TU_TBSTAT_REFCNT i
  let again : Bool := match (d.tb i).lastRef with | some t => decide (d.now < t + tickS) | none => false
  let d2 := if again then d1.fold (Config.eventCode evOffset) (0x0A00 + i) else d1.event evOffset (0x0A00 + i)
  d2.mapTb i fun t => { t with lastRef := some d.now }

/-- I and F are confined to ±32,768,000. -/
def integMax : Int := 32768000

/-- An accepted offset moves the integrator, F and RATE (R338); while RATE is pinned RATE keeps its value (R334). -/
def Dev.applyOffset (d : Dev) (i : Nat) (theta : Int) : Dev :=
  let i0 := d.rdS F.TU_INTEG_VALUE i
  let i1 := i0 - rneDiv ((d.rd F.TU_SRVGAIN_KI i : Int) * theta) 65536000
  let ic := clampI (-integMax) integMax i1
  let f1 := ic - rneDiv ((d.rd F.TU_SRVGAIN_KP i : Int) * theta) 65536000
  let fc := clampI (-integMax) integMax f1
  let d1 := ((d.wrS F.TU_INTEG_VALUE i ic).wr F.TU_LASTOFS_VALUE i (lastOfs theta)).mapTb i fun t => { t with f := fc }
  let d2 := if ic = i1 && fc = f1 then d1 else d1.set F.TU_TBSTAT_CLAMP i
  if d.pinned F.TU_RATELO_VALUE i || d.pinned F.TU_RATEHI_VALUE i then d2
  else d2.setRate i (rneDiv (fc * 2 ^ 32) 1000000)

/-- Completes the TIME.OFFSET that submitted an offset. -/
def Dev.offsetResult (d : Dev) (o : Offset) (i r : Nat) : Dev :=
  match o.src with
  | none => d
  | some s => d.settle fun a => if a.src == s && a.wait == .timeOffset i then some (.ok, be 1 r) else none

/-- The oldest accepted offset of time base `i` is applied, refused, or discarded when a step fell after its stamps; at
most one in a tick (R340). -/
def Dev.servo (d : Dev) (i : Nat) : Dev :=
  if (d.tb i).applied = some d.now then d
  else match (d.tb i).offs with
  | [] => d
  | o :: rest =>
    let d1 := d.mapTb i fun t => { t with offs := rest, applied := some d.now }
    if (o.source == 2 || o.source == 3) && o.epoch != (d.tb i).steps then d1
    else if d.stepMax i < o.theta.natAbs then (d1.refuseOffset i o.theta).offsetResult o i 1
    else (d1.applyOffset i o.theta).offsetResult o i 0

/-- A host offset in 2^-8 ns as θ in 2^-16 ps. -/
def hostTheta (v : Nat) : Int := sx 32 v * 256000

/-- SERVO_OFFSET_APPLY (R338, R339, R340). -/
def execServoOffsetApply (tb : Fin 4) : State → Host.Outcome State Fault Refusal := lift fun d => d.servo tb.val

/-- TB_STEP_APPLY (R336): the oldest accepted set or step of the time base; its command answers the time at the tick. In a tick that has
taken an offset it waits: a step goes before an offset (R340). -/
def execTbStepApply (tb : Fin 4) : State → Host.Outcome State Fault Refusal := lift fun d =>
  match (d.tb tb.val).moves with
  | [] => d
  | (m, s) :: rest =>
    if (d.tb tb.val).applied = some d.now then d else
    let d1 := (d.mapTb tb.val fun t => { t with moves := rest }).applyMove tb.val m
    d1.settle fun a => if a.src == s && a.wait == .timeStep tb.val then some (.ok, stampBytes (d1.stamp tb.val)) else none

/-! ## The stamp FIFO (R343) -/

/-- An enabled source's entry joins the FIFO, or is lost when it is full. -/
def Dev.fifoAt (d : Dev) (src ch tb aux : Nat) (time : Stamp) : Dev :=
  if !(d.rd F.TU_FIFOCTL_SRCEN).testBit src then d
  else if d.tu.fifo.length < 16 then
    let e : FifoEntry := { src := src, ch := ch, tb := tb, aux := aux, time := time, epoch := (d.tb tb).steps }
    ({ d with tu := { d.tu with fifo := d.tu.fifo ++ [e] } }).wr
      F.TU_FIFOSTAT_COUNT 0 (d.tu.fifo.length + 1)
  else (d.set F.TU_FIFOSTAT_OVF).inc F.TU_FIFOSTAT_LOST

/-- An entry stamped now. -/
def Dev.fifoPush (d : Dev) (src ch tb aux : Nat) : Dev := d.fifoAt src ch tb aux (d.stamp tb)

/-- Whether the FIFO belongs to firmware: some lane has TU_TTCTL.EN = 1. -/
def Dev.fifoFw (d : Dev) : Bool := lanes8.any fun k => d.on F.TU_TTCTL_EN k.val

/-- Removes the oldest entry. -/
def Dev.fifoPop (d : Dev) : Dev :=
  ({ d with tu := { d.tu with fifo := d.tu.fifo.tail } }).wr F.TU_FIFOSTAT_COUNT 0 d.tu.fifo.tail.length

/-- The TU_FIFOHDR word of an entry. -/
def FifoEntry.word (e : FifoEntry) : Nat := e.src + 16 * e.ch + 256 * e.tb + 2 ^ 15 + 2 ^ 16 * e.aux

/-- A read of TU_FIFOHDR removes the oldest entry and loads its timestamp into the accessor's latch. -/
def Dev.readFifoHdr (d : Dev) (a : Nat) : Dev :=
  match d.tu.fifo with
  | [] => d
  | e :: _ => ({ d with tu := { d.tu with fifoLatch := vset d.tu.fifoLatch a fun _ => e.time } }).fifoPop

/-- A marked-cycle list with a new mark; the newest eight are kept. -/
def keepMark (l : List Mark) (m : Mark) : List Mark := (m :: l).take 8

/-- Firmware takes an entry it drained: SRC 1 and 2 to the lane's marks, 0, 4 and 5 to the copy of the latest 64. -/
def Dev.fwEntry (d : Dev) (e : FifoEntry) : Dev :=
  let m : Mark := { p := e.aux * 65536, time := e.time, epoch := e.epoch }
  if e.src = 1 then { d with tu := { d.tu with tt := vset d.tu.tt e.ch fun t => { t with tx := keepMark t.tx m } } }
  else if e.src = 2 then { d with tu := { d.tu with tt := vset d.tu.tt e.ch fun t => { t with rx := keepMark t.rx m } } }
  else if e.src = 3 then d
  else
    let l := d.tu.kept ++ [e]
    { d with tu := { d.tu with kept := l.drop (l.length - 64) } }

/-- FIFO_DRAIN (R343). -/
def execFifoDrain : State → Host.Outcome State Fault Refusal := lift fun d =>
  match d.tu.fifo with
  | [] => d
  | e :: _ => if d.fwRun && d.fifoFw then d.fifoPop.fwEntry e else d

/-! ## PPS (R341, R342) -/

/-- θ of a PPS edge at a stamp: the stamp less the compensation less the nearest whole second, in 2^-16 ps. -/
def ppsTheta (t : Stamp) (comp : Int) : Int :=
  let u : Int := ((t.ns * 65536 + t.frac) * 1000 : Nat) - 10 * comp * 65536
  let s : Int := 65536000000000 * 1000
  let r := u.fmod s
  if 2 * r < s then r else r - s

/-- PPS_IN_EDGE (R341): an edge of the selected polarity is stamped, and every time base with SRC 2 is offered an offset
unless the last edge used was less than 0.5 s ago. -/
def execPpsInEdge (falling : Bool) : State → Host.Outcome State Fault Refusal := lift fun d =>
  if !d.pinsLive || !d.domOn dTIME || !d.on F.TU_PPSCFG_EN || d.on F.TU_PPSCFG_EDGE != falling then d
  else
    let d1 := d.fifoPush 0 0 (d.rd F.TU_PPSCFG_TB) 0
    let usable : Bool := match d.tu.lastEdge with | some t => decide (t + tickS / 2 ≤ d.now) | none => true
    if !usable || !([0, 1, 2].any fun i => d.tbSrc i = 2) then d1
    else
      let d2 := iter 3 (fun i e => if e.tbSrc i = 2 then
          (e.offer i 2 (ppsTheta (d.stamp i) (d.rdS F.TU_PPSCFG_COMP)) none).2 else e) d1
      { d2 with tu := { d2.tu with lastEdge := some d.now } }

/-- PPS_OUT_PULSE (R342): at the tick that passes NS 0, when SEC exceeds that of the last pulse and the time base is VALID. -/
def execPpsOutPulse (n : Fin 2) : State → Host.Outcome State Fault Refusal := lift fun d =>
  let f := (F.TU_PPSOUT_EN).at n.val
  let i := d.rd ((F.TU_PPSOUT_TB).at n.val)
  let t := d.tb i
  if d.domOn dTIME && d.on f && d.on F.TU_TBSTAT_VALID i && d.tu.ppsSec.getD n.val 0 < t.sec && t.passed then
    { d with tu := { d.tu with ppsSec := vset d.tu.ppsSec n.val (fun _ => t.sec), ppsHigh := vset d.tu.ppsHigh n.val (fun _ => true)
                               ppsAt := vset d.tu.ppsAt n.val fun _ => d.now } }
  else d

/-- PPS_WIDTH_EXPIRY (R342): WIDTH µs (0 acts as 1) after the pulse began; 1 µs is 1,562.5 ticks. -/
def execPpsWidthExpiry (n : Fin 2) : State → Host.Outcome State Fault Refusal := lift fun d =>
  if 2 * d.now < 2 * d.tu.ppsAt.getD n.val 0 + 3125 * max 1 (d.rd ((F.TU_PPSOUT_WIDTH).at n.val)) then d
  else { d with tu := { d.tu with ppsHigh := vset d.tu.ppsHigh n.val fun _ => false } }

/-- The level at PPS_OUTn; POL = 1 inverts it. -/
def Dev.ppsLevel (d : Dev) (n : Nat) : Bool := d.tu.ppsHigh.getD n false != d.on ((F.TU_PPSOUT_POL).at n)

/-! ## Link delay (R344 to R347) -/

/-- Lane `k`'s time transfer. -/
def Dev.tt (d : Dev) (k : Nat) : TtLane := d.tu.tt.getD k {}

/-- Updates lane `k`'s time transfer. -/
def Dev.mapTt (d : Dev) (k : Nat) (f : TtLane → TtLane) : Dev := { d with tu := { d.tu with tt := vset d.tu.tt k f } }

/-- A frame count that starts a marked pilot cycle: P = F div 8 a multiple of 65,536. -/
def markedFrame (fr : Nat) : Bool := fr % 524288 == 0

/-- The stamp of a marked pilot cycle of lane `k` (R344): SRC 1 plus TXCOMP on transmit, SRC 2 minus RXCOMP on receive, on a
lane in ACTIVE with TU_TTCTL.EN = 1. -/
def Dev.pilotStamp (d : Dev) (k fr : Nat) (tx : Bool) : Dev :=
  if !d.domOn dTIME || !d.on F.TU_TTCTL_EN k || d.rd F.LN_STAT_STEP k != 7 || !d.isC k || !markedFrame fr then d
  else
    let i := d.rd F.TU_TTCTL_TB k
    let ps : Int := if tx then (d.rd F.TU_TTCOMP_TXCOMP k : Nat) else -((d.rd F.TU_TTCOMP_RXCOMP k : Nat) : Int)
    let t := stampOf ((d.stamp i).units + rneDiv (ps * 65536) 1000)
    let d1 := d.fifoAt (if tx then 1 else 2) k i (fr / 524288 % 65536) t
    if tx then d1.mapTt k fun x => { x with since := x.since + 1 } else d1

/-- A retrain discards every stamp of the lane (R344), those still in the FIFO too. -/
def Dev.dropMarks (d : Dev) (k : Nat) : Dev :=
  let keep := d.tu.fifo.filter fun e => !((e.src == 1 || e.src == 2) && e.ch == k)
  let d1 := if keep.length = d.tu.fifo.length then d else ({ d with tu := { d.tu with fifo := keep } }).wr F.TU_FIFOSTAT_COUNT 0 keep.length
  d1.mapTt k fun t => { t with tx := [], rx := [], since := 0 }

/-- The newest P for which both stamps are held. -/
def TtLane.newest (t : TtLane) : Option (Mark × Mark) :=
  t.tx.findSome? fun a => (t.rx.find? fun b => b.p == a.p).map fun b => (a, b)

/-- The TTSTAMP payload (Table 14-2). -/
def Dev.ttPayload (d : Dev) (k : Nat) (a b : Mark) : List Byte :=
  be 4 a.p ++ stampBytes a.time ++ stampBytes b.time ++ be 4 (d.rd F.LN_LATTX_LAT k) ++ be 4 (d.rd F.LN_LATRX_LAT k) ++
    be 1 (d.rd F.TU_TBSTAT_VALID (d.rd F.TU_TTCTL_TB k) + 2 * d.rd F.TU_TTCTL_CALMODE k) ++
    be 1 (d.rd F.TU_TTCTL_ROLE k) ++ be 2 0

/-- The TTRPT payload (R345). -/
def Dev.ttReport (d : Dev) (k : Nat) : List Byte :=
  be 4 (d.rd F.TU_LDELAY_VALUE k) ++ be 4 (d.rd F.TU_LOFS_VALUE k) ++ be 4 (d.rd F.TU_ASYM_VALUE k) ++ zeros 4

/-- A received TTSTAMP completes or discards an exchange (R346, R347). The Boolean says whether it completed. -/
def Dev.ttReceive (d : Dev) (k : Nat) (p : List Byte) : Bool × Dev :=
  let x := d.tt k
  let i := d.rd F.TU_TTCTL_TB k
  let d1 := d.mapTt k fun t => { t with feflags := fieldAt p 36 1, felattx := fieldAt p 28 4, felatrx := fieldAt p 32 4 }
  let local_ := x.newest.bind fun _ =>
    match x.tx.find? (fun m => m.p == fieldAt p 0 4), x.rx.find? (fun m => m.p == fieldAt p 0 4) with
    | some a, some b => if a.epoch == (d.tb i).steps && b.epoch == (d.tb i).steps then some (a, b) else none
    | _, _ => none
  match local_ with
  | none => (false, d1.inc F.TU_TTCNT_DISC k)
  | some (a, b) =>
    if fieldAt p 36 1 % 2 = 0 then (false, d1.inc F.TU_TTCNT_DISC k)
    else
      let far := fun o => Stamp.units { sec := fieldAt p o 6, ns := fieldAt p (o + 6) 4, frac := fieldAt p (o + 10) 2 }
      let d21 := far 16 - a.time.units
      let d43 := b.time.units - far 4
      let asym := d.rdS F.TU_ASYM_VALUE k
      let theta2 := 1000 * (d43 - d21) + asym * 65536
      let d2 := ((d1.wr F.TU_LDELAY_VALUE k (tc 32 (rneDiv (1000 * (d21 + d43)) 131072))).wr F.TU_LOFS_VALUE k
        (tc 32 (rneDiv theta2 131072))).inc F.TU_TTCNT_EXCH k
      let d3 := d2.mapTt k fun t => { t with running := true }
      let d4 := if d.on F.TU_TTCTL_CALMODE k && (fieldAt p 36 1).testBit 1 then
          d3.wr F.TU_LASYMM_VALUE k (tc 32 (rneDiv (1000 * (d21 - d43)) 65536)) else d3
      let d5 := if d.rd F.TU_TTCTL_ROLE k = 2 then
          (if d.tbSrc i = 3 && d.rd F.TU_TBCTL_LANE i = k then (d4.offer i 3 (rneDiv theta2 2) none).2
           else d4.set F.TU_TBSTAT_SRCERR i)
        else d4
      (true, d5)

/-! ## Commands -/

/-- TIME.TB.GET (Table 14-3). -/
def execTimeTbGet (src : Src) (tb : Byte) : State → Host.Outcome State Fault Refusal := lift fun d =>
  d.kci src 0xA500 .q fun d =>
    let i := tb.toNat
    if 3 < i then .no .badParam
    else .ok d (be 2 (d.rd F.TU_TBSTAT_VALID i + 2 * d.rd F.TU_TBSTAT_REFUSED i + 4 * d.rd F.TU_TBSTAT_CLAMP i +
        8 * d.rd F.TU_TBSTAT_STEPPED i + 16 * d.rd F.TU_TBSTAT_SRCERR i) ++
      be 1 (d.rd F.TU_TBCTL_SRC i) ++ be 1 (d.rd F.TU_TBCTL_LANE i) ++ stampBytes (d.stamp i) ++ be 8 (tc 64 (d.tb i).rate) ++
      be 4 (d.rd F.TU_INTEG_VALUE i) ++ be 4 (d.rd F.TU_LASTOFS_VALUE i) ++ be 2 (d.rd F.TU_TBSTAT_REFCNT i) ++ be 2 0)

/-- TIME.TB.CFG (R337). -/
def execTimeTbCfg (src : Src) (tb source lane : Byte) (kp ki : BitVec 16) (stepmax : Word32) :
    State → Host.Outcome State Fault Refusal := lift fun d =>
  d.kci src 0xA501 .c fun d =>
    let i := tb.toNat
    if 3 < i || !okKeep source.toNat 3 || !okKeep lane.toNat 7 ||
        !(stepmax.toNat == 0xFFFFFFFF || (1 ≤ stepmax.toNat && stepmax.toNat ≤ 1000000)) then .no .badParam
    else if i = 3 && source.toNat ≠ 0 && source.toNat ≠ 0xFF then .no .denied
    else .ok (((((d.cfgKeep dTIME F.TU_TBCTL_SRC i source.toNat 0xFF).cfgKeep dTIME F.TU_TBCTL_LANE i lane.toNat 0xFF).cfgKeep
        dTIME F.TU_SRVGAIN_KP i kp.toNat 0xFFFF).cfgKeep dTIME F.TU_SRVGAIN_KI i ki.toNat 0xFFFF).cfgKeep dTIME
        F.TU_STEPMAX_NS i stepmax.toNat 0xFFFFFFFF) []

/-- TIME.TB.STEP (R335, R336): the set or step is posted; TB_STEP_APPLY carries it out and completes the command. -/
def execTimeTbStep (src : Src) (tb action : Byte) (sec : BitVec 48) (ns : Word32) (frac : BitVec 16) (delta : BitVec 64) :
    State → Host.Outcome State Fault Refusal := lift fun d =>
  d.kci src 0xA502 .c fun d =>
    let i := tb.toNat
    if 3 < i || !(action.toNat == 1 || action.toNat == 2) || (action.toNat == 1 && 1000000000 ≤ ns.toNat) then .no .badParam
    else if (action.toNat == 2 || d.on F.TU_TBSTAT_VALID i) && (i == 3 || !d.expert) then .no .denied
    else
      let m := if action.toNat = 1 then TbMove.set sec.toNat ns.toNat frac.toNat else .add delta.toInt
      .hold (d.mapTb i fun t => { t with moves := t.moves ++ [(m, src)] }) (.timeStep i)

/-- TIME.OFFSET (R337, R338): an accepted offset completes the command when it is applied or refused. -/
def execTimeOffset (src : Src) (tb : Byte) (offset : Word32) : State → Host.Outcome State Fault Refusal := lift fun d =>
  d.kci src 0xA503 .c fun d =>
    let i := tb.toNat
    if 3 < i then .no .badParam
    else
      let (r, d1) := d.offer i 1 (hostTheta offset.toNat) (some src)
      if r = 0 then .hold d1 (.timeOffset i) else .ok d1 (be 1 r)

/-- TIME.PPS.SET (R341, R342). -/
def execTimePpsSet (src : Src) (pin en tb pol width : Byte) (comp : BitVec 16) :
    State → Host.Outcome State Fault Refusal := lift fun d =>
  d.kci src 0xA504 .c fun d =>
    if 2 < pin.toNat || !okKeep en.toNat 1 || !okKeep tb.toNat 3 || !okKeep pol.toNat 1 then .no .badParam
    else if pin.toNat = 2 then
      .ok ((((d.cfgKeep dTIME F.TU_PPSCFG_EN 0 en.toNat 0xFF).cfgKeep dTIME F.TU_PPSCFG_TB 0 tb.toNat 0xFF).cfgKeep dTIME
        F.TU_PPSCFG_EDGE 0 pol.toNat 0xFF).cfgKeep dTIME F.TU_PPSCFG_COMP 0 comp.toNat 0x7FFF) []
    else
      let n := pin.toNat
      .ok ((((d.cfgKeep dTIME ((F.TU_PPSOUT_EN).at n) 0 en.toNat 0xFF).cfgKeep dTIME ((F.TU_PPSOUT_TB).at n) 0 tb.toNat
        0xFF).cfgKeep dTIME ((F.TU_PPSOUT_POL).at n) 0 pol.toNat 0xFF).cfgKeep dTIME ((F.TU_PPSOUT_WIDTH).at n) 0 width.toNat
        0xFF) []

/-- TIME.LINK.GET (Table 14-4). -/
def execTimeLinkGet (src : Src) (lane : Byte) : State → Host.Outcome State Fault Refusal := lift fun d =>
  d.kci src 0xA510 .q fun d =>
    let k := lane.toNat
    if 7 < k then .no .badParam
    else
      let t := d.tt k
      let delay := d.rdS F.TU_LDELAY_VALUE k
      let half := rneDiv (d.rdS F.TU_ASYM_VALUE k) 2
      .ok d (be 1 (if !d.on F.TU_TTCTL_EN k then 0 else if t.running then 2 else 1) ++ be 1 (d.rd F.TU_TTCTL_ROLE k) ++
        be 1 t.feflags ++ be 1 0 ++ be 4 (d.rd F.TU_LDELAY_VALUE k) ++ be 4 (d.rd F.TU_LOFS_VALUE k) ++
        be 4 (tc 32 (delay + half)) ++ be 4 (tc 32 (delay - half)) ++ be 4 (d.rd F.TU_LASYMM_VALUE k) ++ be 4 t.felattx ++
        be 4 t.felatrx ++ be 2 (d.rd F.TU_TTCNT_EXCH k) ++ be 2 (d.rd F.TU_TTCNT_DISC k))

/-- TIME.LINK.SET (R344). -/
def execTimeLinkSet (src : Src) (lane en role calmode per tb : Byte) (txcomp rxcomp : BitVec 16) (asym : Word32) :
    State → Host.Outcome State Fault Refusal := lift fun d =>
  d.kci src 0xA511 .c fun d =>
    let k := lane.toNat
    if 7 < k || !okKeep en.toNat 1 || !okKeep role.toNat 2 || !okKeep calmode.toNat 1 || !okKeep tb.toNat 3 then .no .badParam
    else if en.toNat = 1 && !d.isC k then .no .notReady
    else
      let d1 := ((((d.cfgKeep dTIME F.TU_TTCTL_EN k en.toNat 0xFF).cfgKeep dTIME F.TU_TTCTL_ROLE k role.toNat 0xFF).cfgKeep dTIME
        F.TU_TTCTL_CALMODE k calmode.toNat 0xFF).cfgKeep dTIME F.TU_TTCTL_PER k per.toNat 0xFF).cfgKeep dTIME F.TU_TTCTL_TB k
        tb.toNat 0xFF
      let d2 := ((d1.cfgKeep dTIME F.TU_TTCOMP_TXCOMP k txcomp.toNat 0xFFFF).cfgKeep dTIME F.TU_TTCOMP_RXCOMP k rxcomp.toNat
        0xFFFF).cfgKeep dTIME F.TU_ASYM_VALUE k asym.toNat 0x7FFFFFFF
      .ok (if en.toNat = 0 then d2.mapTt k fun t => { t with running := false } else d2) []

/-- A TIME.STAMP.READ entry. -/
def stampEntry (e : FifoEntry) : List Byte := be 1 e.src ++ be 1 (e.ch + 16 * e.tb) ++ be 2 e.aux ++ stampBytes e.time

/-- TIME.STAMP.READ (R343): entries from firmware's copy while the FIFO is its, otherwise from the FIFO; MAX 1 to 7 over CDB
(R270). -/
def execTimeStampRead (src : Src) (max : Byte) : State → Host.Outcome State Fault Refusal := lift fun d =>
  d.kci src 0xA520 .q fun d =>
    let m := max.toNat
    if m = 0 || (if srcRoom src = 118 then 7 else 8) < m then .no .badParam
    else
      let l := (if d.fifoFw then d.tu.kept else d.tu.fifo).take m
      let d1 := if d.fifoFw then { d with tu := { d.tu with kept := d.tu.kept.drop m } }
        else ({ d with tu := { d.tu with fifo := d.tu.fifo.drop m } }).wr F.TU_FIFOSTAT_COUNT 0 (d.tu.fifo.drop m).length
      .ok d1 (be 1 l.length ++ be 1 0 ++ be 2 (d.rd F.TU_FIFOSTAT_LOST) ++ l.flatMap stampEntry)

end Sys2Proof.Machine
end

