-- ==== Sys2Proof/Machine/Pg.lean ====
section
/-! DEFINITION. The pattern generator, markers and multi-device alignment (chapter 10), and the PAT commands. -/

namespace Sys2Proof.Machine

/-- Updates the pattern generator. -/
def Dev.mapPg (d : Dev) (f : Pg → Pg) : Dev := { d with pg := f d.pg }

/-! ## Built-in patterns (R242, Table 10-2) -/

/-- Length and feedback taps of the shift register of TYPE 1 to 5. -/
def lfsrOf (type : Nat) : Nat × List Nat :=
  match type with
  | 1 => (7, [7, 6])
  | 2 => (9, [9, 5])
  | 3 => (13, [13, 12, 2, 1])
  | 4 => (15, [15, 14])
  | _ => (31, [31, 28])

/-- One bit of a PRBS generator: the sum of the tapped stages, which also enters stage 1 (PRESUMED, log entry 22). -/
def lfsrBit (type s : Nat) : Nat × Nat :=
  let (n, taps) := lfsrOf type
  let b := taps.foldl (fun a t => a ^^^ (s / 2 ^ (t - 1) % 2)) 0
  (b, (2 * s + b) % 2 ^ n)

/-- The symbol value of a bit pair, first bit the MSB (Table 2-2). -/
def graySym (msb lsb : Nat) : Nat := if msb = 0 then lsb else 3 - lsb

/-- The level of a symbol value (Table 2-2). -/
def levelOf (v : Nat) : Int := 2 * (v : Int) - 3

/-- A generator in its initial state. -/
def genInit (type : Nat) : Gen := { lfsr := 2 ^ (lfsrOf type).1 - 1, at_ := 0 }

/-- The next symbol of a built-in pattern. `half`, `hi` and `lo` are the square wave's settings. PRBS31 leaves its generator inverted,
as IEEE 802.3 has it (PRESUMED, log entry 22). -/
def genNext (type half hi lo : Nat) (g : Gen) : Nat × Gen :=
  if type = 6 then
    (graySym (b2n (Config.ssprq (2 * g.at_))) (b2n (Config.ssprq (2 * g.at_ + 1))), { g with at_ := (g.at_ + 1) % 65535 })
  else if type = 7 then
    (if g.at_ < max 1 half then hi else lo, { g with at_ := (g.at_ + 1) % (2 * max 1 half) })
  else
    let (a, s1) := lfsrBit type g.lfsr
    let (b, s2) := lfsrBit type s1
    let o := fun (x : Nat) => if type = 5 then 1 - x else x
    (graySym (o a) (o b), { g with lfsr := s2 })

/-- `n` symbols of a built-in pattern. -/
def genRun (type half hi lo : Nat) : Nat → Gen → List Nat × Gen
  | 0, g => ([], g)
  | n + 1, g =>
    let (s, g1) := genNext type half hi lo g
    let (l, g2) := genRun type half hi lo n g1
    (s :: l, g2)

/-- The symbols of RAM granule `g` (R243): symbol i in bits 2(i mod 4) + 1 : 2(i mod 4) of byte i div 4. -/
def ramGranule (p : Pg) (m : Memory) (g : Nat) : List Nat :=
  (List.range 64).flatMap fun j =>
    let b := p.ramByte m (64 * g + j)
    [b % 4, b / 4 % 4, b / 16 % 4, b / 64 % 4]

/-! ## Segments, plays and visits (R244 to R247) -/

/-- A segment is valid (R244). -/
def Dev.segValid (d : Dev) (s : Nat) : Bool :=
  let len := d.rd F.PG_SEGLEN_LEN s
  16 ≤ len && len ≤ 16384 && (d.rd F.PG_SEGBASE_TYPE s != 0 ||
    d.rd F.PG_SEGBASE_START s + (if d.on F.PG_SEGBASE_STREAM s then 2 else 1) * len ≤ 16384)

/-- The RDY field of a half. -/
def rdyFld (h : Nat) : Fld := if h = 0 then F.PG_SEGSTRM_RDY0 else F.PG_SEGSTRM_RDY1

/-- The play of an entry, with the fields read now (R245). -/
def Dev.playOf (d : Dev) (e : Nat) : Play :=
  let s := d.rd ((F.PG_SEQA_SEG).at e 8)
  let type := d.rd F.PG_SEGBASE_TYPE s
  { entry := e, seg := s, type := type, start := d.rd F.PG_SEGBASE_START s, len := d.rd F.PG_SEGLEN_LEN s
    half := if type = 0 && d.on F.PG_SEGBASE_STREAM s then some (d.rd F.PG_SEGSTRM_NEXT s) else none
    loop := d.rd ((F.PG_SEQB_LOOP).at e 8), next := d.rd ((F.PG_SEQA_NEXT).at e 8)
    mark := d.rd ((F.PG_SEQA_MARK).at e 8), stop := d.on ((F.PG_SEQA_END).at e 8) }

/-- Sets the state of a host transmit lane (Table 6-5); HL_STAT.HTXIDLE is set in IDLE. A FILL lane starts PRBS31Q anew, and a lane
that leaves its state starts from an empty FIR. -/
def Dev.hostState (d : Dev) (n st : Nat) : Dev :=
  let d1 := d.mapHost n fun h =>
    if h.state = st then h else { h with state := st, fill := 2 ^ 31 - 1, bits := [], hist := [] }
  if d.domOn (dHRX n) then d1.wr F.HL_STAT_HTXIDLE n (b2n (st == 0)) else d1

/-! ## The host transmit FIR (R146) -/

/-- The windows of `n` consecutive elements, each with the latest element first. -/
def windows {α : Type} (n : Nat) : List α → List (List α)
  | [] => []
  | a :: t => if (a :: t).length < n then [] else ((a :: t).take n).reverse :: windows n t

/-- The swing of AMP in mV, peak to peak and differential, of c(0) alone. -/
def ampSwing (amp : Nat) : Nat := [350, 500, 700, 900].getD amp 900

/-- The taps c(−2), c(−1), c(0), c(+1) in 1/64. -/
def firTaps (pre2 pre1 post1 : Nat) : List Int :=
  [(pre2 : Int), -(pre1 : Int), 64 - (pre2 + pre1 + post1 : Nat), -(post1 : Int)]

/-- The FIR outputs of a stretch of levels, in 1/384 mV: level ±3 at c(0) = 64 is half the swing. The window of output n holds the
levels n + 2 to n − 1. -/
def firRun (amp pre2 pre1 post1 : Nat) (levels : List Int) : List Int :=
  (windows 4 levels).map fun w => (ampSwing amp : Int) * sumI (List.zipWith (fun c a => c * a) (firTaps pre2 pre1 post1) w)

/-- Host lane `n` sends symbols: the outputs they determine leave with the taps and swing in force at this word boundary (R149); no
symbol precedes the first, and `stop` says that none follows the last. -/
def Dev.hostSend (d : Dev) (n : Nat) (syms : List Nat) (stop : Bool := false) : Dev :=
  d.mapHost n fun h =>
    let a := List.replicate (3 - h.hist.length) 0 ++ h.hist ++ syms.map levelOf ++ List.replicate (if stop then 2 else 0) 0
    { h with out := syms, hist := a.drop (a.length - 3)
             wave := firRun (d.rd F.HL_TXEQ_AMP n) (d.rd F.HL_TXEQ_PRE2 n) (d.rd F.HL_TXEQ_PRE1 n) (d.rd F.HL_TXEQ_POST1 n) a }

/-- The stream stops: STATE IDLE; posted requests are discarded; the host outputs send what their DELAY still holds and go to
electrical idle; the line outputs have no more symbols; the group stays in A11 (R247). -/
def Dev.pgStop (d : Dev) : Dev :=
  let d1 := (((d.wr F.PG_STAT_STATE 0 0).clr F.PG_CTL_STOP).clr F.PG_JMP_REQ).mapPg fun p =>
    { p with jump := none, stopReq := false, idle := false, gran := 0, hostSyms := p.hostWait, hostWait := Vector.replicate 16 [] }
  match d.a11 with
  | some p => if p.outputs / 2 % 2 = 1 then p.hosts.foldl (fun e n => (e.hostSend n (e.pg.hostSyms.getD n []) true).hostState n 0) d1 else d1
  | none => d1

/-- The stream of a deactivating A11 group is abandoned at once: what is not yet on the outputs is dropped (R247). -/
def Dev.pgAbandon (d : Dev) : Dev :=
  ((d.mapPg fun p => { p with hostWait := Vector.replicate 16 [] }).pgStop.wr F.PG_STAT_DOMAIN 0 0).mapPg fun p => { p with recent := [] }

/-- A play of entry `e` is due: it begins, or stalls for a half that is not ready (R251), or stops the stream at an invalid
segment (R245). `fresh` says that a visit begins; `again` that the stall is already counted. -/
def Dev.pgBegin (d : Dev) (e : Nat) (fresh again : Bool) : Dev :=
  let p := d.playOf e
  if !d.segValid p.seg then (d.set F.PG_STAT_BADCFG).pgStop
  else
    let d1 := (d.wr F.PG_STAT_ENTRY 0 e).mapPg fun g => { g with play := p, gran := 0 }
    let d2 := if fresh then d1.wr F.PG_PLAY_COUNT 0 0 else d1
    let ready := match p.half with | none => true | some h => d.on (rdyFld h) p.seg
    if ready then (d2.wr F.PG_STAT_STATE 0 2).mapPg fun g => { g with idle := false }
    else
      let d3 := (d2.wr F.PG_STAT_STATE 0 3).mapPg fun g => { g with idle := true, idleGen := genInit 3 }
      if again then d3 else (d3.set F.PG_STAT_UNDERRUN).inc F.PG_UNDCNT_COUNT

/-- A pending change of a lane's transmit output state, applied at its next transmit commit boundary (R133). -/
def Dev.txPend (d : Dev) (k st : Nat) : Dev := d.mapTx k fun t => { t with pend := some st }

/-- Table 10-1: the stream's domain for an A11 group's outputs (1 line, 2 host, 3 both). -/
def pgDomain (p : Path) : Nat := p.outputs % 4

/-- The outputs take their settings when the stream starts (R241): EN = 0 puts the output in SQUELCH or IDLE. -/
def Dev.pgOutputs (d : Dev) (p : Path) : Dev :=
  let d1 := d.mapPg fun g =>
    { g with lout := Vector.ofFn fun k : Fin 8 => (d.on F.PG_LOUT_EN k.val, d.on F.PG_LOUT_INV k.val, d.rd F.PG_LOUT_DELAY k.val)
             hout := Vector.ofFn fun n : Fin 16 => (d.on F.PG_HOUT_EN n.val, d.on F.PG_HOUT_INV n.val, d.rd F.PG_HOUT_DELAY n.val) }
  let d2 := if p.outputs % 2 = 1 then
      p.lanes.foldl (fun e k => e.txPend k (if d.on F.PG_LOUT_EN k then 3 else 0)) d1 else d1
  if p.outputs / 2 % 2 = 1 then p.hosts.foldl (fun e n => e.hostState n (if d.on F.PG_HOUT_EN n then 4 else 0)) d2 else d2

/-- The stream starts at PG_CTL.ENTRY (R247): every generator in its initial state, NEXT of every segment 0 (R250). -/
def Dev.pgStart (d : Dev) (p : Path) : Dev :=
  let d1 := (d.wr F.PG_STAT_DOMAIN 0 (pgDomain p)).mapPg fun g =>
    { g with gens := Vector.ofFn fun i : Fin 8 => genInit i.val
             hostGens := Vector.replicate 16 (genInit (if d.rd F.PG_BUILTIN_HOSTPAT = 0 then 5 else d.rd F.PG_BUILTIN_HOSTPAT))
             recent := [], pos := 0, jump := none, stopReq := false, hostWait := Vector.replicate 16 []
             due := Vector.replicate 4 false }
  let d2 := iter 64 (fun s e => e.clr F.PG_SEGSTRM_NEXT s) d1
  (d2.pgOutputs p).pgBegin (d.rd F.PG_CTL_ENTRY) true false

/-- A write of 1 to PG_CTL.START: starts the stream, or with SYNCARM arms it (R247, R256), and clears. It needs an A11 group
and a stopped generator. A master emits its SYNC edge. -/
def Dev.pgCtlStart (d : Dev) : Dev :=
  let d0 := d.clr F.PG_CTL_START
  match d.a11 with
  | none => d0
  | some p =>
    if d.rd F.PG_STAT_STATE ≠ 0 then d0
    else if d.on F.PG_CTL_SYNCARM then
      (d0.wr F.PG_STAT_STATE 0 1).mapPg fun g => if d.rd F.PG_SYNCCTL_ROLE = 1 then { g with edges := g.edges + 1 } else g
    else d0.pgStart p

/-- A write of 1 to PG_CTL.STOP: the stream stops at the end of the current play; with no stream it clears at once. -/
def Dev.pgCtlStop (d : Dev) : Dev :=
  if d.rd F.PG_STAT_STATE = 2 || d.rd F.PG_STAT_STATE = 3 then
    (d.set F.PG_CTL_STOP).mapPg fun g => { g with stopReq := true }
  else d.clr F.PG_CTL_STOP

/-- A write of 1 to PG_JMP.REQ posts a jump to TARGET (R248); a second one replaces the target (R249); it clears at once
while the stream is stopped or armed. -/
def Dev.pgJump (d : Dev) : Dev :=
  let t := d.rd F.PG_JMP_TARGET
  if d.rd F.PG_STAT_STATE < 2 then d.clr F.PG_JMP_REQ
  else match d.pg.jump with
    | none => (d.set F.PG_JMP_REQ).mapPg fun g => { g with jump := some (2, t) }
    | some (n, _) => ((d.set F.PG_JMP_REQ).set F.PG_STAT_JREPL).mapPg fun g => { g with jump := some (n, t) }

/-- The granules of the play in progress; an idle play has 16 (R251). -/
def Pg.length (p : Pg) : Nat := if p.idle then 16 else p.play.len

/-- After a play: a due STOP, then a due jump, then `go` (R248, R249). -/
def Dev.pgAfter (d : Dev) (go : Dev → Dev) : Dev :=
  if d.pg.stopReq then d.pgStop
  else match d.pg.jump with
    | some (0, t) => ((d.clr F.PG_JMP_REQ).mapPg fun g => { g with jump := none }).pgBegin t true false
    | some (1, t) => go (d.mapPg fun g => { g with jump := some (0, t) })
    | _ => go d

/-- The end of a play of a streaming half: RDY clears, NEXT toggles, and the refill event is raised (R250). -/
def Dev.pgHalfDone (d : Dev) (p : Play) : Dev :=
  match p.half with
  | none => d
  | some h => ((d.clr (rdyFld h) p.seg).wr F.PG_SEGSTRM_NEXT p.seg (1 - h)).mapPg fun g =>
      { g with refill := g.refill ++ [(p.seg, h)] }

/-- PG_PLAY_END (R246, R248 to R251): the play whose granules have all started ends. -/
def execPgPlayEnd : State → Host.Outcome State Fault Refusal := lift fun d =>
  let p := d.pg.play
  if d.rd F.PG_STAT_STATE < 2 || d.pg.gran < d.pg.length then d
  else if d.pg.idle then d.pgAfter fun e => e.pgBegin p.entry false true
  else
    let n := satN (2 ^ 32 - 1) (d.rd F.PG_PLAY_COUNT + 1)
    ((d.pgHalfDone p).wr F.PG_PLAY_COUNT 0 n).pgAfter fun e =>
      if p.loop = 0 || n < p.loop then e.pgBegin p.entry false false
      else if p.stop then e.pgStop
      else e.pgBegin p.next true false

/-- The 256 symbols of the granule that starts, and the generators after it. -/
def Pg.granule (g : Pg) (m : Memory) (half hi lo : Nat) : List Nat × Pg :=
  if g.idle then let r := genRun 3 half hi lo 256 g.idleGen; (r.1, { g with idleGen := r.2 })
  else if g.play.type = 0 then
    (ramGranule g m (g.play.start + g.play.len * (g.play.half.getD 0) + g.gran), g)
  else
    let r := genRun g.play.type half hi lo 256 (g.gens.getD g.play.type {})
    (r.1, { g with gens := vset g.gens g.play.type fun _ => r.2 })

/-- INV negates a symbol's level (R241): it inverts the MSB of the Gray pair (log entry 23). -/
def invSym (inv : Bool) (v : Nat) : Nat := if inv then 3 - v else v

/-- The symbols `i … i + n - 1` of the stream delayed by `delay`; none where the stream holds no symbol. -/
def Pg.window (g : Pg) (i n delay : Nat) : List (Option Nat) :=
  let base := g.pos - g.recent.length
  (List.range n).map fun j => if i + j < delay + base then none else g.recent[i + j - delay - base]?

/-- One host output's part in a granule: the symbols `l` join those its DELAY holds back, and as many leave as it has places for. -/
def Dev.pgHostOut (d : Dev) (n : Nat) (l : List Nat) : Dev :=
  let (_, inv, delay) := d.pg.hout.getD n (true, false, 0)
  let q := d.pg.hostWait.getD n [] ++ l.map (invSym inv)
  let c := d.pg.pos - max delay (d.pg.pos - 256)
  (d.mapPg fun g => { g with hostSyms := vset g.hostSyms n (fun _ => q.take c), hostWait := vset g.hostWait n fun _ => q.drop c }).hostSend
    n (q.take c)

/-- Every host output's symbols for the granule whose stream symbols are `l` (Table 10-1): the stream, or in C modes with both
outputs each lane's own pattern. -/
def Dev.pgHosts (d : Dev) (half hi lo : Nat) (l : List Nat) : Dev :=
  match d.a11 with
  | none => d
  | some p =>
    if p.outputs / 2 % 2 = 0 then d
    else p.hosts.foldl (fun e n =>
      if !(d.pg.hout.getD n (true, false, 0)).1 then e.mapPg fun g => { g with hostSyms := vset g.hostSyms n fun _ => [] }
      else if p.outputs % 4 = 3 && p.lrm < 2 then
        let ty := if d.rd F.PG_BUILTIN_HOSTPAT = 0 then 5 else d.rd F.PG_BUILTIN_HOSTPAT
        let r := genRun ty half hi lo 256 (d.pg.hostGens.getD n {})
        (e.mapPg fun g => { g with hostGens := vset g.hostGens n fun _ => r.2 }).pgHostOut n r.1
      else e.pgHostOut n l) d

/-- The marker pulses that fall due in the granule that has started, with the stream symbol each marks: an enabled marker of the entry's
MARK whose OFS lies in it (R252); none in a stall (R251). -/
def Dev.pgMarks (d : Dev) : Dev :=
  if d.pg.idle then d
  else iter 4 (fun i e =>
    let o := d.rd ((F.PG_MKOFS_OFS).at i 8)
    if d.on ((F.PG_MKCFG_EN).at i 8) && d.pg.play.mark.testBit i && o / 256 + 1 == d.pg.gran then
      e.mapPg fun g => { g with due := vset g.due i (fun _ => true), mkSym := vset g.mkSym i fun _ => g.pos - 256 + o % 256 }
    else e) d

/-- PG_GRANULE_START (R243, R248): a posted jump is sampled, and the granule's 256 symbols enter the stream. An uncorrectable
RAM word is played as stored and sets ECCU; `word` is the granule's word (0 to 15) the ECC event names (R302). -/
def execPgGranuleStart (ecc : Ecc) (word : Fin 16) (s : State) : Host.Outcome State Fault Refusal :=
  lift (fun d =>
    let g := d.pg
    if d.rd F.PG_STAT_STATE < 2 || g.length ≤ g.gran then d
    else
      let half := d.rd F.PG_BUILTIN_HALF
      let hi := d.rd F.PG_BUILTIN_HI
      let lo := d.rd F.PG_BUILTIN_LO
      let jump := match g.jump with
        | some (2, t) => some (if g.gran + 1 < g.length then 0 else 1, t)
        | j => j
      let r := g.granule s.mem half hi lo
      let recent := g.recent ++ r.1
      let d1 := d.mapPg fun _ => { r.2 with jump := jump, gran := g.gran + 1, pos := g.pos + 256
                                            recent := recent.drop (recent.length - 4096) }
      let ram := !g.idle && g.play.type == 0
      let at_ := 64 * (g.play.start + g.play.len * (g.play.half.getD 0) + g.gran)
      let known := (List.range 16).find? fun j => d1.isBad .pattern (at_ + 4 * j)
      let a := at_ + 4 * (known.getD word.val)
      let d2 := if ram && (ecc == .ue || known.isSome) then (d1.set F.PG_STAT_ECCU).eccEvent .pattern true 12 3 a
        else if ram && ecc == .ce then d1.eccEvent .pattern false 12 3 a else d1
      (d2.pgHosts half hi lo r.1).pgMarks) s

/-! ## Markers (R252, R253) -/

/-- DELAY of marker `i`'s reference output, and WIDTH × 64 UI of that output, in stream symbols: with both outputs in C modes the
stream runs at the line baud, 17/8 (C225) or 17/16 (C113) of a host output's. -/
def Dev.markSpan (d : Dev) (i : Nat) : Nat × Nat :=
  let host := d.on ((F.PG_MKCFG_REF).at i 8)
  let x := d.rd ((F.PG_MKCFG_REFIDX).at i 8)
  let w := 64 * d.rd ((F.PG_MKCFG_WIDTH).at i 8)
  let ui := match d.a11 with
    | some p => if host && p.outputs % 4 == 3 && p.lrm < 2 then ceilDiv (w * 17) (if p.lrm = 0 then 8 else 16) else w
    | none => w
  (if host then (d.pg.hout.getD x (true, false, 0)).2.2 else (d.pg.lout.getD x (true, false, 0)).2.2, ui)

/-- MARKER_PULSE: the symbol of a pulse that is due leaves the reference output; the edge is stamped (Table 14-1, source 4). While the
marker is high the pulse is extended to WIDTH × 64 UI after this symbol, without an edge. -/
def execMarkerPulse (m : Fin 4) : State → Host.Outcome State Fault Refusal := lift fun d =>
  let i := m.val
  if !d.pg.due.getD i false then d
  else
    let (delay, ui) := d.markSpan i
    let d1 := d.mapPg fun g =>
      { g with due := vset g.due i (fun _ => false), high := vset g.high i (fun _ => true)
               mkEnd := vset g.mkEnd i fun _ => g.mkSym.getD i 0 + delay + ui }
    if d.pg.high.getD i false then d1.set F.PG_STAT_MKMERGE else d1.fifoPush 4 i (d.rd F.TU_FIFOCTL_TB) 0

/-- MARKER_PULSE_END: WIDTH × 64 UI after the last symbol the marker falls; while the stream runs, not before that symbol of the stream
has been made. -/
def execMarkerPulseEnd (m : Fin 4) : State → Host.Outcome State Fault Refusal := lift fun d =>
  if 2 ≤ d.rd F.PG_STAT_STATE && d.pg.pos < d.pg.mkEnd.getD m.val 0 then d
  else d.mapPg fun g => { g with high := vset g.high m.val fun _ => false }

/-! ## Multi-device alignment (R254 to R257) -/

/-- An arrival phase is reported, and outside 8…56 sets SKEWWARN (R255). -/
def Dev.arrival (d : Dev) (ph : Nat) : Dev :=
  let d1 := d.wr F.PG_SYNCSTAT_ARRPH 0 ph
  if ph < 8 || 56 < ph then d1.set F.PG_SYNCSTAT_SKEWWARN else d1

/-- What a SYNC_IN edge does to the generator: every device stamps it, and an armed one starts (R255, R256). -/
def Dev.pgSync (d : Dev) (ph : Nat) : Dev :=
  let armed := d.rd F.PG_STAT_STATE == 1
  let d1 := if d.domOn dMGMT then d.arrival ph else d
  match d.a11 with
  | some p => if armed then (d1.wr F.PG_STAT_STATE 0 0).pgStart p else d1
  | none => d1

/-- A write of 1 to PG_SYNCCTL.CAL: a master owes 16 edges (R257); on any other role it clears at once. -/
def Dev.pgCal (d : Dev) : Dev :=
  if d.rd F.PG_SYNCCTL_ROLE = 1 then (d.set F.PG_SYNCCTL_CAL).mapPg fun g => { g with calLeft := 16, trips := [] }
  else d.clr F.PG_SYNCCTL_CAL

/-- SYNC_CAL_EDGE (R257): one of the 16 edges, with its round trip in 1/64 cycle; LAUNCH is in 100 ps, 1/64 of a REFCLK cycle,
so the edge arrives at phase LAUNCH + RT. The last edge reports RT and sets LAUNCH for a mean arrival phase of 32. -/
def execSyncCalEdge (rt : BitVec 16) : State → Host.Outcome State Fault Refusal := lift fun d =>
  if d.pg.calLeft = 0 then d
  else
    let trips := d.pg.trips ++ [rt.toNat]
    let d1 := (d.arrival ((d.rd F.PG_SYNCCTL_LAUNCH + rt.toNat) % 64)).mapPg fun g =>
      { g with calLeft := g.calLeft - 1, edges := g.edges + 1, trips := trips }
    if d.pg.calLeft ≠ 1 then d1
    else
      let mean := (rneDiv (trips.foldl (· + ·) 0 : Nat) 16).toNat
      let d2 := (((d1.wr F.PG_SYNCSTAT_RT 0 mean).wr F.PG_SYNCCTL_LAUNCH 0 ((32 + 64 - mean % 64) % 64)).set
        F.PG_SYNCSTAT_CALDONE).clr F.PG_SYNCCTL_CAL
      d2.settleWait .patCal .ok (be 2 mean ++ be 1 (d2.rd F.PG_SYNCSTAT_ARRPH))

/-! ## Commands -/

/-- PAT.SEG.SET (R244). -/
def execPatSegSet (src : Src) (seg type stream : Byte) (start len : BitVec 16) :
    State → Host.Outcome State Fault Refusal := lift fun d =>
  d.kci src 0xA400 .c fun d =>
    let s := seg.toNat
    let n := len.toNat
    if 63 < s || 7 < type.toNat || 1 < stream.toNat || n < 16 || 16384 < n || 16383 < start.toNat ||
        (type.toNat = 0 && 16384 < start.toNat + (stream.toNat + 1) * n) then .no .badParam
    else .ok ((((d.cfg dMGMT F.PG_SEGBASE_START s start.toNat).cfg dMGMT F.PG_SEGBASE_TYPE s type.toNat).cfg dMGMT
      F.PG_SEGBASE_STREAM s stream.toNat).cfg dMGMT F.PG_SEGLEN_LEN s n) []

/-- PAT.SEQ.SET (R246). -/
def execPatSeqSet (src : Src) (entry seg next flags : Byte) (loop : Word32) :
    State → Host.Outcome State Fault Refusal := lift fun d =>
  d.kci src 0xA401 .c fun d =>
    let e := entry.toNat
    if 63 < seg.toNat || 31 < flags.toNat || 2 ^ 24 ≤ loop.toNat then .no .badParam
    else .ok (((((d.cfg dMGMT ((F.PG_SEQA_SEG).at e 8) 0 seg.toNat).cfg dMGMT ((F.PG_SEQA_MARK).at e 8) 0 flags.toNat).cfg
      dMGMT ((F.PG_SEQA_END).at e 8) 0 (flags.toNat / 16)).cfg dMGMT ((F.PG_SEQA_NEXT).at e 8) 0 next.toNat).cfg dMGMT
      ((F.PG_SEQB_LOOP).at e 8) 0 loop.toNat) []

/-- The checks of PAT.RAM.WRITE (Table 10-6): COUNT 1 to 15 (1 over CDB), the data's length, the RAM's end, READY. -/
def patRamOk (src : Src) (granule count ready len : Nat) : Bool :=
  1 ≤ count && count ≤ (if srcRoom src = 118 then 1 else 15) && len == 64 * count && granule + count ≤ 16384 && ready ≤ 128

/-- PAT.RAM.WRITE (R243): the granules are written, then READY's half is marked. Until memory initialisation is complete it
returns NOT_READY. -/
def execPatRamWrite (src : Src) (granule : BitVec 16) (count ready : Byte) (data : List Byte) :
    State → Host.Outcome State Fault Refusal := liftMem fun m d =>
  let fits := patRamOk src granule.toNat count.toNat ready.toNat data.length
  let r := ready.toNat - 1
  let d1 := d.kci src 0xA402 .c fun d =>
    if !fits then .no .badParam
    else if !d.on F.GLB_STAT_SRAMRDY then .no .notReady
    else
      let e := iter (16 * count.toNat) (fun j x => x.mended .pattern (64 * granule.toNat + 4 * j)) d
      .ok (if ready.toNat = 0 then e else e.set (rdyFld (r % 2)) (r / 2)) []
  (if fits && d.on F.GLB_STAT_SRAMRDY && d.admits src 0xA402 .c then d.pg.ramWrite m (64 * granule.toNat) data else m, d1)

/-- PAT.RUN (R247): the action is posted. Start and jump need an A11 group. -/
def execPatRun (src : Src) (action entry sync : Byte) : State → Host.Outcome State Fault Refusal := lift fun d =>
  d.kci src 0xA403 .c fun d =>
    let a := action.toNat
    if a = 0 || 3 < a || 1 < sync.toNat || (a = 1 && !d.segValid (d.rd ((F.PG_SEQA_SEG).at entry.toNat 8))) then .no .badParam
    else if d.a11 = none then .no .notReady
    else if a = 1 then
      .ok (((d.wr F.PG_CTL_ENTRY 0 entry.toNat).wr F.PG_CTL_SYNCARM 0 sync.toNat).pgCtlStart) []
    else if a = 2 then .ok d.pgCtlStop []
    else .ok ((d.wr F.PG_JMP_TARGET 0 entry.toNat).pgJump) []

/-- PAT.MK.SET (R252). -/
def execPatMkSet (src : Src) (marker en ref width : Byte) (ofs : Word32) (adj : BitVec 16) :
    State → Host.Outcome State Fault Refusal := lift fun d =>
  d.kci src 0xA404 .c fun d =>
    let i := marker.toNat
    let idx := ref.toNat % 16
    if 3 < i || 1 < en.toNat || ref.toNat / 16 % 8 != 0 || (ref.toNat < 128 && 7 < idx) || width.toNat = 0 ||
        2 ^ 22 ≤ ofs.toNat || adj.toInt < -2000 || 2000 < adj.toInt then .no .badParam
    else .ok ((((((d.cfg dMGMT ((F.PG_MKCFG_EN).at i 8) 0 en.toNat).cfg dMGMT ((F.PG_MKCFG_REF).at i 8) 0 (ref.toNat / 128)).cfg
      dMGMT ((F.PG_MKCFG_REFIDX).at i 8) 0 idx).cfg dMGMT ((F.PG_MKCFG_WIDTH).at i 8) 0 width.toNat).cfg dMGMT
      ((F.PG_MKOFS_OFS).at i 8) 0 ofs.toNat).cfg dMGMT ((F.PG_MKCFG_ADJ).at i 8) 0 adj.toNat) []

/-- PAT.SYNC.CAL (R257): sets the role and the start delay; on a master the calibration runs and then completes the command. -/
def execPatSyncCal (src : Src) (role delay : Byte) : State → Host.Outcome State Fault Refusal := lift fun d =>
  d.kci src 0xA405 .c fun d =>
    if role.toNat = 0 || 2 < role.toNat then .no .badParam
    else if d.a11 = none then .no .notReady
    else
      let d1 := (d.wr F.PG_SYNCCTL_ROLE 0 role.toNat).wr F.PG_SYNCCTL_DELAY 0 delay.toNat
      if role.toNat = 1 then .hold d1.pgCal .patCal
      else .ok d1 (be 2 (d.rd F.PG_SYNCSTAT_RT) ++ be 1 (d.rd F.PG_SYNCSTAT_ARRPH))

/-- The word of PG_STAT. -/
def Dev.pgStatWord (d : Dev) : Nat :=
  d.rd F.PG_STAT_STATE + 16 * d.rd F.PG_STAT_DOMAIN + 2 ^ 8 * d.rd F.PG_STAT_UNDERRUN + 2 ^ 9 * d.rd F.PG_STAT_JREPL +
    2 ^ 10 * d.rd F.PG_STAT_MKMERGE + 2 ^ 11 * d.rd F.PG_STAT_ECCU + 2 ^ 12 * d.rd F.PG_STAT_BADCFG +
    2 ^ 16 * d.rd F.PG_STAT_ENTRY

/-- PAT.STAT.GET (Table 10-9). -/
def execPatStatGet (src : Src) : State → Host.Outcome State Fault Refusal := lift fun d =>
  d.kci src 0xA406 .q fun d =>
    .ok d (be 4 d.pgStatWord ++ be 4 (d.rd F.PG_PLAY_COUNT) ++ be 4 (d.rd F.PG_UNDCNT_COUNT) ++
      be 4 (d.rd F.PG_SYNCSTAT_ARRPH + 2 ^ 8 * d.rd F.PG_SYNCSTAT_SKEWWARN + 2 ^ 9 * d.rd F.PG_SYNCSTAT_CALDONE +
        2 ^ 16 * d.rd F.PG_SYNCSTAT_RT))

end Sys2Proof.Machine
end

