-- ==== Sys2Proof/Machine/Optics.lean ====
section
/-! DEFINITION. Optics control (chapter 9): bias channels and strobes, dither NCOs, monitor converters, the OSPI buses, the
lane loops, and the OPT commands. -/

namespace Sys2Proof.Machine

/-- Updates the optics block. -/
def Dev.mapOpt (d : Dev) (f : Optics → Optics) : Dev := { d with optics := f d.optics }

/-- Updates one monitor converter. -/
def Dev.mapMadc (d : Dev) (c : Nat) (f : Madc → Madc) : Dev := d.mapOpt fun o => { o with madc := vset o.madc c f }

/-- Updates one lane's optics loop. -/
def Dev.mapLoop (d : Dev) (k : Nat) (f : Loop → Loop) : Dev := d.mapOpt fun o => { o with loops := vset o.loops k f }

/-- The optics loop of lane `k`. -/
def Dev.loop (d : Dev) (k : Nat) : Loop := d.optics.loops.getD k (Loop.default k)

/-- One monitor converter. -/
def Dev.conv (d : Dev) (c : Nat) : Madc := d.optics.madc.getD c {}

/-! ## Events of the Whetstone (R197) -/

/-- Updates the Whetstone's hidden state. -/
def Dev.mapWs (d : Dev) (f : Ws → Ws) : Dev := { d with ws := f d.ws }

/-- An event reaches a bank: the wait for it ends, or it is kept until the task clears it. -/
def Bank.wake (b : Bank) (ev : WsEvent) : Bank :=
  if b.waiting == some (.event ev) then { b with waiting := none, ready := true }
  else if b.seen.contains ev then b else { b with seen := b.seen ++ [ev] }

/-- An event reaches every task. -/
def Dev.wsEvent (d : Dev) (ev : WsEvent) : Dev :=
  if !d.domOn dWHET then d else d.mapWs fun w => { w with banks := w.banks.map fun b => b.wake ev }

/-! ## Power -/

/-- A self-calibration begins (R231 step 2): a pass in progress ends incomplete. OPT.MADC.CAL counts the triggers refused
from here. -/
def Dev.madcCalStart (d : Dev) (c : Nat) : Dev :=
  let d1 := if d.on F.OC_MASTAT_BUSY c then (d.clr F.OC_MASTAT_BUSY c).set F.OC_MASTAT_PASSINC c else d
  ((d1.set F.OC_MASTAT_CAL c).mapMadc c fun m => { m with calWait := false }).mapWait fun w =>
    match w with
    | .madcCal convs missed =>
      if (if convs.testBit 0 then 0 else 1) = c then .madcCal convs ((d.rd F.OC_MACNT_MA_MISSED c + 65536 - missed) % 65536)
      else w
    | _ => w

/-- A write of 1 to OC_MACTL.CALREQ (R231): without effect during a calibration; otherwise it waits for the next entry
boundary and for a pending injected conversion, or begins at once. -/
def Dev.madcCalReq (d : Dev) (c : Nat) : Dev :=
  if d.on F.OC_MASTAT_CAL c then d
  else
    let d1 := d.set F.OC_MACTL_CALREQ c
    if d.on F.OC_MASTAT_BUSY c || d.on F.OC_MASTAT_INJPEND c then d1.mapMadc c fun m => { m with calWait := true }
    else d1.madcCalStart c

/-- What a system domain starts afresh at power-up besides its registers: the Whetstone, the converters, the bias side, the time
bases, the link. OC_TICK restarts when neither of its two domains was on (R209). -/
def Dev.sysFresh (d : Dev) (i : Nat) : Dev :=
  let d1 := if (i = dMADC || i = dBDAC) && !d.domOn dMADC && !d.domOn dBDAC then (d.clr F.OC_TICK_COUNT).mapOpt fun o => { o with tick := 0 }
    else d
  if i = dWHET then { d1 with ws := { banks := d.ws.banks, remote := d.ws.remote, restarting := d.ws.restarting } }
  else if i = dMADC then d1.mapOpt fun o => { o with madc := Vector.replicate 2 {}, comTimer := 0 }
  else if i = dBDAC then d1.mapOpt fun o =>
    { o with theta := Vector.replicate 8 0, iout := Vector.replicate 16 0, nco := Vector.replicate 8 false, sync := []
             ospiq := Vector.replicate 2 [], ospir := [], ospiOut := Vector.replicate 2 [] }
  else if i = dTIME then { d1 with tu := {} }
  else if i = dXCUT then { d1 with xc := { failed := d.xc.failed, asked := d.xc.asked } }
  else d1

/-- What a line or host domain starts afresh when it powers up: the free-running symbol counts (R81, R128), the tap
accumulators (R104), the histogram (R118), and HTXIDLE of an idle host transmit lane. -/
def Dev.laneFresh (d : Dev) (i : Nat) : Dev :=
  if dLADC 0 ≤ i && i < dLRXD 0 then
    d.mapRx (i - 8) fun r => { r with freeBlocks := 0, lastCmt := 0, calLeft := 0, calWant := false, window := 0, hardWin := false
                                      hardEp := false, ph := 0, part := [], xs := [], tbq := [], tb := none }
  else if dLRXD 0 ≤ i && i < dLTXD 0 then
    d.mapRx (i - 16) fun r => { r with acc := List.replicate 48 0, snapped := false, bins := List.replicate 16 0, hfrm := 0 }
  else if dLTXD 0 ≤ i && i < dLDAC 0 then d.mapTx (i - 24) fun t => { t with freeBlocks := 0, lastCmt := 0 }
  else if dHRX 0 ≤ i && i < dHTX 0 then d.wr F.HL_STAT_HTXIDLE (i - 40) (b2n ((d.host (i - 40)).state == 0))
  else d

/-- The frequency word of lane `k`'s dither: its optics entry's, or of (10 + 1.25 k) kHz (Table 9-8, R219). -/
def Dev.ditherWord (d : Dev) (k : Nat) : Nat :=
  match d.conf (0x400 + k) with
  | some e => Config.boardField e 16 % 2 ^ 31
  | none => (rneDiv (((10000 + 1250 * k) * 2 ^ 32 : Nat) : Int) 2000000).toNat

/-- Firmware sets the dither frequency of each lane's NCO that no command has set (R234). -/
def Dev.dither (d : Dev) : Dev :=
  iter 8 (fun k e =>
    let j := (e.loop k).cfg.nco
    if (ffGet e.fw (F.OC_NCOFW_VALUE.key j)).isSome then e else e.bg F.OC_NCOFW_VALUE j (d.ditherWord k)) d

/-- Firmware reads lane `k`'s optics entry while the loop is OFF; a field outside its range is reduced into it (R234). -/
def Dev.loopRow (d : Dev) (k : Nat) : Dev :=
  match d.conf (0x400 + k) with
  | none => d
  | some e =>
    let f := fun (i n : Nat) => Config.boardField e i % n
    if (d.loop k).state ≠ 0 then d
    else d.mapLoop k fun l => { l with
      cfg := { lch := f 0 16, lmon := f 1 16, mch := f 2 16, mmon := f 3 16, nco := f 4 8, mode := f 5 5, nint := 1 + f 6 64
               auto := f 7 2 == 1, ramp := 1 + f 8 255, bstep := 1 + f 9 64, setpt := f 10 65536, ilim := f 11 65536, kp := f 12 65536
               ki := f 13 65536, kb := f 14 65536, mcode := f 15 16384 } }

/-- A domain is fully on: its registers start at their Reset values, PW_DON and the PLL locks follow, and firmware restores its
configuration (R387, R388). -/
def Dev.domUp (d : Dev) (i : Nat) : Dev :=
  let d1 := (((d.sysFresh i).wipe i).setDreq i true).setDon i true
  let d2 := (({ d1 with power := { d1.power with waking := withBit d1.power.waking i false } }).fixTrans.fixPlls).laneFresh i
  let d3 := if d2.fwRun then (let e := d2.restore i; if i = dBDAC then e.dither else e) else d2
  if i = dMADC && d3.fwRun then (d3.madcCalReq 0).madcCalReq 1 else d3

/-- Firmware powers a domain on demand within its command's bound (chapter 9, Commands). -/
def Dev.demand (d : Dev) (i : Nat) : Dev := if d.domOn i then d else d.domUp i

/-! ## Bias channels (R210 to R218) -/

/-- Full scale of a bias range in mA (Table 9-2); 3 acts as 2. -/
def biasFs (range : Nat) : Nat := if range = 0 then 50 else if range = 1 then 100 else 200

/-- Whether a load reaches the channel: enabled, not settling, not SHUT (R213). -/
def Dev.loads (d : Dev) (ch : Nat) : Bool :=
  d.on F.OC_BCTL_EN ch && !d.on F.OC_BSTAT_SETTLE ch && !d.on F.OC_BSTAT_SHUT ch

/-- A channel's share of R216's sum in mA / 16,384, once the channels in `group` have loaded. -/
def Dev.biasShare (d : Dev) (group : Nat → Bool) (ch : Nat) : Nat :=
  let fs := biasFs (d.rd F.OC_BCTL_RANGE ch)
  if group ch && d.loads ch then fs * (d.rd F.OC_BHOLD_CODE ch + d.rd F.OC_BHOLD_DAMP ch)
  else if d.on F.OC_BSTAT_LIVE ch then fs * (d.rd F.OC_BACT_CODE ch + d.rd F.OC_BACT_DAMP ch)
  else 0

/-- The sum of R216 exceeds OC_BSUM.LIMIT (above 1,600 acts as 1,600). -/
def Dev.overSum (d : Dev) (group : Nat → Bool) : Bool :=
  16384 * satN 1600 (d.rd F.OC_BSUM_LIMIT) < ((List.range 16).map (d.biasShare group)).foldl (· + ·) 0

/-- COMPLNOW and OPENNOW read 0 while CODE_act is below 128 (R217). -/
def Dev.biasNow (d : Dev) (ch : Nat) : Dev :=
  if d.rd F.OC_BACT_CODE ch < 128 then (d.clr F.OC_BSTAT_COMPLNOW ch).clr F.OC_BSTAT_OPENNOW ch else d

/-- A load of a group of channels at one tick (R212 to R216). Refused, every active field stays. Loops with a channel in the
group count consecutive refusals (Table 9-9). -/
def Dev.biasLoad (d : Dev) (group : Nat → Bool) : Dev :=
  let refused := d.overSum group
  let count := fun (l : Loop) =>
    if (group l.cfg.lch || group l.cfg.mch) then { l with refused := if refused then l.refused + 1 else 0 } else l
  let d1 := d.mapOpt fun o => { o with loops := o.loops.map count }
  if refused then (d1.set F.OC_BSUM_REF).inc F.OC_BSUM_REFCNT
  else iter 16 (fun ch e =>
    if group ch && d.loads ch then
      (((e.wr F.OC_BACT_CODE ch (d.rd F.OC_BHOLD_CODE ch)).wr F.OC_BACT_DAMP ch (d.rd F.OC_BHOLD_DAMP ch)).set F.OC_BSTAT_LIVE
        ch).biasNow ch
    else e) d1

/-- The channel stops being live: its active code is cleared, its output falls to zero at the next tick, and no fault condition reads 1. -/
def Dev.biasDead (d : Dev) (ch : Nat) : Dev := ((d.clr F.OC_BSTAT_LIVE ch).clr F.OC_BACT_CODE ch).biasNow ch

/-- BDAC is off: no channel sources current (R218). -/
def Dev.biasOff (d : Dev) : Dev := d.mapOpt fun o => { o with iout := Vector.replicate 16 0, nco := Vector.replicate 8 false }

/-- A write to OC_BCTL.EN (R214, R217): clearing it also ends SHUT. -/
def Dev.biasEn (d : Dev) (ch : Nat) (en : Bool) : Dev :=
  if en then d.set F.OC_BCTL_EN ch else ((d.clr F.OC_BCTL_EN ch).biasDead ch).clr F.OC_BSTAT_SHUT ch

/-- A write to OC_BCTL.RANGE; one that changes it starts the 20 µs of settling (R215). -/
def Dev.biasRange (d : Dev) (ch r : Nat) : Dev :=
  if d.rd F.OC_BCTL_RANGE ch = r % 4 then d
  else ((d.wr F.OC_BCTL_RANGE ch r).biasDead ch).set F.OC_BSTAT_SETTLE ch

/-- RANGE_SETTLE_END: the 20 µs of settling end. -/
def execRangeSettleEnd (ch : Fin 16) : State → Host.Outcome State Fault Refusal := lift fun d => d.clr F.OC_BSTAT_SETTLE ch.val

/-! ## NCOs (R219 to R223) -/

/-- θ of NCO `j` at tick `n` (R219). -/
def Dev.ncoPhase (d : Dev) (j n : Nat) : Nat :=
  (d.rd F.OC_NCOFW_VALUE j * ((n + 2 ^ 32 - d.rd F.OC_NCOE_VALUE j) % 2 ^ 32) + d.rd F.OC_NCOPH_VALUE j) % 2 ^ 32

/-- The sine output of an NCO whose phase is `theta`; 0 while disabled (R220, R221). -/
def Dev.ncoSine (d : Dev) (j theta : Nat) : Int := if d.on F.OC_NCOCTL_EN j then sineAt (theta / 2 ^ 22) else 0

/-- The output code of a channel at a tick (R211). -/
def Dev.biasOut (d : Dev) (ch : Nat) (theta : Nat → Nat) : Nat :=
  if !d.on F.OC_BSTAT_LIVE ch then 0
  else
    let j := d.rd F.OC_BCTL_NCO ch
    let s := if d.on F.OC_BCTL_DITH ch then d.ncoSine j (theta j) else 0
    (clampI 0 16383 ((d.rd F.OC_BACT_CODE ch : Int) + rneDiv ((d.rd F.OC_BACT_DAMP ch : Int) * s) 32768)).toNat

/-- A write to OC_NCOE sets E at once and disarms a pending capture (R222). -/
def Dev.ncoEpoch (d : Dev) (j v : Nat) : Dev := (d.wr F.OC_NCOE_VALUE j v).clr F.OC_NCOCTL_EARM j

/-- The source of a group's strobe has a strobe event at this tick (Table 9-3; 5 to 7 act as 0). -/
def Dev.strobes (d : Dev) (src nco : Nat) (sw sync : Bool) (ticked : Nat → Bool) : Bool :=
  if src = 1 then ticked nco else if src = 2 then sync
  else if src = 3 then d.optics.passEnd.getD 0 false else if src = 4 then d.optics.passEnd.getD 1 false else sw

/-- A command waits for firmware's strobe of a group (OPT.BIAS.SET). -/
def Dev.forced (d : Dev) (g : Nat) : Bool := d.mgmt.outst.any fun a => a.wait == .strobe g

/-- The load strobes of one tick (R212, R213): several events for one group give one load; ALL joins the groups. A load clears
the software strobe of its group. -/
def Dev.strobeTick (d : Dev) (sync : Bool) (ticked : Nat → Bool) : Dev :=
  let s0 := d.strobes (d.rd F.OC_STRB_G0SRC) (d.rd F.OC_STRB_G0NCO) (d.on F.OC_STRB_SW0) sync ticked || d.forced 0
  let s1 := d.strobes (d.rd F.OC_STRB_G1SRC) (d.rd F.OC_STRB_G1NCO) (d.on F.OC_STRB_SW1) sync ticked || d.forced 1
  let d1 := if d.on F.OC_STRB_ALL then
      (if s0 || d.forced 1 then ((d.biasLoad fun _ => true).clr F.OC_STRB_SW0).clr F.OC_STRB_SW1 else d)
    else
      let e := if s0 then (d.biasLoad fun ch => decide (ch < 8)).clr F.OC_STRB_SW0 else d
      if s1 then (e.biasLoad fun ch => decide (8 ≤ ch)).clr F.OC_STRB_SW1 else e
  (d1.settleWait (.strobe 0) .ok []).settleWait (.strobe 1) .ok []

/-- Arms and captures epochs (R222): at the first tick whose time base has reached the second, E takes the tick count. -/
def Dev.epochTick (d : Dev) (n : Nat) : Dev :=
  iter 8 (fun j e =>
    if d.on F.OC_NCOCTL_EARM j && d.rd F.OC_NCOESEC_VALUE j ≤ (d.stamp (d.rd F.OC_NCOCTL_TB j)).sec then e.ncoEpoch j n
    else e) d

/-- An injected conversion that waits with no pass running starts at a tick (R228). -/
def Dev.injectTick (d : Dev) (c n : Nat) : Dev :=
  if d.on F.OC_MASTAT_INJPEND c && !(d.conv c).inj && !d.on F.OC_MASTAT_BUSY c && !d.on F.OC_MASTAT_CAL c then
    (d.clr F.OC_MAINJ_REQ c).mapMadc c fun m => { m with inj := true, start := 8 * n }
  else d

/-- What BDAC does at tick `n`: phases, strobes, outputs, epoch captures. -/
def Dev.bdacTick (d : Dev) (n : Nat) (sync : Bool) : Dev :=
  let theta : Nat → Nat := fun j => d.ncoPhase j n
  let ticked : Nat → Bool := fun j => decide (theta j < d.optics.theta.getD j 0)
  let d1 := d.strobeTick sync ticked
  let d2 := d1.mapOpt fun o => { o with
    theta := Vector.ofFn fun j : Fin 8 => theta j.val
    nco := Vector.ofFn fun j : Fin 8 => ticked j.val
    iout := Vector.ofFn fun ch : Fin 16 => d1.biasOut ch.val theta }
  d2.epochTick n

/-- BIAS_TICK (R209): the tick count advances; outputs, phases, strobes and trigger timers follow. -/
def execBiasTick : State → Host.Outcome State Fault Refusal := lift fun d =>
  if !d.domOn dBDAC && !d.domOn dMADC then d
  else
    let n := d.optics.tick + 1
    let sync := d.optics.sync.contains 1
    let d1 := (d.wr F.OC_TICK_COUNT 0 n).mapOpt fun o => { o with
      tick := n, syncNow := sync, comTimer := o.comTimer + 1
      sync := (o.sync.filter fun n => 1 < n).map fun n => n - 1
      madc := o.madc.map fun m => { m with timer := m.timer + 1 } }
    let d2 := if d.domOn dBDAC then d1.bdacTick n sync else d1
    let d3 := if d.domOn dMADC then (d2.injectTick 0 n).injectTick 1 n else d2
    (d3.mapOpt fun o => { o with passEnd := Vector.replicate 2 false }).settleWait .nco .ok []

/-! ## Output faults (R217) -/

/-- BIAS_FAULT_DETECT: the compliance or open-circuit condition of a channel with CODE ≥ 128 begins (its NOW bit sets), has
persisted for the detection filter (the latched flag, the interrupt to firmware, and SHUT when configured), or ends (its NOW bit clears). -/
def execBiasFaultDetect (ch : Fin 16) (openLoop : Bool) (phase : FaultPhase) : State → Host.Outcome State Fault Refusal := lift fun d =>
  let c := ch.val
  let now := if openLoop then F.OC_BSTAT_OPENNOW else F.OC_BSTAT_COMPLNOW
  if !d.domOn dBDAC || d.rd F.OC_BACT_CODE c < 128 then d
  else match phase with
    | .ends => d.clr now c
    | .begins => d.set now c
    | .persists =>
      let d1 := d.set now c
      let d2 := if openLoop then d1.set F.OC_BSTAT_OPEN c else d1.set F.OC_BSTAT_COMPL c
      let d3 := if d2.fwRun then d2.event evBias (0x600 + c) [BitVec.ofNat 8 (if openLoop then 2 else 1)] else d2
      if (if openLoop then d3.on F.OC_BCTL_SDOPEN c else d3.on F.OC_BCTL_SDCOMP c) then
        (d3.set F.OC_BSTAT_SHUT c).clr F.OC_BSTAT_LIVE c
      else d3

/-! ## Monitor converters (R224 to R231) -/

/-- Sampling time in 1/8 bias tick (Table 9-6). -/
def stimeOf (code : Nat) : Nat := [4, 8, 12, 16, 24, 32, 40, 48, 64, 80, 96, 128, 160, 192, 224, 256].getD code 4

/-- The sequence a pass latches at its start (R225); LEN 0 means 16. -/
def Dev.madcSeq (d : Dev) (c : Nat) : List (Nat × Nat × Nat) :=
  let len := d.rd F.OC_MACTL_LEN c
  (List.range (if len = 0 then 16 else len)).map fun n =>
    (d.rd ((F.OC_MASEQ_CHAN).at n) c, d.rd ((F.OC_MASEQ_STIME).at n) c, d.rd ((F.OC_MASEQ_GAIN).at n) c)

/-- Whether a trigger is refused: a pass or a self-calibration is in progress (R226). -/
def Dev.madcBusy (d : Dev) (c : Nat) : Bool := d.on F.OC_MASTAT_BUSY c || d.on F.OC_MASTAT_CAL c

/-- A refused trigger (R226). -/
def Dev.madcMiss (d : Dev) (c : Nat) : Dev := d.inc F.OC_MACNT_MA_MISSED c

/-- A pass starts at the present tick (R225, R226), after an injected conversion that is still running. -/
def Dev.madcStart (d : Dev) (c : Nat) : Dev :=
  ((d.set F.OC_MASTAT_BUSY c).inc F.OC_MASTAT_PASS c).mapMadc c fun m =>
    { m with seq := d.madcSeq c, done := 0, start := if m.inj then m.start else 8 * d.optics.tick }

/-- The converter's trigger source, 5 to 7 acting as 0. -/
def Dev.madcTrig (d : Dev) (c : Nat) : Nat := if 4 < d.rd F.OC_MACTL_TRIG c then 0 else d.rd F.OC_MACTL_TRIG c

/-- Source `s` has a trigger for the converter now (R226). -/
def Dev.madcDue (d : Dev) (c s : Nat) : Bool :=
  if s = 0 then d.on F.OC_MACTL_GO c
  else if s = 1 then decide (max 1 (d.rd F.OC_MAPER_PER c) ≤ (d.conv c).timer)
  else if s = 2 then d.optics.nco.getD (d.rd F.OC_MACTL_NCO c) false
  else d.optics.syncNow

/-- The trigger has been taken: GO clears, the timer restarts. -/
def Dev.madcTaken (d : Dev) (c s : Nat) : Dev :=
  if s = 0 then d.clr F.OC_MACTL_GO c else if s = 1 then d.mapMadc c fun m => { m with timer := 0 } else d

/-- COMMON_TRIGGER's source has a trigger now (R227). -/
def Dev.comDue (d : Dev) : Bool :=
  let s := d.rd F.OC_MACOM_SRC
  if s = 0 then d.on F.OC_MACOM_GO
  else if s = 1 then decide (max 1 (d.rd F.OC_MACOM_PER) ≤ d.optics.comTimer)
  else if s = 2 then d.optics.nco.getD (d.rd F.OC_MACOM_NCO) false
  else d.optics.syncNow

/-- The common trigger (R227): every enabled converter with TRIG 4 starts a pass at this tick, or, when one of them cannot, all of them refuse;
one whose injected conversion still runs cannot start now. -/
def Dev.common (d : Dev) : Dev :=
  if !d.domOn dMADC || !d.comDue then d
  else
    let d1 := (d.clr F.OC_MACOM_GO).mapOpt fun o =>
      { o with comTimer := if d.rd F.OC_MACOM_SRC = 1 then 0 else o.comTimer }
    let l := [0, 1].filter fun c => d.on F.OC_MACTL_EN c && d.madcTrig c == 4
    if l.any (fun c => d.madcBusy c || (d.conv c).inj) then l.foldl Dev.madcMiss d1 else l.foldl Dev.madcStart d1

/-- MADC_PASS_TRIGGER (R225, R226): the converter's trigger of the given source occurs; source 4 is the common trigger. -/
def execMadcPassTrigger (conv : Fin 2) (source : Fin 5) : State → Host.Outcome State Fault Refusal := lift fun d =>
  let c := conv.val
  if !d.domOn dMADC || d.madcTrig c ≠ source.val then d
  else if source.val = 4 then d.common
  else if !d.madcDue c source.val then d
  else
    let d1 := d.madcTaken c source.val
    if !d.on F.OC_MACTL_EN c then d1 else if d.madcBusy c then d1.madcMiss c else d1.madcStart c

/-- COMMON_TRIGGER (R227). -/
def execCommonTrigger : State → Host.Outcome State Fault Refusal := lift Dev.common

/-- A write of 1 to OC_MAINJ.REQ (R228): refused while an injected conversion is pending or running, otherwise pending until
the next entry boundary or the next tick. -/
def Dev.madcInject (d : Dev) (c : Nat) : Dev :=
  if d.on F.OC_MASTAT_INJPEND c then (d.set F.OC_MASTAT_INJREF c).clr F.OC_MAINJ_REQ c
  else (((d.set F.OC_MAINJ_REQ c).set F.OC_MASTAT_INJPEND c).clr F.OC_MAINJRES_DONE c).mapMadc c fun m =>
    { m with inject := (d.rd F.OC_MAINJ_CHAN c, d.rd F.OC_MAINJ_STIME c, d.rd F.OC_MAINJ_GAIN c) }

/-- The code of a conversion and whether it is over-ranged (R224, R230). `raw` is in 1/65,536 LSB. Channels 28 to 31 convert
ground; from 16 up the gain field acts as ×1. -/
def Dev.madcCode (d : Dev) (c chan gain : Nat) (raw : Int) : Nat × Bool :=
  if 28 ≤ chan then (0, false)
  else if 4095 * 65536 + 32768 < raw then (4095, true)
  else if raw < -32768 then (0, true)
  else
    let g := if 16 ≤ chan then 0 else gain
    let gc := d.rdS ((F.OC_MACAL_GC).at g) c
    let off := d.rdS ((F.OC_MACAL_OFF).at g) c
    ((clampI 0 4095 (rneShift ((raw - off * 8192) * (65536 + gc)) 32)).toNat, false)

/-- A ring entry is written at WIDX, which advances (R229, Table 9-7). -/
def Dev.madcRing (d : Dev) (c : Nat) (w0 w1 : Nat) : Dev :=
  let i := d.rd F.OC_MASTAT_WIDX c
  ((d.wr ((F.OC_MARING_ENTRY).at (2 * i)) c w0).wr ((F.OC_MARING_ENTRY).at (2 * i + 1)) c w1).inc F.OC_MASTAT_WIDX c

/-- The next injected conversion a command waits for is requested once the converter is free. -/
def Dev.madcNext (d : Dev) (c : Nat) : Dev :=
  if d.on F.OC_MASTAT_INJPEND c then d
  else match d.mgmt.outst.find? (fun a => match a.wait with | .inject v _ _ _ false => v == c | _ => false) with
    | none => d
    | some a => match a.wait with
      | .inject v chan stime gain _ =>
        let d1 := d.mapMgmt fun m => { m with outst := m.outst.map fun b =>
          if b == a then { b with wait := .inject v chan stime gain true } else b }
        (((d1.wr F.OC_MAINJ_CHAN c chan).wr F.OC_MAINJ_STIME c stime).wr F.OC_MAINJ_GAIN c gain).madcInject c
      | _ => d

/-- A channel's reading in µV at the ball or rail, or m°C (Table 9-5). -/
def madcValue (chan gain code : Nat) : Int :=
  if 24 ≤ chan then rneDiv (125 * (code : Int)) 2 - 50000
  else
    let g := if chan < 16 then 2 ^ gain else 1
    let k := if chan < 17 then 1 else if chan = 21 || chan = 23 then 4 else 2
    rneDiv ((code : Int) * 1200000 * k) (4096 * g)

/-- The sum of TS0 to TS3, once each has been read. -/
def Optics.tempSum (o : Optics) : Option Nat := (o.temps.toList.mapM id).map fun l => l.foldl (· + ·) 0

/-- The hardware keeps the highest die temperature in PW_THERM.TMAX. Firmware reads a rail or a die temperature, and calibrates both converters again when the average of the four has moved by 15 °C
since the last calibration (R231). -/
def Dev.madcTemp (d0 : Dev) (chan code : Nat) : Dev :=
  let d := if 24 ≤ chan && chan ≤ 27 then d0.wr F.PW_THERM_TMAX 0 (max (d0.rd F.PW_THERM_TMAX) (code / 16)) else d0
  if chan < 17 || 27 < chan || !d.fwRun then d
  else if chan < 24 then d.mapOpt fun o => { o with rails := vset o.rails (chan - 17) fun _ => code }
  else
    let d1 := d.mapOpt fun o => { o with temps := vset o.temps (chan - 24) fun _ => some code }
    match d1.optics.tempSum with
    | none => d1
    | some s => match d1.optics.calTemp with
      | none => d1.mapOpt fun o => { o with calTemp := some s }
      | some t => if t + 960 ≤ s || s + 960 ≤ t then
          ((d1.mapOpt fun o => { o with calTemp := some s }).madcCalReq 0).madcCalReq 1
        else d1

/-- The end of an injected conversion: OC_MAINJRES, and the command that waits for it (Table 9-14). -/
def Dev.injDone (d : Dev) (c chan gain code : Nat) (ovr susp : Bool) : Dev :=
  let d1 := ((((d.wr F.OC_MAINJRES_CODE c code).wr F.OC_MAINJRES_OVR c (b2n ovr)).wr F.OC_MAINJRES_SUSP c (b2n susp)).set
    F.OC_MAINJRES_DONE c).inc F.OC_MAINJRES_SEQ c
  let d2 := (d1.clr F.OC_MASTAT_INJPEND c).mapMadc c fun m => { m with inj := false }
  ((d2.settle fun a => match a.wait with
    | .inject v _ _ _ true => if v == c then
        some (.ok, be 2 code ++ [BitVec.ofNat 8 (b2n ovr + 2 * b2n susp), 0] ++ be 4 (tc 32 (madcValue chan gain code)))
      else none
    | _ => none).madcNext c).madcTemp chan code

/-- A boundary at `t`: within a pass a pending injected conversion runs next, and without one it waits for a tick; then comes a waiting
calibration, then the next entry. -/
def Dev.madcBoundary (d : Dev) (c t : Nat) : Dev :=
  if d.on F.OC_MASTAT_INJPEND c then
    (if d.on F.OC_MASTAT_BUSY c then (d.clr F.OC_MAINJ_REQ c).mapMadc c fun m => { m with inj := true, start := t } else d)
  else if (d.conv c).calWait then d.madcCalStart c
  else d.mapMadc c fun m => { m with start := t }

/-- MADC_CONVERSION_DONE (R224, R225, R228 to R230): the conversion in progress completes 0.75 µs after its hold instant and
writes its ring entry; after the last entry the pass is complete, a strobe source and a wait event of the Whetstone. -/
def execMadcConversionDone (conv : Fin 2) (raw : Int) : State → Host.Outcome State Fault Refusal := lift fun d =>
  let c := conv.val
  let m := d.conv c
  let cur : Option (Nat × Nat × Nat × Nat) :=
    if m.inj then some (0, m.inject.1, m.inject.2.1, m.inject.2.2)
    else if d.on F.OC_MASTAT_BUSY c then (m.seq[m.done]?).map fun e => (m.done, e.1, e.2.1, e.2.2)
    else none
  match cur with
  | none => d
  | some (entry, chan, stime, gain) =>
    let (code, ovr) := d.madcCode c chan gain raw
    let hold := m.start + stimeOf stime
    let susp := match m.ovrHold with | some h => decide (m.start < h + 32) | none => false
    let w0 := code + 2 ^ 12 * b2n ovr + 2 ^ 13 * b2n susp + 2 ^ 14 * b2n m.inj + 2 ^ 16 * entry + 2 ^ 20 * chan +
      2 ^ 25 * d.rd F.OC_MASTAT_PASS c
    let d1 := d.madcRing c w0 hold
    let d2 := if ovr then ((d1.set F.OC_MASTAT_OVR c).inc F.OC_MACNT_OVRCNT c).mapMadc c fun x => { x with ovrHold := some hold }
      else d1
    let d3 := if m.inj then d2.injDone c chan gain code ovr susp
      else
        let e := d2.mapMadc c fun x => { x with done := x.done + 1 }
        if m.done + 1 < m.seq.length then e
        else ((e.clr F.OC_MASTAT_BUSY c).mapOpt fun o => { o with passEnd := vset o.passEnd c fun _ => true }).wsEvent (.madcEnd conv)
    d3.madcBoundary c (hold + 12)

/-! ## OSPI (R232, R233) -/

/-- A frame joins a bus queue; when 16 wait already it is dropped and OVF sets. -/
def Dev.ospiPush (d : Dev) (bus : Nat) (f : OspiFrame) : Dev :=
  if 16 ≤ (d.optics.ospiq.getD bus []).length then d.set F.OC_OSPICTL_OVF
  else (d.set (if bus = 0 then F.OC_OSPICTL_BUSY0 else F.OC_OSPICTL_BUSY1)).mapOpt fun o =>
    { o with ospiq := vset o.ospiq bus fun q => q ++ [f] }

/-- A write of OC_OSPITX: the frame goes on the bus and tag of the accessor's OC_OSPIHDR. -/
def Dev.ospiTx (d : Dev) (acc : Accessor) (frame : Nat) : Dev :=
  d.ospiPush (d.rd F.OC_OSPIHDR_BUS (Accessor.idx acc))
    { acc := acc, own := false, tag := d.rd F.OC_OSPIHDR_TAG (Accessor.idx acc), frame := frame % 2 ^ 32 }

/-- Firmware queues the frames of OPT.OSPI.XFER as the queue has room. -/
def Dev.ospiFeed (d : Dev) : Dev :=
  d.mgmt.outst.foldl (fun e a => match a.wait with
    | .ospi bus left todo got =>
      let room := 16 - (e.optics.ospiq.getD bus []).length
      let now := todo.take room
      (now.foldl (fun x f => x.ospiPush bus { acc := .mgmt, own := true, tag := 0, frame := f }) e).mapMgmt fun m =>
        { m with outst := m.outst.map fun b => if b == a then { b with wait := .ospi bus left (todo.drop room) got } else b }
    | _ => e) d

/-- A firmware result reaches the oldest OPT.OSPI.XFER of the bus that still waits for one. -/
def Dev.ospiOwn (d : Dev) (bus data : Nat) : Dev :=
  match d.mgmt.outst.find? (fun a => match a.wait with | .ospi b _ _ _ => b == bus | _ => false) with
  | none => d
  | some a => match a.wait with
    | .ospi b left todo got =>
      if left ≤ 1 then (d.unlist a).respond a.src a.op .ok ((got ++ [data]).flatMap (be 2))
      else d.mapMgmt fun m => { m with outst := m.outst.map fun x =>
        if x == a then { x with wait := .ospi b (left - 1) todo (got ++ [data]) } else x }
    | _ => d

/-- What the device drives on OSPIn_SDIO in a frame, MSB first: RW, DEV, ADDR and a write's DATA; for a read it releases the pin for the
turnaround clock and the 16 data clocks (R232). -/
def ospiDriven (frame : Nat) : List (Option Bool) :=
  if frame.testBit 31 then (bitsMsb 16 (frame / 2 ^ 16)).map some ++ List.replicate 17 none else (bitsMsb 32 frame).map some

/-- OSPI_FRAME_DONE (R232, R233): the frame at the head of the bus ends; a write frame returns DATA 0; a result that finds its
accessor's 8-entry FIFO full is dropped. -/
def execOspiFrameDone (bus : Fin 2) (data : BitVec 16) : State → Host.Outcome State Fault Refusal := lift fun d =>
  let b := bus.val
  match d.optics.ospiq.getD b [] with
  | [] => d
  | f :: rest =>
    let v := if f.frame.testBit 31 then data.toNat else 0
    let d1 := (d.mapOpt fun o => { o with
      ospiq := vset o.ospiq b fun _ => rest
      ospiOut := vset o.ospiOut b fun _ => ospiDriven f.frame }).wr
      (if b = 0 then F.OC_OSPICTL_BUSY0 else F.OC_OSPICTL_BUSY1) 0 (b2n (!rest.isEmpty))
    let d2 := if f.own then d1.ospiOwn b v
      else if 8 ≤ (d1.optics.ospir.filter fun r => r.1 == f.acc).length then d1.set F.OC_OSPICTL_OVF
      else d1.mapOpt fun o => { o with ospir := o.ospir ++ [(f.acc, { data := v, tag := f.tag, bus := b })] }
    d2.ospiFeed

/-- The word a read of OC_OSPIRX gives an accessor: its oldest result, with the number that remain. -/
def Dev.ospiWord (d : Dev) (acc : Accessor) : Nat :=
  match d.optics.ospir.filter fun r => r.1 == acc with
  | [] => 0
  | (_, r) :: rest => r.data + 2 ^ 16 * r.tag + 2 ^ 20 * r.bus + 2 ^ 24 * rest.length + 2 ^ 31

/-- A read of OC_OSPIRX pops the accessor's oldest result. -/
def Dev.ospiRx (d : Dev) (acc : Accessor) : Dev :=
  match d.optics.ospir.find? fun r => r.1 == acc with
  | none => d
  | some r => d.mapOpt fun o => { o with ospir := o.ospir.erase r }

/-! ## The lane loops (R234 to R237) -/

/-- Samples of a channel per round that one converter's sequence provides: its entries for the channel times the passes its
trigger starts in 200 bias ticks. -/
def Dev.nexpConv (d : Dev) (c chan : Nat) : Nat :=
  let seq := d.madcSeq c
  let n := (seq.filter fun e => e.1 == chan).length
  let len := ceilDiv ((seq.map fun e => stimeOf e.2.1 + 12).foldl (· + ·) 0) 8
  let timed : Nat → Nat := fun per => 200 / (max 1 per * ceilDiv len (max 1 per))
  let nco : Nat → Nat := fun j => 200 * d.rd F.OC_NCOFW_VALUE j / 2 ^ 32
  let passes := match d.madcTrig c with
    | 1 => timed (d.rd F.OC_MAPER_PER c)
    | 2 => nco (d.rd F.OC_MACTL_NCO c)
    | 4 => if d.rd F.OC_MACOM_SRC = 1 then timed (d.rd F.OC_MACOM_PER)
      else if d.rd F.OC_MACOM_SRC = 2 then nco (d.rd F.OC_MACOM_NCO) else 0
    | _ => 0
  if d.on F.OC_MACTL_EN c then n * passes else 0

/-- The ring entries of both converters with h0 ≤ HOLD < h0 + 1,600 that are not injected: code, bad, hold, channel. -/
def Dev.ringSamples (d : Dev) (h0 : Nat) : List (Nat × Bool × Bool × Nat × Nat) :=
  [0, 1].flatMap fun c => (List.range 256).filterMap fun i =>
    let j := (d.rd F.OC_MASTAT_WIDX c + i) % 256
    let w := d.rd ((F.OC_MARING_ENTRY).at (2 * j)) c
    let h := d.rd ((F.OC_MARING_ENTRY).at (2 * j + 1)) c
    if (h + 2 ^ 32 - h0 % 2 ^ 32) % 2 ^ 32 < 1600 && !w.testBit 14 then
      some (w % 4096, w.testBit 12, w.testBit 13, h, slice w 20 5)
    else none

/-- A loop enters FAULT with a cause of Table 9-9 (R236). -/
def Dev.loopFault (d : Dev) (k cause : Nat) : Dev :=
  (((d.mapLoop k fun l => { l with state := 4, fcause := cause }).int).event evLoop (0x600 + k) [BitVec.ofNat 8 cause]).mapLane k fun l =>
    { l with alarm := withBit l.alarm 1 true }

/-- sin 2πθ and cos 4πθ, in 2^−30, of NCO `j` at the hold instant `h` of a ring entry (R235): the low 32 bits of an instant no later than
now, in 1/8 tick, at which θ is R219's. -/
def Dev.loopSines (d : Dev) (j h : Nat) : Int × Int :=
  let now := 8 * d.optics.tick
  let at_ := now + 2 ^ 35 - (now + 2 ^ 32 - h) % 2 ^ 32
  let th := (d.rd F.OC_NCOFW_VALUE j * ((at_ + 2 ^ 36 - 8 * d.rd F.OC_NCOE_VALUE j) % 2 ^ 35) + 8 * d.rd F.OC_NCOPH_VALUE j) % 2 ^ 35
  (sinTurn th, sinTurn ((2 * th + 2 ^ 33) % 2 ^ 35))

/-- The modulator step of one lock-in window (R235): KB × e in 2^−8 code, limited to BSTEP, towards the lock point. With a1 of
the wrong sign the step is BSTEP; at an exact a2 of 0 both quadratures are as near and a free value chooses. -/
def Dev.lockStep (d : Dev) (l : Loop) : Int × Dev :=
  let c := l.cfg
  let b : Int := c.bstep
  let quad := c.mode == 1 || c.mode == 2
  let e := if quad then l.a2 else l.a1
  let up := c.mode == 2 || c.mode == 4
  let wrong := (c.mode == 1 && l.a1 < 0) || (c.mode == 2 && 0 < l.a1)
  if wrong && l.a2 = 0 then
    let (v, d1) := d.freeVal 1
    (if v = 0 then b else -b, d1)
  else
    let m := if wrong then (if 0 < e then b else -b)
      else clampI (-b) b (rneDiv ((c.kb : Int) * e) (256 * 2 ^ 30 * l.nm))
    (if up then m else -m, d)

/-- The laser power part of R235: integrator and laser code from `n` codes with the sum `sum`. -/
def Loop.power (l : Loop) (sum : Int) (n : Nat) : Loop :=
  let c := l.cfg
  let lim : Int := 256 * c.ilim
  if l.state = 1 then
    let lc := min (l.lcode + c.ramp) c.ilim
    if (c.setpt : Int) * n ≤ sum then { l with lcode := lc, state := 2, acc := 256 * lc } else { l with lcode := lc }
  else
    let err : Int := (c.setpt : Int) * n - sum
    let acc := clampI 0 lim (l.acc + rneDiv ((c.ki : Int) * err) n)
    { l with acc := acc, lcode := (clampI 0 c.ilim (rneDiv (acc * n + (c.kp : Int) * err) (256 * n))).toNat }

/-- The laser's holding code, written unless pinned. -/
def Dev.putLaser (d : Dev) (l : Loop) : Dev := d.bg F.OC_BHOLD_CODE l.cfg.lch l.lcode

/-- The lock-in part of R235, only in TRACK; MODE 0 writes MCODE. -/
def Dev.lockIn (d : Dev) (k : Nat) (l : Loop) (xm : List (Nat × Bool × Bool × Nat × Nat)) : Dev :=
  let c := l.cfg
  if c.mode = 0 then (d.bg F.OC_BHOLD_CODE c.mch c.mcode).mapLoop k fun _ => l
  else if l.state ≠ 2 then d.mapLoop k fun _ => l
  else
    let l1 := xm.foldl (fun (a : Loop) x =>
      let (s, c2) := d.loopSines c.nco x.2.2.2.1
      { a with a1 := a.a1 + x.1 * s, a2 := a.a2 + x.1 * c2, nm := a.nm + 1 }) l
    let l2 := { l1 with rounds := l1.rounds + 1 }
    if l2.rounds < c.nint then d.mapLoop k fun _ => l2
    else
      let (st, d1) := if l2.nm = 0 then ((0 : Int), d) else d.lockStep l2
      let m := (clampI 0 16383 ((d1.rd F.OC_BHOLD_CODE c.mch : Int) + st)).toNat
      (d1.bg F.OC_BHOLD_CODE c.mch m).mapLoop k fun _ =>
        { l2 with a1 := 0, a2 := 0, nm := 0, rounds := 0
                  lastA1 := if l2.nm = 0 then 0 else rneDiv l2.a1 (2 ^ 30 * l2.nm)
                  lastA2 := if l2.nm = 0 then 0 else rneDiv l2.a2 (2 ^ 30 * l2.nm) }

/-- One execution of lane `k`'s loop (R235), and the FAULT causes of Table 9-9. -/
def Dev.loopExec (d : Dev) (k : Nat) : Dev :=
  let l0 := d.loop k
  let c := l0.cfg
  if l0.state = 0 || l0.state = 4 then d
  else if d.on F.OC_BSTAT_SHUT c.lch || d.on F.OC_BSTAT_SHUT c.mch then d.loopFault k 1
  else if 100 ≤ l0.refused then d.loopFault k 4
  else
    let all := d.ringSamples d.optics.round0
    let lm := all.filter fun x => x.2.2.2.2 == c.lmon
    let high := if !lm.isEmpty && lm.all fun x => x.2.1 then l0.overRounds + 1 else 0
    if 100 ≤ high then d.loopFault k 3
    else
      let good := all.filter fun x => !x.2.1 && !x.2.2.1
      let xl := good.filter fun x => x.2.2.2.2 == c.lmon
      let xm := good.filter fun x => x.2.2.2.2 == c.mmon
      let few := fun (l : List (Nat × Bool × Bool × Nat × Nat)) (chan : Nat) =>
        l.isEmpty || decide (2 * l.length < d.nexpConv 0 chan + d.nexpConv 1 chan)
      if few xl c.lmon || few xm c.mmon then
        d.mapLoop k fun l => { l with state := 3, prior := if l.state = 3 then l.prior else l.state, holds := (l.holds + 1) % 2 ^ 32
                                      overRounds := high }
      else
        let sum : Int := (((xl.map fun x => x.1).foldl (· + ·) 0 : Nat) : Int)
        let l1 := { l0 with state := if l0.state = 3 then l0.prior else l0.state }
        let seed := d.pinned F.OC_BHOLD_CODE c.lch
        let l2 := l1.power sum xl.length
        let at' := if l2.lcode = c.ilim then l2.atLimit + 1 else 0
        let l3 := { l2 with overRounds := high, atLimit := at', monl := (rneDiv sum xl.length).toNat
                            acc := if seed then 256 * (d.rd F.OC_BACT_CODE c.lch) else l2.acc }
        let d1 := (d.putLaser l3).lockIn k l3 xm
        if (l3.state = 1 && l3.lcode = c.ilim) || 10000 ≤ at' then d1.loopFault k 2 else d1

/-- OutputDisableTx is set for a host lane that lane `k` uses; without a data path both of its host lanes count (log entry 90). -/
def Dev.outDisabled (d : Dev) (k : Nat) : Bool :=
  (hostsOfLane (match d.pathOf k with | some p => p.lrm | none => 0) k).any fun n => d.mgmt.outDis.getD n false

/-- A loop in OFF: both channels at code 0 (Table 9-9). -/
def Dev.loopIdle (d : Dev) (k : Nat) : Dev :=
  let c := (d.loop k).cfg
  ((d.mapLoop k fun l => { l with state := 0, fcause := 0 }).bg F.OC_BHOLD_CODE c.lch 0).bg F.OC_BHOLD_CODE c.mch 0

/-- Firmware turns a loop on: RAMP from the laser's active code, the modulator at its start point, the converters accepting triggers (R234,
R236, Table 9-16). While CMIS disables one of the lane's outputs (R237), and until both converters have been calibrated (R231), the loop
waits in OFF. -/
def Dev.loopStart (d : Dev) (k : Nat) : Dev :=
  let c := (d.loop k).cfg
  if d.outDisabled k || !(d.optics.madc.toList.all fun m => m.calibrated) then
    (if (d.loop k).state = 4 then d.loopIdle k else d).mapLoop k fun l => { l with want := true }
  else
    ((((d.bg F.OC_MACTL_EN 0 1).bg F.OC_MACTL_EN 1 1).mapLoop k fun l =>
      { l with want := true, state := 1, fcause := 0, lcode := d.rd F.OC_BACT_CODE c.lch, acc := 0, a1 := 0
               a2 := 0, nm := 0, rounds := 0, atLimit := 0, overRounds := 0, refused := 0 }).bg
      F.OC_BHOLD_CODE c.mch c.mcode).mapLane k fun l => { l with alarm := withBit l.alarm 1 false }

/-- Firmware turns a loop off. A FAULT stays, its codes held: only OPT.LOOP.SET with EN = 1 leaves it (R236). -/
def Dev.loopOff (d : Dev) (k : Nat) : Dev :=
  (if (d.loop k).state = 4 then d else d.loopIdle k).mapLoop k fun l => { l with want := false }

/-- CMIS OutputDisableTx of a lane's host lanes sets or clears (R237): OFF while set, RAMP again when it clears; a FAULT stays (R236). -/
def Dev.loopDisable (d : Dev) (k : Nat) : Dev :=
  if d.outDisabled k then (if (d.loop k).state = 0 || (d.loop k).state = 4 then d else d.loopIdle k)
  else if (d.loop k).want && (d.loop k).state = 0 && d.domOn dBDAC then d.loopStart k else d

/-- Loops that were turned on before both converters were calibrated start. -/
def Dev.loopsWaiting (d : Dev) : Dev := iter 8 (fun k e => e.loopDisable k) d

/-- A loop configuration is valid when its limit allows a laser current (R237). -/
def Loop.valid (l : Loop) : Bool := l.cfg.ilim != 0

/-- On entry to READY every valid AUTO loop is turned on (R237). -/
def Dev.loopsAuto (d : Dev) : Dev :=
  iter 8 (fun k e =>
    let l := d.loop k
    if l.cfg.auto && l.valid && l.state == 0 then e.loopStart k else e) d

/-- The bias channels of a group's lanes go to zero: firmware turns their loops off, which takes both channels of each to code 0 (R29 step
3 for one group, R40; log entry 80). -/
def Dev.opticsZero (d : Dev) (lanes : List Nat) : Dev :=
  lanes.foldl (fun e k =>
    let c := (e.loop k).cfg
    ((e.loopOff k).bg F.OC_BHOLD_CODE c.lch 0).bg F.OC_BHOLD_CODE c.mch 0) d

/-- At LOWPWR entry firmware turns off every loop and clears EN on every channel (R29, R218, R237). -/
def Dev.opticsOff (d : Dev) : Dev := iter 16 (fun ch e => e.biasEn ch false) (iter 8 (fun k e => e.loopOff k) d)

/-- MADC_CAL_DONE (R231): GC and OFF of each gain are written and CALDONE sets; the average of TS0 to TS3 now is what the next one is
measured from; loops that waited start; OPT.MADC.CAL goes on to its next converter or
answers. -/
def execMadcCalDone (conv : Fin 2) (factors : List (Nat × Nat)) : State → Host.Outcome State Fault Refusal := lift fun d =>
  let c := conv.val
  if !d.on F.OC_MASTAT_CAL c then d
  else
    let d1 := iter 4 (fun g e => match factors[g]? with
      | some (gc, off) => (e.bg ((F.OC_MACAL_GC).at g) c gc).bg ((F.OC_MACAL_OFF).at g) c off
      | none => e) d
    let d2 := ((((d1.clr F.OC_MASTAT_CAL c).clr F.OC_MACTL_CALREQ c).set F.OC_MASTAT_CALDONE c).mapOpt fun o =>
      { o with calTemp := o.tempSum, madc := vset o.madc c fun m => { m with calibrated := true } }).loopsWaiting
    let missed : Nat → Nat := fun base => (d.rd F.OC_MACNT_MA_MISSED c + 65536 - base) % 65536
    let d3 := d2.settle fun a => match a.wait with
      | .madcCal convs base => if convs = 2 ^ c then some (.ok, be 2 (missed base)) else none
      | _ => none
    if c = 0 && d3.mgmt.outst.any (fun a => match a.wait with | .madcCal 3 _ => true | _ => false) then
      (d3.mapWait fun w => match w with
        | .madcCal 3 base => if d3.on F.OC_MASTAT_CAL 1 then
            .madcCal 2 ((d3.rd F.OC_MACNT_MA_MISSED 1 + 65536 - missed base) % 65536) else .madcCal 2 (missed base)
        | _ => w).madcCalReq 1
    else d3

/-- SYNC_IN_EDGE (R209, R255, R256): the edge acts on the generator now, and on strobes and triggers at the second tick. -/
def execSyncInEdge (phase : Fin 64) : State → Host.Outcome State Fault Refusal := lift fun d =>
  (d.pgSync phase.val).mapOpt fun o => { o with sync := o.sync ++ [2] }

/-! ## The OPT commands -/

/-- Whether a channel belongs to a loop that is not OFF. -/
def Dev.biasLoop (d : Dev) (ch : Nat) : Option Nat :=
  (List.range 8).find? fun k =>
    let l := d.loop k
    l.state != 0 && (l.cfg.lch == ch || l.cfg.mch == ch)

/-- The low 16 bits of a register's fields. -/
def Dev.word16 (d : Dev) (fs : List Fld) (ch : Nat) : Nat := fs.foldl (fun a f => a + 2 ^ f.lo * d.rd f ch) 0

/-- OPT.BIAS.GET (Table 9-10). -/
def execOptBiasGet (src : Src) (ch : Byte) : State → Host.Outcome State Fault Refusal := lift fun d0 =>
  d0.kci src 0xA300 .q fun d1 =>
    let c := ch.toNat
    if 15 < c then .no .badParam
    else
      let d := d1.demand dBDAC
      let ctl := d.word16 [F.OC_BCTL_EN, F.OC_BCTL_RANGE, F.OC_BCTL_DITH, F.OC_BCTL_NCO, F.OC_BCTL_SDCOMP, F.OC_BCTL_SDOPEN] c
      let st := d.word16 [F.OC_BSTAT_LIVE, F.OC_BSTAT_SETTLE, F.OC_BSTAT_SHUT, F.OC_BSTAT_COMPLNOW, F.OC_BSTAT_OPENNOW,
        F.OC_BSTAT_COMPL, F.OC_BSTAT_OPEN] c
      let pin := b2n (d.pinned F.OC_BHOLD_CODE c || d.pinned F.OC_BHOLD_DAMP c)
      let owner := match d.biasLoop c with | none => 0xFF | some k => k + 128 * pin
      .ok d (be 2 ctl ++ be 2 st ++ be 2 (d.rd F.OC_BACT_CODE c) ++ be 2 (d.rd F.OC_BACT_DAMP c) ++
        be 2 (d.rd F.OC_BHOLD_CODE c) ++ [BitVec.ofNat 8 owner, 0])

/-- OPT.BIAS.SET (Table 9-11). -/
def execOptBiasSet (src : Src) (ch en range nco : Byte) (code damp : BitVec 16) (sd strobe : Byte) :
    State → Host.Outcome State Fault Refusal := lift fun d0 =>
  d0.kci src 0xA301 .c fun d1 =>
    let c := ch.toNat
    let (e, r, n, cd, da, s) := (en.toNat, range.toNat, nco.toNat, code.toNat, damp.toNat, sd.toNat)
    if 15 < c || !okKeep e 1 || !okKeep r 2 || !(okKeep n 7 || n = 0x80) || !(cd ≤ 16383 || cd = 0xFFFF) ||
        !(da ≤ 1023 || da = 0xFFFF) || !okKeep s 3 || !okKeep strobe.toNat 1 then .no .badParam
    else
      let d := d1.demand dBDAC
      if (d.biasLoop c).isSome && (e = 0 || (r ≠ 0xFF && r ≠ d.rd F.OC_BCTL_RANGE c)) then .no .denied
      else
        let a := if r = 0xFF then d else (d.fwPut F.OC_BCTL_RANGE c r).biasRange c r
        let a := if e = 0xFF then a else (a.fwPut F.OC_BCTL_EN c e).biasEn c (e = 1)
        let a := if n = 0xFF then a
          else if n = 0x80 then a.cfg dBDAC F.OC_BCTL_DITH c 0
          else (a.cfg dBDAC F.OC_BCTL_DITH c 1).cfg dBDAC F.OC_BCTL_NCO c n
        let a := a.cfgKeep dBDAC F.OC_BHOLD_CODE c cd 0xFFFF
        let a := a.cfgKeep dBDAC F.OC_BHOLD_DAMP c da 0xFFFF
        let a := if s = 0xFF then a else (a.cfg dBDAC F.OC_BCTL_SDCOMP c s).cfg dBDAC F.OC_BCTL_SDOPEN c (s / 2)
        if strobe.toNat = 1 then .hold a (.strobe (c / 8)) else .ok a []

/-- OPT.NCO.SET (Table 9-12). -/
def execOptNcoSet (src : Src) (nco en tb : Byte) (fw phoff esec : Word32) : State → Host.Outcome State Fault Refusal :=
  lift fun d0 => d0.kci src 0xA310 .c fun d1 =>
    let j := nco.toNat
    let keep := 0xFFFFFFFF
    if 7 < j || !okKeep en.toNat 1 || !okKeep tb.toNat 3 || !(fw.toNat < 2 ^ 31 || fw.toNat = keep) then .no .badParam
    else
      let a := d1.demand dBDAC
      let a := a.cfgKeep dBDAC F.OC_NCOCTL_EN j en.toNat 0xFF
      let a := a.cfgKeep dBDAC F.OC_NCOCTL_TB j tb.toNat 0xFF
      let a := a.cfgKeep dBDAC F.OC_NCOFW_VALUE j fw.toNat keep
      let a := a.cfgKeep dBDAC F.OC_NCOPH_VALUE j phoff.toNat keep
      if esec.toNat = keep then .hold a .nco
      else .ok ((a.cfg dBDAC F.OC_NCOESEC_VALUE j esec.toNat).set F.OC_NCOCTL_EARM j) []

/-- OPT.MADC.READ (Table 9-13): one injected conversion. -/
def execOptMadcRead (src : Src) (conv chan stime gain : Byte) : State → Host.Outcome State Fault Refusal := lift fun d0 =>
  d0.kciThen src 0xA320 .c (fun d1 =>
    if 1 < conv.toNat || 27 < chan.toNat || 15 < stime.toNat || 3 < gain.toNat then .no .badParam
    else .hold (d1.demand dMADC) (.inject conv.toNat chan.toNat stime.toNat gain.toNat false)) 0 0
    fun d => d.madcNext conv.toNat

/-- OPT.MADC.CAL: one converter, or both in turn. -/
def execOptMadcCal (src : Src) (conv : Byte) : State → Host.Outcome State Fault Refusal := lift fun d0 =>
  d0.kci src 0xA321 .c fun d1 =>
    let v := conv.toNat
    if 1 < v && v ≠ 0xFF then .no .badParam
    else
      let a := d1.demand dMADC
      let c := if v = 1 then 1 else 0
      let convs := if v = 0xFF then 3 else 2 ^ v
      let was := a.on F.OC_MASTAT_CAL c
      let b := a.madcCalReq c
      .hold b (.madcCal convs (if was || b.on F.OC_MASTAT_CAL c then b.rd F.OC_MACNT_MA_MISSED c else 0))

/-- OPT.LOOP.GET (Table 9-15). -/
def execOptLoopGet (src : Src) (lane : Byte) : State → Host.Outcome State Fault Refusal := lift fun d0 =>
  d0.kci src 0xA330 .q fun d =>
    let k := lane.toNat
    if 7 < k then .no .badParam
    else
      let l := d.loop k
      .ok d ([BitVec.ofNat 8 l.state, BitVec.ofNat 8 l.fcause] ++ be 2 l.monl ++ be 2 (d.rd F.OC_BHOLD_CODE l.cfg.lch) ++
        be 2 (d.rd F.OC_BHOLD_CODE l.cfg.mch) ++ be 2 (tc 16 l.lastA1) ++ be 2 (tc 16 l.lastA2) ++ be 4 l.holds)

/-- A byte or word operand against its keep value. -/
def keepOr (v keep old : Nat) : Nat := if v = keep then old else v

/-- OPT.LOOP.SET (Table 9-16). -/
def execOptLoopSet (src : Src) (lane en auto mode lch lmon mch mmon nco ramp nint bstep : Byte)
    (setpt ilim kp ki kb mcode : BitVec 16) : State → Host.Outcome State Fault Refusal := lift fun d0 =>
  d0.kci src 0xA331 .c fun d =>
    let k := lane.toNat
    let l := d.loop k
    let c := l.cfg
    let b := fun (v : Byte) (old : Nat) => keepOr v.toNat 0xFF old
    let w := fun (v : BitVec 16) (old : Nat) => keepOr v.toNat 0xFFFF old
    let rg := fun (v : Byte) (lo hi : Nat) => (lo ≤ v.toNat && v.toNat ≤ hi) || v.toNat = 0xFF
    if 7 < k || !rg en 0 1 || !rg auto 0 1 || !rg mode 0 4 || !rg lch 0 15 || !rg lmon 0 15 || !rg mch 0 15 || !rg mmon 0 15 ||
        !rg nco 0 7 || !rg ramp 1 255 || !rg nint 1 64 || !rg bstep 1 64 then .no .badParam
    else
      let c1 : LoopCfg := { auto := if auto.toNat = 0xFF then c.auto else auto.toNat == 1, mode := b mode c.mode, lch := b lch c.lch
                            lmon := b lmon c.lmon, mch := b mch c.mch, mmon := b mmon c.mmon, nco := b nco c.nco
                            ramp := b ramp c.ramp, nint := b nint c.nint, bstep := b bstep c.bstep, setpt := w setpt c.setpt
                            ilim := w ilim c.ilim, kp := w kp c.kp, ki := w ki c.ki, kb := w kb c.kb, mcode := w mcode c.mcode }
      if l.state ≠ 0 && (c1.lch != c.lch || c1.lmon != c.lmon || c1.mch != c.mch || c1.mmon != c.mmon || c1.nco != c.nco) then
        .no .denied
      else
        let a := (d.demand dBDAC).mapLoop k fun x => { x with cfg := c1 }
        .ok (if en.toNat = 1 then a.loopStart k
          else if en.toNat = 0 then a.loopOff k else a) []

/-- OPT.OSPI.XFER (Table 9-17). -/
def execOptOspiXfer (src : Src) (bus count : Byte) (frames : List Word32) : State → Host.Outcome State Fault Refusal :=
  lift fun d0 => d0.kciThen src 0xA340 .c (fun d =>
    let n := count.toNat
    if 1 < bus.toNat || n = 0 || 8 < n || frames.length ≠ n then .no .badParam
    else .hold (d.demand dBDAC) (.ospi bus.toNat n (frames.map fun f => f.toNat) [])) 0 0 Dev.ospiFeed

end Sys2Proof.Machine
end

