-- ==== Sys2Proof/Machine/Twin.lean ====
section
/-! DEFINITION. Twin operation over the Crosscut link (chapter 15): cells, training, attach, heartbeat, faults, detach,
takeover, swap, loop hand-over, mirroring, and the TWIN commands. -/

namespace Sys2Proof.Machine

/-- Updates the Crosscut state. -/
def Dev.mapXc (d : Dev) (f : Xc → Xc) : Dev := { d with xc := f d.xc }

/-- The pair is attached. -/
def Dev.attached (d : Dev) : Bool := d.rd F.XC_STAT_STATE == 3

/-- Moves the management endpoint to or from this device (R356). -/
def Dev.setEndpt (d : Dev) (b : Bool) : Dev :=
  (d.mapMgmt fun m => { m with endpt := b }).wr F.XC_STAT_ENDPT 0 (b2n b)

/-- A TWINROLE word: role, SWAPPED against the strap, and the low 24 bits of a serial (R359). -/
def roleWord (role strap serial : Nat) : Nat := role + 4 * b2n (role != strap) + 256 * (serial % 2 ^ 24)

/-- Firmware updates TWINROLE under R310, keeping the serial. -/
def Dev.putRole (d : Dev) (role : Nat) : Dev :=
  d.voteJob [(4, roleWord role d.mgmt.twinId (d.voteWord 4 / 256))] .role

/-- The loops of the lanes in a mask re-seed from the active codes (R237, R362, R366). -/
def Dev.reseed (d : Dev) (mask : Nat) : Dev :=
  iter 8 (fun k e =>
    if mask.testBit k then e.mapLoop k fun l =>
      { l with lcode := d.rd F.OC_BACT_CODE l.cfg.lch, acc := 256 * (d.rd F.OC_BACT_CODE l.cfg.lch : Int) }
    else e) d

/-! ## The mirrored image (R358)

Its layout is the model's (log entry 25): byte 0 and 1 the CDB instances that are busy, 2 the lanes with a loop on, 3 the module state, 4 the
configuration status of eight lanes, 12 the flags and 28 the page 11h status of sixteen host lanes, 92 OutputDisableTx, 94 the flag
masks, 110 the module masks, 116 bank, page and diagnostics selectors, 120 the fixed equalisation targets, 136 the SNR of page 14h, 152
the loops, 344 the CDB instances, and from 612 on firmware's configuration copies. -/

/-- Byte `o` of the mirrored image. -/
def Xc.mirrored (x : Xc) (o : Nat) : Nat := (((x.image.find? fun e => e.1 == o).map fun e => e.2.toNat)).getD 0

/-- The big-endian number of `n` bytes of the mirrored image. -/
def Xc.mirroredN (x : Xc) (o n : Nat) : Nat := (List.range n).foldl (fun a i => 256 * a + x.mirrored (o + i)) 0

/-- Bytes at an offset replace the older ones. -/
def putImage (img : List (Nat × Byte)) (off : Nat) : List Byte → List (Nat × Byte)
  | [] => img
  | b :: t => putImage ((off, b) :: img.filter fun e => e.1 != off) (off + 1) t

/-- The device and host lane behind module lane `m` (R142; R357 while attached): whether it is the twin's; none where the map
names no lane. With no whole map under key 0x0801 the assignment of R142 holds. -/
def Dev.cmisLane (d : Dev) (m : Nat) : Option (Bool × Nat) :=
  if !d.attached then some (false, m)
  else match d.conf 0x0801 with
    | none => some (false, m)
    | some l =>
      if l.length < 16 then some (false, m)
      else
        let e := fieldAt l m 1
        if e = 255 then none else some (e / 128 != b2n (d.mgmt.twinId == 2), e % 16)

/-- The flag conditions of host lane `n` (R142): bit 0 Tx LOS, bit 1 Tx CDR LOL, bit 2 Rx CDR LOL. -/
def Dev.cmisFlag (d : Dev) (n : Nat) : Nat :=
  b2n (!d.on F.HL_STAT_SIGDET n) + 2 * b2n (!d.on F.HL_STAT_CDRLOCK n) + 4 * b2n (!d.on F.LN_TRSTAT_LOCK (n / 2))

/-- The lanes of this device that the lane map names: a host lane. -/
def Dev.mappedHost (d : Dev) (n : Nat) : Bool := (List.range 16).any fun m => d.cmisLane m == some (false, n)

/-- A configuration copy is mirrored: of a mapped lane, or of the optics. -/
def Dev.mirrorsKey (d : Dev) (key : Nat) : Bool :=
  let a := key % 2 ^ 26 / 32
  (0x60000 ≤ a && a < 0x70000) || match keyDomain key with
    | some i =>
      if i < 40 then d.mappedHost (2 * (i % 8)) || d.mappedHost (2 * (i % 8) + 1)
      else i < 72 && d.mappedHost ((i - 40) % 16)
    | none => false

/-- A loop as the image carries it. -/
def Loop.bytes (l : Loop) : List Byte :=
  let c := l.cfg
  be 1 l.state ++ be 1 c.mode ++ be 1 c.lch ++ be 1 c.lmon ++ be 1 c.mch ++ be 1 c.mmon ++ be 1 c.nco ++ be 1 c.nint ++ be 1 c.bstep ++
    zeros 1 ++ be 2 c.ramp ++ be 2 c.setpt ++ be 2 c.ilim ++ be 2 c.kp ++ be 2 c.ki ++ be 2 c.kb ++ be 2 c.mcode

/-- Loop `k` of the twin, from the image. -/
def Xc.twinLoop (x : Xc) (k : Nat) : Loop :=
  let o := 152 + 24 * k
  let b := fun i => x.mirrored (o + i)
  let w := fun i => x.mirroredN (o + i) 2
  { state := b 0
    cfg := { mode := b 1, lch := b 2, lmon := b 3, mch := b 4, mmon := b 5, nco := b 6, nint := b 7, bstep := b 8, ramp := w 10
             setpt := w 12, ilim := w 14, kp := w 16, ki := w 18, kb := w 20, mcode := w 22 } }

/-- A CDB instance as the image carries it. -/
def Cdb.bytes (c : Cdb) : List Byte :=
  be 2 c.cmd ++ be 1 (b2n c.success) ++ be 1 c.failure ++ be 1 c.seq ++ be 1 c.reply.length ++ (c.reply ++ zeros 128).take 128

/-- CDB instance `i` of the old endpoint, from the image; a command in progress there has failed (R364). -/
def Xc.twinCdb (x : Xc) (i : Nat) : Cdb :=
  let o := 344 + 134 * i
  { cmd := x.mirroredN o 2, busy := false, success := x.mirrored i == 0 && x.mirrored (o + 2) == 1
    failure := if x.mirrored i = 0 then x.mirrored (o + 3) else 0, seq := x.mirrored (o + 4)
    reply := (List.range (x.mirrored (o + 5))).map fun j => BitVec.ofNat 8 (x.mirrored (o + 6 + j)) }

/-- The image this device sends: its writable and status pages, the state of its CDB instances, and firmware's configuration copies for the
mapped lanes. -/
def Dev.mirrorImage (d : Dev) : List Byte :=
  let m := d.mgmt
  let b := fun (v : Nat) => BitVec.ofNat 8 v
  [b (b2n (m.cdb.get 0).busy), b (b2n (m.cdb.get 1).busy), b (iter 8 (fun k a => if (d.loop k).state = 0 then a else a + 2 ^ k) 0),
    b m.page00] ++
    m.config.toList.map b ++ (List.range 16).map (fun n => b (m.cmisFlags.getD n 0)) ++
    m.page11.toList.flatMap (fun p => [b p.dp, b (b2n p.rxOut), b p.app, b p.first]) ++
    be 2 ((List.range 16).foldl (fun a n => a + 2 ^ n * b2n (m.outDis.getD n false)) 0) ++
    (List.range 16).map (fun n => b (m.laneMasks.getD n 0)) ++ be 6 m.modMasks ++ [b m.bankSel, b m.pageSel, b m.diag, 0] ++
    m.fixedTarget.toList.map b ++ m.page14.toList.flatMap (be 2) ++ (List.range 8).flatMap (fun k => (d.loop k).bytes) ++
    (m.cdb.get 0).bytes ++ (m.cdb.get 1).bytes ++
    (d.fw.filter fun e => d.mirrorsKey e.1).flatMap fun e => be 6 e.1 ++ be 4 e.2

/-- The twin's configuration copies in the image. -/
def Xc.twinFw (x : Xc) : FieldFile :=
  (List.range (x.image.length / 10)).foldl (fun f i =>
    if x.image.any fun e => e.1 == 612 + 10 * i then ffPut f (x.mirroredN (612 + 10 * i) 6) (x.mirroredN (618 + 10 * i) 4) else f) []

/-- The MIRROR cells of an image: offset, FIRST and LAST flags, length and up to 20 bytes each. -/
def Dev.mirrorCells : Nat → Dev → Nat → List Byte → Dev
  | 0, d, _, _ => d
  | n + 1, d, off, l =>
    let flags := b2n (off == 0) + 2 * b2n (decide (l.length ≤ 20))
    let d1 := d.cell 5 (be 2 off ++ [BitVec.ofNat 8 flags, BitVec.ofNat 8 (min 20 l.length)] ++ l.take 20)
    if l.length ≤ 20 then d1 else Dev.mirrorCells n d1 (off + 20) (l.drop 20)

/-- A full refresh of the image. -/
def Dev.mirrorAll (d : Dev) : Dev :=
  let l := d.mirrorImage
  (Dev.mirrorCells (l.length / 20 + 1) d 0 l).mapXc fun x => { x with sent := l }

/-- Sends what has changed in the image since it was sent last, in cells that are no part of a refresh. The device without the endpoint
returns the status of its lanes in the same way (R357). -/
def Dev.mirrorChanges (d : Dev) : Dev :=
  let l := d.mirrorImage
  if !d.attached || d.xc.twinDown || l = d.xc.sent then d
  else (iter (l.length / 20 + 1) (fun i e =>
      let new := bytesAt l (20 * i) 20
      if new.isEmpty || new = bytesAt d.xc.sent (20 * i) 20 then e
      else e.cell 5 (be 2 (20 * i) ++ [0, BitVec.ofNat 8 new.length] ++ new)) d).mapXc fun x => { x with sent := l }

/-- Sets the lanes whose loops this core runs for the twin. A loop that begins here takes the twin's configuration and state, and is seeded
from the active code in its first execution (R366). -/
def Dev.setRemote (d : Dev) (mask : Nat) : Dev :=
  let keep := fun k => (d.xc.rloops.find? fun r => r.lane == k).getD { lane := k, loop := d.xc.twinLoop k }
  let loops := ((List.range 8).filter mask.testBit).map keep
  ({ d with ws := { d.ws with remote := mask }, xc := { d.xc with rloops := loops } }).wr F.XC_STAT_RLOOPS 0 (b2n (mask != 0))

/-! ## Receiving cells (R351) -/

/-- What every accepted cell does: its SEQ is kept, and a sleeping receive direction wakes (but not for a HEARTBEAT or a SLEEP). -/
def Dev.taken (d : Dev) (seq : Byte) (type : Nat) : Dev :=
  let d1 := d.mapXc fun x => { x with seen := (seq.toNat :: x.seen).take 16 }
  if type = 3 || type = 12 then d1 else d1.clr F.XC_STAT_RXSLEEP

/-- A cell that passed its CRC is accepted unless its SEQ is one of the last 16 accepted. -/
def Dev.accept (d : Dev) (seq : Byte) (type : Nat) (f : Dev → Dev) : Dev :=
  if !d.domOn dXCUT || d.xc.seen.contains seq.toNat then d else f (d.taken seq type)

/-- RESERVED_CELL: discarded and counted. -/
def execReservedCell (xlane : Fin 2) (type : Byte) : State → Host.Outcome State Fault Refusal := lift fun d =>
  if !d.domOn dXCUT || type.toNat ≤ 13 then d else d.inc F.XC_LERR_CRCERR xlane.val

/-! ## Training (R352) -/

/-- The TRAIN cell this device sends: MAXRATE and READY. -/
def Dev.trainCell (d : Dev) : Dev :=
  if d.xc.txq.any fun c => c.type == 1 then d
  else d.cell 1 [BitVec.ofNat 8 (d.rd F.XC_CTL_MAXRATE), BitVec.ofNat 8 (b2n d.xc.sentReady)]

/-- The link takes a rate: the scrambler starts with all ones (R350). -/
def Dev.linkRate (d : Dev) (r : Nat) : Dev := (d.wr F.XC_STAT_RATE 0 r).mapXc fun x => { x with scr := 2 ^ 31 - 1 }

/-- Training is about to start: RATE 0, nothing agreed, and the first TRAIN cell queued. -/
def Dev.retrainLink (d : Dev) : Dev :=
  ((d.linkRate 0).mapXc fun x => { x with sentReady := false, rxReady := 0, stepping := false, trained := false }).trainCell

/-- Firmware writes MAXRATE, the use of TWIN_FLT and XC_LANE from CONF key 0x0800 before training (R349): without TWIN_FLT connected, PINEN
is 0. -/
def Dev.xcConf (d : Dev) : Dev :=
  match d.conf 0x0800 with
  | some b =>
    if b.length < 10 then d
    else
      let v := fun i => (b.getD i 0).toNat
      iter 2 (fun n e => (((e.bg F.XC_LANE_PRE n (v (2 + 4 * n))).bg F.XC_LANE_POST n (v (3 + 4 * n))).bg F.XC_LANE_AMP n
        (v (4 + 4 * n))).bg F.XC_LANE_CTLE n (v (5 + 4 * n)))
        ((if v 1 = 1 then d else d.bg F.XC_FLTCFG_PINEN 0 0).bg F.XC_CTL_MAXRATE 0 (v 0))
  | none => d

/-- Training starts at t5 when ATTEN = 1; a solo device never trains (R352, R354). -/
def Dev.xcTrain (d : Dev) : Dev :=
  if d.mgmt.twinId = 0 || !d.domOn dXCUT || !d.on F.XC_CTL_ATTEN then d
  else (d.xcConf.wr F.XC_STAT_STATE 0 1).retrainLink

/-- This device's ATTACH cell: part, strap, XPROTO, XMIN, lane-map CRC, serial and FWVER (R355). -/
def Dev.attachCell (d : Dev) : Dev :=
  let r := d.sec.running
  d.cell 2 (be 2 (d.rd F.GLB_ID_PART) ++ [BitVec.ofNat 8 d.mgmt.twinId, BitVec.ofNat 8 r.xproto, BitVec.ofNat 8 r.xmin] ++
    be 2 (crc16 ((d.conf 0x0801).getD [])) ++ be 8 d.sec.serial ++ be 4 r.version)

/-- The handshake begins: a nonce for the far end's attestation goes out, and this device's ATTACH cell (R355). -/
def Dev.handshake (d : Dev) : Dev :=
  let (n, d1) := d.draw 32
  (((d1.wr F.XC_STAT_STATE 0 2).mapXc fun x => { x with trained := true, stepping := false, failed := false, nonce := n }).message
    (be 1 0xE0 ++ n)).attachCell

/-- The number of receive lanes locked. -/
def Dev.rxLocks (d : Dev) : Nat := d.rd F.XC_LANE_RXLOCK 0 + d.rd F.XC_LANE_RXLOCK 1

/-- XC_LANE_LOCK (R350 to R352). -/
def execXcLaneLock (xlane : Fin 2) (locked : Bool) : State → Host.Outcome State Fault Refusal := lift fun d =>
  if !d.domOn dXCUT then d
  else
    let was := d.on F.XC_LANE_RXLOCK xlane.val
    let d1 := d.wr F.XC_LANE_RXLOCK xlane.val (b2n locked)
    let d2 := if was && !locked then d1.inc F.XC_LERR_LOCKLOSS xlane.val else d1
    (d2.wr F.XC_STAT_DEGRADED 0 (b2n (d2.rxLocks == 1))).mapXc fun x =>
      { x with stepping := x.stepping && !locked
               lockAt := if d2.rxLocks = 0 then none else match x.lockAt with | none => some d.now | s => s }

/-- Every consecutive READY is in: the transmitter moves to the next rate within both MAXRATE values, or training ends. -/
def Dev.trainNext (d : Dev) : Dev :=
  let r := d.rd F.XC_STAT_RATE
  if r < min (d.rd F.XC_CTL_MAXRATE) d.xc.farMax then
    ((((d.linkRate (r + 1)).clr F.XC_LANE_RXLOCK 0).clr F.XC_LANE_RXLOCK 1).mapXc fun x =>
      { x with stepping := true, rxReady := 0, sentReady := false, lockAt := none }).trainCell
  else d.handshake

/-- TRAIN_CELL: one of the far end's TRAIN cells. READY is set once both receive lanes are locked, or one for 1 ms. -/
def execTrainCell (maxrate : Fin 4) (ready : Bool) : State → Host.Outcome State Fault Refusal := lift fun d =>
  if !d.domOn dXCUT || d.mgmt.twinId = 0 || !d.on F.XC_CTL_ATTEN || d.xc.failed || d.xc.stepping ||
      !(d.rd F.XC_STAT_STATE = 1 || d.rd F.XC_STAT_STATE = 4) then d
  else
    let lone := match d.xc.lockAt with | some t => decide (t + tickMs ≤ d.now) | none => false
    let d1 := (d.wr F.XC_STAT_STATE 0 1).mapXc fun x =>
      { x with farMax := maxrate.val, rxReady := if ready then x.rxReady + 1 else 0
               sentReady := x.sentReady || d.rxLocks == 2 || (d.rxLocks == 1 && lone) }
    if d1.xc.sentReady && 64 ≤ d1.xc.rxReady then d1.trainNext else d1.trainCell

/-- TRAIN_STEP_TIMEOUT: a step that has not regained lock returns to the previous rate, where training ends. -/
def execTrainStepTimeout : State → Host.Outcome State Fault Refusal := lift fun d =>
  if !d.xc.stepping then d
  else ((d.linkRate (d.rd F.XC_STAT_RATE - 1)).set F.XC_STAT_RATEFB).handshake

/-! ## Attach (R355) -/

/-- Whether the far end's certificate, and its attestation where it sent one, verify (R355): the certificate against Vankobo's root, the
report's signature against the certificate's key, its nonce and serial. A certificate alone is accepted unless STRICT = 1. -/
def Dev.credOk (d : Dev) (far : AttachInfo) : Bool :=
  match far.cred with
  | .full cert obj => Config.certValid Config.vankoboRoot cert && Config.xmssVerify (Config.certKey cert) (obj.take 128) (obj.drop 128) &&
      obj.take 32 == d.xc.nonce && fieldAt obj 32 8 == far.serial % 2 ^ 64
  | .certOnly cert => !d.on F.XC_CTL_STRICT && Config.certValid Config.vankoboRoot cert

/-- The first check of R355 that fails, as TWIN.ATTACH reports it: 0 none, 2 COMPAT, 3 IDCLASH, 4 ATTFAIL. -/
def Dev.attachCheck (d : Dev) (far : AttachInfo) : Nat :=
  let me := d.sec.running
  if far.part ≠ d.rd F.GLB_ID_PART then 2
  else if far.isB = (d.mgmt.twinId == 2) then 3
  else if me.xproto < far.xmin.toNat || far.xproto.toNat < me.xmin then 2
  else if far.mapCrc ≠ crc16 ((d.conf 0x0801).getD []) then 2
  else if d.credOk far then 0 else 4

/-- A failed handshake: the flag of the failed check, and both devices solo with the link up until TWIN.ATTACH. -/
def Dev.attachFail (d : Dev) (why : Nat) : Dev :=
  let d1 := if why = 2 then d.set F.XC_STAT_COMPAT else if why = 3 then d.set F.XC_STAT_IDCLASH else d.set F.XC_STAT_ATTFAIL
  ((d1.wr F.XC_STAT_STATE 0 4).mapXc fun x => { x with failed := true }).settleWait .twinAttach .ok [BitVec.ofNat 8 why]

/-- BACK is sent once no execution of the twin's loops is under way (R366). -/
def Dev.backGo (d : Dev) : Dev :=
  if !d.xc.backDue || d.xc.asks.any (fun a => a.lane.isSome) then d
  else ((d.cell 6 [2, BitVec.ofNat 8 d.ws.remote]).setRemote 0).mapXc fun x => { x with backDue := false }

/-- A device that holds the twin's loops sends BACK after an attach (R366). -/
def Dev.loopsBack (d : Dev) : Dev :=
  if d.ws.remote = 0 then d else (d.mapXc fun x => { x with backDue := true }).backGo

/-- A successful handshake (R355): attached, the roles of TWINROLE (FOLLOW on a DEPOSED device), the twin's serial. -/
def Dev.attachOk (d : Dev) (far : AttachInfo) : Dev :=
  let w := d.voteWord 4
  let deposed := d.on F.XC_AON_DEPOSED
  let role := if deposed then 2 else w % 4
  let d1 := (((d.wr F.XC_STAT_STATE 0 3).wr F.XC_STAT_ROLE 0 role).wr F.XC_TWINSER_SERIAL 0 far.serial).mapXc fun x =>
    { x with far := some far, failed := false, upg := 0, upgPct := 0, twinDown := false, nonce := [], sent := [] }
  let d2 := if w / 256 ≠ far.serial % 2 ^ 24 then (d1.set F.XC_STAT_NEWTWIN).event evNewTwin 0xB00 (be 8 far.serial) else d1
  let d3 := if role = 2 then d2.clr F.XC_AON_DEPOSED else d2
  ((d3.voteJob [(4, roleWord role d.mgmt.twinId far.serial)] .role).loopsBack).settleWait .twinAttach .ok [0]

/-- ATTACH_CELL: what the handshake has learned of the far end. An attached device answers a twin that attaches again. -/
def execAttachCell (seq : Byte) (far : AttachInfo) : State → Host.Outcome State Fault Refusal := lift fun d =>
  d.accept seq 2 fun d1 =>
    let st := d1.rd F.XC_STAT_STATE
    if st ≠ 2 && st ≠ 3 then d1
    else
      let d2 := if st = 3 then d1.attachCell else d1
      let why := d2.attachCheck far
      if why = 0 then d2.attachOk far else d2.attachFail why

/-! ## Heartbeat (R360) -/

/-- The device is in LOWPWR. -/
def Dev.lowpwr (d : Dev) : Bool := d.rd F.PW_STAT_STATE == 1

/-- The HEARTBEAT cell: role, whether the device is in LOWPWR, ALIVE. -/
def Dev.heartbeat (d : Dev) : Dev :=
  d.cell 3 [BitVec.ofNat 8 (d.rd F.XC_STAT_ROLE), BitVec.ofNat 8 (b2n d.lowpwr), BitVec.ofNat 8 (b2n (d.on F.XC_HB_ALIVE))]

/-- HEARTBEAT_CELL: restarts the age. -/
def execHeartbeatCell (seq : Byte) (role : Fin 3) (lowpwr alive : Bool) : State → Host.Outcome State Fault Refusal :=
  lift fun d => d.accept seq 3 fun d1 => d1.mapXc fun x =>
    { x with lastHb := some d1.now, farHb := some (role.val, lowpwr, alive) }

/-- HEARTBEAT_SEND: hardware sends one every 1 µs while ALIVE is set. -/
def execHeartbeatSend : State → Host.Outcome State Fault Refusal := lift fun d =>
  if d.domOn dXCUT && d.on F.XC_HB_ALIVE && d.rd F.XC_STAT_STATE ≠ 0 && !d.on F.XC_STAT_TXSLEEP then d.heartbeat else d

/-- A write of 1 to XC_HB.KICK refreshes ALIVE. -/
def Dev.hbKick (d : Dev) : Dev :=
  ((d.clr F.XC_HB_KICK).set F.XC_HB_ALIVE).mapXc fun x => { x with kickAt := d.now }

/-- ALIVE_EXPIRY: ALIVE clears 16 µs after the last kick. -/
def execAliveExpiry : State → Host.Outcome State Fault Refusal := lift fun d =>
  if d.xc.kickAt + 25000 ≤ d.now then d.clr F.XC_HB_ALIVE else d

/-- XC_HB.AGE: µs since the last accepted HEARTBEAT; saturates. -/
def Dev.hbAge (d : Dev) : Nat :=
  match d.xc.lastHb with
  | none => 255
  | some t => satN 255 ((d.now - t) * 2 / 3125)

/-! ## Takeover (R364) -/

/-- A pending swap is abandoned (R363). -/
def Dev.swapDrop (d : Dev) : Dev := (d.mapXc fun x => { x with swap := false, swapOwn := false }).settleWait .twinSwap .fault []

/-- The mirrored pages that are the module's own are served from here on: masks, selectors, the CDB instances; a command in progress there
has failed. -/
def Dev.serveImage (d : Dev) : Dev :=
  let x := d.xc
  if x.image.isEmpty then d
  else d.mapMgmt fun m => { m with
    modMasks := x.mirroredN 110 6, bankSel := x.mirrored 116, pageSel := x.mirrored 117, diag := x.mirrored 118
    cdb := Vector.ofFn fun i : Fin 2 => x.twinCdb i.val }

/-- FOLLOW takes over (R364): TAKEOVER, the endpoint with the mirrored image, LEAD, and the remote loops (not at RATE 0, R365). -/
def Dev.takeover (d : Dev) : Dev :=
  let d1 := (d.cell 8 []).setEndpt true
  let d2 := d1.serveImage.mapXc fun x => { x with twinDown := true }
  let d3 := ((d2.wr F.XC_STAT_ROLE 0 1).putRole 1).inc F.XC_CNT_TAKEOVERS
  let d4 := if d.rd F.XC_STAT_RATE = 0 then d3 else d3.setRemote (d.xc.mirrored 2)
  d4.swapDrop

/-- No HEARTBEAT has been accepted for 20 µs, less the tolerance of 0.1 µs. -/
def Dev.hbOld (d : Dev) : Bool := match d.xc.lastHb with | some t => decide (t + 31094 ≤ d.now) | none => true

/-- HBLOSS (R360): heartbeat loss on a live link of an attached pair; FOLLOW takes over, LEAD reports it. -/
def execHbloss : State → Host.Outcome State Fault Refusal := lift fun d =>
  if !d.attached || d.on F.XC_STAT_RXSLEEP || !d.hbOld then d
  else
    let d1 := (d.set F.XC_STAT_HBLOSS).inc F.XC_CNT_HBLOSSES
    if d.rd F.XC_STAT_ROLE = 2 then d1.takeover else d1.int.event evHbLoss 0xB00

/-- TAKEOVER_CELL: the receiver is DEPOSED, gives up the endpoint, and its loops run on the twin. -/
def execTakeoverCell (seq : Byte) : State → Host.Outcome State Fault Refusal := lift fun d =>
  d.accept seq 8 fun d1 =>
    if !d1.attached then d1
    else ((((d1.set F.XC_AON_DEPOSED).wr F.XC_AON_LOOPSOUT 0 0xFF).setEndpt false).wr F.XC_STAT_ROLE 0 0).swapDrop

/-! ## Faults (R361) -/

/-- A detection of an enabled source while attached: a FAULT cell at the head of the queue, and TWIN_FLT low with PINEN. -/
def Dev.faultRaise (d : Dev) (source : Nat) : Dev :=
  if !d.attached || !(d.rd F.XC_FLTCFG_SRC).testBit source then d
  else
    let d1 := (d.cell 4 [BitVec.ofNat 8 (2 ^ source)]).wr F.XC_FLTSTAT_TXCAUSE 0 (2 ^ source)
    if d.on F.XC_FLTCFG_PINEN then d1.mapXc fun x => { x with fltAt := some d.now } else d1

/-- FAULT_DETECT. -/
def execFaultDetect (source : Fin 4) : State → Host.Outcome State Fault Refusal := lift fun d => d.faultRaise source.val

/-- The actions XC_FLTCFG.ACT names: SQ on every lane, EN cleared on every bias channel, INT_L. -/
def Dev.faultAct (d : Dev) : Dev :=
  let a := d.rd F.XC_FLTCFG_ACT
  let d1 := if a.testBit 0 then iter 8 (fun k e => if e.domOn (dLTXD k) then e.set F.TX_CTL_SQ k else e) d else d
  let d2 := if a.testBit 1 && d1.domOn dBDAC then iter 16 (fun ch e => e.biasEn ch false) d1 else d1
  (if a.testBit 2 then d2.int else d2).inc F.XC_FLTSTAT_RXCNT

/-- Whether the other of the two ways has just brought the same fault, within the 1 µs TWIN_FLT stays low. -/
def Dev.faultSeen (d : Dev) (pin : Bool) : Bool :=
  match d.xc.acted with
  | some (t, p) => p != pin && d.now < t + 1563
  | none => false

/-- The twin's fault is acted on once, by the first of the cell and the pin. -/
def Dev.faultRx (d : Dev) (pin : Bool) (flag : Fld) : Dev :=
  if d.on F.XC_FLTCFG_PINEN && d.faultSeen pin then d.mapXc fun x => { x with acted := none }
  else ((d.set flag).faultAct).mapXc fun x => { x with acted := some (d.now, pin) }

/-- FAULT_CELL. -/
def execFaultCell (seq : Byte) (cause : BitVec 4) : State → Host.Outcome State Fault Refusal := lift fun d =>
  d.accept seq 4 fun d1 =>
    if !d1.attached then d1 else (d1.wr F.XC_FLTSTAT_RXCAUSE 0 cause.toNat).faultRx false F.XC_FLTSTAT_RXFLT

/-- TWIN_FLT_FALL: a detached or solo device, or one with PINEN = 0, ignores it. -/
def execTwinFltFall : State → Host.Outcome State Fault Refusal := lift fun d =>
  if !d.pinsLive || !d.attached || !d.on F.XC_FLTCFG_PINEN then d else d.faultRx true F.XC_FLTSTAT_PINFLT

/-! ## Detach (R362) -/

/-- What either kind of detach does; training then restarts under R352. -/
def Dev.detached (d : Dev) : Dev :=
  let out := d.rd F.XC_AON_LOOPSOUT
  let d1 := (((d.wr F.XC_STAT_STATE 0 4).setRemote 0).wr F.XC_AON_LOOPSOUT 0 0).reseed out
  let d2 := (d1.wr F.XC_TWINSER_SERIAL 0 0).mapXc fun x =>
    { x with far := none, part := none, rreq := none, twinDown := false, asks := [], view := [], backDue := false }
  let d3 := (d2.swapDrop.settleWait .twinRelay .notReady []).settleWait .twinAttach .ok [1]
  if d3.on F.XC_CTL_ATTEN then d3.retrainLink else d3

/-- A commanded detach: while attached the DETACH cell is queued, and the detach follows when it is sent. -/
def Dev.detachReq (d : Dev) : Dev :=
  if d.attached then (if d.on F.XC_CTL_DETACH then d else (d.cell 13 []).set F.XC_CTL_DETACH) else d.clr F.XC_CTL_DETACH

/-- DETACH_CELL. -/
def execDetachCell (seq : Byte) : State → Host.Outcome State Fault Refusal := lift fun d =>
  d.accept seq 13 fun d1 => if d1.attached then d1.detached else d1

/-- A forced detach. -/
def Dev.linkLost (d : Dev) : Dev :=
  (((d.inc F.XC_CNT_DETACHES).set F.XC_STAT_LINKLOSS).event evDetach 0xB00).detached

/-- LINK_LOSS: no valid block on either receive lane for 10 µs, while the receive direction is not asleep (R353). -/
def execLinkLoss : State → Host.Outcome State Fault Refusal := lift fun d =>
  if d.xc.trained && !d.on F.XC_STAT_RXSLEEP then d.linkLost else d

/-! ## Sleep (R353) -/

/-- SLEEP_CELL: the receive direction sleeps. -/
def execSleepCell (seq : Byte) : State → Host.Outcome State Fault Refusal := lift fun d =>
  d.accept seq 12 fun d1 => (d1.set F.XC_STAT_RXSLEEP).mapXc fun x => { x with rxSleepAt := d1.now }

/-- SLEEP_WAKE_TIMER: each 1 ms a sleeping sender sends one HEARTBEAT. -/
def execSleepWakeTimer : State → Host.Outcome State Fault Refusal := lift fun d =>
  if d.on F.XC_STAT_TXSLEEP then d.heartbeat else d

/-- SLEEP_HEARTBEAT_TIMEOUT: no HEARTBEAT for 2 ms from a sleeping direction counts as a lost link. -/
def execSleepHeartbeatTimeout : State → Host.Outcome State Fault Refusal := lift fun d =>
  if d.on F.XC_STAT_RXSLEEP && d.xc.trained && max d.xc.rxSleepAt (d.xc.lastHb.getD 0) + 2 * tickMs ≤ d.now then (d.clr F.XC_STAT_RXSLEEP).linkLost else d

/-! ## Blocks on the line (R350, R351; log entry 19) -/

/-- The payload of a block: TYPE, SEQ, BODY and CRC; an IDLE cell is all zeros but for its CRC. Bytes go most significant bit first
(DESIGN CHOICE, log entry 19). -/
def xcPayload (c : Option XCell) : List Bool :=
  let l := match c with
    | some e => be 1 e.type ++ be 1 e.seq ++ (e.body ++ zeros 24).take 24
    | none => zeros 26
  bytesBits (l ++ be 2 (crc16 l))

/-- One payload bit through the scrambler, whose q1 is bit 0: w := q28 XOR q31 shifts in. -/
def scramble (s : List Bool × Nat) (b : Bool) : List Bool × Nat :=
  let w := s.2.testBit 27 != s.2.testBit 30
  (s.1 ++ [b != w], (2 * s.2 + b2n w) % 2 ^ 31)

/-- Bit stuffing: after 15 identical payload bits their complement is inserted; an inserted bit is no payload bit and begins no run
(DEDUCED: a block spans at most 270 bits). -/
def stuff : Bool → Nat → List Bool → List Bool
  | _, _, [] => []
  | last, run, b :: t =>
    let n := if run != 0 && b == last then run + 1 else 1
    if n = 15 then b :: (!b) :: stuff b 0 t else b :: stuff b n t

/-- A block's bits, and the scrambler after it: twenty ones, twelve zeros, and the scrambled and stuffed payload. -/
def xcBlock (scr : Nat) (c : Option XCell) : List Bool × Nat :=
  let (p, q) := (xcPayload c).foldl scramble ([], scr)
  (List.replicate 20 true ++ List.replicate 12 false ++ stuff false 0 p, q)

/-- What a lane drives for a bit, in 1/32 of its swing: c(−1) of the next, c(0) of the bit and c(+1) of the one before (R349). -/
def xcShape (pre post : Int) : Int → List Bool → List Int
  | _, [] => []
  | before, b :: t =>
    let s := fun (v : Bool) => if v then (1 : Int) else -1
    ((32 - pre - post) * s b - pre * s (t.headD true) - post * before) :: xcShape pre post (s b) t

/-- The next block begins: the cell at the head of the queue, or IDLE; a direction that sleeps with nothing queued is off. -/
def Dev.xcNext (d : Dev) : Dev :=
  if d.on F.XC_STAT_TXSLEEP && d.xc.txq.isEmpty then d.mapXc fun x => { x with block := none, bits := [], credit := 0 }
  else
    let (bits, scr) := xcBlock d.xc.scr d.xc.txq.head?
    let before : Int := match d.xc.bits.getLast? with | some b => if b then 1 else -1 | none => 0
    d.mapXc fun x => { x with
      block := x.txq.head?, txq := x.txq.drop 1, bits := bits, scr := scr
      wave := Vector.ofFn fun n : Fin 2 => xcShape (d.rd F.XC_LANE_PRE n.val) (d.rd F.XC_LANE_POST n.val) before bits }

/-- Thirty-seconds of a bit that one time-unit tick carries at a rate. -/
def xcBits (rate : Nat) : Nat := [33, 132, 264, 528].getD rate 33

/-- A direction goes to sleep: LOWPWR, no remote loops, 100 µs without another cell (R353). -/
def Dev.xcSleep (d : Dev) : Dev :=
  if d.on F.XC_CTL_SLEEPEN && d.attached && d.lowpwr && d.ws.remote == 0 && !d.on F.XC_STAT_TXSLEEP &&
      d.xc.busyAt + 156250 ≤ d.now && d.xc.txq.isEmpty then (d.cell 12 []).set F.XC_STAT_TXSLEEP
  else d

/-- One tick of the link: the block in transmission ends when its bits have passed, and the next begins (no cell pre-empts a block,
R351); TWIN_FLT is released after 1 µs. -/
def Dev.xcTick (d : Dev) : Dev :=
  let d0 := match d.xc.fltAt with
    | some t => if t + 1562 ≤ d.now then d.mapXc fun x => { x with fltAt := none } else d
    | none => d
  if !d.domOn dXCUT || d.rd F.XC_STAT_STATE = 0 then d0
  else
    let c := d0.xc.credit + xcBits (d0.rd F.XC_STAT_RATE)
    let len := 32 * d0.xc.bits.length
    if c < len then d0.mapXc fun x => { x with credit := c }
    else
      let d1 := d0.mapXc fun x => { x with credit := c - len }
      (match d0.xc.block with
        | some e => if e.type = 13 then (d1.clr F.XC_CTL_DETACH).detached else d1
        | none => d1.xcSleep).xcNext

/-! ## Swap (R367) -/

/-- The switch: roles exchanged, TWINROLE updated with SWAPPED toggled, the endpoint moved. -/
def Dev.swapNow (d : Dev) : Dev :=
  let role := if d.rd F.XC_STAT_ROLE = 1 then 2 else 1
  ((((((d.wr F.XC_STAT_ROLE 0 role).putRole role).setEndpt (!d.mgmt.endpt)).inc F.XC_CNT_SWAPS).mapXc fun x =>
    { x with swap := false, swapOwn := false }).settleWait .twinSwap .ok [])

/-- The first STOP after the SWAP cell has arrived. -/
def Dev.swapStop (d : Dev) : Dev := if d.xc.swap && d.attached then d.swapNow else d

/-- SWAP_CELL: the endpoint hand-over, which the receiver acknowledges with a SWAP cell of its own (log entry 25). Each device
switches now, or at the first STOP when a transaction is open; whether one is, no command of the table tells: a free value. -/
def execSwapCell (seq : Byte) : State → Host.Outcome State Fault Refusal := lift fun d =>
  d.accept seq 9 fun d1 =>
    if !d1.attached then d1
    else
      let d2 := if d1.xc.swapOwn then d1 else d1.cell 9 [1]
      let (t, d3) := d2.freeVal 1
      if t = 1 then d3.mapXc fun x => { x with swap := true } else d3.swapNow

/-! ## Remote loops (R365, R366) -/

/-- An operation record of an RREQ. -/
def XOp.bytes (o : XOp) : List Byte :=
  [BitVec.ofNat 8 (if o.write then 128 else o.count % 8), BitVec.ofNat 8 o.unit] ++ be 2 o.index ++ be 3 o.addr ++ be 4 o.data

/-- A read of `n` consecutive registers from an address on. -/
def XOp.read (addr index n : Nat) : XOp :=
  { write := false, count := n, unit := (((findReg addr).bind fun r => r.1.unit)).getD 255, index := index, addr := addr, data := 0 }

/-- The registers an operation reads. -/
def XOp.regs (o : XOp) : List (Nat × Nat) := if o.write then [] else (List.range o.count).map fun j => (o.addr + 4 * j, o.index)

/-- The cells of an RREQ: one or two operations each, LAST in the final one. -/
def rreqBodies (tag : Nat) : List XOp → List (List Byte)
  | [] => []
  | [a] => [be 1 tag ++ be 1 129 ++ a.bytes ++ zeros 11]
  | [a, b] => [be 1 tag ++ be 1 130 ++ a.bytes ++ b.bytes]
  | a :: b :: t => (be 1 tag ++ be 1 2 ++ a.bytes ++ b.bytes) :: rreqBodies tag t

/-- Sends an RREQ; TAG increases by 1 per message, and the RRSP is awaited. -/
def Dev.sendRreq (d : Dev) (ops : List XOp) (lane : Option (Nat × Nat)) : Dev :=
  ((rreqBodies d.xc.tag ops).foldl (fun e b => e.cell 10 b) d).mapXc fun x =>
    { x with tag := (x.tag + 1) % 256, asks := x.asks ++ [{ tag := d.xc.tag, regs := ops.flatMap XOp.regs, lane := lane }] }

/-- One remote loop execution begins (R199, R365): it reads both of the twin's converter states, OC_TICK, the two channels and the NCO over
the link. An execution of the lane still under way is abandoned (R200). Remote loops run at RATE 1 or above. -/
def Dev.rloopExec (d : Dev) (k : Nat) : Dev :=
  if !d.attached || !d.ws.remote.testBit k || d.rd F.XC_STAT_RATE = 0 || d.xc.backDue then d
  else match d.xc.rloops.find? fun r => r.lane == k with
    | none => d
    | some r =>
      let c := r.loop.cfg
      let d1 := d.mapXc fun x => { x with asks := x.asks.filter fun a => match a.lane with | some (j, _) => j != k | none => true }
      ((d1.sendRreq [.read 0x60088 0 1, .read 0x60088 1 1, .read 0x60018 0 1, .read 0x6000C c.lch 1, .read 0x6000C c.mch 1]
        (some (k, 1))).sendRreq [.read 0x60008 c.lch 1, .read 0x60004 c.lch 1, .read 0x60004 c.mch 1] (some (k, 1))).sendRreq
        [.read 0x60044 c.nco 3] (some (k, 1))

/-- The registers a message has read, by stored key. -/
def viewPut (v : FieldFile) (addr index value : Nat) : FieldFile :=
  match findReg addr with
  | none => v
  | some (r, m) => r.fields.foldl (fun g f => ffPut g ((f.at m r.stride).key index) (slice value f.lo f.w)) v

/-- The twin's loop `r.lane` seen as a device of its own: the registers read over the link above its mirrored configuration, no pins, and
the previous round counted back from its OC_TICK by the place of the present slot in the round (log entry 25). -/
def Dev.twinView (d : Dev) (r : RLoop) : Dev :=
  let v : Dev := { d with regs := d.xc.view.foldl (fun g e => ffPut g e.1 e.2) d.xc.twinFw, fw := [], mgmt := { d.mgmt with pins := [] } }
  let tick := v.rd F.OC_TICK_COUNT
  { v with optics := { v.optics with
    tick := tick
    round0 := (2 ^ 35 + 8 * tick - 1600 - 1600 * d.rd F.WS_RTCUR_SLOT / 1024) % 2 ^ 32
    loops := vset v.optics.loops r.lane fun _ => r.loop } }

/-- The ring entries to read of converter `c`: those of about the last four rounds, at most 256, newest first. -/
def Dev.ringReads (v : Dev) (c : Nat) : List XOp :=
  let n := ((List.range 32).map fun chan => v.nexpConv c chan).foldl (· + ·) 0
  (List.range (min 256 (4 * n))).map fun i => .read (0x61000 + 8 * ((v.rd F.OC_MASTAT_WIDX c + 255 - i) % 256)) c 2

/-- Operations two to a message. -/
def pairUp : List XOp → List (List XOp)
  | a :: b :: t => [a, b] :: pairUp t
  | [a] => [[a]]
  | [] => []

/-- The execution itself (R235): the loop law on what was read, and the codes it gives written over the link; a FAULT is this firmware's to
report (R236). -/
def Dev.rloopRun (d : Dev) (r : RLoop) : Dev :=
  let v := d.twinView (if r.fresh then
    let code := (d.twinView r).rd F.OC_BACT_CODE r.loop.cfg.lch
    { r with loop := { r.loop with lcode := code, acc := 256 * (code : Int) } } else r)
  let w := v.loopExec r.lane
  let l := w.loop r.lane
  let ran := fun (q : RLoop) => if q.lane = r.lane then { q with fresh := false, loop := l } else q
  let d1 := ({ d with free := w.free }).mapXc fun x => { x with rloops := x.rloops.map ran }
  let d2 := if l.state = 4 && r.loop.state ≠ 4 then d1.int.event evLoop (0x600 + r.lane) [BitVec.ofNat 8 l.fcause] else d1
  let writes := ([l.cfg.lch, l.cfg.mch].filter fun ch => w.rd F.OC_BHOLD_CODE ch != v.rd F.OC_BHOLD_CODE ch).map fun ch =>
    { XOp.read 0x60004 ch 0 with write := true, data := w.rd F.OC_BHOLD_CODE ch + 2 ^ 16 * v.rd F.OC_BHOLD_DAMP ch }
  if writes.isEmpty then d2.backGo else d2.sendRreq writes (some (r.lane, 3))

/-- A step of an execution has all its answers: the ring is read, then the execution runs. -/
def Dev.rloopStep (d : Dev) (k step : Nat) : Dev :=
  match d.xc.rloops.find? fun r => r.lane == k with
  | none => d.backGo
  | some r =>
    let reads := if step = 1 then [0, 1].flatMap fun c => (d.twinView r).ringReads c else []
    if step = 3 then d.backGo
    else if reads.isEmpty then d.rloopRun r
    else (pairUp reads).foldl (fun e ops => e.sendRreq ops (some (k, 2))) d

/-- The status of the deposed twin's lane `k`, read over the link, takes the place of the mirrored one (R364): flags, RxOutputStatus where
the host output is not idle, and the data path activated in step ACTIVE and deactivated in step 0. -/
def Dev.remoteLane (d : Dev) (k : Nat) : Dev :=
  let v : Dev := { d with regs := d.xc.view }
  [2 * k, 2 * k + 1].foldl (fun e n =>
    let o := 28 + 4 * n
    let st := v.rd F.LN_STAT_STEP k
    let dp := if st = 7 then 4 else if st = 0 then 1 else e.xc.mirrored o
    let flags := e.xc.mirrored (12 + n) ||| v.cmisFlag n
    let page := be 1 dp ++ be 1 (b2n (!v.on F.HL_STAT_HTXIDLE n))
    e.mapXc fun x => { x with image := putImage (putImage x.image (12 + n) (be 1 flags)) o page }) d

/-- Until the deposed device reattaches, the status of its lanes is read every 1 ms. -/
def Dev.askLanes (d : Dev) : Dev :=
  if !d.attached || !d.xc.twinDown then d
  else iter 8 (fun k e => e.sendRreq [.read 0x30004 (2 * k) 1, .read 0x30004 (2 * k + 1) 1, .read 0x10104 k 1, .read 0x10004 k 1] none)
    (d.mapXc fun x => { x with asks := x.asks.filter fun a => a.lane.isSome })

/-- An RRSP answers the message with its TAG: the values it read are kept, and what waited for them goes on. -/
def Dev.rrspTake (d : Dev) (a : XAsk) (vals : List Nat) : Dev :=
  let d1 := d.mapXc fun x => { x with
    asks := x.asks.filter fun b => b.tag != a.tag
    view := (a.regs.zip vals).foldl (fun v e => viewPut v e.1.1 e.1.2 e.2) x.view }
  match a.lane with
  | none => d1.remoteLane (((a.regs.head?).map fun r => r.2 / 2).getD 0)
  | some (k, step) => if d1.xc.asks.any fun b => b.lane == some (k, step) then d1 else d1.rloopStep k step

/-- RREQ_TIMEOUT: a message whose cells do not all arrive within 1 µs is discarded and counted. -/
def execRreqTimeout : State → Host.Outcome State Fault Refusal := lift fun d =>
  match d.xc.rreq with
  | none => d
  | some _ => (d.mapXc fun x => { x with rreq := none }).inc F.XC_LERR_CRCERR 0

/-- RRSP_CELL: the twin's answer: STAT and the values read. -/
def execRrspCell (seq : Byte) (body : List Byte) : State → Host.Outcome State Fault Refusal := lift fun d =>
  d.accept seq 11 fun d1 =>
    let vals := (List.range (min 5 (fieldAt body 2 1))).map fun j => fieldAt body (3 + 4 * j) 4
    match d1.xc.asks.find? fun a => a.tag == fieldAt body 0 1 with
    | none => d1
    | some a => (d1.mapXc fun x => { x with rrsp := some (fieldAt body 1 1, vals) }).rrspTake a vals

/-- LOOP_HANDOVER_CELL: TAKE is acknowledged and its lanes' loops run here; the acknowledgement sets LOOPSOUT for the lanes
asked for; BACK returns loops to their own device, which re-seeds them. -/
def execLoopHandoverCell (seq : Byte) (kind : Handover) (mask : Byte) : State → Host.Outcome State Fault Refusal :=
  lift fun d => d.accept seq 6 fun d1 =>
    if !d1.attached then d1
    else match kind with
      | .take => (d1.setRemote (d1.ws.remote ||| mask.toNat)).cell 6 [1, mask]
      | .takeAck => (d1.wr F.XC_AON_LOOPSOUT 0 (d1.rd F.XC_AON_LOOPSOUT ||| (mask.toNat &&& d1.xc.asked))).mapXc fun x =>
          { x with asked := x.asked &&& (255 - mask.toNat) }
      | .back => (d1.wr F.XC_AON_LOOPSOUT 0 (d1.rd F.XC_AON_LOOPSOUT &&& (255 - mask.toNat))).reseed mask.toNat

/-! ## Mirroring (R358) -/

/-- MIRROR_REFRESH: the endpoint sends its image. -/
def execMirrorRefresh : State → Host.Outcome State Fault Refusal := lift fun d =>
  if d.attached && d.mgmt.endpt && d.fwRun then d.mirrorAll else d

/-- MIRROR_CELL: a fragment of a refresh or a change; the latest whole image is kept. The endpoint keeps the other device's, whose status it
serves (R357). -/
def execMirrorCell (seq : Byte) (offset : Nat) (data : List Byte) (first last : Bool) : State → Host.Outcome State Fault Refusal :=
  lift fun d => d.accept seq 5 fun d1 =>
    if !d1.attached then d1
    else d1.mapXc fun x =>
      let part := if first then some (putImage [] offset data) else x.part.map fun p => putImage p offset data
      match part with
      | none => { x with image := putImage x.image offset data }
      | some p => if last then { x with image := p, part := none } else { x with part := some p }

/-! ## The TWIN commands -/

/-- The fields of a register as one word. -/
def Dev.regWord (d : Dev) (addr ch : Nat) : Nat :=
  match findReg addr with
  | none => 0
  | some (r, m) => r.fields.foldl (fun a f => a + 2 ^ f.lo * d.rd (f.at m r.stride) ch) 0

/-- TWIN.STAT.GET (Table 15-7). -/
def execTwinStatGet (src : Src) : State → Host.Outcome State Fault Refusal := lift fun d0 =>
  d0.kci src 0xA600 .q fun d =>
    let on := d.domOn dXCUT
    let w := fun a => if on then d.regWord a 0 else 0
    let far := d.xc.far
    .ok d (be 4 (w 0x90004) ++ be 4 (d.regWord 0x9001C 0) ++ be 8 ((far.map fun f => f.serial).getD 0) ++
      be 4 ((far.map fun f => f.fwver).getD 0) ++ [(far.map fun f => f.xproto).getD 0, BitVec.ofNat 8 d.xc.upg,
      BitVec.ofNat 8 d.xc.upgPct, 0] ++ be 4 (w 0x90014))

/-- TWIN.CFG.SET (Table 15-8). -/
def execTwinCfgSet (src : Src) (atten maxrate strict sleepen fltsrc fltact pinen : Byte) :
    State → Host.Outcome State Fault Refusal := lift fun d0 =>
  d0.kci src 0xA601 .c fun d =>
    if d.mgmt.twinId = 0 then .no .notReady
    else if !okKeep atten.toNat 1 || !okKeep maxrate.toNat 3 || !okKeep strict.toNat 1 || !okKeep sleepen.toNat 1 ||
        !okKeep fltsrc.toNat 15 || !okKeep fltact.toNat 7 || !okKeep pinen.toNat 1 then .no .badParam
    else .ok (((((((d.cfgKeep dXCUT F.XC_CTL_ATTEN 0 atten.toNat 0xFF).cfgKeep dXCUT F.XC_CTL_MAXRATE 0 maxrate.toNat 0xFF).cfgKeep
      dXCUT F.XC_CTL_STRICT 0 strict.toNat 0xFF).cfgKeep dXCUT F.XC_CTL_SLEEPEN 0 sleepen.toNat 0xFF).cfgKeep dXCUT
      F.XC_FLTCFG_SRC 0 fltsrc.toNat 0xFF).cfgKeep dXCUT F.XC_FLTCFG_ACT 0 fltact.toNat 0xFF).cfgKeep dXCUT F.XC_FLTCFG_PINEN 0
      pinen.toNat 0xFF) []

/-- TWIN.ATTACH: trains the link if needed, runs R355 and returns the outcome. -/
def execTwinAttach (src : Src) : State → Host.Outcome State Fault Refusal := lift fun d0 =>
  d0.kci src 0xA602 .d fun d =>
    if d.mgmt.twinId = 0 then .no .notReady
    else if d.attached then .ok d [0]
    else
      let d1 := d.mapXc fun x => { x with failed := false }
      .hold (if d1.xc.trained then d1.handshake else if d1.domOn dXCUT then (d1.xcConf.wr F.XC_STAT_STATE 0 1).retrainLink
        else d1.wake dXCUT) .twinAttach

/-- TWIN.DETACH. -/
def execTwinDetach (src : Src) : State → Host.Outcome State Fault Refusal := lift fun d0 =>
  d0.kci src 0xA603 .c fun d => if d.attached then .ok d.detachReq [] else .no .notReady

/-- TWIN.SWAP: completes at the switch. -/
def execTwinSwap (src : Src) : State → Host.Outcome State Fault Refusal := lift fun d0 =>
  d0.kci src 0xA604 .c fun d =>
    if d.attached && d.mgmt.endpt then .hold ((d.cell 9 [0]).mapXc fun x => { x with swapOwn := true }) .twinSwap
    else .no .notReady

/-- TWIN.RELAY: the frame goes to the twin over MAILBOX_RELAY; the response carries the twin's. The class is one step slower
than the inner command's; an inner D or F command is BAD_PARAM. -/
def execTwinRelay (src : Src) (frame : List Byte) : State → Host.Outcome State Fault Refusal := lift fun d0 =>
  d0.kci src 0xA610 ((relayCls (fieldAt frame 0 2)).getD .c) fun d =>
    if !d.attached || d.xc.twinDown then .no .notReady
    else if !LenRule.frame.fits frame || (relayCls (fieldAt frame 0 2)).isNone then .no .badParam
    else .hold (d.message frame) .twinRelay

/-- TWIN.UPGRADE: 1 copies the verified image to FOLLOW's inactive slot, 2 restarts FOLLOW into it, 3 commits both. The
command completes when the action has started. -/
def execTwinUpgrade (src : Src) (action : Byte) : State → Host.Outcome State Fault Refusal := lift fun d0 =>
  d0.kci src 0xA620 .c fun d =>
    let a := action.toNat
    if d.mgmt.twinId = 0 then .no .notReady
    else if a < 1 || 3 < a then .no .badParam
    else if !d.attached || !d.mgmt.endpt || d.xc.upg ≠ 0 || (a = 1 && !(d.slotImage d.freeSlot).good) then .no .notReady
    else
      let d1 := (d.message [BitVec.ofNat 8 (0xF0 + a)]).mapXc fun x => { x with upg := a, upgPct := 0 }
      .ok (match (if a = 3 then d.commitWords else none) with | some w => d1.voteJob w .nothing | none => d1) []

/-- TWIN.FAULT.SEND raises source 3 of R361. -/
def execTwinFaultSend (src : Src) : State → Host.Outcome State Fault Refusal := lift fun d0 =>
  d0.kci src 0xA630 .c fun d => if d.attached then .ok (d.faultRaise 3) [] else .no .notReady

end Sys2Proof.Machine
end

