-- ==== Sys2Proof/Machine/Whetstone.lean ====
section
/-! DEFINITION. The Whetstone (chapter 8): its instructions over the register bank of the task that executes, REP, traps, the
round table, halt, run and restart, and the SYS.WS and LINE.CAL commands. -/

namespace Sys2Proof.Machine

/-- Updates one register bank. -/
def Dev.mapBank (d : Dev) (b : Nat) (f : Bank → Bank) : Dev := d.mapWs fun w => { w with banks := vset w.banks b f }

/-- One register bank. -/
def Dev.bank (d : Dev) (b : Nat) : Bank := d.ws.banks.getD b {}

/-- A task kind's number, one less than its WS_STAT.TASK code. -/
def kindIdx : TaskKind → Nat
  | .loop => 0 | .rloop => 1 | .cal => 2 | .dpd => 3 | .sys => 4

/-- The bank of the task that executes; none while no task executes or the core does not run. -/
def Dev.wsTask (d : Dev) : Option Nat :=
  if d.domOn dWHET && d.rd F.WS_STAT_STATE == 1 && d.rd F.WS_STAT_TASK != 0 then some (d.rd F.WS_STAT_TASK - 1) else none

/-! ## Traps (R208) -/

/-- Firmware takes the interrupt of a trap: an EVENT record; a restart 1 ms later, unless it is the third within 10 s of the first. While
firmware does not run the interrupt waits for it. -/
def Dev.trapReport (d : Dev) : Dev :=
  if !d.ws.trapDue || !d.fwRun then d
  else
    let cause := be 1 (d.rd F.WS_TRAP_CAUSE)
    let recent := d.ws.traps.filter fun t => d.now < t + 10 * tickS
    let third := decide (2 ≤ recent.length)
    let d1 := (d.event evTrap 0x500 cause).mapWs fun w =>
      { w with traps := recent ++ [d.now], trapDue := false, restartDue := !third }
    if third then d1.int.event evTrap 0x500 (cause ++ be 1 1) else d1

/-- A trap of a task (R208): TRAPPED with the cause, the task and the PC; a REP under way is abandoned. -/
def Dev.wsTrapOf (d : Dev) (task cause pc : Nat) : Dev :=
  let d1 := ((((d.wr F.WS_TRAP_CAUSE 0 cause).wr F.WS_TRAP_TASK 0 task).wr F.WS_TRAP_PC 0 pc).wr F.WS_STAT_STATE 0 3).wr
    F.WS_STAT_REPACT 0 0
  ((d1.wr F.WS_STAT_TASK 0 0).mapWs fun w =>
    { w with banks := w.banks.map fun b => { b with rep := 0 }, next := none, trapDue := true }).trapReport

/-- A trap of the task that executes. -/
def Dev.wsTrap (d : Dev) (cause pc : Nat) : Dev := d.wsTrapOf (d.rd F.WS_STAT_TASK) cause pc

/-! ## Data (R189, R190) -/

/-- The signed value of a 16-bit word. -/
def q15 (v : Nat) : Int := sx 16 v

/-- Wraps an accumulator half at 40 bits; a wrap sets WS_STAT.OVF (R189). -/
def Dev.acc40 (d : Dev) (x : Int) : Int × Dev :=
  let v := sx 40 (tc 40 x)
  (v, if v = x then d else d.set F.WS_STAT_OVF)

/-- Writes an accumulator half. -/
def Dev.putAcc (d : Dev) (b h : Nat) (x : Int) : Dev :=
  let (v, d1) := d.acc40 x
  d1.mapBank b fun k => { k with ac := vset k.ac h fun _ => v }

/-- hi of R190: an accumulator half rounded half to even to its upper 24 bits. -/
def roundAcc (x : Int) : Int := rneShift x 16

/-- A store of an accumulator half to 16 bits (R190): rounded, then saturated. -/
def Dev.storeAcc (d : Dev) (x : Int) : Nat × Dev :=
  let hi := roundAcc x
  if hi < -32768 then (0x8000, d.set F.WS_STAT_SAT)
  else if 32767 < hi then (0x7FFF, d.set F.WS_STAT_SAT)
  else (tc 16 hi, d)

/-! ## Addresses (R191, R192) -/

/-- The value a step adds. -/
def Bank.stepOf (k : Bank) (a : Nat) : PostStep → Int
  | .p1 => 1 | .m1 => -1 | .p2 => 2 | .m2 => -2
  | .mod => sx 16 (k.m.getD a 0)

/-- The address register after a post-modify (R191). -/
def Bank.postMod (k : Bank) (a : Nat) (s : PostStep) : Nat :=
  let an : Int := k.a.getD a 0
  let bn : Int := k.b.getD a 0
  let ln : Int := k.l.getD a 0
  if ln = 0 then ((an + k.stepOf a s) % 16384).toNat
  else ((bn + (an + k.stepOf a s - bn) % ln) % 16384).toNat

/-- The bus address of a word an address register names: A0 to A3 in X memory, A4 to A7 in Y memory. A complex access ignores
bit 0. -/
def Bank.byteAt (k : Bank) (a : Nat) (wide : Bool) : Nat :=
  let w := k.a.getD a 0
  (if a < 4 then xBase else yBase) + 2 * (if wide then w / 2 * 2 else w)

/-- The memory an address register reaches. -/
def memOfA (a : Nat) : MemId := if a < 4 then .x else .y

/-! ## Registers -/

/-- A register's 16-bit value; an accumulator half is rounded and may saturate (R190). -/
def Dev.wsRead (d : Dev) (b : Nat) : WReg → Nat × Dev
  | .half h => d.storeAcc ((d.bank b).ac.getD h.val 0)
  | .ac n => d.storeAcc ((d.bank b).ac.getD (2 * n.val) 0)
  | .int r => ((d.bank b).r.getD r.val 0, d)
  | .a n => ((d.bank b).a.getD n.val 0, d)
  | .b n => ((d.bank b).b.getD n.val 0, d)
  | .l n => ((d.bank b).l.getD n.val 0, d)
  | .m n => ((d.bank b).m.getD n.val 0, d)

/-- Writes a 16-bit value: a Q15 value enters an accumulator half at bits 31:16. -/
def Bank.write (k : Bank) (v : Nat) : WReg → Bank
  | .half h => { k with ac := vset k.ac h.val fun _ => q15 v * 65536 }
  | .ac n => { k with ac := vset k.ac (2 * n.val) fun _ => q15 v * 65536 }
  | .int r => { k with r := vset k.r r.val fun _ => v % 65536 }
  | .a n => { k with a := vset k.a n.val fun _ => v % 16384 }
  | .b n => { k with b := vset k.b n.val fun _ => v % 16384 }
  | .l n => { k with l := vset k.l n.val fun _ => v % 32768 }
  | .m n => { k with m := vset k.m n.val fun _ => v % 65536 }

/-- Whether a register can take or give 32 bits: a complex accumulator, or an integer register with its successor. -/
def wideReg : WReg → Bool
  | .ac _ | .int _ => true
  | _ => false

/-- Whether a register can take or give 16 bits. -/
def narrowReg : WReg → Bool
  | .ac _ => false
  | _ => true

/-! ## Running an instruction -/

/-- What one execution of an instruction does: the memory and device after it, a trap with its cause, or the trap of an earlier posted
write, already taken, which leaves the instruction undone. -/
inductive WsRes where
  | done (m : Memory) (d : Dev)
  | trap (m : Memory) (d : Dev) (cause : Nat)
  | stopped (m : Memory) (d : Dev)

/-- Executes an instruction `n` times, from repetition `i` on (R193); a trap is taken at its repetition and abandons the rest. -/
def wsRepeat : Nat → (Nat → Memory → Dev → WsRes) → Nat → Memory → Dev → WsRes
  | 0, _, _, m, d => .done m d
  | n + 1, f, i, m, d => match f i m d with
    | .done m1 d1 => wsRepeat n f (i + 1) m1 d1
    | r => r

/-- A slot switch that waited for a REP takes place. -/
def Dev.wsSwitch (d : Dev) : Dev :=
  match d.ws.next with
  | none => d
  | some t => (d.wr F.WS_STAT_TASK 0 t).mapWs fun w => { w with next := none }

/-- The device after an instruction has executed (as often as a REP before it says): the REP is over and the PC moves past it. -/
def Dev.wsNext (d : Dev) (b : Nat) : Dev :=
  ((d.wr F.WS_STAT_REPACT 0 0).mapBank b fun x => { x with rep := 0, pc := (x.pc + 1) % 65536 }).wsSwitch

/-- The instruction's word in program memory is uncorrectable: a precise trap at the fetch (cause 1, Table 12-2). -/
def Dev.fetchBad (d : Dev) (b : Nat) : Bool := d.isBad .prog (4 * (d.bank b).pc)

/-- The trap of such a fetch. -/
def Dev.fetchTrap (d : Dev) (b : Nat) : Dev := (d.eccEvent .prog true 1 0 (4 * (d.bank b).pc)).wsTrap 1 (d.bank b).pc

/-- Every instruction of the core: without an executing task it has no effect; after a REP a repeatable one executes as often
as the REP says, and any other traps at the REP (cause 3, nothing repeated); then the PC moves past it. -/
def Dev.wsExec (d : Dev) (m : Memory) (repeatable : Bool) (f : Nat → Nat → Memory → Dev → WsRes) : Memory × Dev :=
  match d.wsTask with
  | none => (m, d)
  | some b =>
    let k := d.bank b
    if d.fetchBad b then (m, d.fetchTrap b)
    else if k.rep ≠ 0 && !repeatable then (m, d.wsTrap 3 ((k.pc + 65535) % 65536))
    else
      match wsRepeat (if k.rep = 0 then 1 else k.rep) (f b) 0 m d with
      | .done m1 d1 => (m1, d1.wsNext b)
      | .trap m1 d1 c => (m1, d1.wsTrap c k.pc)
      | .stopped m1 d1 => (m1, d1)

/-- An instruction that touches registers only. -/
def wsReg (repeatable : Bool) (f : Nat → Dev → Dev) : State → Host.Outcome State Fault Refusal :=
  lift fun d => (d.wsExec [] repeatable fun b _ m e => .done m (f b e)).2

/-- An instruction that reaches memory; `f` takes the bank and the number of the repetition. -/
def wsMem (repeatable : Bool) (f : Nat → Nat → Memory → Dev → WsRes) : State → Host.Outcome State Fault Refusal :=
  liftMem fun m d => d.wsExec m repeatable f

/-- What a protected access of the core finds (Table 12-2): a correctable error is counted and corrected, an uncorrectable one
aborts with trap cause 2, also one found before. `kind` is 1 load, 2 read-modify-write. -/
def wsEcc (e : Ecc) (a addr kind : Nat) (m : Memory) (d : Dev) (f : Dev → WsRes) : WsRes :=
  match if d.isBad (memOfA a) addr then .ue else e with
  | .ok => f d
  | .ce => f (d.eccEvent (memOfA a) false 1 kind addr)
  | .ue => .trap m (d.eccEvent (memOfA a) true 1 kind addr) 2

/-! ## Multiplies (R189) -/

/-- A product's operand pair: the latch, or a load with post-modify that also fills the latch. -/
def wsOperand (b : Nat) (load : Option (Nat × PostStep)) (wide isX : Bool) (ecc : Ecc) (m : Memory) (d : Dev)
    (f : (Int × Int) → Dev → WsRes) : WsRes :=
  let k := d.bank b
  match load with
  | none => let v := if isX then k.xl else k.yl; f (q15 v.1, q15 v.2) d
  | some (a, s) =>
    let at_ := k.byteAt a wide
    wsEcc ecc a (at_ % 65536) 1 m d fun d1 =>
      let v := (memGetLe 2 m at_, if wide then memGetLe 2 m (at_ + 2) else 0)
      let d2 := d1.mapBank b fun x =>
        let y := { x with a := vset x.a a fun _ => x.postMod a s }
        if isX then { y with xl := v } else { y with yl := v }
      f (q15 v.1, q15 v.2) d2

/-- The X operand's address register and step. -/
def xParts : XSrc → Option (Nat × PostStep)
  | .latch => none
  | .load a s => some (a.val, s)

/-- The Y operand's address register (A4 to A7) and step. -/
def yParts : YSrc → Option (Nat × PostStep)
  | .latch => none
  | .load a s => some (4 + a.val, s)

/-- Both operands of a multiply in repetition `i`. `ecc` lists what the loads find, in the order they are made, the X load of a repetition
before its Y load; the loads beyond it find no error. -/
def wsPair (b i : Nat) (x : XSrc) (y : YSrc) (wide : Bool) (ecc : List Ecc) (m : Memory) (d : Dev)
    (f : (Int × Int) → (Int × Int) → Dev → WsRes) : WsRes :=
  let nx := b2n (xParts x).isSome
  let at_ := i * (nx + b2n (yParts y).isSome)
  let ex := ecc.getD at_ .ok
  let ey := ecc.getD (at_ + nx) .ok
  wsOperand b (xParts x) wide true ex m d fun xv d1 => wsOperand b (yParts y) wide false ey m d1 fun yv d2 => f xv yv d2

/-- A complex multiply: `conj` takes the conjugate of y, `keep` adds to the accumulator. -/
def wsComplex (ac : Fin 2) (x : XSrc) (y : YSrc) (ecc : List Ecc) (conj keep : Bool) : State → Host.Outcome State Fault Refusal :=
  wsMem true fun b i m d => wsPair b i x y true ecc m d fun xv yv d1 =>
    let yi := if conj then -yv.2 else yv.2
    let re := (xv.1 * yv.1 - xv.2 * yi) * 2
    let im := (xv.1 * yi + xv.2 * yv.1) * 2
    let k := d1.bank b
    let old := fun h => if keep then k.ac.getD h 0 else 0
    .done m ((d1.putAcc b (2 * ac.val) (old (2 * ac.val) + re)).putAcc b (2 * ac.val + 1) (old (2 * ac.val + 1) + im))

/-- CMAC: ACn := ACn + x × y. -/
def execCmac (ac : Fin 2) (x : XSrc) (y : YSrc) (ecc : List Ecc) : State → Host.Outcome State Fault Refusal :=
  wsComplex ac x y ecc false true

/-- CMACJ: ACn := ACn + x × conjugate of y. -/
def execCmacj (ac : Fin 2) (x : XSrc) (y : YSrc) (ecc : List Ecc) : State → Host.Outcome State Fault Refusal :=
  wsComplex ac x y ecc true true

/-- CMUL: ACn := x × y. -/
def execCmul (ac : Fin 2) (x : XSrc) (y : YSrc) (ecc : List Ecc) : State → Host.Outcome State Fault Refusal :=
  wsComplex ac x y ecc false false

/-- A real multiply into an accumulator half: `sign` of the product, `keep` the old value. -/
def wsReal (half : Fin 4) (x : XSrc) (y : YSrc) (ecc : List Ecc) (sign : Int) (keep : Bool) : State → Host.Outcome State Fault Refusal :=
  wsMem true fun b i m d => wsPair b i x y false ecc m d fun xv yv d1 =>
    let old := if keep then (d1.bank b).ac.getD half.val 0 else 0
    .done m (d1.putAcc b half.val (old + sign * (xv.1 * yv.1 * 2)))

/-- MAC: multiply-accumulate. -/
def execMac (half : Fin 4) (x : XSrc) (y : YSrc) (ecc : List Ecc) : State → Host.Outcome State Fault Refusal :=
  wsReal half x y ecc 1 true

/-- MSU: multiply-subtract. -/
def execMsu (half : Fin 4) (x : XSrc) (y : YSrc) (ecc : List Ecc) : State → Host.Outcome State Fault Refusal :=
  wsReal half x y ecc (-1) true

/-- MPY: multiply. -/
def execMpy (half : Fin 4) (x : XSrc) (y : YSrc) (ecc : List Ecc) : State → Host.Outcome State Fault Refusal :=
  wsReal half x y ecc 1 false

/-! ## Arithmetic -/

/-- An arithmetic operand's value. -/
def Bank.alu (k : Bank) : AluReg → Int
  | .acc h => k.ac.getD h.val 0
  | .int r => q15 (k.r.getD r.val 0)

/-- Sets the status bits the branches test. -/
def Dev.wsStatus (d : Dev) (b : Nat) (v : Int) : Dev := d.mapBank b fun k => { k with z := v == 0, n := decide (v < 0) }

/-- An arithmetic result (R189 for accumulators; an integer result outside 16 bits is a free value, log entry 3). -/
def Dev.aluPut (d : Dev) (b : Nat) (dst : AluReg) (x : Int) : Dev :=
  match dst with
  | .acc h => (d.putAcc b h.val x).wsStatus b (sx 40 (tc 40 x))
  | .int r =>
    if -32768 ≤ x && x ≤ 32767 then (d.mapBank b fun k => { k with r := vset k.r r.val fun _ => tc 16 x }).wsStatus b x
    else
      let (v, d1) := d.freeVal 16
      (d1.mapBank b fun k => { k with r := vset k.r r.val fun _ => v }).wsStatus b (q15 v)

/-- A result the spec does not state: a free value of the destination's width. -/
def Dev.aluFree (d : Dev) (b : Nat) (dst : AluReg) : Dev :=
  match dst with
  | .acc _ => let (v, d1) := d.freeVal 40; d1.aluPut b dst (sx 40 v)
  | .int _ => let (v, d1) := d.freeVal 16; d1.aluPut b dst (sx 16 v)

/-- Whether both operands are accumulator halves or both integer registers. -/
def aluSame : AluReg → AluReg → Bool
  | .acc _, .acc _ => true
  | .int _, .int _ => true
  | _, _ => false

/-- A two-operand instruction; for operands of different kinds the spec states no result. -/
def wsAlu2 (dst src : AluReg) (f : Int → Int → Int) : State → Host.Outcome State Fault Refusal :=
  wsReg true fun b d =>
    if aluSame dst src then d.aluPut b dst (f ((d.bank b).alu dst) ((d.bank b).alu src)) else d.aluFree b dst

/-- ADD. -/
def execAdd (dst src : AluReg) : State → Host.Outcome State Fault Refusal := wsAlu2 dst src fun a b => a + b

/-- SUB. -/
def execSub (dst src : AluReg) : State → Host.Outcome State Fault Refusal := wsAlu2 dst src fun a b => a - b

/-- NEG. -/
def execNeg (dst : AluReg) : State → Host.Outcome State Fault Refusal :=
  wsReg true fun b d => d.aluPut b dst (-(d.bank b).alu dst)

/-- ABS. -/
def execAbs (dst : AluReg) : State → Host.Outcome State Fault Refusal :=
  wsReg true fun b d => d.aluPut b dst (((d.bank b).alu dst).natAbs : Int)

/-- A count from an immediate or an integer register. -/
def Bank.count (k : Bank) : Count → Nat
  | .imm n => n
  | .reg r => k.r.getD r.val 0

/-- The width of an arithmetic operand. -/
def aluWidth : AluReg → Nat
  | .acc _ => 40
  | .int _ => 16

/-- SHL: a shift that loses significant bits has no stated result (a free value). -/
def execShl (dst : AluReg) (n : Count) : State → Host.Outcome State Fault Refusal :=
  wsReg true fun b d =>
    let v := (d.bank b).alu dst
    let s := (d.bank b).count n
    if v = 0 then d.aluPut b dst 0
    else if 40 ≤ s then d.aluFree b dst
    else
      let x := v * 2 ^ s
      let h : Int := 2 ^ (aluWidth dst - 1)
      if -h ≤ x && x < h then d.aluPut b dst x else d.aluFree b dst

/-- SHR: arithmetic, or logical on the operand's bits. -/
def execShr (dst : AluReg) (n : Count) (logical : Bool) : State → Host.Outcome State Fault Refusal :=
  wsReg true fun b d =>
    let v := (d.bank b).alu dst
    let s := min 40 ((d.bank b).count n)
    let w := aluWidth dst
    d.aluPut b dst (if logical then sx w (tc w v / 2 ^ s) else v.fdiv (2 ^ s))

/-- RND (R190): the rounded value, bits 15:0 zero, not saturated. -/
def execRnd (half : Fin 4) : State → Host.Outcome State Fault Refusal :=
  wsReg true fun b d => d.putAcc b half.val (roundAcc ((d.bank b).ac.getD half.val 0) * 65536)

/-! ## Moves (R191, R192) -/

/-- LD: 16 bits to a register, or 32 bits to a complex accumulator or an integer pair. The post-modify uses the old base,
length and modifier; a load into the pointer itself leaves the loaded value. A width the register cannot take is an illegal
instruction. -/
def execLd (wide : Bool) (a : Fin 8) (step : PostStep) (dst : WReg) (ecc : List Ecc) : State → Host.Outcome State Fault Refusal :=
  wsMem true fun b i m d =>
    if !(if wide then wideReg dst else narrowReg dst) then .trap m d 3
    else
      let k := d.bank b
      let at_ := k.byteAt a.val wide
      wsEcc (ecc.getD i .ok) a.val (at_ % 65536) 1 m d fun d1 =>
        let v := memGetLe 2 m at_
        let v2 := memGetLe 2 m (at_ + 2)
        .done m (d1.mapBank b fun x =>
          let y := ({ x with a := vset x.a a.val fun _ => k.postMod a.val step }).write v dst
          if !wide then y
          else match dst with
            | .ac n => y.write v2 (.half ⟨2 * n.val + 1, by omega⟩)
            | .int r => y.write v2 (.int (r + 1))
            | _ => y)

/-- ST (R190): 16 bits from a register (a read-modify-write of its protected word, three cycles and so not repeatable), or
32 bits from a complex accumulator or an integer pair. -/
def execSt (wide : Bool) (a : Fin 8) (step : PostStep) (src : WReg) (ecc : List Ecc) : State → Host.Outcome State Fault Refusal :=
  wsMem wide fun b _ m d =>
    if !(if wide then wideReg src else narrowReg src) then .trap m d 3
    else
      let k := d.bank b
      let at_ := k.byteAt a.val wide
      let put := fun (d1 : Dev) =>
        let (v, d2) := d1.wsRead b src
        let m1 := memPutLe 2 m at_ v
        let (m2, d3) := if !wide then (m1, d2)
          else match src with
            | .ac n => let (w, e) := d2.wsRead b (.half ⟨2 * n.val + 1, by omega⟩); (memPutLe 2 m1 (at_ + 2) w, e)
            | .int r => let (w, e) := d2.wsRead b (.int (r + 1)); (memPutLe 2 m1 (at_ + 2) w, e)
            | _ => (m1, d2)
        .done m2 ((if wide then d3.mended (memOfA a.val) (at_ % 65536) else d3).mapBank b fun x =>
          { x with a := vset x.a a.val fun _ => k.postMod a.val step })
      if wide then put d else wsEcc (ecc.getD 0 .ok) a.val (at_ % 65536) 2 m d put

/-- MOV: accumulator to accumulator keeps its 40 bits; a half moved to a 16-bit register is rounded and saturated (R190); a
move between a whole accumulator and anything else is an illegal instruction. -/
def execMov (dst src : WReg) : State → Host.Outcome State Fault Refusal :=
  wsMem true fun b _ m d =>
    match dst, src with
    | .ac x, .ac y => .done m (d.mapBank b fun k =>
        { k with ac := vset (vset k.ac (2 * x.val) fun _ => k.ac.getD (2 * y.val) 0) (2 * x.val + 1) fun _ =>
          k.ac.getD (2 * y.val + 1) 0 })
    | .half x, .half y => .done m (d.mapBank b fun k => { k with ac := vset k.ac x.val fun _ => k.ac.getD y.val 0 })
    | x, y =>
      if !narrowReg x || !narrowReg y then .trap m d 3
      else let (v, d1) := d.wsRead b y; .done m (d1.mapBank b fun k => k.write v x)

/-! ## REP and flow control -/

/-- REP (R193): the next instruction will execute `n` times; a register count of 0 is 65,536. -/
def execRep (n : Count) : State → Host.Outcome State Fault Refusal :=
  lift fun d => match d.wsTask with
    | none => d
    | some b =>
      let k := d.bank b
      if d.fetchBad b then d.fetchTrap b
      else if k.rep ≠ 0 then d.wsTrap 3 ((k.pc + 65535) % 65536)
      else
        let c := k.count n % 65536
        (d.set F.WS_STAT_REPACT).mapBank b fun x => { x with rep := if c = 0 then 65536 else c, pc := (x.pc + 1) % 65536 }

/-- A flow-control instruction: not repeatable; `f` gives the bank with its PC already advanced. -/
def wsFlow (f : Nat → Dev → Dev) : State → Host.Outcome State Fault Refusal :=
  lift fun d => match d.wsTask with
    | none => d
    | some b =>
      if d.fetchBad b then d.fetchTrap b
      else if (d.bank b).rep ≠ 0 then d.wsTrap 3 (((d.bank b).pc + 65535) % 65536)
      else f b (d.mapBank b fun x => { x with pc := (x.pc + 1) % 65536 })

/-- JMP. -/
def execJmp (target : BitVec 16) : State → Host.Outcome State Fault Refusal :=
  wsFlow fun b d => d.mapBank b fun x => { x with pc := target.toNat }

/-- JSR: the return address is kept. -/
def execJsr (target : BitVec 16) : State → Host.Outcome State Fault Refusal :=
  wsFlow fun b d => d.mapBank b fun x => { x with pc := target.toNat, ret := x.pc :: x.ret }

/-- RTS: to the last return address; with none the spec states no target (a free value). -/
def execRts : State → Host.Outcome State Fault Refusal :=
  wsFlow fun b d => match (d.bank b).ret with
    | r :: rest => d.mapBank b fun x => { x with pc := r, ret := rest }
    | [] => let (v, d1) := d.freeVal 16; d1.mapBank b fun x => { x with pc := v }

/-- Whether a condition holds on the bank's status. -/
def Bank.holds (k : Bank) : Cond → Bool
  | .eq => k.z | .ne => !k.z | .lt => k.n | .ge => !k.n

/-- Bcc. -/
def execBcc (cond : Cond) (target : BitVec 16) : State → Host.Outcome State Fault Refusal :=
  wsFlow fun b d => if (d.bank b).holds cond then d.mapBank b fun x => { x with pc := target.toNat } else d

/-! ## Halt and run (R205, R206) -/

/-- The state byte SYS.WS.CTL answers with. -/
def Dev.wsStateByte (d : Dev) : List Byte := [BitVec.ofNat 8 (d.rd F.WS_STAT_STATE)]

/-- The halt takes effect: HALTED, WS_PC shows the PC of the halted task. -/
def Dev.wsHalt (d : Dev) : Dev :=
  let t := d.rd F.WS_STAT_TASK
  let d1 := ((d.wr F.WS_STAT_STATE 0 2).clr F.WS_CTL_HALTREQ).wr F.WS_STAT_TASK 0 0
  let d2 := (if t = 0 then d1 else d1.wr F.WS_PC_PC 0 (d.bank (t - 1)).pc).mapWs fun w => { w with halted := t, overdue := 0, next := none }
  d2.settleWait .wsHalt .ok d2.wsStateByte

/-- A write of 1 to WS_CTL.HALTREQ; it stays set until the core is HALTED, and has no effect on a core that does not run. -/
def Dev.wsHaltReq (d : Dev) : Dev := if d.rd F.WS_STAT_STATE = 1 then d.set F.WS_CTL_HALTREQ else d.clr F.WS_CTL_HALTREQ

/-- WS_HALTED: a requested halt takes effect at an instruction boundary, after the last repetition of a REP. -/
def execWsHalted : State → Host.Outcome State Fault Refusal := lift fun d =>
  let busy := match d.wsTask with | some b => (d.bank b).rep != 0 | none => false
  if d.rd F.WS_STAT_STATE = 1 && d.on F.WS_CTL_HALTREQ && !busy then d.wsHalt else d

/-- HALT: stops the core as a halt request does. -/
def execHalt : State → Host.Outcome State Fault Refusal := wsFlow fun _ d => d.wsHalt

/-- A write of 1 to WS_CTL.RUN resumes a halted core at WS_PC; executions that fell due meanwhile count as SKIP. -/
def Dev.wsRun (d : Dev) : Dev :=
  let d0 := d.clr F.WS_CTL_RUN
  if d.rd F.WS_STAT_STATE ≠ 2 then d0
  else
    let d1 := (d0.wr F.WS_STAT_STATE 0 1).inc F.WS_LOOPCNT_SKIP 0 d.ws.overdue
    let d2 := if d.ws.halted = 0 then d1 else d1.mapBank (d.ws.halted - 1) fun b => { b with pc := d.rd F.WS_PC_PC, ready := true }
    d2.mapWs fun w => { w with overdue := 0, halted := 0 }

/-! ## Events and slots (R197 to R201) -/

/-- The owner of a slot in the active table, with its lane: TASK 6 and 7 act as 0. -/
def Dev.rtOwner (d : Dev) (slot : Nat) : Nat × Nat :=
  let t := d.rd ((F.WS_RTACT_TASK).at slot)
  (if 5 < t then 0 else t, d.rd ((F.WS_RTACT_LANE).at slot))

/-- Slot `n` is the first of a LOOP or RLOOP run. -/
def Dev.rtFirst (d : Dev) (n : Nat) : Bool :=
  let o := d.rtOwner n
  (o.1 == 1 || o.1 == 2) && (n == 0 || d.rtOwner (n - 1) != o)

/-- The kind of a LOOP or RLOOP slot. -/
def loopKind (owner : Nat) : TaskKind := if owner = 1 then .loop else .rloop

/-- A task waits for no event. -/
def Dev.awake (d : Dev) (k : TaskKind) : Bool := (d.bank (kindIdx k)).waiting.isNone

/-- A task of kind CAL, DPD or SYS has work: it is ready and waits for nothing. -/
def Dev.hasWork (d : Dev) (k : TaskKind) : Bool := (d.bank (kindIdx k)).ready && d.awake k

/-- The task that runs in a slot (R200): an overrun ahead of CAL, DPD and SYS, the owner when it has work, else a lent task. A loop that
waits for an event has no work. -/
def Dev.slotTask (d : Dev) (n : Nat) : Nat :=
  let owner := (d.rtOwner n).1
  let isLoop := owner == 1 || owner == 2
  let first : List (Option Nat) :=
    [if isLoop && d.ws.running.isSome && d.awake (loopKind owner) then some owner else none,
     if isLoop then none else (d.ws.overran.find? fun e => d.awake e.1).map fun e => kindIdx e.1 + 1,
     if owner = 3 && d.hasWork .cal then some 3 else if owner = 4 && d.hasWork .dpd then some 4
       else if owner = 5 && d.hasWork .sys then some 5 else none,
     if d.hasWork .cal then some 3 else none,
     if d.hasWork .dpd then some 4 else none,
     if d.hasWork .sys then some 5 else none]
  ((first.filterMap id).head?).getD 0

/-- The task gives up the rest of its slot, which is lent. -/
def Dev.lend (d : Dev) : Dev := d.wr F.WS_STAT_TASK 0 (d.slotTask (d.rd F.WS_RTCUR_SLOT))

/-- WAITEV: an event already seen ends the wait at once (and is cleared); otherwise the task gives up its slot. A time delay begins here. -/
def execWaitev (ev : WsWait) : State → Host.Outcome State Fault Refusal :=
  wsFlow fun b d =>
    let wait := (d.mapBank b fun x => { x with ready := false, waiting := some ev }).lend
    match ev with
    | .event v => if (d.bank b).seen.contains v then d.mapBank b fun x => { x with seen := x.seen.erase v } else wait
    | .delay _ => wait

/-- A bank's own time delay ends. -/
def Bank.elapse (b : Bank) : Bank :=
  match b.waiting with
  | some (.delay _) => { b with waiting := none, ready := true }
  | _ => b

/-- WAITEV_WAKE: the event arrives; tasks that wait for it are ready, the others keep it until they clear it. The end of a time delay
reaches the one task whose delay it is. -/
def execWaitevWake (ev : WsWake) : State → Host.Outcome State Fault Refusal := lift fun d =>
  match ev with
  | .event v => d.wsEvent v
  | .delay k => if !d.domOn dWHET then d else d.mapBank (kindIdx k) Bank.elapse

/-- YIELD: the task's work for this round ends and its slot is lent; a loop execution is finished. -/
def execYield : State → Host.Outcome State Fault Refusal :=
  wsFlow fun b d =>
    let d1 := d.mapBank b fun x => { x with ready := false }
    (if b < 2 then d1.mapWs fun w =>
        match w.running with
        | some _ => { w with running := none }
        | none => { w with overran := w.overran.drop 1 }
      else d1).lend

/-- The loop execution under way at a slot start is done, goes on, or becomes an overrun because its run has ended (R200). -/
def Dev.slotSettle (d : Dev) (n : Nat) (unfinished : Bool) : Dev :=
  match d.ws.running with
  | some (kind, lane) =>
    if !unfinished then d.mapWs fun w => { w with running := none }
    else if d.rtOwner n = (kindIdx kind + 1, lane) && !d.rtFirst n then d
    else (d.inc F.WS_LOOPCNT_OVRRUN).mapWs fun w => { w with running := none, overran := w.overran ++ [(kind, lane)] }
  | none => if unfinished then d else d.mapWs fun w => { w with overran := w.overran.drop 1 }

/-- The first slot of a lane's LOOP or RLOOP run (R199, R200): an execution of that lane that is still unfinished is
abandoned, and the new one starts; remote loops run only while a takeover is in force. A loop that runs on the twin
(LOOPSOUT) is executed there. -/
def Dev.loopStartSlot (d : Dev) (n : Nat) : Dev :=
  let (owner, lane) := d.rtOwner n
  let e := (loopKind owner, lane)
  let d1 := if d.ws.overran.contains e then
      (d.inc F.WS_LOOPCNT_SKIP).mapWs fun w => { w with overran := w.overran.erase e }
    else d
  if owner = 2 && !d.ws.remote.testBit lane then d1
  else
    let d2 := d1.mapWs fun w => { w with running := some e }
    if owner = 2 then d2.rloopExec lane
    else if (d.rd F.XC_AON_LOOPSOUT).testBit lane then d2 else d2.loopExec lane

/-- Counts a slot for the task that used it (WS_LOAD). -/
def Dev.slotCount (d : Dev) (task : Nat) : Dev :=
  if task = 0 then d
  else d.mapWs fun w => { w with used := vset w.used (task - 2) (· + 1) }

/-- A loop execution falls due at slot `n`: of the lane's own loops, or of the twin's while a takeover is in force. -/
def Dev.loopDue (d : Dev) (n : Nat) : Bool :=
  let (owner, lane) := d.rtOwner n
  d.rtFirst n && (owner == 1 || d.ws.remote.testBit lane)

/-- Tasks that the slot start finds work for are ready. -/
def Dev.giveWork (d : Dev) (work : List TaskKind) : Dev :=
  work.foldl (fun e k => e.mapBank (kindIdx k) fun b => { b with ready := b.ready || b.waiting.isNone }) d

/-- The slot's task takes the core: at once, or when the REP under way has ended (R193). -/
def Dev.slotSwitch (d : Dev) (t : Nat) : Dev :=
  if (match d.wsTask with | some b => (d.bank b).rep != 0 | none => false) then d.mapWs fun w => { w with next := some t }
  else d.wr F.WS_STAT_TASK 0 t

/-- SLOT_START (R198 to R200): the slot advances; the loop under way is judged, a lane's run starts its execution, and the
slot's task is chosen. While the core is halted only the slot timer runs, and the executions that fall due are overdue (R206). -/
def execSlotStart (unfinished : Bool) (work : List TaskKind) : State → Host.Outcome State Fault Refusal := lift fun d =>
  if !d.domOn dWHET then d
  else
    let n := if d.ws.fresh then d.rd F.WS_RTCUR_SLOT else (d.rd F.WS_RTCUR_SLOT + 1) % 1024
    let d1 := (d.wr F.WS_RTCUR_SLOT 0 n).mapWs fun w => { w with fresh := false }
    if d.rd F.WS_STAT_STATE = 2 then (if d1.loopDue n then d1.mapWs fun w => { w with overdue := w.overdue + 1 } else d1)
    else if d.rd F.WS_STAT_STATE ≠ 1 then d1
    else
      let d2 := (d1.giveWork work).slotSettle n unfinished
      let d3 := if d2.rtFirst n then d2.loopStartSlot n else d2
      let t := d3.slotTask n
      (d3.slotSwitch t).slotCount t

/-- The lengths of the runs of `(owner, lane)` in the shadow table. -/
def Dev.runsOf (d : Dev) (owner lane : Nat) : List Nat :=
  ((List.range 1024).foldl (fun (a : List Nat × Bool) n =>
    let hit := d.rd ((F.WS_RTAB_TASK).at n) == owner && d.rd ((F.WS_RTAB_LANE).at n) == lane
    if hit then (if a.2 then (match a.1 with | h :: t => ((h + 1) :: t) | [] => [1], true) else (1 :: a.1, true))
    else (a.1, false)) ([], false)).1

/-- A shadow table may become active (R201): exactly one LOOP run and at most one RLOOP run per lane, each of 24 slots or
more. -/
def Dev.tableOk (d : Dev) : Bool :=
  (List.range 8).all fun k =>
    let l := d.runsOf 1 k
    let r := d.runsOf 2 k
    l.length == 1 && r.length ≤ 1 && (l ++ r).all fun n => 24 ≤ n

/-- Keys of the shadow and of the active table. -/
def inTable (base key : Nat) : Bool := base * 32 ≤ key && key < (base + 0x1000) * 32

/-- The shadow table becomes active; both tables have the same Reset values. -/
def Dev.swapTable (d : Dev) : Dev :=
  let kept := d.regs.filter fun e => !inTable 0x102000 e.1
  let shadow := d.regs.filter fun e => inTable 0x101000 e.1
  { d with regs := shadow.foldl (fun r e => ffPut r (e.1 + 0x20000) e.2) kept }

/-- ROUND_START (R198, R201): the round counts on; a requested swap of the round table takes effect or is refused while the
core runs; once a second WS_LOAD is published. -/
def execRoundStart : State → Host.Outcome State Fault Refusal := lift fun d =>
  if !d.domOn dWHET then d
  else
    let d1 := ((d.inc F.WS_RTCUR_ROUND).wr F.WS_RTCUR_SLOT 0 0).mapWs fun w => { w with fresh := true, rounds := w.rounds + 1 }
    let d2 := d1.mapOpt fun o => { o with round0 := o.round1, round1 := 8 * o.tick }
    let d3 := if d.on F.WS_CTL_RTSWAP && d.rd F.WS_STAT_STATE = 1 then
        (if d2.tableOk then d2.swapTable else d2.set F.WS_STAT_RTBAD).clr F.WS_CTL_RTSWAP
      else d2
    if d3.ws.rounds < 10000 then d3
    else
      let share := fun i => satN 255 (rneDiv (200 * (d3.ws.used.getD i 0 : Int)) 10240000).toNat
      ((((d3.wr F.WS_LOAD_LOOP 0 (share 0)).wr F.WS_LOAD_CAL 0 (share 1)).wr F.WS_LOAD_DPD 0 (share 2)).wr F.WS_LOAD_SYS 0
        (share 3)).mapWs fun w => { w with used := Vector.replicate 4 0, rounds := 0 }

/-! ## Restart (R206, R208) -/

/-- Firmware begins a restart. -/
def Dev.wsRestart (d : Dev) : Dev := d.mapWs fun w => { w with restartDue := false, restarting := true }

/-- WS_RESTART_TIMER: 1 ms after a trap. -/
def execWsRestartTimer : State → Host.Outcome State Fault Refusal := lift fun d =>
  if d.ws.restartDue && d.rd F.WS_STAT_STATE = 3 && d.fwRun then d.wsRestart else d

/-- The entry point of each task in the loaded image, in every fresh bank. -/
def freshBanks : Vector Bank 5 := Vector.ofFn fun i => { pc := Config.taskEntry i.val % 65536 }

/-- WS_RESTART_DONE (R206): program loaded, X and Y memory zero, banks reset, the default round table, the core running; a calibration visit
or DPD pass that was under way is over, and commits resume with the next visit; the loops take their integrators from the bias holding registers. -/
def execWsRestartDone : State → Host.Outcome State Fault Refusal := liftMem fun m d =>
  if !d.ws.restarting || !d.domOn dWHET then (m, d)
  else
    let m1 := memClear (memClear (memClear m xBase (xBase + 0x8000)) yBase (yBase + 0x8000)) pmBase (pmBase + 0x40000)
    let d1 := { d with regs := d.regs.filter fun e => !(inTable 0x101000 e.1 || inTable 0x102000 e.1) }
    let d2 := (((d1.wr F.WS_STAT_STATE 0 1).wr F.WS_STAT_TASK 0 0).wr F.WS_STAT_REPACT 0 0).mapWs fun w =>
      { w with banks := freshBanks, posted := [], running := none, overran := [], restarting := false, loaded := true, overdue := 0
               halted := 0, next := none, visit := none, dpd := none }
    let d3 := iter 8 (fun k e => e.mapLoop k fun l =>
      { l with lcode := d.rd F.OC_BHOLD_CODE l.cfg.lch, acc := 256 * (d.rd F.OC_BHOLD_CODE l.cfg.lch : Int) }) (iter 8 (fun k e => e.mapRx k fun r => { r with calLeft := 0, calWant := false }) d2)
    (m1, d3.settleWait .wsRestart .ok d3.wsStateByte)

/-! ## The memory windows (R207)

Program memory is kept as its difference from the image firmware loaded, so that a restart clears it. -/

/-- Where a window address lies on the model's bus: program memory (with WS_PMPAGE), X or Y memory. -/
def Dev.wsWindow (d : Dev) (addr : Nat) : Option Nat :=
  if 0x110000 ≤ addr && addr < 0x120000 then some (pmBase + 65536 * d.rd F.WS_PMPAGE_PAGE + (addr - 0x110000))
  else if 0x120000 ≤ addr && addr < 0x128000 then some (xBase + (addr - 0x120000))
  else if 0x130000 ≤ addr && addr < 0x138000 then some (yBase + (addr - 0x130000))
  else none

/-- Whether the windows are open: the core is HALTED or TRAPPED. -/
def Dev.wsOpen (d : Dev) : Bool := d.domOn dWHET && (d.rd F.WS_STAT_STATE == 2 || d.rd F.WS_STAT_STATE == 3)

/-- The byte of the loaded program image at an offset. -/
def Dev.programByte (d : Dev) (off : Nat) : Nat := if d.ws.loaded then (Config.program off).toNat else 0

/-- The image word a program-memory word is kept relative to. -/
def Dev.programWord (d : Dev) (a : Nat) : Nat :=
  if pmBase ≤ a then
    d.programByte (a - pmBase) + 256 * d.programByte (a - pmBase + 1) + 65536 * d.programByte (a - pmBase + 2) +
      2 ^ 24 * d.programByte (a - pmBase + 3)
  else 0

/-- A window read: 0 while closed. -/
def Dev.wsMemRead (d : Dev) (m : Memory) (addr : Nat) : Nat :=
  match d.wsWindow addr with
  | some a => if d.wsOpen then memGetLe 4 m a ^^^ d.programWord a else 0
  | none => 0

/-- The memory and byte address within it of a word on the model's bus. -/
def winMem (a : Nat) : MemId × Nat :=
  if pmBase ≤ a then (.prog, a - pmBase) else if yBase ≤ a then (.y, a - yBase) else (.x, a - xBase)

/-- A window write: ignored while closed; program memory only in BLANK, TEST and RMA, otherwise PMWP sets. -/
def Dev.wsMemWrite (d : Dev) (m : Memory) (addr v : Nat) : Memory × Dev :=
  match d.wsWindow addr with
  | none => (m, d)
  | some a =>
    if !d.wsOpen then (m, d)
    else if pmBase ≤ a && !(d.lc == 0 || d.lc == 1 || d.lc == 4) then (m, d.set F.WS_STAT_PMWP)
    else (memPutLe 4 m a (v ^^^ d.programWord a), d.mended (winMem a).1 (winMem a).2)

/-! ## Commands -/

/-- A lane is eligible for calibration visits (R202): enabled and in TRAIN, READY, ACTIVE or UTRAIN. -/
def Dev.calEligible (d : Dev) (k : Nat) : Bool :=
  d.on F.WS_CALLANE_EN k && [5, 6, 7, 8].contains (d.rd F.LN_STAT_STEP k)

/-- A visit whose lane is not eligible any more is void, though the lane may come back before it ends (R203). -/
def Dev.calWatch (d : Dev) : Dev :=
  match d.ws.visit with
  | some v => if v.void || d.calEligible v.lane.val then d else d.mapWs fun w => { w with visit := some { v with void := true } }
  | none => d

/-- SYS.WS.STAT.GET (Table 8-6). -/
def execSysWsStatGet (src : Src) : State → Host.Outcome State Fault Refusal := lift fun d0 =>
  d0.kci src 0xA040 .q fun d =>
    if !d.domOn dWHET then .no .notReady
    else .ok d ([BitVec.ofNat 8 (d.rd F.WS_STAT_STATE), BitVec.ofNat 8 (d.regWord 0x100004 0), BitVec.ofNat 8 (d.rd F.WS_TRAP_CAUSE), 0] ++
      be 2 (d.rd F.WS_PC_PC) ++ be 2 (d.rd F.WS_TRAP_PC) ++ be 4 (d.regWord 0x100010 0) ++ be 2 (d.rd F.WS_CALSTAT_SWEEPMS) ++
      be 2 (d.rd F.WS_CALSTAT_SWEEPS) ++ be 2 (d.rd F.WS_LOOPCNT_SKIP) ++ be 2 (d.rd F.WS_LOOPCNT_OVRRUN) ++
      be 2 (d.rd F.WS_CALSTAT2_THIN) ++ [0, 0])

/-- SYS.WS.CTL: 1 halt, 2 run, 3 restart; the response holds STATE at completion. -/
def execSysWsCtl (src : Src) (action : Byte) : State → Host.Outcome State Fault Refusal := lift fun d0 =>
  d0.kci src 0xA041 .c fun d =>
    let a := action.toNat
    if a < 1 || 3 < a then .no .badParam
    else if !d.domOn dWHET then .no .notReady
    else if a = 1 && d.lc == 3 && !d.expert then .no .denied
    else if a = 1 then (if d.rd F.WS_STAT_STATE = 1 then .hold d.wsHaltReq .wsHalt else .ok d d.wsStateByte)
    else if a = 2 then let d1 := d.wsRun; .ok d1 d1.wsStateByte
    else .hold d.wsRestart .wsRestart

/-- LINE.CAL.GET (Table 8-7). -/
def execLineCalGet (src : Src) (lane : Byte) : State → Host.Outcome State Fault Refusal := lift fun d0 =>
  d0.kci src 0xA170 .q fun d =>
    let k := lane.toNat
    if 7 < k then .no .badParam
    else if !d.domOn dWHET then .no .notReady
    else .ok d ([BitVec.ofNat 8 (d.rd F.WS_CALLANE_EN k), BitVec.ofNat 8 (b2n (d.calEligible k)),
      BitVec.ofNat 8 (d.rd F.WS_CALLANE_NEXTPH k), 0] ++ be 2 (d.rd F.WS_CALLANE_VISITS k) ++ be 2 (d.rd F.WS_CALCFG_GAP) ++
      be 2 (d.rd F.WS_CALSTAT_SWEEPMS))

/-- LINE.CAL.SET (Table 8-8); while WHET is off firmware keeps the values. -/
def execLineCalSet (src : Src) (lane en : Byte) (gap : BitVec 16) : State → Host.Outcome State Fault Refusal := lift fun d0 =>
  d0.kci src 0xA171 .c fun d =>
    let k := lane.toNat
    let g := gap.toNat
    if !(k ≤ 7 || k = 0xFF) || !okKeep en.toNat 1 || !((20 ≤ g && g ≤ 4095) || g = 0xFFFF) then .no .badParam
    else
      let d1 := iter 8 (fun j e => if k = 0xFF || j = k then e.cfgKeep dWHET F.WS_CALLANE_EN j en.toNat 0xFF else e) d
      .ok (d1.cfgKeep dWHET F.WS_CALCFG_GAP 0 g 0xFFFF).calWatch []

end Sys2Proof.Machine
end

