-- ==== Sys2Proof/Machine/Line.lean ====
section
/-! DEFINITION. The line formats of chapter 02 (Gray mapping, precoding, whitener, inner code, frames, pilots, beacon blocks),
the trellis of chapter 04, the Partner code of chapter 07, and exact logarithm rounding. -/

namespace Sys2Proof.Machine

/-! ## Symbols (R42, R43) -/

/-- The symbol value of a level. -/
def valOf (l : Int) : Nat := ((l + 3) / 2).toNat

/-- MSB of a symbol value. -/
def msbOf (v : Nat) : Bool := 2 ≤ v
/-- LSB of a symbol value. -/
def lsbOf (v : Nat) : Bool := v == 1 || v == 2

/-- Symbol values of a bit stream, first bit of each pair the MSB. -/
def mapSyms : List Bool → List Nat
  | a :: b :: t => graySym (b2n a) (b2n b) :: mapSyms t
  | _ => []

/-- The bits of symbol values, MSB first. -/
def symBits (l : List Nat) : List Bool := l.flatMap fun v => [msbOf v, lsbOf v]

/-- Transmit precoding: P(j) := (T(j) − P(j−1)) mod 4. -/
def precodeTx : Nat → List Nat → List Nat
  | _, [] => []
  | p, t :: r => let q := (t + 4 - p) % 4; q :: precodeTx q r

/-- Receive precoding: T(j) := (P(j) + P(j−1)) mod 4. -/
def precodeRx : Nat → List Nat → List Nat
  | _, [] => []
  | p, q :: r => (q + p) % 4 :: precodeRx q r

/-! ## Whitener and inner code (R48 to R52) -/

/-- One whitener step: bit 0 of the register is q1, bit 22 q23; the output is q18 XOR q23 and enters q1. -/
def whitenStep (q : Nat) : Bool × Nat :=
  let w := q.testBit 17 != q.testBit 22
  (w, (2 * q + b2n w) % 2 ^ 23)

/-- The whitener with every stage one. -/
def whitenOnes : Nat := 2 ^ 23 - 1

/-- The encoder state after a systematic bit, and its parity bit; states are 4·s1 + 2·s2 + s3. -/
def encStep (s : Nat) (u : Bool) : Nat × Bool :=
  let s1 := s.testBit 2
  let s2 := s.testBit 1
  let s3 := s.testBit 0
  let a := (u != s2) != s3
  (4 * b2n a + 2 * b2n s1 + b2n s2, (a != s1) != s3)

/-- Whether the parity bit of systematic index `i` is sent (Table 2-5). -/
def keptParity (i : Nat) : Bool := [9, 27, 46, 64, 82, 101, 119].contains (i % 128)

/-- Whether coded bit `n` of a frame is a parity bit: the offsets of Table 2-5 within a block of 135 coded bits. -/
def codedParity (n : Nat) : Bool := [10, 29, 49, 68, 87, 107, 126].contains (n % 135)

/-- Whitens and encodes payload bits from systematic index `i` on: coded bits, whitener and encoder state after. -/
def encodeBits : Nat → Nat → Nat → List Bool → List Bool × Nat × Nat
  | _, wq, s, [] => ([], wq, s)
  | i, wq, s, b :: t =>
    let (w, wq1) := whitenStep wq
    let u := b != w
    let (s1, p) := encStep s u
    let (l, wq2, s2) := encodeBits (i + 1) wq1 s1 t
    ((if keptParity i then u :: p :: l else u :: l), wq2, s2)

/-- Removes the whitener from decoded bits. -/
def dewhiten : Nat → List Bool → List Bool × Nat
  | q, [] => ([], q)
  | q, b :: t =>
    let (w, q1) := whitenStep q
    let (l, q2) := dewhiten q1 t
    ((b != w) :: l, q2)

/-- Whether frame position `pos` of frame `fr` carries a pilot. -/
def isPilot (fr pos : Nat) : Bool := pos % 136 == fr % 8

/-- Pilots before position `pos` of frame `fr`. -/
def pilotsBefore (fr pos : Nat) : Nat := if pos ≤ fr % 8 then 0 else (pos - fr % 8 - 1) / 136 + 1

/-- The sign of P[k] (Table 2-6). -/
def pilotSign (k : Nat) : Int := if k = 1 || k = 4 || k = 5 || k = 7 then -1 else 1

/-- Places the pilots of phase `r` and sign `s` between code symbols: positions from `pos`. -/
def placePilots (r : Nat) (s : Int) : Nat → Nat → List Nat → List Nat
  | 0, _, _ => []
  | n + 1, pos, syms =>
    if pos % 136 = r then valOf (3 * s * pilotSign (pos / 136)) :: placePilots r s n (pos + 1) syms
    else match syms with
      | [] => 0 :: placePilots r s n (pos + 1) []
      | v :: t => v :: placePilots r s n (pos + 1) t

/-- The symbol values of frame `F` (R45 to R53), with the whitener and encoder state after it. -/
def frameSyms (fr wq enc : Nat) (payload : List Bool) (partner : Bool) : List Nat × Nat × Nat :=
  let r := fr % 8
  let (coded, wq1, enc1) := encodeBits 0 (if r = 0 then whitenOnes else wq) enc payload
  (placePilots r (if partner then -1 else 1) 1088 0 (mapSyms coded), wq1, enc1)

/-- The payload of a C frame (R47): C225 interleaves 1,024 bits of each host lane; C113 takes 2,048 bits of the even one. -/
def framePayload (c225 : Bool) (even : BitVec 2176) (odd : BitVec 1024) : List Bool :=
  if c225 then (List.range 1024).flatMap fun m => [even.getLsbD m, odd.getLsbD m]
  else (List.range 2048).map even.getLsbD

/-! ## Beacon (R62 to R64) -/

/-- `n` outputs of the beacon scrambler x^7 + x^6 + 1 from the all-ones state; bit 0 is q1. -/
def scrambler : Nat → Nat → List Bool
  | 0, _ => []
  | n + 1, q =>
    let w := q.testBit 5 != q.testBit 6
    w :: scrambler n ((2 * q + b2n w) % 128)

/-- XOR of two bit strings. -/
def xorBits (a b : List Bool) : List Bool := List.zipWith (fun x y => x != y) a b

/-- The 256 bits of a beacon block with the given CONTENT. -/
def beaconBits (content : List Byte) : List Bool :=
  bitsMsb 32 0xB4E61C2D ++ xorBits (bytesBits content ++ bitsMsb 16 (crc16 content)) (scrambler 224 127)

/-- The CONTENT of a received block, when SYNC and the CRC check (bits already at true polarity). -/
def beaconContent (bits : List Bool) : Option (List Nat) :=
  let body := xorBits (bits.drop 32) (scrambler 224 127)
  let bytes := (List.range 26).map fun i => bitsNat ((body.drop (8 * i)).take 8)
  if bitsNat (bits.take 32) = 0xB4E61C2D && bitsNat (body.drop 208) = crc16 (bytes.map (BitVec.ofNat 8)) then some bytes else none

/-- Line UI in four beacon bits per line rate mode: 34, 17, 16, 8 (R64). -/
def beaconQuarter (lrm : Nat) : Nat := match lrm with | 0 => 34 | 1 => 17 | 2 => 16 | _ => 8

/-- The line UI nearest the start of beacon bit `b`; an edge half way between two (every odd bit of C225, every bit numbered 2 mod 4 of C113) takes the even one
(DESIGN CHOICE, log entry 82: R64 says only nearest). -/
def beaconEdge (lrm b : Nat) : Nat := (rneDiv (b * beaconQuarter lrm : Nat) 4).toNat

/-- The beacon's bits at one per line UI. -/
def beaconUis (lrm : Nat) (bits : List Bool) : List Bool :=
  (bits.zipIdx).flatMap fun e => List.replicate (beaconEdge lrm (e.2 + 1) - beaconEdge lrm e.2) e.1

/-- The bits of a beacon block from its samples (R64): bit `b` is the sign of the sample nearest its centre, of two as near the first, with
the block's first edge `start` eighths of a line UI after the first sample. With two samples a bit that is the one farther from the
edges (log entry 82). -/
def beaconDecide (lrm : Nat) (samples : List Int) (start : Int) : List Bool :=
  (List.range 256).map fun b => decide (0 < samples.getD ((start + (2 * b + 1 : Nat) * (beaconQuarter lrm : Nat) + 3).fdiv 8).toNat 0)

/-! ## Trellis sections (R107 to R112, R119) -/

/-- A branch: state left, state entered, symbol value, systematic labels, metric (2^-50 squared output units). -/
structure Branch where
  src : Nat
  dst : Nat
  val : Nat
  labels : List Bool
  metric : Nat
  deriving DecidableEq, Repr

/-- The level mean of a symbol value, in 2^-16 output units. -/
def RxLane.mean (x : RxLane) (v : Nat) : Int := match v with | 0 => x.mm3 | 1 => x.mm1 | 2 => x.m1 | _ => x.m3

/-- Four times a branch's weight times its squared error: `y` in 1/8 unit, `e` the expected output in 2^-24 units. -/
def sqErr (w4 : Nat) (y e : Int) : Nat :=
  let d := y * 2 ^ 21 - e
  w4 * (d * d).toNat

/-- The expected output: level mean plus ALPHA/256 times the preceding symbol's mean, in 2^-24 units. -/
def RxLane.expect (x : RxLane) (v prev : Nat) : Int := 256 * x.mean v + x.alpha * x.mean prev

/-- Four times the weight of an output (Table 4-2). -/
def RxLane.weight (x : RxLane) (o : YOut) : Nat := if o.taint then (match x.twt with | 0 => 0 | 1 => 1 | 2 => 2 | _ => 4) else 4

/-- The Gray value of bit pair number b = 2·MSB + LSB. -/
def pairVal (b : Nat) : Nat := graySym (b / 2) (b % 2)

/-- What precedes a section on the line: a code symbol, a pilot of known value, or a pilot whose sign each state decides. -/
inductive Before where
  | code
  | pilot (v : Nat)
  | each (vals : List Nat)
  deriving DecidableEq, Repr

/-- The value of the preceding symbol for pair `b`. -/
def Before.val : Before → Nat → Nat
  | .code, b => pairVal b
  | .pilot v, _ => v
  | .each l, b => l.getD b 0

/-- Branches of a code-symbol section: coded bits `n` and `n + 1` (Table 4-3). -/
def RxLane.codeBranches (x : RxLane) (n : Nat) (o : YOut) (bf : Before) : List Branch :=
  (List.range 32).flatMap fun st =>
    let b := st / 8
    let c := st % 8
    let prev := bf.val b
    let mk := fun (msb lsb : Bool) (dst : Nat) (labels : List Bool) =>
      let v := graySym (b2n msb) (b2n lsb)
      ({ src := st, dst := 8 * (2 * b2n msb + b2n lsb) + dst, val := v, labels := labels
         metric := sqErr (x.weight o) o.y (x.expect v prev) } : Branch)
    if codedParity n then
      let p := (bitOf b 0 != bitOf c 1) != bitOf c 0
      [false, true].map fun u => mk p u (encStep c u).1 [u]
    else if codedParity (n + 1) then
      [false, true].map fun u => mk u (encStep c u).2 (encStep c u).1 [u]
    else
      [(false, false), (false, true), (true, false), (true, true)].map fun (u, w) =>
        mk u w (encStep (encStep c u).1 w).1 [u, w]

/-- Branches of a pilot section: every state keeps itself; the value is known, or each pair takes the better sign. -/
def RxLane.pilotBranches (x : RxLane) (vals : List Nat) (o : YOut) (bf : Before) : List Branch :=
  (List.range 32).flatMap fun st =>
    vals.map fun v => { src := st, dst := st, val := v, labels := []
                        metric := sqErr (x.weight o) o.y (x.expect v (bf.val (st / 8))) }

/-- The sign each pair takes for a pilot of undecided sign: the branch of smaller metric on that pilot's own output. The metrics are
compared unweighted, and equal ones give +3 (DESIGN CHOICE, log entry 83: R112 names no tie). -/
def RxLane.pilotPick (x : RxLane) (o : YOut) (bf : Before) : List Nat :=
  (List.range 4).map fun b =>
    if sqErr 4 o.y (x.expect 3 (bf.val b)) ≤ sqErr 4 o.y (x.expect 0 (bf.val b)) then 3 else 0

/-- Branches of a U-mode section: four states, any symbol next. -/
def RxLane.uBranches (x : RxLane) (o : YOut) (first : Bool) : List Branch :=
  (List.range 4).flatMap fun b =>
    (List.range 4).map fun b2 =>
      let v := pairVal b2
      { src := b, dst := b2, val := v, labels := []
        metric := sqErr (x.weight o) o.y (if first then 256 * x.mean v else x.expect v (pairVal b)) }

/-- State metrics: none for an excluded state. -/
abbrev Metrics := List (Option Nat)

/-- The lesser of two metrics. -/
def minO : Option Nat → Option Nat → Option Nat
  | none, b => b
  | a, none => a
  | some a, some b => some (min a b)

/-- Adds a metric. -/
def addO (a : Option Nat) (n : Nat) : Option Nat := a.map fun x => x + n

/-- One forward step over `n` states. -/
def fwdStep (n : Nat) (m : Metrics) (brs : List Branch) : Metrics :=
  (List.range n).map fun s =>
    brs.foldl (fun a b => if b.dst = s then minO a (addO (m.getD b.src none) b.metric) else a) none

/-- One backward step over `n` states. -/
def bwdStep (n : Nat) (m : Metrics) (brs : List Branch) : Metrics :=
  (List.range n).map fun s =>
    brs.foldl (fun a b => if b.src = s then minO a (addO (m.getD b.dst none) b.metric) else a) none

/-- The state metrics before each section. -/
def fwdAll (n : Nat) : Metrics → List (List Branch) → List Metrics
  | _, [] => []
  | m, b :: t => m :: fwdAll n (fwdStep n m b) t

/-- The state metrics after each section, from equal metrics at the end, with those before the first section. -/
def bwdAll (n : Nat) : List (List Branch) → List Metrics × Metrics
  | [] => ([], List.replicate n (some 0))
  | b :: t =>
    let (l, m) := bwdAll n t
    (m :: l, bwdStep n m b)

/-- Every branch of a section with its whole-path metric. -/
def scored (f : Metrics) (brs : List Branch) (g : Metrics) : List (Branch × Nat) :=
  brs.filterMap fun b =>
    match f.getD b.src none, g.getD b.dst none with
    | some p, some q => some (b, p + b.metric + q)
    | _, _ => none

/-- The best branch: least metric, then the lower state left (R109); of two branches that leave the same state the one listed first
(DESIGN CHOICE, log entry 83). -/
def bestOf (l : List (Branch × Nat)) : Option (Branch × Nat) :=
  l.foldl (fun a e => match a with
    | none => some e
    | some x => if e.2 < x.2 then some e else a) none

/-- The least metric over the branches that satisfy `p`. -/
def leastOf (l : List (Branch × Nat)) (p : Branch → Bool) : Option Nat :=
  l.foldl (fun a e => if p e.1 then minO a (some e.2) else a) none

/-- max-log-MAP over a window: every section's scored branches. -/
def maxLog (n : Nat) (init : Metrics) (secs : List (List Branch)) : List (List (Branch × Nat)) :=
  let f := fwdAll n init secs
  let g := (bwdAll n secs).1
  List.zipWith (fun (a : Metrics × List Branch) (m : Metrics) => scored a.1 a.2 m) (f.zip secs) g

/-- A metric difference in 1/4 natural-log units, limited to ±127 (R109); with no noise variance the limit. The step of 0.25 is reached half
to even (DESIGN CHOICE, log entry 83: R109 gives no rounding). -/
def quarterLog (diff : Int) (var : Int) : Int :=
  if diff = 0 then 0
  else if var ≤ 0 then (if 0 < diff then 127 else -127)
  else clampI (-127) 127 (rneDiv diff (var * 2 ^ 33).toNat)

/-- A log-likelihood ratio from the least metrics of 0 and of 1. -/
def llrOf (var : Int) : Option Nat → Option Nat → Int
  | some a, some b => quarterLog ((a : Int) - b) var
  | none, some _ => 127
  | some _, none => -127
  | none, none => 0

/-! ## The Partner code (R178 to R180) -/

/-- Parity of the set bits of a 7-bit number. -/
def parity7 (n : Nat) : Bool := (List.range 7).foldl (fun a i => a != n.testBit i) false

/-- The K = 7 encoder: register of the last six bits (newest in bit 5), output of 171 then 133 octal. -/
def k7Out (reg : Nat) (b : Bool) : Bool × Bool :=
  let v := 64 * b2n b + reg
  (parity7 (v &&& 0o171), parity7 (v &&& 0o133))

/-- The register after a bit. -/
def k7Next (reg : Nat) (b : Bool) : Nat := (64 * b2n b + reg) / 2

/-- The coded bits of a bit string. -/
def k7Encode : Nat → List Bool → List Bool
  | _, [] => []
  | reg, b :: t => let (x, y) := k7Out reg b; x :: y :: k7Encode (k7Next reg b) t

/-- The preamble. -/
def preamble : List Bool := bitsMsb 64 0xFC10C53D1C96ECD4

/-- CRC-8 with x^8 + x^2 + x + 1 over a bit string. -/
def crc8 (l : List Bool) : Nat := l.foldl (crcStep 8 0x07) 0

/-- CRC-32 of R179: polynomial 0x04C11DB7, initial value and final XOR all ones, MSB first. -/
def crc32 (l : List Byte) : Nat := (bytesBits l).foldl (crcStep 32 0x04C11DB7) 0xFFFFFFFF ^^^ 0xFFFFFFFF

/-- The 32-bit header (Table 7-6). -/
def ptnrHeader (type len seq : Nat) : List Byte :=
  let h := type % 256 * 2 ^ 16 + len % 512 * 2 ^ 7 + seq % 128
  be 4 (h * 256 + crc8 (bitsMsb 24 h))

/-- The raw bits of a packet. -/
def ptnrRaw (type seq : Nat) (payload : List Byte) : List Bool :=
  let body := ptnrHeader type payload.length seq ++ payload
  preamble ++ k7Encode 0 (bytesBits (body ++ be 4 (crc32 body)) ++ List.replicate 6 false)

/-- Frames of a packet of `n` payload bytes. -/
def ptnrFrames (n : Nat) : Nat := 204 + 16 * n

/-- A Viterbi path: metric (greater is better) and decided bits, newest first; none for a state not reached. -/
abbrev K7Path := Option (Int × List Bool)

/-- One Viterbi step with two soft values (positive favours raw bit 0, R180). -/
def k7Step (a b : Int) (m : List K7Path) : List K7Path :=
  (List.range 64).map fun s =>
    let bit := s.testBit 5
    let cand := fun (p : Nat) =>
      match m.getD p none with
      | none => (none : K7Path)
      | some (v, l) =>
        let (x, y) := k7Out p bit
        some (v + (if x then -a else a) + (if y then -b else b), bit :: l)
    let p0 := 2 * s % 64
    match cand p0, cand (p0 + 1) with
    | none, q => q
    | q, none => q
    | some p, some q => if p.1 < q.1 then some q else some p

/-- The decided bits of a stretch of the coded part that starts in state 0: the best path into state 0 when the stretch
ends with the tail, otherwise the best path into any state. -/
def k7Decode (tail : Bool) (soft : List Int) : List Bool :=
  let rec go : List Int → List K7Path → List K7Path
    | a :: b :: t, m => go t (k7Step a b m)
    | _, m => m
  let m := go soft (some (0, []) :: List.replicate 63 none)
  let best := if tail then m.getD 0 none
    else m.foldl (fun a e => match a, e with
      | none, q => q
      | q, none => q
      | some p, some q => if p.1 < q.1 then some q else some p) none
  match best with
  | none => []
  | some (_, l) => l.reverse

/-! ## Exact logarithms -/

/-- `n` with 100·log10(num/den) ≥ n − 1/2, decided exactly: num^200 ≥ 10^(2n − 1) · den^200. -/
def logAtLeast (num den : Nat) (n : Int) : Bool :=
  let e := 2 * n - 1
  if 0 ≤ e then 10 ^ e.toNat * den ^ 200 ≤ num ^ 200 else den ^ 200 ≤ 10 ^ (-e).toNat * num ^ 200

/-- The greatest `n` in `lo … lo + 2^k − 1` with `logAtLeast`, by halving; `lo` when none. -/
def logSearch (num den : Nat) : Nat → Int → Int
  | 0, lo => lo
  | k + 1, lo => logSearch num den k (if logAtLeast num den (lo + 2 ^ k) then lo + 2 ^ k else lo)

/-- 10·log10(num/den) in 0.1 dB, rounded, limited to `lo … lo + 2^k − 1` (no tie can occur: a half-integer power of ten to the
hundredth root is not rational). -/
def decibel (num den k : Nat) (lo : Int) : Int := logSearch num den k lo

end Sys2Proof.Machine
end

