-- ==== Sys2Proof/Machine/Tx.lean ====
section
/-! DEFINITION. The transmit path, pre-distortion, the observation converter and DPD identification (chapter 05), and the
LINE.TX commands. -/

namespace Sys2Proof.Machine

/-! ## The shaping chain (R123 to R134) -/

/-- What shapes an output: active levels, taps and coefficients, and the EN, forced squelch and INV in force. -/
structure TxCfg where
  v1 : Int
  v3 : Int
  taps : List Int
  h1 : List Int
  h3 : List Int
  en : Bool
  sq : Bool
  inv : Bool
  deriving DecidableEq, Repr

/-- The shaping of lane `k` now. -/
def Dev.txCfg (d : Dev) (k : Nat) : TxCfg :=
  { v1 := d.rd F.TX_LEVEL_V1ACT k, v3 := d.rd F.TX_LEVEL_V3ACT k
    taps := (List.range 9).map fun i => d.rdS ((F.TX_FFETAP_ACT).at i) k
    h1 := (List.range 5).map fun m => d.rdS ((F.TX_DPDH1_ACT).at m) k
    h3 := (List.range 5).map fun m => d.rdS ((F.TX_DPDH3_ACT).at m) k
    en := (d.lane k).tx.dpdEn, sq := d.on F.TX_STAT_SQACT k, inv := (d.lane k).tx.inv }

/-- v(a): a level in DAC LSB; 0 for no symbol (R124, R126). -/
def TxCfg.volt (c : TxCfg) (a : Int) : Int :=
  if a = 3 then c.v3 else if a = 1 then c.v1 else if a = -1 then -c.v1 else if a = -3 then -c.v3 else 0

/-- z of nine levels, latest first, in 1/4 LSB (R125). -/
def TxCfg.z (c : TxCfg) (w : List Int) : Int :=
  clampI (-1023) 1023 (rneShift (sumI (List.zipWith (fun t a => t * c.volt a) c.taps w)) 6)

/-- The DAC value of five z, latest first, before saturation (R127). -/
def TxCfg.y (c : TxCfg) (w : List Int) : Int :=
  if c.en then
    rneShift (sumI (List.zipWith (fun (h : Int × Int) z => h.1 * z * 2 ^ 18 + h.2 * z ^ 3) (c.h1.zip c.h3) w)) 32
  else rneShift (w.headD 0) 2

/-- The code sent for a DAC value (R123, R127, R134). -/
def TxCfg.code (c : TxCfg) (y : Int) : Int :=
  let v := clampI (-127) 127 y
  if c.sq then 0 else if c.inv then -v else v

/-- z outputs of a stretch of levels: the first `main` of them still take the old shaping, and are 0 at a stream's start. -/
def zRun (old new : TxCfg) (main : Nat) (start : Bool) (levels : List Int) : List Int :=
  (windows 9 levels).zipIdx.map fun e => if e.2 < main then (if start then 0 else old.z e.1) else new.z e.1

/-- DAC values before saturation of a stretch of z. -/
def yRun (old new : TxCfg) (main : Nat) (zs : List Int) : List Int :=
  (windows 5 zs).zipIdx.map fun e => if e.2 < main then old.y e.1 else new.y e.1

/-- Sends a stretch of new levels on lane `k`: the last `MAIN` outputs of the stream so far and the outputs of the new symbols
that are already determined. -/
def Dev.txSend (d : Dev) (k : Nat) (old new : TxCfg) (start : Bool) (levels : List Int) : Dev :=
  let t := (d.lane k).tx
  let pad := fun (n : Nat) (l : List Int) => List.replicate (n - l.length) 0 ++ l
  let a := pad 8 t.hist ++ levels
  let zs := pad 4 t.zhist ++ zRun old new t.main start a
  let ys := yRun old new t.main zs
  let codes := ys.zipIdx.map fun e => (if e.2 < t.main then old else new).code e.1
  let clips := (ys.filter fun y => y < -127 || 127 < y).length
  let d1 := d.mapTx k fun x =>
    { x with hist := a.drop (a.length - 8), zhist := zs.drop (zs.length - 4), dac := if start then codes.drop t.main else codes }
  if clips = 0 then d1 else (d1.inc F.TX_CLIPCNT_COUNT k clips).set F.TX_STAT_CLIP k

/-- DAC codes of an output without a stream: code 0 up to the next boundary, 1,088 UI in all (R122, R133). -/
def quiet (codes : List Int) : List Int := codes ++ List.replicate (1088 - codes.length) 0

/-- The stream stopped: the outputs of its last symbols, with 0 for every later one. -/
def Dev.txTail (d : Dev) (k : Nat) (old : TxCfg) : Dev :=
  let t := (d.lane k).tx
  if t.streaming then
    (d.txSend k old old false (List.replicate t.main 0)).mapTx k fun x => { x with streaming := false, hist := [], zhist := [], tail := [] }
  else d.mapTx k fun x => { x with dac := [] }

/-- The output falls silent: what is left of its stream, then code 0 up to the next boundary. -/
def Dev.txFlush (d : Dev) (k : Nat) (old : TxCfg) : Dev := (d.txTail k old).mapTx k fun x => { x with dac := quiet x.dac, rest := [] }

/-- A shaping-set commit (R128): every active copy takes its staged value; firmware keeps the set (R129). -/
def Dev.txCommit (d : Dev) (k : Nat) : Dev :=
  let d1 := (d.wr F.TX_LEVEL_V1ACT k (d.rd F.TX_LEVEL_V1STG k)).wr F.TX_LEVEL_V3ACT k (d.rd F.TX_LEVEL_V3STG k)
  let d2 := iter 9 (fun i e => e.wr ((F.TX_FFETAP_ACT).at i) k (e.rd ((F.TX_FFETAP_STG).at i) k)) d1
  let d3 := iter 5 (fun m e => (e.wr ((F.TX_DPDH1_ACT).at m) k (e.rd ((F.TX_DPDH1_STG).at m) k)).wr ((F.TX_DPDH3_ACT).at m) k
    (e.rd ((F.TX_DPDH3_STG).at m) k)) d2
  let set := [d.rd F.TX_LEVEL_V1STG k, d.rd F.TX_LEVEL_V3STG k] ++
    ((List.range 9).map fun i => d.rd ((F.TX_FFETAP_STG).at i) k) ++
    ((List.range 5).map fun m => d.rd ((F.TX_DPDH1_STG).at m) k) ++
    ((List.range 5).map fun m => d.rd ((F.TX_DPDH3_STG).at m) k)
  ((d3.clr F.TX_CTL_CMTREQ k).inc F.TX_CMTCNT_COUNT k).mapTx k fun x => { x with saved := set, lastCmt := x.freeBlocks + 1 }

/-- The active shaping set: what the last commit made it, or the reset values before one (R129). -/
def Dev.txActive (d : Dev) (k : Nat) : List Nat :=
  [d.rd F.TX_LEVEL_V1ACT k, d.rd F.TX_LEVEL_V3ACT k] ++ ((List.range 9).map fun i => d.rd ((F.TX_FFETAP_ACT).at i) k) ++
    ((List.range 5).map fun m => d.rd ((F.TX_DPDH1_ACT).at m) k) ++ ((List.range 5).map fun m => d.rd ((F.TX_DPDH3_ACT).at m) k)

/-- Whether a commit requested now comes 8,704 UI (8 boundaries) or more after the last, and none is requested yet (R130). -/
def Dev.txSpaced (d : Dev) (k : Nat) : Bool :=
  let t := (d.lane k).tx
  !d.on F.TX_CTL_CMTREQ k && (t.lastCmt == 0 || t.lastCmt + 8 ≤ t.freeBlocks + 1)

/-- Requests a commit of the shaping set (R128). -/
def Dev.txCmtReq (d : Dev) (k : Nat) : Dev := d.set F.TX_CTL_CMTREQ k

/-- Stages a saved set (R129). -/
def Dev.txStageSet (d : Dev) (k : Nat) (l : List Nat) : Dev :=
  if l.length ≠ 21 then d
  else
    let g := fun (i : Nat) => l.getD i 0
    let d1 := (d.bg F.TX_LEVEL_V1STG k (g 0)).bg F.TX_LEVEL_V3STG k (g 1)
    let d2 := iter 9 (fun i e => e.bg ((F.TX_FFETAP_STG).at i) k (g (2 + i))) d1
    iter 5 (fun m e => (e.bg ((F.TX_DPDH1_STG).at m) k (g (11 + m))).bg ((F.TX_DPDH3_STG).at m) k (g (16 + m))) d2

/-- Stages the taps and levels of the lane's transmit entry, when one is held (R126). -/
def Dev.txStageBoard (d : Dev) (k : Nat) : Dev :=
  match d.conf (0x300 + k) with
  | none => d
  | some e =>
    let d1 := (d.bg F.TX_LEVEL_V1STG k (Config.boardField e 0)).bg F.TX_LEVEL_V3STG k (Config.boardField e 1)
    iter 9 (fun i x => x.bg ((F.TX_FFETAP_STG).at i) k (Config.boardField e (2 + i))) d1

/-! ## Boundaries (R128, R133) -/

/-- Whether a pending state waits: from DATA back to BEACON in C225 the next frame must be even (R166). -/
def Dev.txPendDue (d : Dev) (k : Nat) : Bool :=
  let t := (d.lane k).tx
  match t.pend with
  | none => false
  | some st => !(st == 1 && d.rd F.TX_STAT_STATE k == 2 && d.lrm k == 0 && t.frame % 2 == 1)

/-- A due change of output state: a stream begins at frame or block 0, a pattern output without a stream waits for it (R239); INV is
read on leaving SQUELCH (R123). -/
def Dev.txState (d : Dev) (k : Nat) (old : TxCfg) : Dev :=
  let t := (d.lane k).tx
  match t.pend with
  | none => d
  | some st =>
    let leaving := d.rd F.TX_STAT_STATE k == 0 && st != 0
    let d1 := (d.txTail k old).wr F.TX_STAT_STATE k st
    d1.mapTx k fun x =>
      { x with pend := none, rest := [], streaming := st == 2 || (st == 3 && 2 ≤ d.rd F.PG_STAT_STATE), frame := if 2 ≤ st then 0 else x.frame, pre := if 2 ≤ st then 0 else x.pre
               enc := if 2 ≤ st then 0 else x.enc, inv := if leaving then d.on F.TX_CTL_INV k else x.inv }

/-- The lane sends its decoded payload back (R433). -/
def Dev.farLoop (d : Dev) (k : Nat) : Bool :=
  match d.pathOf k with
  | some p => p.mode == 12 && p.outputs.testBit 1
  | none => false

/-- The payload bits of the next frame or block: `n` bits from the host lanes, or under far-end line loopback a whole decoded frame or
block (R433); while none is decoded, the host input's bits (log entry 75). -/
def Dev.txBits (d : Dev) (k n : Nat) (host : List Bool) : List Bool × Dev :=
  if d.farLoop k && n ≤ (d.lane k).rx.loopq.length then
    ((d.lane k).rx.loopq.take n, d.mapRx k fun x => { x with loopq := x.loopq.drop n })
  else (host, d)

/-- The raw Partner bit of the next frame is taken (R58); at a packet's last bit TXPKT counts it. -/
def TxLane.takeBit (t : TxLane) : Bool × TxLane :=
  match t.raw with
  | [] => (false, t)
  | b :: r => (b, if r.isEmpty then { t with raw := [], cur := none, txpkt := (t.txpkt + 1) % 2 ^ 32 } else { t with raw := r })

/-- The next frame of a C stream. -/
def Dev.frameOut (d : Dev) (k : Nat) (even : BitVec 2176) (odd : BitVec 1024) : List Int × Dev :=
  let (bits, d1) := d.txBits k 2048 (framePayload (d.lrm k == 0) even odd)
  let t := (d1.lane k).tx
  let (b, t1) := t.takeBit
  let (syms, wq, enc) := frameSyms t.frame t.wq t.enc bits b
  let cap := match t.cur with | some c => c.type == 2 && t1.cur.isNone | none => false
  let d2 := (d1.mapTx k fun _ => { t1 with syms := syms, wq := wq, enc := enc, frame := t.frame + 1 }).mapLane k fun l =>
    { l with capSent := l.capSent || cap }
  (syms.map levelOf, d2.pilotStamp k t.frame true)

/-- The next 1,088-UI block of a U stream (R60). -/
def Dev.blockOut (d : Dev) (k : Nat) (even : BitVec 2176) : List Int × Dev :=
  let (bits, d1) := d.txBits k 2176 ((List.range 2176).map even.getLsbD)
  let t := (d1.lane k).tx
  let raw := mapSyms bits
  let pre := match d.pathOf k with | some p => p.pretx | none => false
  let syms := if pre then precodeTx t.pre raw else raw
  (syms.map levelOf, d1.mapTx k fun x => { x with syms := syms, pre := syms.getLastD 0, frame := t.frame + 1 })

/-- The next 1,088 symbols of a pattern stream on lane `k`: delayed and inverted as its output says (R241). -/
def Dev.patternOut (d : Dev) (k : Nat) : List Int × Dev :=
  let t := (d.lane k).tx
  let (_, inv, delay) := d.pg.lout.getD k (true, false, 0)
  let syms := (d.pg.window (1088 * t.frame) 1088 delay).map fun o => o.map (invSym inv)
  (syms.map fun o => match o with | some v => levelOf v | none => 0,
   d.mapTx k fun x => { x with syms := syms.filterMap id, frame := t.frame + 1 })

/-- A pattern output whose stream has stopped and whose last symbol is sent has no stream (R137, R247). -/
def Dev.patternEnd (d : Dev) (k st : Nat) : Dev :=
  if st = 3 && d.rd F.PG_STAT_STATE < 2 && (d.lane k).tx.syms.isEmpty then
    d.mapTx k fun x => { x with streaming := false, hist := [], zhist := [], dac := quiet x.dac }
  else d

/-! ## The observation converter (R135 to R137) -/

/-- OBSDIV (Table 5-5). -/
def obsDiv (lrm : Nat) : Nat := match lrm with | 0 => 113 | 1 => 57 | 2 => 55 | _ => 27

/-- A write of 1 to TX_OBSCTL.START: ignored while BUSY; on an input without a stream the slice completes at once. n_0 is the first symbol
of the lane's next frame or block (log entry 87). -/
def Dev.obsStart (d : Dev) : Dev :=
  if d.on F.TX_OBSSTAT_BUSY then d.set F.TX_OBSCTL_START
  else
    let k := d.rd F.TX_OBSCTL_INPUT
    let d1 := (((d.inc F.TX_OBSSTAT_SEQ).wr F.TX_OBSSTAT_INPUT 0 k).wr F.TX_OBSSTAT_COUNT 0 0).mapWs fun w =>
      { w with obs := { lane := k, delay := d.rd F.TX_OBSLANE_DELAY k, phase := d.rd F.TX_OBSLANE_PHASE k
                        next := 1088 * (d.lane k).tx.frame } }
    if (d.lane k).tx.streaming then ((d1.clr F.TX_OBSSTAT_DONE).set F.TX_OBSSTAT_BUSY).set F.TX_OBSCTL_START
    else (d1.set F.TX_OBSSTAT_DONE).clr F.TX_OBSCTL_START

/-- Sixteen symbol values as SYM holds them, the oldest in bits 1:0. -/
def symWord (l : List Nat) : Word32 := BitVec.ofNat 32 (l.foldr (fun v a => v % 4 + 4 * a) 0)

/-- A slice takes the symbols that are due in a stretch of the stream: `l` are the values from symbol `base` on (0 for a symbol before the
stream), whose SYM stretch reaches MAIN symbols ahead. -/
def ObsRun.feed (r : ObsRun) (cMode : Bool) (lrm main : Nat) (base : Int) (l : List Nat) : Nat → ObsRun
  | 0 => r
  | fuel + 1 =>
    let last : Int := (r.next : Int) + (main : Int)
    if 4096 ≤ r.ents.length || base + (l.length : Int) ≤ last then r
    else
      let syms := (List.range 16).map fun (i : Nat) =>
        let j := last - 15 + (i : Int) - base
        if j < 0 then 0 else l.getD j.toNat 0
      let e : ObsEntry := { n := r.next, pilot := cMode && isPilot (r.next / 1088) (r.next % 1088), syms := symWord syms
                            instant := 64 * ((r.next : Int) + (r.delay : Int)) + (r.phase : Int) }
      ({ r with next := r.next + obsDiv lrm, ents := r.ents ++ [e] } : ObsRun).feed cMode lrm main base l fuel

/-- Frame or block `fr` of lane `k` enters the FFE with the given values: a slice on that lane samples it, and the last symbols are kept. -/
def Dev.obsFeed (d : Dev) (k fr : Nat) (vals : List Nat) : Dev :=
  let t := (d.lane k).tx
  let l := t.tail ++ vals
  let d1 := d.mapTx k fun x => { x with tail := l.drop (l.length - 32) }
  if d.on F.TX_OBSSTAT_BUSY && d.ws.obs.lane == k then
    d1.mapWs fun w =>
      { w with obs := w.obs.feed (d.isC k) (d.lrm k) t.main (1088 * (fr : Int) - (t.tail.length : Int)) l 64 }
  else d1

/-- The 10-bit code of an input in nV: full scale is 250 mV over 1,023 codes; beyond ±511.5 LSB it is ±511 with OVR (R135). -/
def obsCode (v : Int) : Int × Bool :=
  (clampI (-511) 511 ((2 * v * 1023 + 250000000).fdiv 500000000), decide (125000000 < v ∨ v < -125000000))

/-- Word 0 of an observation entry (Table 5-6). -/
def ObsEntry.word (s : ObsEntry) : Nat :=
  tc 10 s.code + 2 ^ 10 * b2n s.ovr + 2 ^ 11 * b2n s.pilot + 2 ^ 16 * (s.n % 2 ^ 16)

/-- Writes observation entries from number `j` on. -/
def Dev.obsWrite (d : Dev) : Nat → List ObsEntry → Dev
  | _, [] => d
  | j, s :: t => ((d.wr ((F.TX_OBSBUF_ENTRY).at (2 * j)) 0 s.word).wr ((F.TX_OBSBUF_ENTRY).at (2 * j + 1)) 0 s.syms.toNat).obsWrite
      (j + 1) t

/-- Whether the slice under way has its 4,096 entries, or its stream has stopped (R137). -/
def Dev.obsEnded (d : Dev) : Bool :=
  d.on F.TX_OBSSTAT_BUSY && (4096 ≤ d.ws.obs.ents.length || !(d.lane d.ws.obs.lane).tx.streaming)

/-- OBS_SLICE_DONE: a slice whose samples are all taken, or whose stream has stopped, completes; `samples` are the inputs in nV at its
entries' instants. Tasks that wait for it wake. -/
def execObsSliceDone (samples : List Int) : State → Host.Outcome State Fault Refusal := lift fun d =>
  if !d.obsEnded || samples.length < d.ws.obs.ents.length then d
  else
    let l := List.zipWith (fun (e : ObsEntry) v => { e with code := (obsCode v).1, ovr := (obsCode v).2 }) d.ws.obs.ents samples
    ((((d.obsWrite 0 l).wr F.TX_OBSSTAT_COUNT 0 l.length).set F.TX_OBSSTAT_DONE).clr F.TX_OBSSTAT_BUSY).clr F.TX_OBSCTL_START |>.mapWs
      fun w => { w with banks := w.banks.map fun b => b.wake .obsDone, obs := { w.obs with ents := l } }

/-! ## DPD identification (R138), in exact rational arithmetic -/

/-- The sum of rationals. -/
def sumQ (l : List Rat) : Rat := l.foldl (fun a b => a + b) 0

/-- The inner product. -/
def dotQ (a b : List Rat) : Rat := sumQ (List.zipWith (fun x y => x * y) a b)

/-- One elimination: the pivot row scaled to 1 in column `c`, taken from every other row. -/
def eliminate (c : Nat) (rows : List (List Rat)) : Option (List (List Rat)) :=
  match (rows.zipIdx.find? fun e => c ≤ e.2 && e.1.getD c 0 != 0) with
  | none => none
  | some (p, i) =>
    let pv := p.getD c 0
    let pn := p.map fun x => x / pv
    let rest := rows.eraseIdx i
    let cleared := rest.map fun r => List.zipWith (fun x y => x - r.getD c 0 * y) r pn
    some (cleared.take c ++ [pn] ++ cleared.drop c)

/-- Solves the augmented normal equations of `n` unknowns; none when they are singular. -/
def solve (n : Nat) (rows : List (List Rat)) : Option (List Rat) :=
  ((List.range n).foldl (fun a c => a.bind (eliminate c)) (some rows)).map fun r => r.map fun x => x.getD n 0

/-- The least-squares coefficients of observations over their regressors. -/
def leastSquares (n : Nat) (pts : List (List Rat × Rat)) : Option (List Rat) :=
  solve n ((List.range n).map fun i =>
    ((List.range n).map fun j => sumQ (pts.map fun p => p.1.getD i 0 * p.1.getD j 0)) ++
      [sumQ (pts.map fun p => p.1.getD i 0 * p.2)])

/-- Square of the correlation coefficient of two series; 0 when either does not vary. -/
def corr2 (a b : List Rat) : Rat :=
  let n : Rat := a.length
  let c := n * dotQ a b - sumQ a * sumQ b
  let va := n * dotQ a a - sumQ a * sumQ a
  let vb := n * dotQ b b - sumQ b * sumQ b
  if va = 0 || vb = 0 then 0 else c * c / (va * vb)

/-- The level of recorded symbol `i` (0 the oldest of 16). -/
def obsLevel (s : ObsEntry) (i : Nat) : Int := levelOf (s.syms.toNat / 4 ^ i % 4)

/-- u(n − m): z/128 of the recorded symbols, with the active shaping (z in 1/4 LSB). -/
def obsU (s : ObsEntry) (c : TxCfg) (m : Nat) : Rat :=
  (c.z ((List.range 9).map fun i => obsLevel s (15 - m - i)) : Rat) / 512

/-- The regressors of the linear fit: u(n) … u(n − 4) and 1. -/
def obsLin (s : ObsEntry) (c : TxCfg) : List Rat := ((List.range 5).map (obsU s c)) ++ [1]

/-- The linear fit of some samples: coefficients g0 to g4 and c. -/
def linearFit (c : TxCfg) (l : List ObsEntry) : Option (List Rat) :=
  leastSquares 6 (l.map fun s => (obsLin s c, (s.code : Rat)))

/-- The better of two figures, the first of equal ones. -/
def better (a : Option (Int × Rat)) (e : Int × Rat) : Option (Int × Rat) :=
  match a with
  | none => some e
  | some x => if x.2 < e.2 then some e else some x

/-- A coarse slice at delay `d`: each of the sixteen recorded symbols, lag g, offers the delay `d − g` with its correlation. -/
def coarseBest (c : TxCfg) (main : Nat) (delay : Int) (l : List ObsEntry) (a : Option (Int × Rat)) : Option (Int × Rat) :=
  (List.range 16).foldl (fun b (i : Nat) =>
    better b (delay - ((main : Int) - 15 + (i : Int)),
      corr2 (l.map fun x => (x.code : Rat)) (l.map fun x => (c.volt (obsLevel x i) : Rat)))) a

/-- |g0| of a fine slice. -/
def fineGain (c : TxCfg) (l : List ObsEntry) : Rat :=
  let g := ((linearFit c l).getD []).getD 0 0
  if g < 0 then -g else g

/-- A rational truncated towards zero (log entry 26: the bound of R130 then always holds). -/
def truncQ (q : Rat) : Int := if 0 ≤ q then q.floor else -((-q).floor)

/-- Scales a list of changes so that the sum of magnitudes is at most 64 units (R130). -/
def scale64 (l : List Rat) : List Int :=
  let t := sumQ (l.map fun x => if x < 0 then -x else x)
  l.map fun x => truncQ (if 64 < t then x * 64 / t else x)

/-- Ends a pass with the fit of its samples. -/
def Dev.dpdUpdate (d : Dev) (k : Nat) (l : List ObsEntry) : Dev :=
  let c := d.txCfg k
  match linearFit c l with
  | none => d.clr F.TX_DPDSTAT_LOCKED k
  | some g =>
    let fit := l.map fun s => dotQ g (obsLin s c)
    let o := l.map fun s => (s.code : Rat)
    if corr2 o fit < 1 / 4 then d.clr F.TX_DPDSTAT_LOCKED k
    else
      let r := List.zipWith (fun a b => a - b) o fit
      let q := (leastSquares 5 (List.zipWith (fun s e => ((List.range 5).map fun m => obsU s c m ^ 3, e)) l r)).getD [0, 0, 0, 0, 0]
      let num := dotQ r r
      let cen := o.map fun x => x - g.getD 5 0
      let ratio := num / dotQ cen cen
      let (nm, d1) := if num = 0 then d.freeVal 12
        else (tc 12 (decibel ratio.num.toNat ratio.den 12 (-2048)), d)
      let d2 := (d1.set F.TX_DPDSTAT_LOCKED k).wr F.TX_DPDSTAT_NMSE k nm
      let g0 := g.getD 0 0
      if g0 = 0 then d2
      else
        let s : Rat := -(d.rd F.TX_DPDCTL_STEP k : Rat) / 8 * (c.h1.getD 0 0 : Rat) / g0
        let dh3 := q.map fun x => s * x
        let dh1 := (List.range 5).map fun m => if d.on F.TX_DPDCTL_LINMEM k && m != 0 then s * g.getD m 0 else 0
        let dh := scale64 (dh1 ++ dh3)
        let sat := fun (x : Int) => clampI (-32768) 32767 x
        let d3 := iter 5 (fun m e =>
          (e.bgS ((F.TX_DPDH1_STG).at m) k (sat (c.h1.getD m 0 + dh.getD m 0))).bgS ((F.TX_DPDH3_STG).at m) k
            (sat (c.h3.getD m 0 + dh.getD (5 + m) 0))) d2
        (d3.inc F.TX_DPDSTAT_IDCNT k).txCmtReq k

/-- A lane whose DPD is identified: EN, IDEN and an active data path (R138). -/
def Dev.dpdLane (d : Dev) (k : Nat) : Bool :=
  d.domOn (dLTXD k) && d.on F.TX_DPDCTL_EN k && d.on F.TX_DPDCTL_IDEN k && (d.lane k).active

/-- When lane `k`'s next pass falls due: PERIOD · 0.25 s after the last one's start, at once where there was none since activation (R203). -/
def Dev.dpdDue (d : Dev) (k : Nat) : Nat :=
  match d.ws.dpdLast.getD k none with
  | none => 0
  | some t => t + max 1 (d.rd F.TX_DPDCTL_PERIOD k) * tickS / 4

/-- The lane whose pass is to start now: the one longest due, of several the lowest. -/
def Dev.dpdNext (d : Dev) : Option Nat :=
  (((List.range 8).filter fun k => d.dpdLane k && d.dpdDue k ≤ d.now).foldl (fun a k => match a with
    | none => some k
    | some j => if d.dpdDue k < d.dpdDue j then some k else some j) none)

/-- Sets up and starts the pass's next slice: the delay it searches, then the best delay and the phases 0, 4 … 60, then the best phase and
TX_CMTCNT before the samples that count. -/
def Dev.dpdSlice (d : Dev) (p : DpdPass) : Dev :=
  let k := p.lane
  let n := p.coarse.getD 0
  let found := fun (e : Dev) (f : Fld) (a : Option (Int × Rat)) (w : Nat) => match a with | some x => e.wr f k (tc w x.1) | none => e
  let d1 := match p.coarse with
    | none => d
    | some _ =>
      let d2 := if p.slice < n then d.wr F.TX_OBSLANE_DELAY k (Config.boardField ((d.conf (0x300 + k)).getD []) 11 + 16 * p.slice)
        else if p.slice = n then found d F.TX_OBSLANE_DELAY p.delay 14 else d
      if n ≤ p.slice && p.slice < n + 16 then d2.wr F.TX_OBSLANE_PHASE k (4 * (p.slice - n))
      else if p.slice = n + 16 then found d2 F.TX_OBSLANE_PHASE p.gain 6 else d2
  let first := p.slice = (match p.coarse with | none => 0 | some m => m + 16)
  (d1.mapWs fun w => { w with dpd := some (if first then { p with cnt := d1.rd F.TX_CMTCNT_COUNT k } else p) }).wr F.TX_OBSCTL_INPUT 0 k
    |>.obsStart

/-- The pass takes its slice and goes on to the next; after the last it discards itself when TX_CMTCNT has changed, else updates. -/
def Dev.dpdTake (d : Dev) (p : DpdPass) : Dev :=
  let k := p.lane
  let c := d.txCfg k
  let l := d.ws.obs.ents.filter fun s => !s.ovr
  let n := match p.coarse with | none => 0 | some m => m + 16
  let q := if p.slice < p.coarse.getD 0 then { p with delay := coarseBest c (d.lane k).tx.main (d.rd F.TX_OBSLANE_DELAY k) l p.delay }
    else if p.slice < n then { p with gain := better p.gain ((d.rd F.TX_OBSLANE_PHASE k : Nat), fineGain c l) }
    else { p with kept := p.kept ++ l }
  if p.slice + 1 < n + 16 then d.dpdSlice { q with slice := p.slice + 1 }
  else
    let d1 := d.mapWs fun w => { w with dpd := none }
    if d.rd F.TX_CMTCNT_COUNT k = p.cnt then d1.dpdUpdate k q.kept else d1

/-- DPD_PASS: the DPD task acts while the core runs. It starts the pass that is due, selecting the lane and, while LOCKED is 0, searching the
board entry's window DMIN to DMAX; and each time the pass's slice is done it takes it, to the end of the pass and its update. A lane
that is no longer identified ends its pass. -/
def execDpdPass (lane : Fin 8) : State → Host.Outcome State Fault Refusal := lift fun d =>
  let k := lane.val
  if !d.domOn dWHET || d.rd F.WS_STAT_STATE ≠ 1 || d.on F.TX_OBSSTAT_BUSY then d
  else match d.ws.dpd with
  | none =>
    if d.dpdNext ≠ some k then d
    else
      let e := (d.conf (0x300 + k)).getD []
      let i := Accessor.idx .ws
      let d1 := ((d.wr F.GLB_CHSEL_UNIT i 0).wr F.GLB_CHSEL_INDEX i k).mapWs fun w => { w with dpdLast := vset w.dpdLast k fun _ => some d.now }
      d1.dpdSlice { lane := k, coarse := if d.on F.TX_DPDSTAT_LOCKED k then none
                                         else some ((Config.boardField e 12 - Config.boardField e 11) / 16 + 1) }
  | some p =>
    if p.lane ≠ k then d
    else if !d.dpdLane k then d.mapWs fun w => { w with dpd := none }
    else if d.ws.obs.lane ≠ k then d.dpdSlice p
    else d.dpdTake p

/-! ## Commands -/

/-- Some field of the lane's shaping set is pinned. -/
def Dev.txPinned (d : Dev) (k : Nat) : Bool :=
  d.pinned F.TX_LEVEL_V1STG k || d.pinned F.TX_LEVEL_V3STG k ||
    ((List.range 9).any fun i => d.pinned ((F.TX_FFETAP_STG).at i) k) ||
    ((List.range 5).any fun m => d.pinned ((F.TX_DPDH1_STG).at m) k || d.pinned ((F.TX_DPDH3_STG).at m) k)

/-- LINE.TX.GET (Table 5-9). -/
def execLineTxGet (src : Src) (lane : Byte) : State → Host.Outcome State Fault Refusal := lift fun d =>
  d.kci src 0xA150 .q fun d =>
    let k := lane.toNat
    if 7 < k then .no .badParam
    else if !d.domOn (dLTXD k) then .no .notReady
    else
      .ok d (be 1 (d.rd F.TX_STAT_STATE k) ++
        be 1 (d.rd F.TX_CTL_INV k + 2 * d.rd F.TX_CTL_SQ k + 4 * d.rd F.TX_DPDCTL_EN k + 8 * d.rd F.TX_DPDCTL_IDEN k +
          16 * d.rd F.TX_DPDCTL_LINMEM k + 32 * d.rd F.TX_DPDSTAT_LOCKED k + 64 * b2n (d.txPinned k)) ++
        be 1 (d.rd F.TX_DAC_FS k) ++ be 1 (d.lane k).tx.main ++ be 1 (d.rd F.TX_LEVEL_V1ACT k) ++
        be 1 (d.rd F.TX_LEVEL_V3ACT k) ++ be 1 (d.rd F.TX_DPDCTL_STEP k) ++ be 1 (d.rd F.TX_DPDCTL_PERIOD k) ++
        ((List.range 9).flatMap fun i => be 2 (tc 16 (d.rdS ((F.TX_FFETAP_ACT).at i) k))) ++ zeros 2 ++
        ((List.range 5).flatMap fun m => be 2 (d.rd ((F.TX_DPDH1_ACT).at m) k)) ++
        ((List.range 5).flatMap fun m => be 2 (d.rd ((F.TX_DPDH3_ACT).at m) k)) ++
        be 2 (tc 16 (d.rdS F.TX_DPDSTAT_NMSE k)) ++ be 2 (d.rd F.TX_DPDSTAT_IDCNT k) ++ be 4 (d.rd F.TX_CLIPCNT_COUNT k) ++
        be 4 (d.rd F.LN_LATTX_LAT k))

/-- The shaping set firmware keeps for lane `k`: the last committed one, else the reset values (R129). -/
def Dev.txKept (d : Dev) (k : Nat) : List Nat :=
  if (d.lane k).tx.saved.isEmpty then
    [resetOf F.TX_LEVEL_V1STG k, resetOf F.TX_LEVEL_V3STG k] ++
      ((List.range 9).map fun i => resetOf ((F.TX_FFETAP_STG).at i) k) ++
      ((List.range 5).map fun m => resetOf ((F.TX_DPDH1_STG).at m) k) ++
      ((List.range 5).map fun m => resetOf ((F.TX_DPDH3_STG).at m) k)
  else (d.lane k).tx.saved

/-- The level a kept field of LINE.TX.SET stands for: its staged copy, or firmware's set while LTXDk is off. -/
def Dev.txLevel (d : Dev) (f : Fld) (i k : Nat) : Nat := if d.domOn (dLTXD k) then d.rd f k else (d.txKept k).getD i 0

/-- Stages a level, or puts it into firmware's set while LTXDk is off. -/
def Dev.txLevelPut (d : Dev) (f : Fld) (i k v : Nat) : Dev :=
  if v = 0xFF then d
  else if d.domOn (dLTXD k) then d.wr f k v
  else d.mapTx k fun x => { x with saved := (d.txKept k).set i v }

/-- LINE.TX.SET (Table 5-10): firmware keeps the values while LTXDk is off; otherwise the command completes at the boundary at
which the changes take effect. -/
def execLineTxSet (src : Src) (lane fs inv sq v1 v3 : Byte) : State → Host.Outcome State Fault Refusal := lift fun d =>
  d.kci src 0xA151 .c fun d =>
    let k := lane.toNat
    let dom := dLTXD k
    let r1 := keepOr v1.toNat 0xFF (d.txLevel F.TX_LEVEL_V1STG 0 k)
    let r3 := keepOr v3.toNat 0xFF (d.txLevel F.TX_LEVEL_V3STG 1 k)
    if 7 < k || !okKeep fs.toNat 63 || !okKeep inv.toNat 1 || !okKeep sq.toNat 1 || !okKeep v1.toNat 127 || !okKeep v3.toNat 127 ||
        r3 < r1 then .no .badParam
    else if (d.lane k).active && fs.toNat != 0xFF && fs.toNat != d.rd F.TX_DAC_FS k then .no .denied
    else
      let d1 := ((((d.cfgKeep dom F.TX_DAC_FS k fs.toNat 0xFF).cfgKeep dom F.TX_CTL_INV k inv.toNat 0xFF).cfgKeep dom F.TX_CTL_SQ k
        sq.toNat 0xFF).txLevelPut F.TX_LEVEL_V1STG 0 k v1.toNat).txLevelPut F.TX_LEVEL_V3STG 1 k v3.toNat
      let levels := v1.toNat != 0xFF || v3.toNat != 0xFF
      if !d.domOn dom then .ok d1 []
      else if levels then .hold (d1.txCmtReq k) (.txCommit k)
      else if fs.toNat != 0xFF || sq.toNat != 0xFF then .hold d1 (.txCommit k)
      else .ok d1 []

/-- LINE.TX.FFE.SET (Table 5-11). -/
def execLineTxFfeSet (src : Src) (lane main first count : Byte) (taps : List (BitVec 16)) :
    State → Host.Outcome State Fault Refusal := lift fun d =>
  d.kci src 0xA152 .c fun d =>
    let k := lane.toNat
    let n := count.toNat
    if 7 < k || !okKeep main.toNat 8 || 8 < first.toNat || 9 < first.toNat + n || taps.length ≠ n ||
        taps.any (fun t => t.toInt < -512 || 511 < t.toInt) then .no .badParam
    else if !d.domOn (dLTXD k) then .no .notReady
    else
      let d1 := d.cfgKeep (dLTXD k) F.TX_FFECTL_MAIN k main.toNat 0xFF
      let d2 := iter n (fun j e => e.wrS ((F.TX_FFETAP_STG).at (first.toNat + j)) k (taps.getD j 0).toInt) d1
      if n = 0 then .ok d2 [] else .hold (d2.txCmtReq k) (.txCommit k)

/-- LINE.TX.DPD.SET (Table 5-12): EN applies at the next boundary (R127), and LOAD = 1 commits all ten coefficients. -/
def execLineTxDpdSet (src : Src) (lane en iden linmem step period load : Byte) (h1 h3 : List (BitVec 16)) :
    State → Host.Outcome State Fault Refusal := lift fun d =>
  d.kci src 0xA153 .c fun d =>
    let k := lane.toNat
    let dom := dLTXD k
    if 7 < k || !okKeep en.toNat 1 || !okKeep iden.toNat 1 || !okKeep linmem.toNat 1 || !okKeep step.toNat 7 ||
        !okKeep period.toNat 240 || period.toNat = 0 || 1 < load.toNat || h1.length ≠ 5 || h3.length ≠ 5 then .no .badParam
    else if !d.domOn dom then .no .notReady
    else
      let d1 := ((((d.cfgKeep dom F.TX_DPDCTL_EN k en.toNat 0xFF).cfgKeep dom F.TX_DPDCTL_IDEN k iden.toNat 0xFF).cfgKeep dom
        F.TX_DPDCTL_LINMEM k linmem.toNat 0xFF).cfgKeep dom F.TX_DPDCTL_STEP k step.toNat 0xFF).cfgKeep dom F.TX_DPDCTL_PERIOD k
        period.toNat 0xFF
      if load.toNat = 0 then .ok d1 []
      else
        let d2 := iter 5 (fun m e => (e.wr ((F.TX_DPDH1_STG).at m) k (h1.getD m 0).toNat).wr ((F.TX_DPDH3_STG).at m) k
          (h3.getD m 0).toNat) d1
        .hold (d2.txCmtReq k) (.txCommit k)

end Sys2Proof.Machine
end

