-- ==== Sys2Proof/Machine/Front.lean ====
section
/-! DEFINITION. The receive front end (chapter 03): over-range and recovery, AGC, trims and their commits, the tap buffer, the
Whetstone's calibration visits (R202, R203), and the LINE.AFE and LINE.ADC commands. -/

namespace Sys2Proof.Machine

/-! ## Conversion (R68, R73, R75, R79) -/

/-- RANGE_FS of Table 3-2 in nV. -/
def rangeFs (range : Nat) : Nat := match range with | 0 => 300000000 | 1 => 400000000 | 2 => 550000000 | _ => 750000000

/-- Whether `x` times the VGA's gain of 10^(GAIN/160) is at least `y`, decided exactly by 160th powers. -/
def gainGe (gain : Nat) (x y : Int) : Bool :=
  if 0 ≤ x then y ≤ 0 || y.toNat ^ 160 ≤ x.toNat ^ 160 * 10 ^ gain
  else y < 0 && (-x).toNat ^ 160 * 10 ^ gain ≤ (-y).toNat ^ 160

/-- What a conversion depends on: RANGE, the VGA's GAIN, and the active gain, offset and skew trims. -/
structure Adc where
  range : Nat
  gain : Nat
  g : Int
  o : Int
  d : Int

/-- Whether the trimmed input, in LSB, is at least `n − 1/2`: (1 + g·2^-15)·(v + d·slope)·255/FS + o/64. -/
def Adc.reaches (a : Adc) (s : RxSample) (n : Int) : Bool :=
  gainGe a.gain (128 * 255 * (32768 + a.g) * (s.v + a.d * s.slope)) ((128 * n - 64 - 2 * a.o) * 32768 * (rangeFs a.range : Nat))

/-- Whether the trimmed input lies above +127.5 LSB. -/
def Adc.above (a : Adc) (s : RxSample) : Bool :=
  !gainGe a.gain (-(128 * 255 * (32768 + a.g) * (s.v + a.d * s.slope))) (-((128 * 128 - 64 - 2 * a.o) * 32768 * (rangeFs a.range : Nat)))

/-- The greatest code that the input reaches, by halving from −128 on. -/
def Adc.search (a : Adc) (s : RxSample) : Nat → Int → Int
  | 0, lo => lo
  | k + 1, lo => a.search s k (if a.reaches s (lo + 2 ^ k) then lo + 2 ^ k else lo)

/-- The conversion: the code, limited to ±127; OVR beyond ±127.5 LSB after the trims; HARD when the input itself exceeds FS (log entry
81). REC is the lane's. -/
def Adc.convert (a : Adc) (s : RxSample) : Conv :=
  let fs : Int := (rangeFs a.range : Nat)
  { code := max (-127) (a.search s 8 (-128)), ovr := a.above s || !a.reaches s (-127), recov := false
    hard := !gainGe a.gain (-s.v) (-fs) || !gainGe a.gain s.v (-fs) }

/-- Sub-ADC channel `ch` of lane `k` as set now. -/
def Dev.adc (d : Dev) (k ch : Nat) : Adc :=
  { range := d.rd F.SA_AFE_RANGE k, gain := d.rd F.SA_VGA_GAIN k, g := d.rdS F.SA_GAIN_ACT ch, o := d.rdS F.SA_OFFS_ACT ch
    d := d.rdS F.SA_SKEW_ACT ch }

/-! ## Recovering windows (R70, R74, R75, R78) -/

/-- The recovering window in UI per line rate mode, normal or hard-overdrive (Table 3-3). -/
def windowUis (lrm : Nat) (hard : Bool) : Nat :=
  match lrm with
  | 0 => if hard then 1084 else 271
  | 1 => if hard then 544 else 136
  | 2 => if hard then 512 else 128
  | _ => if hard then 256 else 64

/-- The window state of a lane while samples pass, and what they add to OVRCNT, RECCNT and HARDCNT. -/
structure Front where
  window : Nat
  hardWin : Bool
  hardEp : Bool
  ovrs : Nat := 0
  recs : Nat := 0
  hards : Nat := 0

/-- One sample passes: it carries REC inside a window or while the front end settles. An over-range or hard sample opens or restarts the
window; inside a hard-overdrive window the restart keeps that length (DESIGN CHOICE, log entry 84). -/
def Front.pass (f : Front) (lrm : Nat) (settling : Bool) (c : Conv) : Conv × Front :=
  let fresh := f.window == 0
  let hit := c.ovr || c.hard
  let long := c.hard || (!fresh && f.hardWin)
  let counted := !fresh && f.hardEp
  ({ c with recov := !fresh || settling },
   if hit then { window := windowUis lrm long, hardWin := long, hardEp := counted || c.hard, ovrs := f.ovrs + 1
                 recs := f.recs + b2n fresh, hards := f.hards + b2n (c.hard && !counted) }
   else { f with window := f.window - 1, hardEp := f.hardEp && f.window > 1 })

/-- A run of samples, each with its sub-ADC. -/
def Front.run (f : Front) (lrm : Nat) (settling inv : Bool) : List (Adc × RxSample) → List Conv × Front
  | [] => ([], f)
  | (a, s) :: t =>
    let (c, g) := f.pass lrm settling (a.convert s)
    let (l, h) := g.run lrm settling inv t
    ({ c with code := if inv then -c.code else c.code } :: l, h)

/-! ## Recording (R72, R87 to R89) -/

/-- Whether an entry's sample carries no flag. -/
def Conv.clean (c : Conv) : Bool := !c.ovr && !c.recov && !c.hard

/-- Whether MODE records a sample. -/
def Capture.wants (c : Capture) (e : TapEntry) : Bool :=
  match c.mode with
  | 1 => e.phase == c.phase
  | 2 => e.pilot
  | _ => true

/-- Whether a sample is the awaited trigger: over-range for OVR, the unflagged first symbol of a pilot cycle for CYCLE (R77, R89). -/
def Capture.triggers (c : Capture) (e : TapEntry) (cycle : Bool) : Bool :=
  match c.trig with
  | 1 => e.conv.ovr
  | 2 => cycle && e.conv.clean
  | _ => true

/-- One sample passes a capture. Until the trigger the last 4,096 entries are kept; the first entry from the trigger on is the trigger
entry, and TRIGPOS of those before it stay, or as many as there are (log entry 85); the capture is full at 4,096 entries. -/
def Capture.take (c : Capture) (e : TapEntry) (cycle : Bool) : Capture :=
  if c.done || (c.placed && 4096 ≤ c.ents.length) then c
  else
    let hit := c.hit || c.triggers e cycle
    if !c.wants e then { c with hit := hit }
    else if c.placed then { c with ents := c.ents ++ [e] }
    else if hit then { c with hit := true, placed := true, ents := c.ents.drop (c.ents.length - c.trigpos) ++ [e] }
    else { c with ents := (c.ents ++ [e]).drop (c.ents.length + 1 - 4096) }

/-- The lane's capture takes samples from data-path symbol `n` on (none outside a data path's frames or symbols), the first by phase
`ph`; while the front end settles an entry holds −128. -/
def Capture.takeAll (c : Capture) (cMode settling : Bool) : Nat → Option Nat → List Conv → Capture
  | _, _, [] => c
  | ph, n, v :: t =>
    let e : TapEntry := { n := n, conv := if settling then { v with code := -128 } else v, phase := ph
                          pilot := cMode && (match n with | some i => isPilot (i / 1088) (i % 1088) | none => false) }
    (c.take e (cMode && (match n with | some i => i % 8704 == 0 | none => false))).takeAll cMode settling ((ph + 1) % 64) (n.map (· + 1)) t

/-- Levels of consecutive symbols from number `n0` on have been decided: the entries of those symbols and of their neighbours learn
them. -/
def TapEntry.decided (e : TapEntry) (n0 : Nat) (levels : List Int) : TapEntry :=
  match e.n with
  | none => e
  | some i =>
    let at_ := fun (old : Option Int) (j : Nat) => if n0 + 1 ≤ j && j ≤ n0 + levels.length then levels[j - n0 - 1]? else old
    { e with dec := at_ e.dec (i + 1), prev := at_ e.prev i, next := at_ e.next (i + 2) }

/-- The word of Table 3-6. -/
def TapEntry.word (e : TapEntry) : Word32 :=
  BitVec.ofNat 32 (tc 8 e.conv.code + 256 * (match e.dec with | some a => valOf a | none => 0) + 1024 * b2n e.conv.ovr +
    2048 * b2n e.conv.recov + 4096 * b2n e.pilot + 8192 * b2n e.dec.isSome + 16384 * b2n e.conv.hard + 65536 * (e.phase % 64))

/-- Whether every decision the capture needs exists or never will (R88). -/
def Capture.full (c : Capture) : Bool :=
  c.placed && 4096 ≤ c.ents.length && c.ents.all fun e => e.n.isNone || e.dec.isSome

/-! ## Samples (R71 to R78) -/

/-- The data-path number of the next sample. -/
def RxLane.nextSymbol (x : RxLane) : Option Nat := if x.started then some (136 * x.words + x.part.length) else none

/-- Samples enter lane `k`: converted in phase order, flagged, inverted, counted, recorded by a capture; the first symbol of a marked frame is
stamped (R54). -/
def Dev.sample (d : Dev) (k : Nat) (l : List RxSample) : List Conv × Dev :=
  let x := (d.lane k).rx
  let settling := d.on F.SA_LSTAT_SETTLING k
  let adcs := l.zipIdx.map fun e => (d.adc k (64 * k + (x.ph + e.2) % 64), e.1)
  let (cs, f) := ({ window := x.window, hardWin := x.hardWin, hardEp := x.hardEp } : Front).run (d.lrm k) settling
    (d.on F.SA_LSTAT_INV k) adcs
  let n := x.nextSymbol
  let hit := fun (e : Dev) => if f.ovrs = 0 then e else (e.inc F.SA_OVRCNT_COUNT k f.ovrs).set F.SA_LSTAT_OVR k
  let d1 := (hit d).inc F.SA_RECCNT_COUNT k f.recs |>.inc F.SA_HARDCNT_COUNT k f.hards
  let d2 := if cs.any fun c => c.hard then d1.set F.SA_LSTAT_HARDOVR k else d1
  let d3 := d2.mapRx k fun r =>
    { r with window := f.window, hardWin := f.hardWin, hardEp := f.hardEp, ph := (r.ph + l.length) % 64
             tb := r.tb.map fun c => c.takeAll (d.isC k) settling x.ph n cs }
  (cs, match n with
    | some i => if i % 1088 = 0 && !l.isEmpty then d3.pilotStamp k (i / 1088) false else d3
    | none => d3)

/-- OVERRANGE_SAMPLE: one sample enters; in a data path it is the next of the word under way. -/
def execOverrangeSample (lane : Fin 8) (sample : RxSample) : State → Host.Outcome State Fault Refusal := lift fun d =>
  let k := lane.val
  let x := (d.lane k).rx
  if !d.domOn (dLADC k) || 136 ≤ x.part.length then d
  else
    let (cs, e) := d.sample k [sample]
    if x.started then e.mapRx k fun r => { r with part := r.part ++ cs } else e

/-- Whether every sample of the lane counts: a data path takes them in words, or a capture records them. -/
def RxLane.watched (x : RxLane) : Bool := x.started || (match x.tb with | some c => !c.done | none => false)

/-- REC_WINDOW_END: outside a data path and a capture, which see each sample, the rest of the window passes without over-range; the
window and its episode end. -/
def execRecWindowEnd (lane : Fin 8) : State → Host.Outcome State Fault Refusal := lift fun d =>
  let k := lane.val
  if (d.lane k).rx.watched then d
  else d.mapRx k fun r => { r with window := 0, hardWin := false, hardEp := false, ph := (r.ph + r.window) % 64 }

/-! ## The AGC (R69, R70) -/

/-- AGCTGT outside 64 to 120 acts as the nearer limit. -/
def agcTarget (v : Nat) : Nat := if v < 64 then 64 else satN 120 v

/-- AGC_STEP: with no data path active GAIN moves by at most one code towards the target, or holds at its end and sets AGCLIM. -/
def execAgcStep (lane : Fin 8) (outer : Nat) : State → Host.Outcome State Fault Refusal := lift fun d =>
  let k := lane.val
  if !d.domOn (dLADC k) || !d.on F.SA_AFE_AGCEN k || (d.lane k).active then d
  else
    let t := agcTarget (d.rd F.SA_AFE_AGCTGT k)
    let g := d.rd F.SA_VGA_GAIN k
    if outer < t then (if g < 96 then d.bg F.SA_VGA_GAIN k (g + 1) else d.set F.SA_LSTAT_AGCLIM k)
    else if t < outer then (if 0 < g then d.bg F.SA_VGA_GAIN k (g - 1) else d.set F.SA_LSTAT_AGCLIM k)
    else d

/-- A change of RANGE, PEAK or GAIN (R70): during an active data path 2 µs of settling start. -/
def Dev.afeChanged (d : Dev) (k : Nat) : Dev := if (d.lane k).active then d.set F.SA_LSTAT_SETTLING k else d

/-- AFE_SETTLE_END. -/
def execAfeSettleEnd (lane : Fin 8) : State → Host.Outcome State Fault Refusal := lift fun d =>
  (d.clr F.SA_LSTAT_SETTLING lane.val).settleWait (.afe lane.val) .ok []

/-! ## Trims and commits (R79 to R86) -/

/-- The staged and active fields of the three trims with their step limits: gain, offset, skew (Table 3-4). -/
def trimFields : List (Fld × Fld × Int) :=
  [(F.SA_GAIN_STG, F.SA_GAIN_ACT, 32), (F.SA_OFFS_STG, F.SA_OFFS_ACT, 8), (F.SA_SKEW_STG, F.SA_SKEW_ACT, 1)]

/-- A commit of one sub-ADC: each active trim moves towards its staged copy; a changed sub-ADC takes the boundary count. The
Boolean says whether some staged value is still unreached. -/
def Dev.commitPhase (d : Dev) (ch : Nat) (limited : Bool) (boundary : Nat) : Bool × Dev :=
  let go := fun (a : Bool × Bool × Dev) (t : Fld × Fld × Int) =>
    let s := d.rdS t.1 ch
    let v := d.rdS t.2.1 ch
    let n := if limited then v + clampI (-t.2.2) t.2.2 (s - v) else s
    (a.1 || n != s, a.2.1 || n != v, if n = v then a.2.2 else a.2.2.wrS t.2.1 ch n)
  let (left, changed, e) := trimFields.foldl go (false, false, d)
  (left, if changed then e.wr F.SA_LASTCMT_BOUNDARY ch boundary else e)

/-- The lane's active trims: gain, offset, skew of phases 0 to 63. -/
def Dev.activeTrims (d : Dev) (k : Nat) : List (Nat × Nat × Nat) :=
  (List.range 64).map fun p => (d.rd F.SA_GAIN_ACT (64 * k + p), d.rd F.SA_OFFS_ACT (64 * k + p), d.rd F.SA_SKEW_ACT (64 * k + p))

/-- A trim commit of the lane (R81, R82). -/
def Dev.trimCommit (d : Dev) (k boundary : Nat) : Dev :=
  let limited := (d.lane k).active
  let (left, e) := (List.range 64).foldl (fun (a : Bool × Dev) p =>
    let r := a.2.commitPhase (64 * k + p) limited boundary
    (a.1 || r.1, r.2)) (false, d)
  let e1 := (e.clr F.SA_LCTL_CMTREQ k).inc F.SA_CMTCNT_COUNT k
  let e2 := if left then (e1.set F.SA_LSTAT_CLAMPED k).inc F.SA_CLAMPCNT_COUNT k else e1
  e2.mapLane k fun l => { l with trims := e2.activeTrims k, rx := { l.rx with lastCmt := l.rx.freeBlocks } }

/-- Stages firmware's saved trims (R84). -/
def Dev.stageTrims (d : Dev) (k : Nat) : Dev :=
  ((d.lane k).trims.zipIdx).foldl (fun e t =>
    ((e.bg F.SA_GAIN_STG (64 * k + t.2) t.1.1).bg F.SA_OFFS_STG (64 * k + t.2) t.1.2.1).bg F.SA_SKEW_STG (64 * k + t.2) t.1.2.2) d

/-- Whether the targets of a LINE.ADC.TRIM.SET are reached, or restaged by a later writer; 65,536 marks a trim not selected. -/
def Dev.trimsReached (d : Dev) (ch : Nat) (targets : List Nat) : Bool :=
  (trimFields.zip targets).all fun e =>
    e.2 == 65536 || sx 16 e.2 == d.rdS e.1.2.1 ch || sx 16 e.2 != d.rdS e.1.1 ch

/-- The response of LINE.ADC.TRIM.SET. -/
def Dev.trimReply (d : Dev) (ch used : Nat) : List Byte :=
  be 2 (tc 16 (d.rdS F.SA_GAIN_ACT ch)) ++ be 2 (tc 16 (d.rdS F.SA_OFFS_ACT ch)) ++ be 2 (tc 16 (d.rdS F.SA_SKEW_ACT ch)) ++ be 2 used

/-- After a commit the waiting LINE.ADC.TRIM.SET commands of the lane count it and complete when their targets are reached. -/
def Dev.trimWaits (d : Dev) (k : Nat) : Dev :=
  let d1 := d.mapWait fun w => match w with
    | .trim j p g o s n => if j = k then .trim j p g o s (n + 1) else w
    | w => w
  d1.settle fun a => match a.wait with
    | .trim j p g o s n =>
      if j = k && d1.trimsReached (64 * k + p) [g, o, s] then some (.ok, d1.trimReply (64 * k + p) n) else none
    | _ => none

/-- Whether a LINE.ADC.TRIM.SET still waits for lane `k`. -/
def Dev.trimWaiting (d : Dev) (k : Nat) : Bool :=
  d.mgmt.outst.any fun a => match a.wait with | .trim j _ _ _ _ _ => j == k | _ => false

/-- Whether the calibration task wants a commit of lane `k`: a visit's first, or the residue CLAMPED shows (R86); none while the core does not
run (R205, R208). -/
def Dev.calWaiting (d : Dev) (k : Nat) : Bool :=
  let x := (d.lane k).rx
  d.rd F.WS_STAT_STATE 0 == 1 && x.calLeft != 0 && (x.calWant || d.on F.SA_LSTAT_CLAMPED k)

/-- The calibration task requests a commit: it clears CLAMPED first. -/
def Dev.calCommit (d : Dev) (k : Nat) : Dev :=
  ((d.clr F.SA_LSTAT_CLAMPED k).set F.SA_LCTL_CMTREQ k).mapRx k fun r => { r with calLeft := r.calLeft - 1, calWant := false }

/-- Whether a request now would commit less than 8,704 UI (8 boundaries) after the lane's last commit. -/
def RxLane.spaced (x : RxLane) : Bool := x.lastCmt == 0 || x.lastCmt + 8 ≤ x.freeBlocks + 1

/-- Firmware and the calibration task request their next commit once 8,704 UI have passed since the last. -/
def Dev.nextCommit (d : Dev) (k : Nat) : Dev :=
  if d.on F.SA_LCTL_CMTREQ k || !(d.lane k).rx.spaced then d
  else if d.calWaiting k then d.calCommit k
  else if d.trimWaiting k then d.set F.SA_LCTL_CMTREQ k
  else d

/-- A margin-histogram snapshot (R118); firmware takes it into its cache when it has asked for one (R321). -/
def Dev.histSnap (d : Dev) (k : Nat) : Dev :=
  let x := (d.lane k).rx
  let d1 := iter 16 (fun b e => e.wr ((F.DEC_HIST_COUNT).at b) k (x.bins.getD b 0)) d
  let d2 := (((d1.wr F.DEC_HFRM_COUNT k x.hfrm).inc F.DEC_STAT_HSEQ k).clr F.DEC_CTL_HSNAP k).mapRx k fun r =>
    { r with bins := List.replicate 16 0, hfrm := 0, snapped := true }
  d2.mapTel k fun t =>
    if t.snap then { t with bins := x.bins, hfrm := x.hfrm, hseq := d2.rd F.DEC_STAT_HSEQ k, snap := false } else t

/-- SA_COMMIT_BOUNDARY: a requested trim commit, then the receive changes that wait for a boundary (R95, R118, R120). The
boundary count is the frame number, the count from symbol 0, or the free-running count (SA_LASTCMT). -/
def execSaCommitBoundary (lane : Fin 8) : State → Host.Outcome State Fault Refusal := lift fun d =>
  let k := lane.val
  if !d.domOn (dLADC k) then d
  else
    let x := (d.lane k).rx
    let d1 := d.mapRx k fun r => { r with freeBlocks := r.freeBlocks + 1, blocks := if r.started then r.blocks + 1 else r.blocks }
    let n := if x.started then x.blocks + 1 else x.freeBlocks + 1
    let d2 := if d1.on F.SA_LCTL_CMTREQ k then (d1.trimCommit k n).trimWaits k else d1
    let d3 := d2.nextCommit k
    if !d3.domOn (dLRXD k) then d3
    else
      let d4 := d3.mapRx k fun r =>
        { r with bw := d3.rd F.LN_TRCTL_BW k, trfrz := d3.on F.LN_TRCTL_FREEZE k, twt := d3.rd F.DEC_CTL_TWT k
                 mth := d3.rd F.DEC_CTL_MTH k, hfrm := r.hfrm + 1 }
      let d5 := if d4.on F.DEC_CTL_HSNAP k then d4.histSnap k else d4
      if x.started && !d.isC k then d5.inc F.DEC_FRMCNT_COUNT k else d5

/-! ## The tap buffer (R87 to R92) -/

/-- The channel of an accessor's SA_TBCTL copy for lane `k`. -/
def tbCh (a : Accessor) (k : Nat) : Nat := Accessor.idx a + 8 * k

/-- Posts an accessor's request; one that is queued or capturing already is not posted again (R90). -/
def Dev.tbReq (d : Dev) (a : Accessor) (k : Nat) : Dev :=
  let x := (d.lane k).rx
  let busy := x.tbq.contains a || (match x.tb with | some c => c.owner == a && !c.done | none => false)
  let d1 := d.set F.SA_TBCTL_REQ (tbCh a k)
  if busy then d1 else d1.mapRx k fun r => { r with tbq := r.tbq ++ [a] }

/-- The buffer is free again; its entries stay. -/
def Dev.tbFree (d : Dev) (k : Nat) : Dev := (d.mapRx k fun r => { r with tb := none }).wr F.SA_TBSTAT_OWNER k 0

/-- RELEASE by an accessor: frees the buffer it holds, or withdraws its queued request (R91). REQ of a holder that has a further request
queued stays. -/
def Dev.tbRelease (d : Dev) (a : Accessor) (k : Nat) : Dev :=
  let x := (d.lane k).rx
  let holds := match x.tb with | some c => c.owner == a | none => false
  if holds then (if x.tbq.contains a then d else d.clr F.SA_TBCTL_REQ (tbCh a k)).tbFree k
  else if x.tbq.contains a then
    (d.clr F.SA_TBCTL_REQ (tbCh a k)).mapRx k fun r => { r with tbq := r.tbq.erase a }
  else d

/-- Writes tap-buffer entries from number `n` on. -/
def Dev.tbWrite (d : Dev) (k : Nat) : Nat → List Word32 → Dev
  | _, [] => d
  | n, w :: t => (d.wr ((F.SA_TBDATA_ENTRY).at n) k w.toNat).tbWrite k (n + 1) t

/-- Every entry of the lane's buffer. -/
def Dev.tbEntries (d : Dev) (k : Nat) : List Word32 :=
  (List.range 4096).map fun n => BitVec.ofNat 32 (d.rd ((F.SA_TBDATA_ENTRY).at n) k)

/-- Firmware posts the request of the oldest capture command that waits for lane `k`. -/
def Dev.fwCapture (d : Dev) (k : Nat) : Dev :=
  let p := d.mgmt.outst.findSome? fun a => match a.wait with
    | .capture j m ph t tp => if j = k then some (m, ph, t, tp) else none
    | .snap j m => if j = k then some (m, 0, 0, 0) else none
    | _ => none
  match p with
  | none => d
  | some (m, ph, t, tp) =>
    let c := tbCh .mgmt k
    ((((d.wr F.SA_TBCTL_MODE c m).wr F.SA_TBCTL_PHASE c ph).wr F.SA_TBCTL_TRIG c t).wr F.SA_TBCTL_TRIGPOS c tp).tbReq .mgmt k

/-- Firmware posts the oldest waiting capture unless it holds the lane's buffer or has a request queued. -/
def Dev.fwNext (d : Dev) (k : Nat) : Dev :=
  let busy := (d.lane k).rx.tbq.contains .mgmt ||
    (match (d.lane k).rx.tb with | some c => c.owner == .mgmt | none => false)
  if busy then d else d.fwCapture k

/-- A SNAP record of the lane's buffer and the SEQ it takes. -/
def Dev.snapRecord (d : Dev) (k : Nat) (l : List Word32) : Nat × Dev :=
  (d.pot.nextSeq, (d.record 3 0 (256 + k) (l.flatMap fun w => be 4 w.toNat)).dma 16416)

/-- A capture by firmware is complete: its copy or snapshot is made, its command answered, the buffer released, and the next
waiting capture posted (R92, R326). -/
def Dev.fwCaptured (d : Dev) (k : Nat) : Dev :=
  let l := d.tbEntries k
  let seq := d.rd F.SA_TBSTAT_SEQ k
  let count := d.rd F.SA_TBSTAT_COUNT k
  let trig := d.on F.SA_TBSTAT_TRIGGERED k
  let inv := d.on F.SA_TBSTAT_INV k
  let d0 := d.tbRelease .mgmt k
  let e := d0.mgmt.outst.find? fun a => match a.wait with
    | .capture j _ _ _ _ => j == k
    | .snap j _ => j == k
    | _ => false
  match e with
  | none => d0
  | some a =>
    let d1 := match a.wait with
      | .snap _ _ =>
        let (n, d2) := d0.snapRecord k l
        (d2.unlist a).respond a.src a.op .ok (be 8 n)
      | _ =>
        ((d0.unlist a).mapRx k fun r => { r with copy := some ⟨seq, trig, count, inv, l⟩ }).respond a.src a.op .ok
          (be 1 seq ++ be 1 (b2n trig) ++ be 2 count ++ be 1 (b2n inv) ++ zeros 3)
    d1.fwCapture k

/-- The capture in the lane's buffer completes: its entries and COUNT are in place, DONE sets, REQ of its accessor clears unless it has a further
request queued, and its owner acts. -/
def Dev.tbComplete (d : Dev) (k : Nat) (c : Capture) : Dev :=
  let l := c.ents.take 4096
  let d1 := (((d.tbWrite k 0 (l.map TapEntry.word)).wr F.SA_TBSTAT_COUNT k l.length).set F.SA_TBSTAT_DONE k).wr F.SA_TBSTAT_TRIGGERED k
    (b2n c.hit)
  let d2 := (if (d.lane k).rx.tbq.contains c.owner then d1 else d1.clr F.SA_TBCTL_REQ (tbCh c.owner k)).mapRx k fun r =>
    { r with tb := some { c with done := true, triggered := c.hit } }
  match c.owner with
  | .mgmt => d2.fwCaptured k
  | .ws => d2.mapWs fun w =>
      if h : k < 8 then { w with banks := w.banks.map fun b => b.wake (.tapDone ⟨k, h⟩) } else w
  | _ => d2

/-- TB_GRANT: the oldest request gets the free buffer. A PILOT capture or a CYCLE trigger without a C-mode data path completes at once with
COUNT = 0 (R88). TRIGGERED of an IMMED capture reads 1 from the grant on (DESIGN CHOICE, log entry 85). -/
def execTbGrant (lane : Fin 8) : State → Host.Outcome State Fault Refusal := lift fun d =>
  let k := lane.val
  let x := (d.lane k).rx
  match x.tb, x.tbq with
  | none, a :: rest =>
    if !d.domOn (dLADC k) then d
    else
      let c := tbCh a k
      let mode := d.rd F.SA_TBCTL_MODE c % 3
      let trig := d.rd F.SA_TBCTL_TRIG c % 3
      let never := (mode = 2 || trig = 2) && !d.isC k
      let immed := trig == 0 && !never
      let cap : Capture := { owner := a, mode := mode, trig := trig, phase := d.rd F.SA_TBCTL_PHASE c
                             trigpos := if immed then 0 else d.rd F.SA_TBCTL_TRIGPOS c, triggered := immed, done := false
                             hit := immed, placed := immed }
      let d1 := ((d.inc F.SA_TBSTAT_SEQ k).wr F.SA_TBSTAT_OWNER k (Accessor.idx a + 1)).wr F.SA_TBSTAT_COUNT k 0
      let d2 := ((d1.clr F.SA_TBSTAT_DONE k).wr F.SA_TBSTAT_TRIGGERED k (b2n immed)).wr F.SA_TBSTAT_INV k (d.rd F.SA_LSTAT_INV k)
      let d3 := d2.mapRx k fun r => { r with tb := some cap, tbq := rest }
      if never then d3.tbComplete k cap else d3
  | _, _ => d

/-- TB_TRIGGER: the awaited trigger of an armed capture has been sampled; TRIGGERED sets. -/
def execTbTrigger (lane : Fin 8) (cycle : Bool) : State → Host.Outcome State Fault Refusal := lift fun d =>
  let k := lane.val
  match (d.lane k).rx.tb with
  | some c =>
    if c.done || c.triggered || !c.hit || c.trig ≠ (if cycle then 2 else 1) then d
    else (d.set F.SA_TBSTAT_TRIGGERED k).mapRx k fun r => { r with tb := some { c with triggered := true } }
  | none => d

/-- TB_TRIG_TIMEOUT: 1 ms after its grant a capture without its trigger completes with the last 4,096 entries recorded. Every sample and every
visit of a phase comes far more often than that, so a CONT or PHASE capture with fewer is younger than 1 ms; a PILOT capture may have
met fewer pilots. -/
def execTbTrigTimeout (lane : Fin 8) : State → Host.Outcome State Fault Refusal := lift fun d =>
  let k := lane.val
  match (d.lane k).rx.tb with
  | some c => if c.done || c.hit || (c.mode ≠ 2 && c.ents.length < 4096) then d else d.tbComplete k c
  | none => d

/-- TB_DONE: the last entry's decision exists. -/
def execTbDone (lane : Fin 8) : State → Host.Outcome State Fault Refusal := lift fun d =>
  let k := lane.val
  match (d.lane k).rx.tb with
  | some c => if c.done || !c.full then d else d.tbComplete k c
  | none => d

/-- A capture under way ends with what it has recorded (R92); with `dead` the next position was not converted and holds −128. -/
def Dev.tbEnd (d : Dev) (k : Nat) (dead : Bool) : Dev :=
  let x := (d.lane k).rx
  match x.tb with
  | none => d
  | some c =>
    if c.done then d
    else d.tbComplete k (if dead then c.take ⟨none, ⟨-128, false, false, false⟩, false, x.ph, none, none, none⟩ false else c)

/-- LADCk is off: its capture ends, the requests queued for it are lost, and firmware's commands that wait for one are answered NOT_READY (log
entry 85). -/
def Dev.tbDead (d : Dev) (k : Nat) : Dev :=
  ((d.tbEnd k true).mapRx k fun r => { r with tbq := [] }).settle fun a => match a.wait with
    | .capture j _ _ _ _ => if j = k then some (.notReady, []) else none
    | .snap j _ => if j = k then some (.notReady, []) else none
    | _ => none

/-- TB_HOLD_TIMEOUT: 200 µs after DONE the buffer is released. -/
def execTbHoldTimeout (lane : Fin 8) : State → Host.Outcome State Fault Refusal := lift fun d =>
  let k := lane.val
  match (d.lane k).rx.tb with
  | some c => if c.done then d.tbFree k else d
  | none => d

/-! ## Calibration visits (R86, R99, R202, R203) -/

/-- The first eligible lane at or after lane `t`, round robin. -/
def Dev.calLane (d : Dev) (t : Nat) : Option Nat :=
  ((List.range 8).map fun i => (t + i) % 8).find? d.calEligible

/-- CAL_VISIT_START: a PHASE capture of the next lane's next phase is requested, at least GAP (no less than 20 µs) after the
previous visit's start and after its end. -/
def execCalVisitStart : State → Host.Outcome State Fault Refusal := lift fun d =>
  let gap := max 20 (d.rd F.WS_CALCFG_GAP)
  let early := match d.ws.lastVisit with | some t => d.now * 2 < t * 2 + gap * 3125 | none => false
  if !d.domOn dWHET || d.rd F.WS_STAT_STATE ≠ 1 || d.ws.visit.isSome || early then d
  else match d.calLane d.ws.turn with
    | none => d
    | some k =>
      let ph := d.rd F.WS_CALLANE_NEXTPH k
      let c := tbCh .ws k
      let d1 := (((d.wr F.SA_TBCTL_MODE c 1).wr F.SA_TBCTL_TRIG c 0).wr F.SA_TBCTL_PHASE c ph).tbReq .ws k
      d1.mapWs fun w => { w with visit := some { lane := Fin.ofNat 8 k, phase := ph, since := d.now }, lastVisit := some d.now, turn := (k + 1) % 8
                                 sweepStart := if w.sweepVisits = 0 then d.now else w.sweepStart }

/-- Sample less reference, and reference, of a decided entry in 2^-16 LSB: the reference is the level mean of its pilot level or decision
(R86). -/
def RxLane.calPoint (x : RxLane) (e : TapEntry) : Option (Int × Int) :=
  e.dec.map fun a => let r := x.mean (valOf a); (e.conv.code * 65536 - r, r)

/-- Residual and local slope of an entry, (next level − previous level)/2 scaled by the level estimate, both in 2^-16 LSB (R86). -/
def RxLane.slopePoint (x : RxLane) (e : TapEntry) : Option (Int × Int) :=
  match e.dec, e.prev, e.next with
  | some a, some p, some q => some (e.conv.code * 65536 - x.mean (valOf a), (x.mean (valOf q) - x.mean (valOf p)).fdiv 2)
  | _, _, _ => none

/-- One UI in fs, as a fraction (Table 2-1's bauds). -/
def uiFs (lrm : Nat) : Int × Nat :=
  match lrm with | 0 => (1280000, 289) | 1 => (2560000, 289) | 2 => (160000, 17) | _ => (320000, 17)

/-- The skew error in 1/256 fs, positive when the phase samples early: an early sample is low on a rising slope, so it is minus the
least-squares ratio of residual to slope, in UI (log entry 86). -/
def skewError (lrm : Nat) (pts : List (Int × Int)) : Int :=
  let ss := sumI (pts.map fun p => p.2 * p.2)
  let rs := sumI (pts.map fun p => p.1 * p.2)
  if ss ≤ 0 then 0 else rneDiv (-rs * 256 * (uiFs lrm).1) (ss * (uiFs lrm).2).toNat

/-- Offset and gain corrections in trim units, half to even: minus the mean residual in 1/64 LSB, and minus the regression
slope in 2^-15. -/
def calCorrections (pts : List (Int × Int)) : Int × Int :=
  let n : Int := pts.length
  let sr := sumI (pts.map fun p => p.1)
  let sx := sumI (pts.map fun p => p.2)
  let sxx := sumI (pts.map fun p => p.2 * p.2)
  let sxr := sumI (pts.map fun p => p.1 * p.2)
  let den := n * sxx - sx * sx
  (if n = 0 then 0 else rneDiv (-sr) (n * 1024).toNat, if den ≤ 0 then 0 else rneDiv (-(n * sxr - sx * sr) * 32768) den.toNat)

/-- Stages a corrected trim, limited to its field; a pinned field is skipped (R85). -/
def Dev.stageTrim (d : Dev) (stg act : Fld) (ch : Nat) (c : Int) : Dev :=
  d.bgS stg ch (clampI (-(2 ^ (stg.w - 1) : Nat)) ((2 ^ (stg.w - 1) : Nat) - 1) (d.rdS act ch + c))

/-- A visit is counted towards the sweep (R203). -/
def Dev.sweepCount (d : Dev) : Dev :=
  let n := 64 * ((List.range 8).filter d.calEligible).length
  let v := d.ws.sweepVisits + 1
  if n ≤ v then
    ((d.wr F.WS_CALSTAT_SWEEPMS 0 (satN 65535 ((d.now - d.ws.sweepStart) / tickMs))).inc F.WS_CALSTAT_SWEEPS).mapWs fun w =>
      { w with sweepVisits := 0 }
  else d.mapWs fun w => { w with sweepVisits := v }

/-- The corrections of a visit of lane `k`, phase `ph`, from the capture's clean entries: gain, offset, and the skew error less the mean of the
lane's 64 phases (R99), all staged together; the first commit is wanted. -/
def Dev.calStage (d : Dev) (k ph : Nat) (l : List TapEntry) : Dev :=
  let x := (d.lane k).rx
  let ch := 64 * k + ph
  let (o, g) := calCorrections (l.filterMap x.calPoint)
  let errs := setAt x.skew ph (skewError (d.lrm k) (l.filterMap x.slopePoint))
  let s := rneDiv (64 * errs.getD ph 0 - sumI errs) (64 * 256 * 25)
  (((d.stageTrim F.SA_GAIN_STG F.SA_GAIN_ACT ch g).stageTrim F.SA_OFFS_STG F.SA_OFFS_ACT ch o).stageTrim F.SA_SKEW_STG
    F.SA_SKEW_ACT ch s).mapRx k fun r => { r with calLeft := 8, calWant := true, skew := errs }

/-- CAL_VISIT_END (R203): the visit whose lane has left eligibility, or whose buffer was freed before it was read, stages nothing and NEXTPH stays;
otherwise, once the capture is done, corrections are staged, or THIN counts. -/
def execCalVisitEnd : State → Host.Outcome State Fault Refusal := lift fun d =>
  match d.ws.visit with
  | none => d
  | some v =>
    let k := v.lane.val
    let x := (d.lane k).rx
    let cap := x.tb.filter fun c => c.owner == .ws
    let leave := fun (e : Dev) => (e.tbRelease .ws k).mapWs fun w => { w with visit := none }
    if d.rd F.WS_STAT_STATE ≠ 1 then d
    else if v.void || !d.calEligible k then leave d
    else match cap with
    | none => if x.tbq.contains .ws then d else leave d
    | some c =>
      if !c.done then d
      else
        let l := c.ents.filter fun e => e.conv.clean
        let d1 := (leave d).wr F.WS_CALLANE_NEXTPH k ((v.phase + 1) % 64)
        if l.length < 1024 then (d1.inc F.WS_CALSTAT2_THIN).sweepCount
        else ((d1.calStage k v.phase l).inc F.WS_CALLANE_VISITS k).nextCommit k |>.sweepCount

/-! ## Commands -/

/-- SA_LSTAT[7:0]. -/
def Dev.lstat (d : Dev) (k : Nat) : Nat := d.regWord 0x2000C k % 256

/-- LINE.AFE.GET (Table 3-9). -/
def execLineAfeGet (src : Src) (lane : Byte) : State → Host.Outcome State Fault Refusal := lift fun d =>
  d.kci src 0xA130 .q fun d =>
    let k := lane.toNat
    if 7 < k then .no .badParam
    else
      let on := d.domOn (dLADC k)
      let g := fun (f : Fld) => be 1 (if on then d.rd f k else d.fwGet f k)
      .ok d (g F.SA_AFE_RANGE ++ g F.SA_AFE_PEAK ++ g F.SA_AFE_AGCEN ++ g F.SA_AFE_AGCTGT ++ g F.SA_VGA_GAIN ++
        be 1 (if on then d.lstat k else 0))

/-- LINE.AFE.SET (Table 3-10): GAIN is used when AGCEN = 0; the command waits for settling under way. -/
def execLineAfeSet (src : Src) (lane range peak agcen agctgt gain : Byte) :
    State → Host.Outcome State Fault Refusal := lift fun d =>
  d.kci src 0xA131 .c fun d =>
    let k := lane.toNat
    let dom := dLADC k
    let cur := fun (f : Fld) => if d.domOn dom then d.rd f k else d.fwGet f k
    let differs := fun (f : Fld) (v : Byte) => v.toNat != 0xFF && v.toNat != cur f
    if 7 < k || !okKeep range.toNat 3 || !okKeep peak.toNat 15 || !okKeep agcen.toNat 1 || !okKeep gain.toNat 96 ||
        !(agctgt.toNat = 0xFF || (64 ≤ agctgt.toNat && agctgt.toNat ≤ 120)) then .no .badParam
    else if (d.lane k).active && (differs F.SA_AFE_RANGE range || differs F.SA_AFE_PEAK peak || differs F.SA_VGA_GAIN gain) then
      .no .denied
    else
      let d1 := (((d.cfgKeep dom F.SA_AFE_RANGE k range.toNat 0xFF).cfgKeep dom F.SA_AFE_PEAK k peak.toNat 0xFF).cfgKeep dom
        F.SA_AFE_AGCEN k agcen.toNat 0xFF).cfgKeep dom F.SA_AFE_AGCTGT k agctgt.toNat 0xFF
      let d2 := if keepOr agcen.toNat 0xFF (cur F.SA_AFE_AGCEN) = 0 then d1.cfgKeep dom F.SA_VGA_GAIN k gain.toNat 0xFF else d1
      if d.on F.SA_LSTAT_SETTLING k then .hold d2 (.afe k) else .ok d2 []

/-- One entry of LINE.ADC.TRIM.GET (Table 3-12). -/
def Dev.trimEntry (d : Dev) (ch : Nat) : List Byte :=
  let fl := b2n (d.pinned F.SA_GAIN_STG ch) + 2 * b2n (d.pinned F.SA_OFFS_STG ch) + 4 * b2n (d.pinned F.SA_SKEW_STG ch) +
    8 * b2n (trimFields.any fun t => d.rd t.1 ch != d.rd t.2.1 ch)
  be 2 (tc 16 (d.rdS F.SA_GAIN_ACT ch)) ++ be 2 (tc 16 (d.rdS F.SA_OFFS_ACT ch)) ++ be 2 (tc 16 (d.rdS F.SA_SKEW_ACT ch)) ++
    be 1 fl ++ be 1 0

/-- LINE.ADC.TRIM.GET (Table 3-11). -/
def execLineAdcTrimGet (src : Src) (lane first count : Byte) : State → Host.Outcome State Fault Refusal := lift fun d =>
  d.kci src 0xA132 .q fun d =>
    let k := lane.toNat
    let n := count.toNat
    if 7 < k || n = 0 || (if srcRoom src = 118 then 14 else 64) < n || 64 < first.toNat + n then .no .badParam
    else if !d.domOn (dLADC k) then .no .notReady
    else .ok d ((List.range n).flatMap fun i => d.trimEntry (64 * k + first.toNat + i))

/-- LINE.ADC.TRIM.SET (Table 3-13): the selected targets are staged and committed until they are reached. -/
def execLineAdcTrimSet (src : Src) (lane phase which : Byte) (gain offs skew : BitVec 16) :
    State → Host.Outcome State Fault Refusal := lift fun d =>
  d.kci src 0xA133 .c fun d =>
    let k := lane.toNat
    let sel := fun (i : Nat) (v : BitVec 16) (lo hi : Int) => !which.toNat.testBit i || (lo ≤ v.toInt && v.toInt ≤ hi)
    let t := fun (i : Nat) (v : BitVec 16) => if which.toNat.testBit i then v.toNat else 65536
    if 7 < k || 63 < phase.toNat || 7 < which.toNat || !sel 0 gain (-2048) 2047 || !sel 1 offs (-512) 511 ||
        !sel 2 skew (-256) 255 then .no .badParam
    else if !d.domOn (dLADC k) then .no .notReady
    else
      let ch := 64 * k + phase.toNat
      let put := fun (e : Dev) (i : Nat) (f : Fld) (v : BitVec 16) => if which.toNat.testBit i then e.wrS f ch v.toInt else e
      let d1 := put (put (put d 0 F.SA_GAIN_STG gain) 1 F.SA_OFFS_STG offs) 2 F.SA_SKEW_STG skew
      let targets := [t 0 gain, t 1 offs, t 2 skew]
      if d1.trimsReached ch targets then .ok d1 (d1.trimReply ch 0)
      else .hold (d1.set F.SA_LCTL_CMTREQ k) (.trim k phase.toNat (t 0 gain) (t 1 offs) (t 2 skew) 0)

/-- LINE.ADC.CAPTURE (Table 3-15): completes at DONE, once firmware has its copy. -/
def execLineAdcCapture (src : Src) (lane mode phase trig : Byte) (trigpos : BitVec 16) :
    State → Host.Outcome State Fault Refusal := lift fun d =>
  d.kciThen src 0xA134 .c (fun d =>
    let k := lane.toNat
    if 7 < k || 2 < mode.toNat || 63 < phase.toNat || 2 < trig.toNat || 4095 < trigpos.toNat ||
        ((mode.toNat = 2 || trig.toNat = 2) && !d.isC k) then .no .badParam
    else if !d.domOn (dLADC k) then .no .notReady
    else .hold d (.capture k mode.toNat phase.toNat trig.toNat trigpos.toNat)) 0 0 fun e => e.fwNext lane.toNat

/-- LINE.ADC.READ (Table 3-17). -/
def execLineAdcRead (src : Src) (lane seq : Byte) (first count : BitVec 16) :
    State → Host.Outcome State Fault Refusal := lift fun d =>
  d.kci src 0xA135 .q fun d =>
    let n := count.toNat
    match (d.lane lane.toNat).rx.copy with
    | none => .no .badParam
    | some c =>
      if 7 < lane.toNat || n = 0 || (if srcRoom src = 118 then 29 else 128) < n || 4096 < first.toNat + n ||
          c.seq ≠ seq.toNat then .no .badParam
      else .ok d (((c.entries.drop first.toNat).take n).flatMap fun w => be 4 w.toNat)

/-- LINE.ADC.STAT.GET (Table 3-18). -/
def execLineAdcStatGet (src : Src) (lane : Byte) : State → Host.Outcome State Fault Refusal := lift fun d =>
  d.kci src 0xA136 .q fun d =>
    let k := lane.toNat
    if 7 < k then .no .badParam
    else if !d.domOn (dLADC k) then .no .notReady
    else .ok d (be 4 (d.rd F.SA_OVRCNT_COUNT k) ++ be 4 (d.rd F.SA_RECCNT_COUNT k) ++ be 4 (d.rd F.SA_HARDCNT_COUNT k) ++
      be 4 (d.rd F.SA_CMTCNT_COUNT k) ++ be 4 (d.rd F.SA_CLAMPCNT_COUNT k) ++ be 1 (d.lstat k))

end Sys2Proof.Machine
end

