-- ==== Sys2Proof/Machine/Host.lean ====
section
/-! DEFINITION. Host lanes (chapter 06): output states, equalisation and the board table, slips, and the HOST commands. -/

namespace Sys2Proof.Machine

/-- W_c of a line rate mode (Table 6-1). -/
def wordUis (lrm : Nat) : Nat := match lrm with | 0 => 64 | 1 => 128 | _ => 136

/-- Whether host lane `n` is used by a selected data path. -/
def Dev.hostUsed (d : Dev) (n : Nat) : Bool := d.paths.any fun p => p.hosts.contains n

/-- The path of the lane that owns host lane `n`, when its data path is active there and uses the host lane. -/
def Dev.hostPath (d : Dev) (n : Nat) : Option Path :=
  match d.pathOf (n / 2) with
  | some p => if (d.lane (n / 2)).active && p.hosts.contains n then some p else none
  | none => none

/-- The output state a host transmit lane belongs in (Table 6-5, R159, R176, R433); pattern outputs keep theirs. -/
def Dev.hostTarget (d : Dev) (n : Nat) : Nat :=
  if d.on F.HL_CTL_IDLE n then 0
  else match d.hostPath n with
    | none => 0
    | some p =>
      if p.mode = 12 && p.outputs.testBit 0 then 3
      else if p.mode = 11 then (d.host n).state
      else if (d.lane (n / 2)).rx.started then (if (d.host n).lolIdle then 0 else 2)
      else b2n (d.on F.HL_CTL_FILL n)

/-- Puts both host transmit lanes of lane `k` into their states. -/
def Dev.fixHosts (d : Dev) (k : Nat) : Dev :=
  (d.hostState (2 * k) (d.hostTarget (2 * k))).hostState (2 * k + 1) (d.hostTarget (2 * k + 1))

/-- LOCK of the line lane clears: DATA lanes with LOLACT = 1 enter IDLE (R159). -/
def Dev.hostLol (d : Dev) (k : Nat) : Dev :=
  let go := fun (e : Dev) (n : Nat) =>
    if (e.host n).state = 2 && e.on F.HL_CTL_LOLACT n then e.mapHost n fun h => { h with lolIdle := true } else e
  (go (go d (2 * k)) (2 * k + 1)).fixHosts k

/-- LOCK sets again, or training starts anew: the lanes held for it return. -/
def Dev.hostUnlol (d : Dev) (k : Nat) : Dev :=
  let go := fun (e : Dev) (n : Nat) => e.mapHost n fun h => { h with lolIdle := false }
  (go (go d (2 * k)) (2 * k + 1)).fixHosts k

/-! ## The board table and equalisation (R146 to R149) -/

/-- A valid host-lane row: 32 bytes with every field in its range (Table 6-2). -/
def rowValid (l : List Byte) : Bool :=
  l.length == 32 && (l.headD 0).toNat ≤ 7 && ((bytesAt l 1 16).all fun b => b.toNat ≤ 15) && fieldAt l 17 1 ≤ 15 &&
    fieldAt l 18 1 ≤ 31 && fieldAt l 19 1 ≤ 31

/-- The default row of Table 6-2. -/
def rowDefault : List Byte :=
  [0, 0, 1, 2, 3, 4, 5, 6, 7, 0, 1, 2, 3, 4, 5, 6, 7, 6, 16, 0] ++ zeros 12

/-- The row firmware uses for host lane `n`, and whether it is the default. -/
def Dev.hostRow (d : Dev) (n : Nat) : List Byte × Bool :=
  match d.conf (0x100 + n) with
  | some l => if rowValid l then (l, false) else (rowDefault, true)
  | none => (rowDefault, true)

/-- The receiver starts from its base, which it keeps with ADAPT until the next start (R147, R149); with ADAPT = 0, CTLE takes the CMIS
fixed target. -/
def Dev.hostStart (d : Dev) (n : Nat) : Dev :=
  let ad := d.on F.HL_CTL_ADAPT n
  let b := [d.rd F.HL_RXBASE_CTLE n, d.rd F.HL_RXBASE_VGA n, d.rd F.HL_RXBASE_DFE1 n]
  let c := if ad then b.getD 0 0 else d.mgmt.fixedTarget.getD n 0
  (((d.bg F.HL_RXEQ_CTLE n c).bg F.HL_RXEQ_VGA n (b.getD 1 0)).bg F.HL_RXEQ_DFE1 n (b.getD 2 0)).mapHost n fun h =>
    { h with base := b, adapting := ad }

/-- Receive changes apply at once on a host lane without an active data path (R149). -/
def Dev.hostApply (d : Dev) (n : Nat) : Dev := if (d.hostPath n).isNone && d.domOn (dHRX n) then d.hostStart n else d

/-- The configuration a row of host lane `n` gives, written by `put` with each field's domain: PRE2, PRE1 and POST1 for the CMIS codes in
force, and the receive base. -/
def Dev.rowCfg (d : Dev) (n : Nat) (l : List Byte) (put : Dev → Nat → Fld → Nat → Dev) : Dev :=
  let h := d.host n
  let f := fun (o : Nat) => fieldAt l o 1
  let d1 := put (put (put d (dHTX n) F.HL_TXEQ_PRE2 (f 0)) (dHTX n) F.HL_TXEQ_PRE1 (f (1 + h.preCode))) (dHTX n) F.HL_TXEQ_POST1
    (f (9 + h.postCode))
  put (put (put d1 (dHRX n) F.HL_RXBASE_CTLE (f 17)) (dHRX n) F.HL_RXBASE_VGA (f 18)) (dHRX n) F.HL_RXBASE_DFE1 (f 19)

/-- HL_STAT.DEFTAB shows whether the row in use is the default. -/
def Dev.putDeftab (d : Dev) (n : Nat) : Dev :=
  if d.domOn (dHRX n) then d.wr F.HL_STAT_DEFTAB n (b2n (d.hostRow n).2) else d

/-- Firmware takes the row of host lane `n` into use when it has changed (R148). -/
def Dev.readRow (d : Dev) (n : Nat) : Dev :=
  let l := (d.hostRow n).1
  let d0 := d.putDeftab n
  if (d.host n).row = l then d0
  else ((d0.rowCfg n l fun e dom f v => e.cfg dom f n v).mapHost n fun x => { x with row := l }).hostApply n

/-- Firmware reads the row when MGMT starts (R148). The registers of a domain that is on hold the configuration it rebuilds from them
(R429); the row is for the domains that are off. -/
def Dev.bootRow (d : Dev) (n : Nat) : Dev :=
  let l := (d.hostRow n).1
  ((d.putDeftab n).rowCfg n l fun e dom f v => if e.domOn dom then e else e.fwPut f n v).mapHost n fun x => { x with row := l }

/-- A CMIS equalisation write (R146, R147, R149). -/
def Dev.cmisEq (d : Dev) (n : Nat) : EqWrite → Dev
  | .amp c => d.cfg (dHTX n) F.HL_TXEQ_AMP n c.val
  | .pre c => (d.mapHost n fun h => { h with preCode := c.val }).cfg (dHTX n) F.HL_TXEQ_PRE1 n (fieldAt (d.hostRow n).1 (1 + c.val) 1)
  | .post c => (d.mapHost n fun h => { h with postCode := c.val }).cfg (dHTX n) F.HL_TXEQ_POST1 n (fieldAt (d.hostRow n).1 (9 + c.val) 1)
  | .adapt on => (d.cfg (dHRX n) F.HL_CTL_ADAPT n (b2n on)).hostApply n
  | .fixedTarget c => (d.mapMgmt fun m => { m with fixedTarget := vset m.fixedTarget n fun _ => c.val }).hostApply n

/-- Adaptation has moved a value to somewhere within its base ±2, clipped to the field (R147): a free value; at a limit ADLIM
may have been set. -/
def Dev.adaptField (d : Dev) (base : Nat) (eq : Fld) (n : Nat) : Dev :=
  let (v, d1) := d.freeVal 16
  let b : Int := base
  let x := clampI 0 ((2 ^ eq.w - 1 : Nat) : Int) (b - 2 + ((v % 5 : Nat) : Int))
  let d2 := d1.bgS eq n x
  if v % 5 = 0 || v % 5 = 4 then (if 5 ≤ v then d2.set F.HL_STAT_ADLIM n else d2) else d2

/-- Adaptation of a host lane with its CDR locked, the background writer of HL_RXEQ (R20, R147), when the lane started with ADAPT = 1. It
updates at acquisition and at every transmit commit boundary (log entry 76). -/
def Dev.hostAdapt (d : Dev) (n : Nat) : Dev :=
  let h := d.host n
  if h.adapting && d.on F.HL_STAT_CDRLOCK n then
    ((d.adaptField (h.base.getD 0 0) F.HL_RXEQ_CTLE n).adaptField (h.base.getD 1 0) F.HL_RXEQ_VGA n).adaptField (h.base.getD 2 0)
      F.HL_RXEQ_DFE1 n
  else d

/-- The host receivers of lane `k` adapt while its data path is active. -/
def Dev.adaptHosts (d : Dev) (k : Nat) : Dev :=
  [2 * k, 2 * k + 1].foldl (fun e n => if (e.hostPath n).isSome then e.hostAdapt n else e) d

/-! ## What the host transmit lanes send (R146, R153, R158) -/

/-- Decoded payload bits reach the host transmit lanes of lane `k` that are in DATA: in C225 they alternate, bit 0 to host lane 2k and bit
1 to 2k + 1 (R153); otherwise all go to 2k. Two bits are a symbol, the first the MSB. -/
def Dev.hostPayload (d : Dev) (k : Nat) (bits : List Bool) : Dev :=
  let part := fun (h : Nat) => if d.lrm k = 0 then (bits.zipIdx.filter fun e => e.2 % 2 == h).map (·.1) else bits
  (hostsOfLane (d.lrm k) k).foldl (fun e n =>
    if (e.host n).state ≠ 2 then e
    else
      let q := (e.host n).bits ++ part (n % 2)
      (e.mapHost n fun h => { h with bits := q.drop (q.length / 2 * 2) }).hostSend n (mapSyms (q.take (q.length / 2 * 2)))) d

/-- One datapath clock of FILL: W_c symbols of PRBS31Q (R145, R158). -/
def Dev.hostFill (d : Dev) (n : Nat) : Dev :=
  if (d.host n).state ≠ 1 then d
  else
    let r := genRun 5 1 0 0 (wordUis (d.lrm (n / 2))) { lfsr := (d.host n).fill }
    (d.mapHost n fun h => { h with fill := r.2.lfsr }).hostSend n r.1

/-- What a host lane of lane `k` received since the last transmit commit boundary goes back out in LOOP (R160). -/
def Dev.hostLoop (d : Dev) (k : Nat) (even : BitVec 2176) (odd : BitVec 1024) : Dev :=
  let n := if d.lrm k = 0 then 1024 else if d.lrm k = 1 then 2048 else 2176
  let back := fun (e : Dev) (h : Nat) (l : List Bool) => if (e.host h).state = 3 then e.hostSend h (mapSyms l) else e
  back (back d (2 * k) ((List.range n).map even.getLsbD)) (2 * k + 1) ((List.range 1024).map odd.getLsbD)

/-! ## Loss, slip and realignment (R155 to R157) -/

/-- Host lane `n` drives the transmit rotator of its lane: host lane 2k of a lane whose transmit chain takes the host's traffic (R121); none
in A11 (R240) and in loopback (R433). -/
def Dev.rotates (d : Dev) (n : Nat) : Bool :=
  n % 2 == 0 && match d.hostPath n with | some p => p.mode != 11 && p.mode != 12 | none => false

/-- Table 1-6: the nominal transmit and receive latency of a line rate mode in fs. -/
def latNominal (lrm : Nat) : Nat × Nat :=
  match lrm with
  | 0 => (58400000, 168600000)
  | 1 => (83100000, 279000000)
  | 2 => (44900000, 71300000)
  | _ => (61200000, 118500000)

/-- A latency within ±0.2 ns of its nominal value (R32): a measured value is held to that band. -/
def latBand (nominal v : Nat) : Nat := max (nominal - 200000) (min (nominal + 200000) v)

/-- A transmit latency of a line rate mode. -/
def latTx (lrm v : Nat) : Nat := latBand (latNominal lrm).1 v

/-- A receive latency of a line rate mode. -/
def latRx (lrm v : Nat) : Nat := latBand (latNominal lrm).2 v

/-- HL_LATTX of host lane 2k + 1: LN_LATTX plus less than one host UI of 106.25 GBd, 9,411 fs (R152). -/
def latOdd (even v : Nat) : Nat := max even (min (even + 9411) v)

/-- Sets a host lane's alignment: φ, PAD := W_c − 1 − φ, ALIGNED (R151). -/
def Dev.hostPad (d : Dev) (n lrm phi : Nat) : Dev :=
  let w := wordUis lrm
  ((d.wr F.HL_ALIGN_PHASE n (phi % w)).wr F.HL_ALIGN_PAD n (w - 1 - phi % w)).set F.HL_STAT_ALIGNED n

/-- HOST_CDR_LOSS: the rotator holds; LOSS sets and is counted. Whether a signal is still there is not known (a free value). -/
def execHostCdrLoss (hlane : Fin 16) : State → Host.Outcome State Fault Refusal := lift fun d =>
  let n := hlane.val
  if (d.hostPath n).isNone || !d.on F.HL_STAT_CDRLOCK n then d
  else
    let (sig, d1) := d.freeVal 1
    ((((d1.clr F.HL_STAT_CDRLOCK n).clr F.HL_STAT_TXLOCK n).wr F.HL_STAT_SIGDET n sig).set F.HL_STAT_LOSS n).inc
      F.HL_SLIPCNT_LOSSCNT n |>.mapHost n fun h => { h with lost := true }

/-- HOST_CDR_RETURN: the rotator is steered back to its locked phase. -/
def execHostCdrReturn (hlane : Fin 16) : State → Host.Outcome State Fault Refusal := lift fun d =>
  let n := hlane.val
  if (d.hostPath n).isNone || !(d.host n).lost then d
  else
    let d1 := ((d.set F.HL_STAT_CDRLOCK n).set F.HL_STAT_SIGDET n).mapHost n fun h => { h with lost := false }
    if d1.rotates n then d1.set F.HL_STAT_TXLOCK n else d1

/-- HOST_SLIP: the host lane is realigned alone; its latency reads 0 meanwhile, as does the lane's for host lane 2k. -/
def execHostSlip (hlane : Fin 16) : State → Host.Outcome State Fault Refusal := lift fun d =>
  let n := hlane.val
  if (d.hostPath n).isNone || !d.on F.HL_STAT_ALIGNED n then d
  else
    let d1 := (((d.set F.HL_STAT_SLIP n).inc F.HL_SLIPCNT_SLIPCNT n).clr F.HL_STAT_ALIGNED n).wr F.HL_LATTX_LAT n 0
    let d2 := d1.mapHost n fun h => { h with realign := true }
    if n % 2 = 0 then d2.wr F.LN_LATTX_LAT (n / 2) 0 else d2

/-- HOST_REALIGN_DONE: the pad is set again and the latency restored, unless the lane trains (R152). -/
def execHostRealignDone (hlane : Fin 16) (phi lat : Nat) : State → Host.Outcome State Fault Refusal := lift fun d =>
  let n := hlane.val
  match d.hostPath n with
  | none => d
  | some p =>
    if !(d.host n).realign || !d.on F.HL_STAT_CDRLOCK n then d
    else
      let d1 := (d.hostPad n p.lrm phi).mapHost n fun h => { h with realign := false }
      if d1.on F.LN_STAT_TRAINING (n / 2) || d1.farLoop (n / 2) then d1
      else if n % 2 = 0 then
        let v := latTx p.lrm lat
        let odd := d1.rd F.HL_LATTX_LAT (n + 1)
        ((d1.wr F.HL_LATTX_LAT n v).wr F.LN_LATTX_LAT (n / 2) v).wr F.HL_LATTX_LAT (n + 1) (if odd = 0 then 0 else latOdd v odd)
      else
        let even := d1.rd F.HL_LATTX_LAT (n - 1)
        d1.wr F.HL_LATTX_LAT n (latOdd (if even = 0 then latTx p.lrm lat else even) lat)

/-! ## Commands -/

/-- HOST.STAT.GET (Table 6-6). -/
def execHostStatGet (src : Src) (hlane : Byte) : State → Host.Outcome State Fault Refusal := lift fun d =>
  d.kci src 0xA200 .q fun d =>
    let n := hlane.toNat
    if 15 < n then .no .badParam
    else .ok d (be 2 (d.regWord 0x30004 n) ++ be 1 (d.rd F.HL_STAT_RATE n) ++ be 1 (d.host n).state ++
      be 1 (d.rd F.HL_ALIGN_PHASE n) ++ be 1 (d.rd F.HL_ALIGN_PAD n) ++ be 2 (d.rd F.HL_SLIPCNT_SLIPCNT n) ++
      be 2 (d.rd F.HL_SLIPCNT_LOSSCNT n) ++ zeros 2 ++ be 4 (d.rd F.HL_LATTX_LAT n))

/-- A configured field of host lane `n`: the register, or firmware's copy while its domain is off. -/
def Dev.hostCfg (d : Dev) (dom : Nat) (f : Fld) (n : Nat) : Nat := if d.domOn dom then d.rd f n else d.fwGet f n

/-- The equalisation fields of HL_TXEQ, HL_RXBASE and HL_RXEQ. -/
def hostEqFields : List Fld :=
  [F.HL_TXEQ_PRE2, F.HL_TXEQ_PRE1, F.HL_TXEQ_POST1, F.HL_TXEQ_AMP, F.HL_RXBASE_CTLE, F.HL_RXBASE_VGA, F.HL_RXBASE_DFE1,
   F.HL_CTL_ADAPT, F.HL_RXEQ_CTLE, F.HL_RXEQ_VGA, F.HL_RXEQ_DFE1]

/-- HOST.EQ.GET (Table 6-7). -/
def execHostEqGet (src : Src) (hlane : Byte) : State → Host.Outcome State Fault Refusal := lift fun d =>
  d.kci src 0xA201 .q fun d =>
    let n := hlane.toNat
    if 15 < n then .no .badParam
    else
      let tx := fun (f : Fld) => be 1 (d.hostCfg (dHTX n) f n)
      let rx := fun (f : Fld) => be 1 (d.hostCfg (dHRX n) f n)
      let use := fun (f : Fld) => be 1 (if d.domOn (dHRX n) then d.rd f n else 0)
      .ok d (tx F.HL_TXEQ_PRE2 ++ tx F.HL_TXEQ_PRE1 ++ tx F.HL_TXEQ_POST1 ++ tx F.HL_TXEQ_AMP ++ rx F.HL_RXBASE_CTLE ++
        rx F.HL_RXBASE_VGA ++ rx F.HL_RXBASE_DFE1 ++ rx F.HL_CTL_ADAPT ++ use F.HL_RXEQ_CTLE ++ use F.HL_RXEQ_VGA ++
        use F.HL_RXEQ_DFE1 ++
        be 1 (d.rd F.HL_STAT_ADLIM n + 2 * b2n (d.hostRow n).2 + 4 * b2n (hostEqFields.any fun f => d.pinned f n)))

/-- HOST.EQ.SET (Table 6-8). -/
def execHostEqSet (src : Src) (hlane pre2 pre1 post1 amp ctle vga dfe1 adapt : Byte) :
    State → Host.Outcome State Fault Refusal := lift fun d =>
  d.kci src 0xA202 .c fun d =>
    let n := hlane.toNat
    let tx := dHTX n
    let rx := dHRX n
    let sum := keepOr pre2.toNat 0xFF (d.hostCfg tx F.HL_TXEQ_PRE2 n) + keepOr pre1.toNat 0xFF (d.hostCfg tx F.HL_TXEQ_PRE1 n) +
      keepOr post1.toNat 0xFF (d.hostCfg tx F.HL_TXEQ_POST1 n)
    if 15 < n || !okKeep pre2.toNat 7 || !okKeep pre1.toNat 15 || !okKeep post1.toNat 15 || !okKeep amp.toNat 3 ||
        !okKeep ctle.toNat 15 || !okKeep vga.toNat 31 || !okKeep dfe1.toNat 31 || !okKeep adapt.toNat 1 || 40 < sum then
      .no .badParam
    else if !d.hostUsed n then .no .notReady
    else
      let d1 := (((d.cfgKeep tx F.HL_TXEQ_PRE2 n pre2.toNat 0xFF).cfgKeep tx F.HL_TXEQ_PRE1 n pre1.toNat 0xFF).cfgKeep tx
        F.HL_TXEQ_POST1 n post1.toNat 0xFF).cfgKeep tx F.HL_TXEQ_AMP n amp.toNat 0xFF
      let d2 := (((d1.cfgKeep rx F.HL_RXBASE_CTLE n ctle.toNat 0xFF).cfgKeep rx F.HL_RXBASE_VGA n vga.toNat 0xFF).cfgKeep rx
        F.HL_RXBASE_DFE1 n dfe1.toNat 0xFF).cfgKeep rx F.HL_CTL_ADAPT n adapt.toNat 0xFF
      .ok (d2.hostApply n) []

end Sys2Proof.Machine
end

