-- ==== Sys2Proof/Machine/Pathway.lean ====
section
/-! DEFINITION. Data paths: selection under R23 to R27, powering and preparing a group (R389, R432), bring-up steps and
outcomes (R161, R170), and the completion of the commands that wait for them. -/

namespace Sys2Proof.Machine

/-! ## Steps, latencies and outcomes -/

/-- LN_STAT.STEP of lane `k` (Table 7-1). -/
def Dev.stepOf (d : Dev) (k : Nat) : Nat := d.rd F.LN_STAT_STEP k

/-- LN_STAT.TRAINING is set in steps 1 to 6 and 8 (R161). -/
def trainingStep (st : Nat) : Bool := (1 ≤ st && st ≤ 6) || st == 8

/-- The latency registers of the lane and its host lanes read 0 (R33, R152). -/
def Dev.zeroLat (d : Dev) (k : Nat) : Dev :=
  (((d.wr F.LN_LATTX_LAT k 0).wr F.LN_LATRX_LAT k 0).wr F.HL_LATTX_LAT (2 * k) 0).wr F.HL_LATTX_LAT (2 * k + 1) 0

/-- Updates the data path whose first lane is `first`. -/
def Dev.mapPath (d : Dev) (first : Nat) (f : Path → Path) : Dev :=
  { d with paths := d.paths.map fun p => if p.first = first then f p else p }

/-- The lane takes a step; while it trains its latencies read 0 and its data path is to be reported anew (R33). -/
def Dev.setStep (d : Dev) (k st : Nat) : Dev :=
  let d1 := ((d.wr F.LN_STAT_STEP k st).wr F.LN_STAT_TRAINING k (b2n (trainingStep st))).calWatch
  if trainingStep st then
    let d2 := d1.zeroLat k
    match d2.pathOf k with
    | some p => d2.mapPath p.first fun q => { q with reported := false }
    | none => d2
  else d1

/-- A group with a bring-up: not A11, and not A12 without far-end line loopback (R39). -/
def Path.bringup (p : Path) : Bool := p.mode != 11 && (p.mode != 12 || p.outputs.testBit 1)

/-- The lane's outcome and the LN_STAT bits that say which one holds (Table 7-4). -/
def Dev.putOutcome (d : Dev) (k : Nat) (o : Option Nat) : Dev :=
  (((d.mapLane k fun l => { l with outcome := o }).wr F.LN_STAT_FOREIGN k (b2n (o == some 1))).wr F.LN_STAT_NOSIG k
    (b2n (o == some 2))).wr F.LN_STAT_NOAGREE k (b2n (o == some 7))

/-- What a group reports (R170): none while some lane has no outcome, or all are ACTIVE and the path is not reported yet. For
LINE.RETRAIN only the named lane counts and the others are ACTIVE. -/
def Dev.groupOutcome (d : Dev) (p : Path) (only : Option Nat) : Option Nat :=
  let l := p.lanes.map fun k => match only with
    | some j => if j = k then (d.lane k).outcome else some 0
    | none => (d.lane k).outcome
  if l.contains none then none
  else match (l.filterMap id).find? fun c => c != 0 with
    | some c => some c
    | none => if p.reported then some 0 else none

/-- Completes the commands that wait for an activation or a retrain (R39, R170). -/
def Dev.settleGroups (d : Dev) : Dev :=
  d.settle fun a =>
    let ok := fun (c : Nat) => some (Status.ok, [BitVec.ofNat 8 c])
    match a.wait with
    | .activate first =>
      (match d.paths.find? fun p => p.first == first with
        | none => ok 6
        | some p => if p.bringup then (d.groupOutcome p none).bind ok else if p.state = 1 then none else ok 0xFF)
    | .retrain k =>
      (match d.pathOf k with
        | none => ok 6
        | some p => (d.groupOutcome p (some k)).bind ok)
    | _ => none

/-! ## Selection (R23 to R27) -/

/-- Group size and line rate mode of A1 to A10 (Table 1-3). -/
def appShape : Nat → Option (Nat × Nat)
  | 1 => some (8, 0) | 2 => some (4, 0) | 3 => some (2, 0) | 4 => some (1, 0) | 5 => some (8, 1)
  | 6 => some (8, 2) | 7 => some (1, 2) | 8 => some (8, 3) | 9 => some (1, 3) | 10 => some (1, 1)
  | _ => none

/-- The data path of a selection whose fields are in range (Table 1-10, R44). -/
def AppReq.path (r : AppReq) : Option Path :=
  let pre := r.pretx != 0 || r.prerx != 0
  let mk := fun (n l : Nat) => ({ first := r.first, size := n, mode := r.mode, lrm := l, outputs := r.outputs
                                  pretx := r.pretx == 1, prerx := r.prerx == 1 } : Path)
  if r.mode = 0 || 12 < r.mode || 7 < r.first || 1 < r.pretx || 1 < r.prerx then none
  else match appShape r.mode with
    | some (n, l) => if r.outputs ≠ 0 || (l < 2 && pre) then none else some (mk n l)
    | none =>
      if !([1, 2, 4, 8].contains r.size) || 3 < r.lrm || r.outputs = 0 || 3 < r.outputs || (r.lrm < 2 && pre) then none
      else some (mk r.size r.lrm)

/-- The family of a line rate mode: 0 C, 1 U. -/
def famOf (lrm : Nat) : Nat := if lrm < 2 then 0 else 1

/-- The lanes a selection names, whether or not its other fields are in range (R434): FIRST and the group size of its mode. A mode or a
size out of range names no group (log entry 77). -/
def AppReq.touch (r : AppReq) : List Nat :=
  let n := match appShape r.mode with
    | some s => s.1
    | none => if (r.mode = 11 || r.mode = 12) && [1, 2, 4, 8].contains r.size then r.size else 0
  (List.range 8).filter fun k => r.first ≤ k && k < r.first + n

/-- The family a selection names, if its line rate mode is in range. -/
def AppReq.family (r : AppReq) : Option Nat :=
  match appShape r.mode with
  | some s => some (famOf s.2)
  | none => if (r.mode = 11 || r.mode = 12) && r.lrm ≤ 3 then some (famOf r.lrm) else none

/-- The halves a path lies in. -/
def Path.halves (p : Path) : List Nat := [0, 1].filter fun h => p.lanes.any fun k => k / 4 == h

/-- R23 and R24: an aligned group, no lane of another path, one family per half, and one A11 group. A deactivating path counts until it is
gone: its lanes and its half's family are still its own (DESIGN CHOICE, log entry 78). -/
def Dev.fits (d : Dev) (p : Path) : Bool :=
  p.first % p.size == 0 && p.first + p.size ≤ 8 &&
    d.paths.all fun q =>
      !(p.lanes.any fun k => q.lanes.contains k) &&
        (famOf p.lrm == famOf q.lrm || !(p.halves.any fun h => q.halves.contains h)) && !(p.mode == 11 && q.mode == 11)

/-- The five line domains of lane `k`, and those of the host lanes it uses. -/
def laneSet (lrm k : Nat) : List Nat :=
  [dLRXA k, dLADC k, dLRXD k, dLTXD k, dLDAC k] ++ (hostsOfLane lrm k).flatMap fun n => [dHRX n, dHTX n]

/-- The domains of a group (R389). -/
def Path.domains (p : Path) : List Nat := p.lanes.flatMap (laneSet p.lrm)

/-- Firmware's preparation of a lane before activation start (R432): the receive and transmit entries of the board table, the
saved trims and shaping set, and a commit of each (R84, R126, R129). -/
def Dev.prepare (d : Dev) (k : Nat) : Dev :=
  let d1 := match d.conf (0x200 + k) with
    | none => d
    | some e => ((d.bg F.SA_AFE_RANGE k (Config.boardField e 0)).bg F.SA_AFE_PEAK k (Config.boardField e 1)).bg F.LN_TGT_ALPHA k
        (Config.boardField e 2)
  let d2 := ((d1.stageTrims k).set F.SA_LCTL_CMTREQ k).txStageSet k (d1.lane k).tx.saved
  ((d2.txStageBoard k).txCmtReq k).mapLane k fun l => { l with prepared := true }

/-- Firmware prepares every lane of an activating path whose domains are all on. -/
def Dev.prepareReady (d : Dev) : Dev :=
  d.paths.foldl (fun e p =>
    if p.state ≠ 1 then e
    else p.lanes.foldl (fun x k =>
      if !(x.lane k).prepared && (laneSet p.lrm k).all x.domOn then x.prepare k else x) e) d

/-- Sets the family of a half's line PLL (bit 0 family U). -/
def Dev.setFam (d : Dev) (h u : Nat) : Dev := d.wr (if h = 0 then F.PW_CLKSTAT_H0FAM else F.PW_CLKSTAT_H1FAM) 0 u

/-- Carries out a selection that fits (R39): the half's family, the Colanders' interleave (R323; the spec gives no value per Application, log
entry 93), the group's domains, and bring-up once they are on. -/
def Dev.selectPath (d : Dev) (p : Path) : Dev :=
  let d1 := p.halves.foldl (fun e h => e.setFam h (famOf p.lrm)) { d with paths := d.paths ++ [p] }
  let d2 := p.lanes.foldl (fun e k => ((e.putOutcome k none).mapLane k fun l => { l with prepared := false }).loopDisable k) d1
  let d3 := p.hosts.foldl (fun e n => e.fwCfg (dHTX n) F.TM_CLCTL_ILV n (1 + Config.ilv p.mode % 3)) d2
  (d3.wakeAll p.domains).prepareReady

/-- An APP.SELECT or CMIS selection is possible now: READY, and no thermal trip (R397, R404). -/
def Dev.canSelect (d : Dev) : Bool := d.isReady && !d.on F.PW_STAT_TTRIP

/-- Deactivation of a group begins (R29 step 2, R40): each lane stops at its next boundary (DATAPATH_STOP). -/
def Dev.deactivate (d : Dev) (first : Nat) : Dev := d.mapPath first fun p => { p with state := 3 }

/-- A group whose lanes are all OFF goes down: its domains, in the reverse order of their wake (R389). -/
def Dev.pathDown (d : Dev) (p : Path) : Dev := d.downAll p.domains.reverse

/-- The lane mask of a command's group (R277). -/
def laneMask (l : List Nat) : Nat := l.foldl (fun a k => a ||| 2 ^ k) 0

/-- The halves whose family a selection changes (R277). -/
def Dev.famMask (d : Dev) (r : AppReq) : Nat :=
  match r.family with
  | none => 0
  | some f => ([0, 1].filter fun h => r.touch.any fun k => k / 4 == h).foldl (fun a h =>
      if d.rd (if h = 0 then F.PW_CLKSTAT_H0FAM else F.PW_CLKSTAT_H1FAM) = f then a else a + 2 ^ h) 0

/-! ## CMIS selections (R26, R266, R277) -/

/-- The configuration status of lanes. -/
def Dev.putConfig (d : Dev) (lanes : List Nat) (v : Nat) : Dev :=
  d.mapMgmt fun m => { m with config := lanes.foldl (fun c k => vset c k fun _ => v) m.config }

/-- A selection that is evaluated now (R23 to R27, R266): carried out, or refused with ConfigRejectedInvalidDataPath. -/
def Dev.appselTake (d : Dev) (r : AppReq) : Dev :=
  match r.path with
  | none => d.putConfig [r.first] 4
  | some p => if d.canSelect && d.fits p then (d.selectPath p).putConfig p.lanes 1 else d.putConfig p.lanes 4

/-- The accepted D command a selection conflicts with (R277). -/
def Dev.appselBlock (d : Dev) (r : AppReq) : Option Accepted :=
  d.mgmt.outst.find? (conflicts .d (laneMask r.touch) (d.famMask r))

/-- Selections are evaluated in the order firmware accepted them (R26): those at the front that conflict with nothing are carried out,
and from the first that conflicts on they wait. -/
def Dev.appselRun (d : Dev) : List AppReq → Dev
  | [] => d.mapMgmt fun m => { m with appselWait := [] }
  | r :: t => if (d.appselBlock r).isSome then d.mapMgmt fun m => { m with appselWait := r :: t } else (d.appselTake r).appselRun t

/-- The waiting selections go on as far as they can. -/
def Dev.appselProgress (d : Dev) : Dev := d.appselRun d.mgmt.appselWait

/-- A CMIS selection arrives (its STOP condition, R268) behind those that wait. -/
def Dev.appsel (d : Dev) (r : AppReq) : Dev := d.appselRun (d.mgmt.appselWait ++ [r])

/-- RETRY for an APP.SELECT that comes behind waiting CMIS selections: that of the command the first of them waits for. -/
def Dev.appselRetry (d : Dev) : Nat :=
  match d.mgmt.appselWait with
  | [] => 1
  | r :: _ => match d.appselBlock r with | some a => d.retryOf a | none => 1

/-- The commands that wait for a data path complete, and the CMIS selections that waited for them are evaluated. -/
def Dev.settlePaths (d : Dev) : Dev := d.settleGroups.appselProgress

/-- The lane's bring-up ends in an outcome. -/
def Dev.giveOutcome (d : Dev) (k code : Nat) : Dev := (d.putOutcome k (some code)).settlePaths

/-- A path without bring-up is activated when all its lanes are active (R39), and in A11 when every line output has taken its state of
Table 10-1. -/
def Dev.plainActive (d : Dev) (p : Path) : Dev :=
  if p.state = 1 && !p.bringup && (p.lanes.all fun k => (d.lane k).active && (p.mode != 11 || (d.lane k).tx.pend.isNone)) then
    (d.mapPath p.first fun q => { q with state := 2 }).settlePaths
  else d

end Sys2Proof.Machine
end

