-- ==== Sys2Proof/Machine/Partner.lean ====
section
/-! DEFINITION. The Partner channel (R178 to R186): the send calendar, the messages firmware sends, reception, and the
LINE.PTNR commands. -/

namespace Sys2Proof.Machine

/-! ## The send calendar (R185) -/

/-- A frame lasts `frameNum` / 425 ns (R45: 1,088 symbols at 225.78125 or 112.890625 GBd). -/
def frameNum (lrm : Nat) : Nat := if lrm = 0 then 2048 else 4096

/-- A C-mode lane sends frames: steps TRAIN, READY and ACTIVE. -/
def Dev.frames (d : Dev) (k : Nat) : Bool := d.isC k && 5 ≤ d.stepOf k && d.stepOf k ≤ 7

/-- The first free frame: the next frame boundary, or the end of the last booking. -/
def TxLane.nextFree (t : TxLane) : Nat :=
  let last := match t.calendar.getLast? with
    | some b => b.stop
    | none => match t.cur with | some b => b.stop | none => 0
  max t.frame last

/-- Whether frames end within `limit` ns, counted in 1/256 frame. -/
def within (lrm n256 limit : Nat) : Bool := n256 * frameNum lrm ≤ limit * 425 * 256

/-- Books a packet whose end falls within `limit` ns of acceptance. The part of the frame in progress still to run is a free
value between 1/256 frame and a whole one. Answers SEQ and START in ns. -/
def Dev.book (d : Dev) (k type : Nat) (payload : List Byte) (limit : Nat) : Option (Nat × Nat) × Dev :=
  let (p, d1) := d.freeVal 8
  let t := (d1.lane k).tx
  let start := t.nextFree
  let stop := start + ptnrFrames payload.length
  let lrm := d.lrm k
  if within lrm (256 * (stop - t.frame) + p + 1) limit then
    (some (t.seq, (rneDiv ((256 * (start - t.frame) + p + 1) * frameNum lrm : Nat) (425 * 256)).toNat),
     d1.mapTx k fun x => { x with seq := (x.seq + 1) % 128
                                  calendar := x.calendar ++ [{ start := start, stop := stop, type := type, seq := x.seq
                                                               payload := payload }] })
  else (none, d1.mapTx k fun x => { x with refused := (x.refused + 1) % 2 ^ 32 })

/-- What waits for a retry: one packet per type, and of ALARM one per affected lane (Table 7-5). -/
def retryPut (l : List (Nat × List Byte)) (type : Nat) (payload : List Byte) : List (Nat × List Byte) :=
  (l.filter fun r => !(r.1 == type && (type != 8 || r.2.getD 2 0 == payload.getD 2 0))) ++ [(type, payload)]

/-- Firmware presents a packet (50 µs); a refused READY, CAP or ALARM is retried. -/
def Dev.present (d : Dev) (k type : Nat) (payload : List Byte) : Dev :=
  if !d.frames k then d
  else match d.book k type payload 50000 with
    | (some _, e) => e
    | (none, e) =>
      if type = 1 || type = 2 || type = 8 then
        e.mapTx k fun x => { x with retry := retryPut x.retry type payload }
      else e

/-- A retrain or deactivation drops what is booked and in progress (R186), the hints still to apply and what waits for a
retry; CAP keeps waiting while the group stays active. -/
def Dev.ptnrDrop (d : Dev) (k : Nat) (all : Bool) : Dev :=
  d.mapTx k fun x =>
    { x with txdrop := (x.txdrop + x.calendar.length + b2n x.cur.isSome) % 2 ^ 32, calendar := [], cur := none, raw := []
             retry := if all then [] else x.retry.filter fun r => r.1 != 1, hint := if all then [] else x.hint }

/-- PTNR_PACKET_TX_START: the first booked packet starts with the next frame. -/
def execPtnrPacketTxStart (lane : Fin 8) : State → Host.Outcome State Fault Refusal := lift fun d =>
  let k := lane.val
  let t := (d.lane k).tx
  match t.calendar with
  | [] => d
  | b :: r =>
    if !d.frames k || t.cur.isSome || t.frame < b.start then d
    else d.mapTx k fun x => { x with calendar := r, cur := some b, raw := ptnrRaw b.type b.seq b.payload }

/-! ## Messages and features (R182, R183) -/

/-- FEAT of this device's CAP: every feature of Table 7-5. -/
def ownFeat : Nat := 0x3F

/-- The far end's CAP as the group has received it. -/
def Dev.farCap (d : Dev) (p : Path) : List Byte :=
  ((p.lanes.map fun k => (d.lane k).rx.farCap).find? fun c => !c.isEmpty).getD []

/-- FEAT of a CAP payload. -/
def capFeat (c : List Byte) : Nat := fieldAt c 8 4

/-- The CAP exchange has completed in both directions. -/
def Dev.capDone (d : Dev) (p : Path) : Bool := (p.lanes.any fun k => (d.lane k).capSent) && !(d.farCap p).isEmpty

/-- Whether both ends set a FEAT bit, once the exchange has completed. -/
def Dev.feature (d : Dev) (k bit : Nat) : Bool :=
  match d.pathOf k with
  | some p => d.capDone p && ownFeat.testBit bit && (capFeat (d.farCap p)).testBit bit
  | none => false

/-- EQHINT needs one bit at the sender and another at the receiver (R182): whether the far end sets `bit`. -/
def Dev.farFeature (d : Dev) (k bit : Nat) : Bool :=
  match d.pathOf k with
  | some p => d.capDone p && (capFeat (d.farCap p)).testBit bit
  | none => false

/-- The lead lane (R183). -/
def Dev.leadOf (d : Dev) (p : Path) : Nat :=
  let l := d.rd F.LN_PTCTL_LEAD p.first
  if p.lanes.contains l then l else p.first

/-- Where management types go now: the lead lane, or the lowest ACTIVE lane; none while no lane is ACTIVE. -/
def Dev.mgmtLane (d : Dev) (p : Path) : Option Nat :=
  if d.stepOf (d.leadOf p) = 7 then some (d.leadOf p) else p.lanes.find? fun k => d.stepOf k == 7

/-- The CAP payload. -/
def Dev.capPayload (d : Dev) (p : Path) : List Byte :=
  be 2 (d.rd F.GLB_ID_PART) ++ be 1 (d.rd F.GLB_ID_STEP) ++ be 1 (d.sec.grade % 2) ++ be 4 d.sec.running.version ++
    be 4 ownFeat ++ be 8 d.sec.serial ++ be 1 p.first ++ be 1 p.size ++ be 1 (d.leadOf p) ++ zeros 9

/-- The group's CAP goes out on its lead lane, in place of one that waits for a retry. -/
def Dev.sendCap (d : Dev) (p : Path) : Dev :=
  if p.lrm < 2 then
    (match d.mgmtLane p with
      | some k => (p.lanes.foldl (fun e j => e.mapTx j fun x => { x with retry := x.retry.filter fun r => r.1 != 2 }) d).present k 2
          (d.capPayload p)
      | none => d)
  else d

/-- Firmware sends CAP again when what it says has changed: the lead lane of a group reported activated (Table 7-5). -/
def Dev.capChange (d old : Dev) : Dev :=
  d.paths.foldl (fun e p => if p.reported && p.state = 2 && e.leadOf p != old.leadOf p then e.sendCap p else e) d

/-- Presents a refused packet of lane `k` again where its type goes now: READY on the lane while it is in READY, an ALARM on its affected
lane while that sends DATA, CAP and other ALARMs on the management lane; with none it goes on waiting (R183, R185). -/
def Dev.presentAgain (d : Dev) (k : Nat) (r : Nat × List Byte) : Dev :=
  if r.1 = 1 then (if d.stepOf k = 6 then d.present k 1 r.2 else d)
  else
    let j := (r.2.getD 2 0).toNat
    let on := if r.1 = 8 && d.frames j then some j else (d.pathOf k).bind d.mgmtLane
    match on with
    | some i => d.present i r.1 r.2
    | none => d.mapTx k fun x => { x with retry := retryPut x.retry r.1 r.2 }

/-- PTNR_RETRY_TIMER: what the lane's refused packets wait for. -/
def execPtnrRetryTimer (lane : Fin 8) : State → Host.Outcome State Fault Refusal := lift fun d =>
  let k := lane.val
  (d.lane k).tx.retry.foldl (fun e r => e.presentAgain k r) (d.mapTx k fun x => { x with retry := [] })

/-- The READY packet of R167. -/
def Dev.sendReady (d : Dev) (k : Nat) : Dev := d.present k 1 (be 2 (d.rd F.LN_LQF_LQF k) ++ zeros 2)

/-- LN_LEVEL as one word. -/
def Dev.levelWord (d : Dev) (k : Nat) : Nat := d.regWord 0x10118 k

/-- The alarm bits of lane `k` now (R184; log entry 29): RXLOL while a lane that has been ACTIVE has LOCK clear, TXFAULT while
its loop is in FAULT or a channel of the loop is SHUT, LASEROFF while a loop that is turned on is OFF, HIGHTEMP while a thermal
trip holds; FWRESTART and RETRAIN stay until an ALARM has carried them. -/
def Dev.alarmBits (d : Dev) (k : Nat) : Nat :=
  let l := d.lane k
  let o := d.loop k
  b2n (l.wasActive && !d.on F.LN_TRSTAT_LOCK k) +
    2 * b2n (o.state == 4 || (o.state != 0 && (d.on F.OC_BSTAT_SHUT o.cfg.lch || d.on F.OC_BSTAT_SHUT o.cfg.mch))) +
    4 * b2n (o.want && o.state == 0) + 8 * b2n (d.on F.PW_STAT_TTRIP) + (l.alarm &&& 0x30)

/-- Presents lane `k`'s ALARM: on the lane itself when it sends DATA, else on the group's lead lane. -/
def Dev.sendAlarm (d : Dev) (k : Nat) : Dev :=
  match d.pathOf k with
  | none => d
  | some p =>
    let b := d.alarmBits k
    let on := if d.frames k then some k else d.mgmtLane p
    match on with
    | none => d
    | some j =>
      (d.present j 8 [BitVec.ofNat 8 b, 0, BitVec.ofNat 8 k, 0]).mapLane k fun l => { l with alarmSent := b, alarm := l.alarm &&& 0x0F }

/-- Firmware presents an ALARM on change, as soon as a lane can carry it. -/
def Dev.alarmChanges (d : Dev) : Dev :=
  if !d.fwRun then d
  else iter 8 (fun k e => if e.isC k && (e.lane k).active && e.alarmBits k != (e.lane k).alarmSent then e.sendAlarm k else e) d

/-- EQHINT_TIMER: with HINTTX = 1, the CAP exchange done and the far end accepting hints, on an ACTIVE lane. -/
def execEqhintTimer (lane : Fin 8) (deltas : List (BitVec 8)) : State → Host.Outcome State Fault Refusal := lift fun d =>
  let k := lane.val
  if d.stepOf k = 7 && d.on F.LN_PTCTL_HINTTX k && ownFeat.testBit 0 && d.farFeature k 1 then
    d.present k 3 ((deltas ++ zeros 9).take 9 ++ be 1 (d.lane k).tx.main ++ zeros 2)
  else d

/-- LVLHINT_TIMER. -/
def execLvlhintTimer (lane : Fin 8) : State → Host.Outcome State Fault Refusal := lift fun d =>
  let k := lane.val
  if d.stepOf k = 7 && d.on F.LN_PTCTL_HINTTX k && d.feature k 2 then d.present k 4 (be 4 (d.levelWord k) ++ zeros 4) else d

/-- ALARM_TIMER: every second while any bit is set. -/
def execAlarmTimer (lane : Fin 8) : State → Host.Outcome State Fault Refusal := lift fun d =>
  let k := lane.val
  if d.isC k && (d.lane k).active && d.alarmBits k != 0 then d.sendAlarm k else d

/-- TELEM_TIMER: with TELEM = 1 on the group's first lane. Die temperature in 1/16 degree. -/
def execTelemTimer (first : Fin 8) : State → Host.Outcome State Fault Refusal := lift fun d =>
  match d.paths.find? fun p => p.first == first.val with
  | none => d
  | some p =>
    match d.mgmtLane p with
    | none => d
    | some k =>
      if p.lrm < 2 && d.on F.LN_PTCTL_TELEM p.first && d.feature k 4 then
        d.present k 9 (((List.range 8).flatMap fun j =>
          be 2 (if (d.tel.getD j {}).valid then (d.tel.getD j {}).lqf else 0) ++ be 2 (d.tel.getD j {}).snrp) ++
          be 2 (tc 16 ((d.optics.dieTemp : Int) - 800)) ++ zeros 2 ++ zeros 4)
      else d

/-- TTSTAMP_SEND (R345): the newest marked cycle with both stamps, every PER marked cycles (0 acts as 1). -/
def execTtstampSend (lane : Fin 8) : State → Host.Outcome State Fault Refusal := lift fun d =>
  let k := lane.val
  let t := d.tt k
  if !d.on F.TU_TTCTL_EN k || d.stepOf k != 7 || !d.isC k || t.barred || t.since < max 1 (d.rd F.TU_TTCTL_PER k) then d
  else match t.newest with
    | none => d
    | some (a, b) => (d.present k 0x10 (d.ttPayload k a b)).mapTt k fun x => { x with since := 0 }

/-! ## Reception (R180, R181) -/

/-- The preamble threshold: below 40 acts as 40, above 64 as 64. -/
def pcth (v : Nat) : Nat := if v < 40 then 40 else satN 64 v

/-- How many of the last 64 hard raw bits agree with the preamble; an erasure disagrees. -/
def agreement (l : List (Option Bool)) : Nat :=
  ((l.zip preamble).filter fun e => e.1 == some e.2).length

/-- PREAMBLE_MATCH: a match starts a reception and aborts the one in progress. -/
def execPreambleMatch (lane : Fin 8) : State → Host.Outcome State Fault Refusal := lift fun d =>
  let k := lane.val
  let x := (d.lane k).rx
  if !d.frames k || x.corr.length < 64 || agreement x.corr < pcth (d.rd F.DEC_PCTH_PCTH k) then d
  else (if x.soft.isSome then d.inc F.DEC_PABORT_COUNT k else d).mapRx k fun r => { r with soft := some [] }

/-- The bytes of a bit string. -/
def packBytes : Nat → List Bool → List Byte
  | 0, _ => []
  | n + 1, l => BitVec.ofNat 8 (bitsNat (l.take 8)) :: packBytes n (l.drop 8)

/-- What a reception holds: still incomplete, a failed header, a LEN above 256, a failed packet CRC, or a packet. -/
inductive Rxd where
  | wait
  | badHeader
  | badLen
  | badCrc
  | packet (type seq : Nat) (payload : List Byte) (raw : Nat)
  deriving DecidableEq, Repr

/-- A header's check. -/
def headerOk (h : List Byte) : Bool := crc8 (bitsMsb 24 (fieldAt h 0 3)) == fieldAt h 3 1

/-- Decodes the soft values of a reception (R179, R180). -/
def rxPacket (soft : List Int) : Rxd :=
  if soft.length < 64 then .wait
  else
    let h := packBytes 4 (k7Decode false soft)
    let len := fieldAt h 0 4 / 2 ^ 15 % 512
    if !headerOk h then .badHeader
    else if 256 < len then .badLen
    else if soft.length < 140 + 16 * len then .wait
    else
      let b := packBytes (len + 8) (k7Decode true (soft.take (140 + 16 * len)))
      if !headerOk (b.take 4) then .badHeader
      else if fieldAt b 0 4 / 2 ^ 15 % 512 ≠ len || crc32 (b.take (len + 4)) ≠ fieldAt b (len + 4) 4 then .badCrc
      else .packet (fieldAt b 0 1) (fieldAt b 2 1 % 128) (bytesAt b 4 len) (140 + 16 * len)

/-- PTNR_BAD_PACKET: the reception is discarded and counted. -/
def execPtnrBadPacket (lane : Fin 8) : State → Host.Outcome State Fault Refusal := lift fun d =>
  let k := lane.val
  let stop := fun (e : Dev) => e.mapRx k fun r => { r with soft := none }
  match (d.lane k).rx.soft with
  | none => d
  | some s => match rxPacket s with
    | .badHeader => (stop d).inc F.DEC_PFALSE_COUNT k
    | .badLen => (stop d).inc F.DEC_PCRCERR_COUNT k
    | .badCrc => (stop d).inc F.DEC_PCRCERR_COUNT k
    | _ => d

/-- Delivers a complete valid packet whose type is one of `p`'s: DEC_PRXCNT counts it, and `f` takes it. -/
def Dev.receive (d : Dev) (k : Nat) (p : Nat → Bool) (f : Nat → Nat → List Byte → Nat → Dev → Dev) : Dev :=
  match (d.lane k).rx.soft with
  | none => d
  | some s => match rxPacket s with
    | .packet type seq payload raw =>
      if d.frames k && p type then
        f type seq payload ((d.lane k).rx.frame - 1 - (s.length - raw))
          ((d.mapRx k fun r => { r with soft := none }).inc F.DEC_PRXCNT_COUNT k)
      else d
    | _ => d

/-- The lane enters ACTIVE (R167, R173). -/
def Dev.enterActive (d : Dev) (k : Nat) : Dev :=
  ((d.setStep k 7).mapLane k fun l => { l with wasActive := true, trn := false }).giveOutcome k 0

/-- PTNR_READY_RX: held until the lane itself is in READY, then the lane is ACTIVE. -/
def execPtnrReadyRx (lane : Fin 8) : State → Host.Outcome State Fault Refusal := lift fun d =>
  let k := lane.val
  d.receive k (· == 1) fun _ _ _ _ e =>
    let e1 := e.mapRx k fun r => { r with farReady := true }
    if e.stepOf k = 6 then e1.enterActive k else e1

/-- PTNR_CAP_RX: the group holds the far end's CAP; one without FEAT bit 3 stops time transfer (R345). -/
def execPtnrCapRx (lane : Fin 8) : State → Host.Outcome State Fault Refusal := lift fun d =>
  let k := lane.val
  d.receive k (· == 2) fun _ _ c _ e =>
    match e.pathOf k with
    | none => e
    | some p => p.lanes.foldl (fun x j =>
        (x.mapRx j fun r => { r with farCap := c }).mapTt j fun t => { t with barred := !(capFeat c).testBit 3 }) e

/-- Sum of two delta lists of nine. -/
def addDeltas (a b : List Int) : List Int := (List.range 9).map fun i => a.getD i 0 + b.getD i 0

/-- PTNR_EQHINT_RX: with HINTRX = 1 the deltas join what remains. -/
def execPtnrEqhintRx (lane : Fin 8) : State → Host.Outcome State Fault Refusal := lift fun d =>
  let k := lane.val
  d.receive k (· == 3) fun _ _ c _ e =>
    if e.on F.LN_PTCTL_HINTRX k && ownFeat.testBit 1 && e.farFeature k 0 then
      e.mapTx k fun x => { x with hint := addDeltas x.hint ((List.range 9).map fun i => (c.getD i 0).toInt) }
    else e

/-- PTNR_LVLHINT_RX: V1STG moves by at most 1 LSB towards a far-end ratio of 1/3. The payload's first four bytes are the far
end's LN_LEVEL: MM3, MM1, MP1, MP3. -/
def execPtnrLvlhintRx (lane : Fin 8) : State → Host.Outcome State Fault Refusal := lift fun d =>
  let k := lane.val
  d.receive k (· == 4) fun _ _ c _ e =>
    let b := fun (i : Nat) => fieldAt c i 1
    let inner := 3 * (b 2 + b 1)
    let outer := b 3 + b 0
    let v := e.rd F.TX_LEVEL_V1STG k
    let w := if inner < outer then satN (min 127 (e.rd F.TX_LEVEL_V3STG k)) (v + 1) else if outer < inner then v - 1 else v
    if e.on F.LN_PTCTL_HINTRX k && e.feature k 2 && w != v && !e.pinned F.TX_LEVEL_V1STG k then
      (e.wr F.TX_LEVEL_V1STG k w).txCmtReq k
    else e

/-- PTNR_ALARM_RX: LIVE and LATCH of the local lane whose far end is the affected lane. -/
def execPtnrAlarmRx (lane : Fin 8) : State → Host.Outcome State Fault Refusal := lift fun d =>
  let k := lane.val
  d.receive k (· == 8) fun _ _ c _ e =>
    let lanes := match e.pathOf k with | some p => p.lanes | none => []
    let j := (lanes.find? fun j => e.rd F.LN_FEID_LANE j == fieldAt c 2 1).getD k
    (e.wr F.LN_FEALM_LIVE j (fieldAt c 0 1)).wr F.LN_FEALM_LATCH j (e.rd F.LN_FEALM_LATCH j ||| fieldAt c 0 1)

/-- PTNR_TELEM_RX: delivered to firmware. -/
def execPtnrTelemRx (lane : Fin 8) : State → Host.Outcome State Fault Refusal := lift fun d =>
  d.receive lane.val (· == 9) fun _ _ _ _ e => e

/-- PTNR_TTSTAMP_RX: the packet's last raw bit is stamped (SRC 3), the exchange completes or is discarded, and a slave
reports. -/
def execPtnrTtstampRx (lane : Fin 8) : State → Host.Outcome State Fault Refusal := lift fun d =>
  let k := lane.val
  d.receive k (· == 0x10) fun _ seq c _ e =>
    let e1 := if e.domOn dTIME then e.fifoPush 3 k (e.rd F.TU_TTCTL_TB k) seq else e
    if !e1.domOn dTIME || !e1.on F.TU_TTCTL_EN k then e1
    else
      let (ok, e2) := e1.ttReceive k c
      if ok && e2.rd F.TU_TTCTL_ROLE k = 2 && !(e2.tt k).barred && e2.stepOf k = 7 then e2.present k 0x11 (e2.ttReport k) else e2

/-- PTNR_TTRPT_RX: types 0x11 to 0x13 are delivered to firmware. -/
def execPtnrTtrptRx (lane : Fin 8) : State → Host.Outcome State Fault Refusal := lift fun d =>
  d.receive lane.val (fun t => t == 0x11 || t == 0x12 || t == 0x13) fun _ _ _ _ e => e

/-- A HOST type. -/
def hostType (t : Nat) : Bool := 0x40 ≤ t && t ≤ 0x7F

/-- PTNR_HOST_RX: into the 8-entry FIFO, or dropped and counted as RXOVF. -/
def execPtnrHostRx (lane : Fin 8) : State → Host.Outcome State Fault Refusal := lift fun d =>
  let k := lane.val
  d.receive k hostType fun type seq c frame e =>
    e.mapRx k fun r =>
      if 8 ≤ r.fifo.length || !e.on F.LN_PTCTL_HOSTRX k then { r with rxovf := (r.rxovf + 1) % 2 ^ 32 }
      else { r with fifo := r.fifo ++ [{ type := type, seq := seq, payload := c, frame := frame % 2 ^ 32 }] }

/-- Types Table 7-5 does not define. -/
def reservedType (t : Nat) : Bool :=
  !(hostType t || [1, 2, 3, 4, 8, 9, 0x10, 0x11, 0x12, 0x13].contains t)

/-- PTNR_RESERVED_RX: dropped and counted as BADTYPE. -/
def execPtnrReservedRx (lane : Fin 8) : State → Host.Outcome State Fault Refusal := lift fun d =>
  let k := lane.val
  d.receive k reservedType fun _ _ _ _ e => e.mapRx k fun r => { r with badtype := (r.badtype + 1) % 2 ^ 32 }

/-- One tap's part of a hint step: at most 8 units; a pinned tap is left. -/
def Dev.hintTap (d : Dev) (k i : Nat) : Int :=
  let h := (d.lane k).tx.hint.getD i 0
  if d.pinned ((F.TX_FFETAP_STG).at i) k then 0 else clampI (-8) 8 h

/-- HINT_STEP_COMMIT: up to 8 units per tap of the pending deltas are staged, and a commit requested, at most one per 8,704 UI (R130,
R184). -/
def execHintStepCommit (lane : Fin 8) : State → Host.Outcome State Fault Refusal := lift fun d =>
  let k := lane.val
  let s := (List.range 9).map (d.hintTap k)
  if !d.domOn (dLTXD k) || !(d.lane k).active || !d.txSpaced k || s.all (· == 0) then d
  else
    let d1 := iter 9 (fun i e =>
      let f := (F.TX_FFETAP_STG).at i
      if s.getD i 0 = 0 then e else e.wrS f k (clampI (-512) 511 (e.rdS f k + s.getD i 0))) d
    (d1.mapTx k fun x => { x with hint := (List.range 9).map fun i => x.hint.getD i 0 - s.getD i 0 }).txCmtReq k

/-! ## Commands -/

/-- LINE.PTNR.SEND (Tables 7-10 and 7-11). -/
def execLinePtnrSend (src : Src) (lane type : Byte) (len : BitVec 16) (payload : List Byte) :
    State → Host.Outcome State Fault Refusal := lift fun d =>
  d.kci src 0xA160 .c fun d =>
    let k := lane.toNat
    if 7 < k || !hostType type.toNat || 256 < len.toNat || payload.length ≠ len.toNat then .no .badParam
    else if d.stepOf k ≠ 7 || !d.isC k || !d.feature k 5 then .no .notReady
    else if 30000 * 425 < ptnrFrames len.toNat * frameNum (d.lrm k) then .no .badParam
    else match d.book k type.toNat payload 30000 with
      | (some (seq, ns), e) => .ok e (be 1 seq ++ be 1 0 ++ be 2 ns)
      | (none, e) => .busyWith e 1

/-- LINE.PTNR.RECV (Table 7-12): a read without KEEP that reaches the end of the payload removes the entry. -/
def execLinePtnrRecv (src : Src) (lane flags : Byte) (offset max : BitVec 16) :
    State → Host.Outcome State Fault Refusal := lift fun d =>
  d.kci src 0xA161 .q fun d =>
    let k := lane.toNat
    let o := offset.toNat
    let m := max.toNat
    if 7 < k || (srcRoom src = 118 && (m = 0 || 106 < m)) then .no .badParam
    else match (d.lane k).rx.fifo with
      | [] => if 0 < o then .no .badParam else .ok d (zeros 12)
      | e :: r =>
        let len := e.payload.length
        if len < o then .no .badParam
        else
          let n := if m = 0 then len - o else min m (len - o)
          let remove := !flags.toNat.testBit 0 && o + n == len
          let left := if remove then r else e :: r
          .ok (d.mapRx k fun x => { x with fifo := left })
            (be 1 left.length ++ be 1 e.type ++ be 2 len ++ be 1 e.seq ++ be 1 0 ++ be 2 n ++ be 4 e.frame ++ bytesAt e.payload o n)

/-- LINE.PTNR.STAT.GET (Table 7-13). -/
def execLinePtnrStatGet (src : Src) (lane : Byte) : State → Host.Outcome State Fault Refusal := lift fun d =>
  d.kci src 0xA162 .q fun d =>
    let k := lane.toNat
    if 7 < k then .no .badParam
    else
      let t := (d.lane k).tx
      let x := (d.lane k).rx
      let feat := match d.pathOf k with
        | some p => if d.capDone p then ownFeat &&& capFeat (d.farCap p) else 0
        | none => 0
      .ok d (be 4 t.txpkt ++ be 4 t.txdrop ++ be 4 t.refused ++ be 4 (d.rd F.DEC_PRXCNT_COUNT k) ++ be 4 (d.rd F.DEC_PFALSE_COUNT k) ++
        be 4 (d.rd F.DEC_PABORT_COUNT k) ++ be 4 (d.rd F.DEC_PCRCERR_COUNT k) ++ be 4 x.rxovf ++ be 4 x.badtype ++ be 4 feat ++
        be 4 (d.rd F.LN_FEALM_LIVE k + 2 ^ 16 * d.rd F.LN_FEALM_LATCH k))

end Sys2Proof.Machine
end

