-- ==== Sys2Proof/Machine/Rx.lean ====
section
/-! DEFINITION. The receive DSP (chapter 04): FFE, LMS, timing, sign decision, level means, the joint trellis and the MLSE, the
margin histogram, and the LINE.RX, LINE.FFE and LINE.DEC commands. -/

namespace Sys2Proof.Machine

/-! ## The FFE (R100) and LMS (R102) -/

/-- A flagged sample taints the outputs it enters (R106). -/
def Conv.bad (s : Conv) : Bool := s.ovr || s.recov || s.hard

/-- The index of the first sample held in `xs`. -/
def RxLane.xbase (x : RxLane) : Int := (136 * x.words : Nat) - (x.xs.length : Int)

/-- Sample `n` of the data path; before the first held sample, nothing. -/
def RxLane.sample (x : RxLane) (n : Int) : Conv :=
  if n < x.xbase then ⟨0, false, false, false⟩ else x.xs.getD (n - x.xbase).toNat ⟨0, false, false, false⟩

/-- The FFE output `n` with taps `c`: rounded half to even to 1/8 unit, saturating at ±511.875. -/
def RxLane.ffe (x : RxLane) (c : List Int) (n : Nat) : YOut :=
  let v := (List.range 48).map fun (i : Nat) => x.sample ((n : Int) + (x.cursor : Int) - (i : Int))
  { y := clampI (-4095) 4095 (rneShift (sumI (List.zipWith (fun t (s : Conv) => t * s.code) c v)) 5)
    taint := v.any Conv.bad
    own := (x.sample n).bad }

/-- The lane's 48 taps. -/
def Dev.ffeTaps (d : Dev) (k : Nat) : List Int := (List.range 48).map fun i => d.rdS ((F.LN_FFETAP_VAL).at i) k

/-- Output `n` as kept for the decoder; nothing counts as tainted. -/
def RxLane.out (x : RxLane) (n : Nat) : YOut := if n < x.ybase then ⟨0, true, true⟩ else x.ys.getD (n - x.ybase) ⟨0, true, true⟩

/-- Outputs computed so far. -/
def RxLane.outs (x : RxLane) : Nat := x.ybase + x.ys.length

/-- The error of an output in 1/8 unit: y less 32·(a + α·a′) (R101). -/
def RxLane.err (x : RxLane) (y a a' : Int) : Int := y - (256 * a + (x.alpha : Int) * a')

/-- LMS for the oldest word whose decisions are all known: each accumulator moves by −2^−(12+MU) · Σ e · x. With MU of 6 or 7 the move has
fraction bits and is rounded half to even, and an accumulator that would leave its 24 bits stops at the limit (DESIGN CHOICE, log
entry 83: R102 gives neither). -/
def Dev.lms (d : Dev) (k : Nat) : Dev :=
  let x := (d.lane k).rx
  if x.dec.length < 136 then d
  else
    let n0 := 136 * x.adapted
    let lev := x.dec.take 136
    let es := (List.zipWith (fun (a a' : Int) => (a, a')) lev (x.prevLevel :: lev)).zipIdx.filterMap fun e =>
      let o := x.out (n0 + e.2)
      if o.taint then none else some (n0 + e.2, x.err o.y e.1.1 e.1.2)
    let mu := d.rd F.LN_FFECTL_MU k
    let move := fun (i : Nat) =>
      let s := sumI (es.map fun e => e.2 * (x.sample ((e.1 : Int) + (x.cursor : Int) - (i : Int))).code)
      if mu ≤ 5 then -s * (2 ^ (5 - mu) : Nat) else rneShift (-s) (mu - 5)
    let go := fun (i : Nat) (e : Dev) =>
      let f := (F.LN_FFETAP_VAL).at i
      if e.pinned f k then e
      else
        let v := clampI (-8388608) 8388607 (e.rdS f k * 4096 + ((e.lane k).rx.acc.getD i 0 : Nat) + move i)
        (e.wrS f k (v.fdiv 4096)).mapRx k fun r => { r with acc := setAt r.acc i (v % 4096).toNat }
    let d1 := if d.on F.LN_FFECTL_FREEZE k then d else iter 48 go d
    d1.mapRx k fun r => { r with adapted := r.adapted + 1, dec := r.dec.drop 136, prevLevel := lev.getLastD 0 }

/-- Drops samples and outputs that no stage needs any more. -/
def RxLane.trim (c : Bool) (x : RxLane) : RxLane :=
  if !x.started then { x with xs := x.xs.drop (x.xs.length - 272) }
  else
    let xs0 : Int := 136 * ((min x.adapted (x.words - 2) : Nat) : Int) - 136
    let ys0 := min (136 * x.adapted) ((if c then 272 else 136) * x.window0 - 32)
    { x with xs := x.xs.drop (xs0 - x.xbase).toNat, ys := x.ys.drop (ys0 - x.ybase), ybase := max x.ybase (min ys0 x.outs) }

/-! ## Level means (R105) -/

/-- One step of an exponential average with a time constant of 65,536 UI by a value that stands for `ui` UI. -/
def avgStep (m v : Int) (ui : Nat) : Int := m + rneDiv ((v - m) * (ui : Int)) 65536

/-- The preliminary decision of an output (R96): the nearest of −96, −32, +32 and +96, as a level. At exactly −64, 0 or +64 it is the upper one
(DESIGN CHOICE, log entry 83). -/
def prelim (y : Int) : Int := if 512 ≤ y then 3 else if 0 ≤ y then 1 else if -512 ≤ y then -1 else -3

/-- The mean kept for a level. -/
def RxLane.meanOf (x : RxLane) (a : Int) : Int := x.mean (valOf a)

/-- Sets the mean kept for a level. -/
def RxLane.putMean (x : RxLane) (a v : Int) : RxLane :=
  if a = 3 then { x with m3 := v } else if a = 1 then { x with m1 := v } else if a = -1 then { x with mm1 := v }
  else { x with mm3 := v }

/-- An output of level `a` after a symbol of level `a'` enters its mean, where it stands for `ui` UI, and σ², where it stands for `uv`; the
post-cursor term is removed first (R105, log entry 27). -/
def RxLane.learn (x : RxLane) (o : YOut) (a a' : Int) (ui uv : Nat) : RxLane :=
  if o.taint then x
  else
    let v := o.y * 8192 - rneDiv ((x.alpha : Int) * x.meanOf a') 256
    let e := x.err o.y a a'
    { x.putMean a (avgStep (x.meanOf a) v ui) with var := avgStep x.var (e * e * 1024) uv }

/-- The inner means in C modes follow from the outer ones. -/
def RxLane.innerMeans (x : RxLane) : RxLane :=
  { x with m1 := rneDiv (2 * x.m3 + x.mm3) 3, mm1 := rneDiv (x.m3 + 2 * x.mm3) 3 }

/-- LN_LEVEL reports the means' magnitudes in output units, saturating at 255; they are rounded half to even (DESIGN CHOICE, log entry 83: R105
gives no rounding). -/
def Dev.putLevels (d : Dev) (k : Nat) : Dev :=
  let x := (d.lane k).rx
  let g := fun (m : Int) => (clampI 0 255 (rneShift m 16)).toNat
  (((d.wr F.LN_LEVEL_MP3 k (g x.m3)).wr F.LN_LEVEL_MP1 k (g x.m1)).wr F.LN_LEVEL_MM1 k (g (-x.mm1))).wr F.LN_LEVEL_MM3 k (g (-x.mm3))

/-! ## Margins (R117) -/

/-- A margin's bin and whether it lies below DEC_CTL.MTH · 0.25: of a log-likelihood ratio in 1/4 unit. -/
def RxLane.llrMargin (x : RxLane) (m : Nat) : Nat × Bool := (satN 15 (m / 8), decide (m < x.mth))

/-- The same of a difference of path metrics, which is diff / (σ² · 2^35) (R117); with no noise variance any difference is beyond the last
bin. -/
def RxLane.pathMargin (x : RxLane) (diff : Nat) : Nat × Bool :=
  if diff = 0 then (0, decide (0 < x.mth))
  else if x.var ≤ 0 then (15, false)
  else (satN 15 (diff / (x.var.toNat * 2 ^ 36)), decide (diff < x.mth * (x.var.toNat * 2 ^ 33)))

/-- Counts `bits` payload bits of a bin; `low` says that their margin lies below the threshold. -/
def Dev.countMargin (d : Dev) (k bits : Nat) (m : Nat × Bool) : Dev :=
  let d1 := d.mapRx k fun r => { r with bins := setAt r.bins m.1 (satN (2 ^ 32 - 1) (r.bins.getD m.1 0 + bits)) }
  if m.2 then d1.inc F.DEC_LOWMCNT_COUNT k bits else d1

/-- Adds a squared error of a decided output to the SNR sums of R115: SNR_F's, and a pilot's to SNR_P's too. -/
def RxLane.addErr (x : RxLane) (pilot : Bool) (e : Int) : RxLane :=
  let q := (e * e).toNat
  let y := { x with sumF := x.sumF + q, cntF := x.cntF + 1 }
  if pilot then { y with sumP := y.sumP + q, cntP := y.cntP + 1 } else y

/-- Levels of the symbols from `n0` on are decided: a capture's entries learn them (R87). -/
def RxLane.tapDecided (x : RxLane) (n0 : Nat) (levels : List Int) : RxLane :=
  { x with tb := x.tb.map fun c => { c with ents := c.ents.map fun e => e.decided n0 levels } }

/-- With LOCK back, the host lanes return to DATA at the first bit of a frame or of a block of 1,088 UI (R159). -/
def Dev.relock (d : Dev) (k : Nat) (first : Bool) : Dev :=
  if first && (d.lane k).rx.relock then (d.mapRx k fun r => { r with relock := false }).hostUnlol k else d

/-! ## The MLSE of U modes (R119) -/

/-- The outputs of symbols `a … a + n − 1`. -/
def RxLane.outRange (x : RxLane) (a n : Nat) : List YOut := (List.range n).map fun j => x.out (a + j)

/-- Decides U-mode block `window0` when its trailing overlap is there: levels, host bits, margins, level means. -/
def Dev.uBlock (d : Dev) (k : Nat) : Dev :=
  let x := (d.lane k).rx
  let n0 := 136 * x.window0
  if x.outs < n0 + 168 then d
  else
    let lead := min 32 n0
    let os := x.outRange (n0 - lead) (lead + 168)
    let res := (maxLog 4 (List.replicate 4 (some 0)) (os.map fun o => x.uBranches o false)).drop lead |>.take 136
    let core := (os.drop lead).take 136
    let best := res.map fun l => (bestOf l).map fun b => (b.1.val, b.2)
    let vals := best.map fun b => (b.map fun e => e.1).getD 0
    let margins := List.zipWith (fun l b => match b with
      | some (v, m) => (match leastOf l fun e => e.val != v with
        | some m2 => x.pathMargin (m2 - m)
        | none => (15, false))
      | none => x.pathMargin 0) res best
    let levels := vals.map levelOf
    let prev := x.dec.getLastD x.prevLevel
    let steps := (core.zip levels).zip (prev :: levels)
    let syms := if x.precode then precodeRx x.lastSym vals else vals
    let bits := symBits syms
    let x1 := steps.foldl (fun r e =>
      let r1 := r.learn e.1.1 e.1.2 e.2 4 1
      if e.1.1.taint then r1 else r1.addErr false (r1.err e.1.1.y e.1.2 e.2)) x
    let x2 := { x1.tapDecided n0 levels with window0 := x.window0 + 1, bits := bits, llr := [], lastSym := vals.getLastD 0
                                             dec := x.dec ++ levels, loopq := if d.farLoop k then x.loopq ++ bits else [] }
    let d1 := (((d.mapRx k fun _ => x2).putLevels k).relock k (x.window0 % 8 == 0)).hostPayload k bits
    (core.zip margins).foldl (fun e c => if c.1.taint then e else e.countMargin k 2 c.2) d1

/-! ## The clock -/

/-- The timing errors of the word whose outputs start at `n0` (R96), in 1/8 unit times output units. C modes: one, at the word's pilot `n`,
with the sign of the correlation over the frame's unflagged pilots so far; U modes: one for every pair of symbols. A pair with a tainted
output, or without a symbol before it, gives none. -/
def RxLane.timingErrs (x : RxLane) (c : Bool) (n0 : Nat) : List Int :=
  let e := fun (n : Nat) (a : Int) =>
    let y := x.out n
    let y' := x.out (n - 1)
    if n = 0 || y.taint || y'.taint then none else some (y'.y * a - y.y * (32 * prelim y'.y))
  if c then
    let fr := n0 / 1088
    let i := n0 % 1088 / 136
    let lam := sumI ((List.range (i + 1)).map fun j =>
      let o := x.out (1088 * fr + 136 * j + fr % 8)
      if o.own then 0 else pilotSign j * o.y)
    (e (n0 + fr % 8) ((if lam < 0 then -96 else 96) * pilotSign i)).toList
  else (List.range 136).filterMap fun j => e (n0 + j) (32 * prelim (x.out (n0 + j)).y)

/-- LOCK clears by a loss of lock: LOL, LOLCNT, the integrator at its last value inside ±200 ppm; the retrain delay starts. -/
def Dev.lossOfLock (d : Dev) (k : Nat) : Dev :=
  if !d.on F.LN_TRSTAT_LOCK k then d
  else
    let d1 := ((d.clr F.LN_TRSTAT_LOCK k).set F.LN_TRSTAT_LOL k).inc F.LN_TRSTAT_LOLCNT k
    let d2 := d1.wrS F.LN_TRFREQ_FREQ k (d.lane k).rx.freqIn
    ((d2.mapRx k fun r => { r with relock := false }).mapLane k fun l => { l with lolTimer := true }).hostLol k

/-- The integrator takes a value, held to ±250 ppm; a value inside ±200 ppm is kept for a loss of lock, and one at the limit sets FLIM and
clears LOCK (R94, R97). -/
def Dev.putFreq (d : Dev) (k : Nat) (v : Int) : Dev :=
  let f := clampI (-250000) 250000 v
  let d1 := d.wrS F.LN_TRFREQ_FREQ k f
  if -200000 ≤ f && f ≤ 200000 then d1.mapRx k fun r => { r with freqIn := f }
  else if f == 250000 || f == -250000 then (d1.set F.LN_TRSTAT_FLIM k).lossOfLock k
  else d1

/-- Timing recovery after a word's errors (R96, R98): the rotator phase takes a new value within one turn, and the integrator, unless it is held
or every error is 0, a new value; both are free values, since no gain of the loop is given (log entry 26). -/
def Dev.timing (d : Dev) (k : Nat) (es : List Int) : Dev :=
  let x := (d.lane k).rx
  let (p, d1) := d.freeVal 8
  let d2 := (d1.wr F.LN_TRPHASE_PHASE k p).mapRx k fun r => { r with et := es }
  if x.trfrz || (d.lane k).lolTimer || es.all (· == 0) then d2
  else
    let (f, d3) := d2.freeVal 19
    d3.putFreq k ((f : Int) - 262144)

/-- RX_DATAPATH_CLOCK: 136 samples enter; those that have come one by one already are not converted again. The outputs of the word before
them leave the FFE; taps and timing move; in U modes a block is decided; host lanes that fill send a word. Without the DSP's domain
the samples are converted and recorded only. A word of another length is none. -/
def execRxDatapathClock (lane : Fin 8) (samples : List RxSample) : State → Host.Outcome State Fault Refusal := lift fun d =>
  let k := lane.val
  if !d.domOn (dLADC k) || samples.length ≠ 136 then d
  else
    let part := (d.lane k).rx.part
    let (cs, d0) := d.sample k (samples.drop part.length)
    if !d0.domOn (dLRXD k) then d0
    else
      let x0 := { (d0.lane k).rx with part := [] }
      let x1 := { x0 with xs := x0.xs ++ part ++ cs, words := if x0.started then x0.words + 1 else x0.words }
      let d1 := (hostsOfLane (d0.lrm k) k).foldl (fun e n => e.hostFill n) d0
      if !x0.started then d1.mapRx k fun _ => x1.trim true
      else if x1.words < 2 then d1.mapRx k fun _ => x1
      else
        let c := d.ffeTaps k
        let n0 := 136 * (x1.words - 2)
        let outs := (List.range 136).map fun j => x1.ffe c (n0 + j)
        let x2 := { x1 with ys := x1.ys ++ outs }
        let d2 := (d1.mapRx k fun _ => x2).inc F.DEC_TAINTCNT_COUNT k (outs.filter fun o => o.taint).length
        let d3 := (d2.timing k (x2.timingErrs (d.isC k) n0)).lms k
        let d4 := if d.isC k then d3 else d3.uBlock k
        d4.mapRx k (RxLane.trim (d.isC k))

/-! ## The sign of a frame (R56, R57) -/

/-- FRAME_SIGN_DECIDE: Λ over the frame's unflagged pilots gives s and the raw Partner bit; the level means and σ² update with the pilots
whose symbols have been decided since (log entry 27). -/
def execFrameSignDecide (lane : Fin 8) : State → Host.Outcome State Fault Refusal := lift fun d =>
  let k := lane.val
  let x := (d.lane k).rx
  let fr := x.frame
  if !d.isC k || !x.started || x.outs < 1088 * (fr + 1) then d
  else
    let ps := (List.range 8).map fun i => (pilotSign i, 1088 * fr + 136 * i + fr % 8)
    let good := ps.filter fun p => !(x.out p.2).own
    let lam := sumI (good.map fun p => p.1 * (x.out p.2).y)
    let erased := good.isEmpty
    let s : Int := if lam < 0 then -1 else 1
    let x1 := (x.obs.foldl (fun r p => r.learn p.1 p.2.1 p.2.2 272 136) x).innerMeans
    let bit := if erased then none else some (decide (lam < 0))
    let corr := x.corr ++ [bit]
    let x2 := { x1 with frame := fr + 1, signs := x.signs ++ [s], corr := corr.drop (corr.length - 64), obs := []
                        soft := x.soft.map fun l => l ++ [if erased then 0 else lam] }
    let d1 := ((d.mapRx k fun _ => x2).putLevels k).inc F.DEC_FRMCNT_COUNT k
    if erased then d1.inc F.DEC_ERASCNT_COUNT k else d1

/-! ## Windows (R107 to R113) -/

/-- The value of a pilot of known sign. -/
def pilotVal (s : Int) (pos : Nat) : Nat := valOf (3 * s * pilotSign (pos / 136))

/-- What precedes symbol `n` when frame `fr` has sign `s`: pilots of another frame are undecided. -/
def RxLane.before (x : RxLane) (fr : Nat) (s : Int) (n : Nat) : Before :=
  if n = 0 then .code
  else
    let f := (n - 1) / 1088
    let p := (n - 1) % 1088
    if !isPilot f p then .code
    else if f = fr then .pilot (pilotVal s p)
    else .each (x.pilotPick (x.out (n - 1)) .code)

/-- The branches of symbol `n` (Table 4-3). -/
def RxLane.branches (x : RxLane) (fr : Nat) (s : Int) (n : Nat) : List Branch :=
  let f := n / 1088
  let p := n % 1088
  let bf := x.before fr s n
  if isPilot f p then x.pilotBranches (if f = fr then [pilotVal s p] else [3, 0]) (x.out n) bf
  else x.codeBranches (2 * (p - pilotsBefore f p)) (x.out n) bf

/-- One decided core symbol: its index, level, systematic bits and their log-likelihood ratios. -/
structure Decided where
  n : Nat
  level : Int
  bits : List (Bool × Int)

/-- Reads a core section's decisions. -/
def RxLane.decide (x : RxLane) (n : Nat) (l : List (Branch × Nat)) : Decided :=
  match bestOf l with
  | none => ⟨n, 0, []⟩
  | some (b, _) =>
    ⟨n, levelOf b.val, b.labels.zipIdx.map fun e =>
      (e.1, llrOf x.var (leastOf l fun q => q.labels.getD e.2 false == false) (leastOf l fun q => q.labels.getD e.2 false))⟩

/-- WINDOW_DECODE: window (F, q) of the lane, F's sign being known and its trailing overlap there. -/
def execWindowDecode (lane : Fin 8) : State → Host.Outcome State Fault Refusal := lift fun d =>
  let k := lane.val
  let x := (d.lane k).rx
  let fr := x.window0 / 4
  let q := x.window0 % 4
  let n0 := 272 * x.window0
  match x.signs with
  | [] => d
  | s :: rest =>
    if !d.isC k || !x.started || x.outs < n0 + 304 then d
    else
      let lead := min 32 n0
      let ns := (List.range (lead + 304)).map fun j => n0 - lead + j
      let init : Metrics := if n0 = 0 then (List.range 32).map fun st => if st % 8 = 0 then some 0 else none
        else List.replicate 32 (some 0)
      let res := maxLog 32 init (ns.map (x.branches fr s))
      let dec := (List.zipWith x.decide ns res).drop lead |>.take 272
      let raw := dec.flatMap fun c => c.bits.map fun b => b.1
      let (bits, wq) := dewhiten (if q = 0 && fr % 8 = 0 then whitenOnes else x.dewq) raw
      let levels := dec.map fun c => c.level
      let prev := x.dec.getLastD x.prevLevel
      let x1 := ((dec.zip (prev :: levels))).foldl (fun r e =>
        let o := r.out e.1.n
        let pilot := isPilot (e.1.n / 1088) (e.1.n % 1088)
        if o.taint then r
        else { r.addErr pilot (r.err o.y e.1.level e.2) with obs := if pilot then r.obs ++ [(o, e.1.level, e.2)] else r.obs }) x
      let x2 := { x1.tapDecided n0 levels with window0 := x.window0 + 1, signs := if q = 3 then rest else x.signs
                                               dec := x.dec ++ levels, bits := bits
                                               llr := dec.flatMap fun c => c.bits.map fun b => b.2
                                               dewq := wq, loopq := if d.farLoop k then x.loopq ++ bits else [] }
      let d1 := dec.foldl (fun e c => if (x.out c.n).taint then e
        else c.bits.foldl (fun e2 b => e2.countMargin k 1 (x.llrMargin b.2.natAbs)) e) (((d.mapRx k fun _ => x2).relock k (q == 0)).hostPayload k bits)
      d1.mapRx k (RxLane.trim true)

/-! ## Lock (R97, R115, R116) -/

/-- A figure of R115 from its sum in 1/64 squared units: 0 for an empty set, 60.0 dB at most. -/
def snrFigure (sum cnt : Nat) : Nat :=
  if cnt = 0 then 0 else if sum = 0 then 600 else (clampI 0 600 (decibel (5 * 1024 * 64 * cnt) sum 10 0)).toNat

/-- TR_FREQ_LIMIT: the integrator reaches ±250 ppm; one that is held reaches nothing (R97, R98). -/
def execTrFreqLimit (lane : Fin 8) (positive : Bool) : State → Host.Outcome State Fault Refusal := lift fun d =>
  let k := lane.val
  if !d.domOn (dLRXD k) || !(d.lane k).active || !(d.lane k).rx.started || (d.lane k).lolTimer || (d.lane k).rx.trfrz then d
  else d.putFreq k (if positive then 250000 else -250000)

/-- The LQF that activation needs (R116, R167): the mode's figure plus ACTMARG (above 50 acts as 50), in 0.1 dB. -/
def Dev.actLqf (d : Dev) (k : Nat) : Nat := (if d.isC k then 171 else 186) + satN 50 (d.rd F.LN_BRCFG_ACTMARG k)

/-- Activation is judged after a block (R167, R173). -/
def Dev.judgeActive (d : Dev) (k : Nat) : Dev :=
  if (d.lane k).rx.goodBlocks < 2 then d
  else if d.stepOf k = 5 then
    let d1 := (d.setStep k 6).sendReady k
    if (d1.lane k).rx.farReady then d1.enterActive k else d1
  else if d.stepOf k = 8 then d.enterActive k
  else d

/-- LQF_BLOCK_END: SNR figures, LQF, LOCK and the activation conditions. -/
def execLqfBlockEnd (lane : Fin 8) : State → Host.Outcome State Fault Refusal := lift fun d =>
  let k := lane.val
  let x := (d.lane k).rx
  if !d.domOn (dLRXD k) || !x.started then d
  else
    let p := if d.isC k then snrFigure x.sumP x.cntP else 0
    let f := snrFigure x.sumF x.cntF
    let q := if d.isC k then p else f
    let low := if q < 80 then x.lowBlocks + 1 else 0
    let good := if d.actLqf k ≤ q then x.goodBlocks + 1 else 0
    let d1 := ((((d.wr F.LN_SNR_PILOT k p).wr F.LN_SNR_FFE k f).wr F.LN_LQF_LQF k q).set F.LN_LQF_VALID k).inc F.LN_LQF_BLOCKS k
    let d2 := d1.mapRx k fun r => { r with sumP := 0, cntP := 0, sumF := 0, cntF := 0, lowBlocks := low, goodBlocks := good }
    let d3 := if !d.on F.LN_TRSTAT_LOCK k && 80 ≤ q then ((d2.set F.LN_TRSTAT_LOCK k).mapLane k fun l => { l with lolTimer := false }).mapRx k fun r => { r with relock := true }
      else if 4 ≤ low then d2.lossOfLock k else d2
    d3.judgeActive k

/-! ## Registers and commands -/

/-- A tap write (R103): the value stands and the accumulator's low bits clear. -/
def Dev.tapWritten (d : Dev) (k i : Nat) : Dev := d.mapRx k fun r => { r with acc := setAt r.acc i 0 }

/-- LINE.RX.STAT.GET (Table 4-7). -/
def execLineRxStatGet (src : Src) (lane : Byte) : State → Host.Outcome State Fault Refusal := lift fun d =>
  d.kci src 0xA140 .q fun d =>
    let k := lane.toNat
    if 7 < k then .no .badParam
    else if !d.domOn (dLRXD k) then .no .notReady
    else
      .ok d (be 1 (d.regWord 0x10104 k) ++ be 1 (d.rd F.DEC_STAT_MODE k) ++ be 2 (d.rd F.LN_TRSTAT_LOLCNT k) ++
        be 4 (tc 32 (d.rdS F.LN_TRFREQ_FREQ k)) ++ be 2 (if d.on F.LN_LQF_VALID k then d.rd F.LN_LQF_LQF k else 0) ++
        be 2 (d.rd F.LN_SNR_PILOT k) ++ be 2 (d.rd F.LN_SNR_FFE k) ++ zeros 2 ++ be 4 (d.rd F.LN_LATRX_LAT k) ++
        be 4 (d.rd F.DEC_TAINTCNT_COUNT k) ++ be 4 (d.rd F.DEC_LOWMCNT_COUNT k) ++ be 4 (d.rd F.DEC_ERASCNT_COUNT k))

/-- LINE.RX.CFG.SET (Table 4-8). -/
def execLineRxCfgSet (src : Src) (lane bw trfrz mu ffefrz cursor alpha twt mth : Byte) :
    State → Host.Outcome State Fault Refusal := lift fun d =>
  d.kci src 0xA141 .c fun d =>
    let k := lane.toNat
    let dom := dLRXD k
    if 7 < k || !okKeep bw.toNat 3 || !okKeep trfrz.toNat 1 || !okKeep mu.toNat 7 || !okKeep ffefrz.toNat 1 ||
        !okKeep cursor.toNat 15 || cursor.toNat < 4 || !okKeep alpha.toNat 192 || !okKeep twt.toNat 3 || !okKeep mth.toNat 127 then
      .no .badParam
    else
      .ok ((((((((d.cfgKeep dom F.LN_TRCTL_BW k bw.toNat 0xFF).cfgKeep dom F.LN_TRCTL_FREEZE k trfrz.toNat 0xFF).cfgKeep dom
        F.LN_FFECTL_MU k mu.toNat 0xFF).cfgKeep dom F.LN_FFECTL_FREEZE k ffefrz.toNat 0xFF).cfgKeep dom F.LN_FFECTL_CURSOR k
        cursor.toNat 0xFF).cfgKeep dom F.LN_TGT_ALPHA k alpha.toNat 0xFF).cfgKeep dom F.DEC_CTL_TWT k twt.toNat 0xFF).cfgKeep dom
        F.DEC_CTL_MTH k mth.toNat 0xFF) []

/-- LINE.FFE.GET (Table 4-9). -/
def execLineFfeGet (src : Src) (lane : Byte) : State → Host.Outcome State Fault Refusal := lift fun d =>
  d.kci src 0xA142 .q fun d =>
    let k := lane.toNat
    if 7 < k then .no .badParam
    else if !d.domOn (dLRXD k) then .no .notReady
    else
      let pins := (List.range 48).any fun i => d.pinned ((F.LN_FFETAP_VAL).at i) k
      .ok d (be 1 (d.lane k).rx.cursor ++ be 1 (d.lane k).rx.alpha ++ be 1 (d.rd F.LN_FFECTL_FREEZE k + 2 * b2n pins) ++ be 1 0 ++
        (d.ffeTaps k).flatMap fun t => be 2 (tc 16 t))

/-- LINE.FFE.SET (Table 4-10). -/
def execLineFfeSet (src : Src) (lane first count : Byte) (taps : List (BitVec 16)) :
    State → Host.Outcome State Fault Refusal := lift fun d =>
  d.kci src 0xA143 .c fun d =>
    let k := lane.toNat
    let n := count.toNat
    if 7 < k || 47 < first.toNat || n = 0 || 48 < first.toNat + n || taps.length ≠ n ||
        taps.any (fun t => t.toInt < -2048 || 2047 < t.toInt) then .no .badParam
    else if !d.domOn (dLRXD k) then .no .notReady
    else .ok (iter n (fun j e =>
      (e.wrS ((F.LN_FFETAP_VAL).at (first.toNat + j)) k (taps.getD j 0).toInt).tapWritten k (first.toNat + j)) d) []

/-- LINE.DEC.HIST.GET (Table 4-11): firmware's latest snapshot. -/
def execLineDecHistGet (src : Src) (lane : Byte) : State → Host.Outcome State Fault Refusal := lift fun d =>
  d.kci src 0xA144 .q fun d =>
    let k := lane.toNat
    if 7 < k then .no .badParam
    else
      let t := d.tel.getD k {}
      if !d.domOn (dLRXD k) || !(d.lane k).rx.snapped then .ok d (zeros 72)
      else .ok d (be 1 t.hseq ++ zeros 3 ++ be 4 t.hfrm ++ (List.range 16).flatMap fun b => be 4 (t.bins.getD b 0))

end Sys2Proof.Machine
end

