-- ==== Sys2Proof/Machine/Bringup.lean ====
section
/-! DEFINITION. Line bring-up (R161 to R177): activation start, host alignment, the beacon exchange, training, outcomes,
fallback, retraining, and the stop of a data path; the LINE.BRUP, LINE.FALLBACK and LINE.RETRAIN commands. -/

namespace Sys2Proof.Machine

/-! ## Starting and stopping the receiver -/

/-- The receiver before frame 0 or symbol 0: nothing decided, no reception, no far-end state. The level before the first symbol counts as 0
(DESIGN CHOICE, log entry 83: R101 gives none). A capture's undecided entries get no decision any more. -/
def RxLane.idle (x : RxLane) : RxLane :=
  { x with started := false, frame := 0, blocks := 0, words := 0, adapted := 0, ys := [], ybase := 0, signs := [], dec := []
           prevLevel := 0, window0 := 0, bits := [], llr := [], dewq := 0, lastSym := 0, loopq := [], sumP := 0, cntP := 0
           sumF := 0, cntF := 0, lowBlocks := 0, goodBlocks := 0, corr := [], soft := none, lastBlk := none, runValid := 0
           runMatch := 0, farSwitch := 0, farReady := false, part := [], obs := [], et := [], relock := false
           tb := x.tb.map fun c => { c with ents := c.ents.map fun e => { e with n := none } } }

/-- The level means at frame 0 or symbol 0: 32 a, and no noise seen yet (log entry 27); its symbol is taken by phase 0 (R55). -/
def RxLane.begin (x : RxLane) : RxLane :=
  { x with started := true, ph := 0, m3 := 96 * 65536, m1 := 32 * 65536, mm1 := -32 * 65536, mm3 := -96 * 65536, var := 0 }

/-- The receiver stops: LOCK clears without a loss of lock (R97), the decoder is idle, and the host lanes leave DATA (R176). -/
def Dev.rxStop (d : Dev) (k : Nat) : Dev :=
  let d1 := ((d.clr F.LN_TRSTAT_LOCK k).wr F.DEC_STAT_MODE k 0).mapRx k RxLane.idle
  ((d1.mapLane k fun l => { l with lolTimer := false, trn := false }).hostUnlol k).fixHosts k

/-- Received frame 0 or symbol 0: frames, windows and LQF blocks are counted from here; VALID and BLOCKS clear (R115). -/
def Dev.rxBegin (d : Dev) (k mode : Nat) : Dev :=
  (((d.clr F.LN_LQF_VALID k).wr F.LN_LQF_BLOCKS k 0).wr F.DEC_STAT_MODE k mode).mapRx k fun r => r.idle.begin

/-- LN_CTL.RETRAIN clears on entry to SEARCH or UTRAIN. -/
def Dev.searchEntry (d : Dev) (k st : Nat) : Dev := (d.setStep k st).clr F.LN_CTL_RETRAIN k

/-- Bring-up restarts at SEARCH: BLKCNT from 0, a transmitter that sends DATA returns to BEACON, the receiver stops. MISMATCH stays until
four blocks without the fault have come (R164). -/
def Dev.toSearch (d : Dev) (k : Nat) : Dev :=
  let d1 := ((d.searchEntry k 2).clr F.LN_STAT_BCNLOCK k).rxStop k
  let d2 := (d1.ptnrDrop k false).mapTx k fun t => { t with blk := 0, switch := 0, switched := false }
  if d2.rd F.TX_STAT_STATE k = 1 then d2 else d2.txPend k 1

/-- A restart under R166 or R435 is counted in SYNCFAIL. -/
def Dev.restartSearch (d : Dev) (k : Nat) : Dev := (d.inc F.LN_RTCNT_SYNCFAIL k).toSearch k

/-- UTRAIN restarts: symbol 0 and the LQF blocks are taken anew; ALIGNED clears and sets again (R55, R173). -/
def Dev.restartUtrain (d : Dev) (k : Nat) : Dev :=
  let d1 := ((d.searchEntry k 8).rxStop k).rxBegin k 2
  (d1.set F.SA_LSTAT_ALIGNED k).mapLane k fun l => { l with trn := true }

/-- A new bring-up of the lane: no outcome, nothing heard; ELAPSED counts from now. -/
def Dev.newBringup (d : Dev) (k : Nat) : Dev :=
  (d.putOutcome k none).mapLane k fun l => { l with heard := false, srch := false, trn := false, since := d.now }

/-- A retrain (R175): counted, RTEV, the booked packets and the lane's stamps dropped, and a new bring-up. -/
def Dev.retrain (d : Dev) (k : Nat) : Dev :=
  let d1 := (((d.inc F.LN_RTCNT_RETRAINS k).set F.LN_STAT_RTEV k).ptnrDrop k false).dropMarks k
  let d2 := (d1.newBringup k).mapLane k fun l => { l with alarm := l.alarm ||| 32 }
  if d2.isC k then (d2.clr F.SA_LSTAT_INV k).toSearch k else d2.restartUtrain k

/-- A request by LN_CTL.RETRAIN or LINE.RETRAIN (R175, R435). -/
def Dev.retrainRequest (d : Dev) (k : Nat) : Dev :=
  let st := d.stepOf k
  if 5 ≤ st && st ≤ 7 then d.retrain k
  else if 2 ≤ st && st ≤ 4 then d.restartSearch k
  else if st = 8 then d.restartUtrain k
  else d.set F.LN_CTL_RETRAIN k

/-! ## Activation start and host alignment -/

/-- Firmware writes the taps before activation (R104): the converged set of the mode, or the cursor tap alone. A pinned tap
keeps its value. -/
def Dev.writeTaps (d : Dev) (k : Nat) : Dev :=
  let x := (d.lane k).rx
  let l := x.taps.getD (d.lrm k) []
  let cur := max 4 (d.rd F.LN_FFECTL_CURSOR k)
  (iter 48 (fun i e =>
    let f := (F.LN_FFETAP_VAL).at i
    e.bg f k (if l.length = 48 then l.getD i 0 else if i = cur then 256 else 0)) d).mapRx k fun r =>
      { r with acc := List.replicate 48 0 }

/-- Whether the lane's commits of R432 have been made. -/
def Dev.committed (d : Dev) (k : Nat) : Bool := !d.on F.SA_LCTL_CMTREQ k && !d.on F.TX_CTL_CMTREQ k

/-- What is read at activation: K, ALPHA, MAIN (R125), precoding, URXINV; the inversion of the last bring-up ends (R65), and LOCKED reads 0
for the first DPD pass (R138). -/
def Dev.readActivation (d : Dev) (k : Nat) (p : Path) : Dev :=
  let inv := p.lrm ≥ 2 && d.on F.LN_CTL_URXINV k
  (((d.mapRx k fun r =>
    { r.idle with cursor := max 4 (d.rd F.LN_FFECTL_CURSOR k), alpha := satN 192 (d.rd F.LN_TGT_ALPHA k), precode := p.prerx
                  farCap := [] }).clr F.TX_DPDSTAT_LOCKED k).mapTx k fun t =>
    { t with main := satN 8 (d.rd F.TX_FFECTL_MAIN k), blk := 0, switch := 0, switched := false, pend := none, hint := [] }).wr
      F.SA_LSTAT_INV k (b2n inv)

/-- The host lanes of an activating lane: rate, equalisation from its base, and their output states. -/
def Dev.startHosts (d : Dev) (k : Nat) (p : Path) : Dev :=
  ((hostsOfLane p.lrm k).foldl (fun e n => ((e.wr F.HL_STAT_RATE n (if p.lrm = 3 then 1 else 2)).readRow n).hostStart n) d).fixHosts k

/-- The driven outputs of an A11 lane take the states of Table 10-1: its line output at its next boundary, its host outputs now; they
send nothing until the stream starts (log entry 43). -/
def Dev.startPattern (d : Dev) (k : Nat) (p : Path) : Dev :=
  if p.mode ≠ 11 then d
  else
    let d1 := if p.outputs % 2 = 1 then d.txPend k 3 else d
    if p.outputs / 2 % 2 = 1 then (hostsOfLane p.lrm k).foldl (fun e n => e.hostState n 4) d1 else d1

/-- Far-end line loopback alone waits for no host lane: ALIGN completes at once. -/
def Path.far (p : Path) : Bool := p.mode == 12 && p.outputs.testBit 1

/-- ACTIVATION_START: the lane leaves OFF for ALIGN (R432). -/
def execActivationStart (lane : Fin 8) : State → Host.Outcome State Fault Refusal := lift fun d =>
  let k := lane.val
  match d.pathOf k with
  | none => d
  | some p =>
    if p.state ≠ 1 || (d.lane k).active || !(d.lane k).prepared || !d.committed k || !((laneSet p.lrm k).all d.domOn) then d
    else
      let d1 := ((d.writeTaps k).readActivation k p).mapLane k fun l =>
        { l with active := true, wasActive := false, lastLrm := p.lrm, lolTimer := false, capSent := false
                 alarmSent := 0 }
      let d1 := d1.mapWs fun w => { w with dpdLast := vset w.dpdLast k fun _ => none }
      let d2 := (((((d1.newBringup k).clr F.LN_TRSTAT_LOCK k).clr F.LN_LQF_VALID k).wr F.LN_LQF_BLOCKS k 0).clr F.LN_STAT_PEERC
        k).startHosts k p |>.startPattern k p
      let d3 := if p.fb then d2.set F.LN_STAT_FBDONE k else d2
      if !p.bringup then d3.plainActive p
      else if p.far && p.lrm < 2 then ((d3.setStep k 1).searchEntry k 2).txPend k 1
      else d3.setStep k 1

/-- Locks host lane `n`: SIGDET, CDRLOCK, adaptation, and with host traffic its alignment. -/
def Dev.lockHost (d : Dev) (n lrm phi : Nat) (pad : Bool) : Dev :=
  let d1 := ((d.set F.HL_STAT_SIGDET n).set F.HL_STAT_CDRLOCK n).hostAdapt n
  if pad then (if n % 2 = 0 then d1.set F.HL_STAT_TXLOCK n else d1).hostPad n lrm phi else d1

/-- HOST_CDR_LOCK: the CDRs of the lane's used host lanes lock (R143). Where the host's traffic feeds the lane the transmit rotator locks
and the pads are set (R151), and C modes go on to SEARCH with the beacon; in A11 and loopback the CDRs lock and nothing waits for
them (R160, R240, R433). -/
def execHostCdrLock (lane : Fin 8) (phiEven phiOdd : Nat) : State → Host.Outcome State Fault Refusal := lift fun d =>
  let k := lane.val
  match d.pathOf k with
  | none => d
  | some p =>
    let traffic := p.bringup && !p.far
    if !(d.lane k).active || (traffic && d.stepOf k != 1) then d
    else
      let d1 := (hostsOfLane p.lrm k).foldl (fun e n => e.lockHost n p.lrm (if n % 2 = 0 then phiEven else phiOdd) traffic) d
      if traffic && p.lrm < 2 then (d1.searchEntry k 2).txPend k 1 else d1

/-- What is left of a C225 beacon block at the commit boundary inside it goes out with the shaping and forced squelch now in force. -/
def Dev.beaconRest (d : Dev) (k : Nat) : Dev :=
  let c := d.txCfg k
  if (d.lane k).tx.rest.isEmpty then d
  else d.mapTx k fun x => { x with dac := x.rest.map fun b => c.code (if b then c.v3 else -c.v3), rest := [] }

/-- TX_COMMIT_BOUNDARY: a requested commit, then EN, FS and the forced squelch take effect, then a pending change of output
state; then the next frame or block, if a stream runs, goes out with the new shaping, and without one code 0 (R122). The host lanes in
LOOP send back what they received, and locked host receivers adapt. -/
def execTxCommitBoundary (lane : Fin 8) (even : BitVec 2176) (odd : BitVec 1024) :
    State → Host.Outcome State Fault Refusal := lift fun d =>
  let k := lane.val
  if !d.domOn (dLTXD k) then d
  else
    let old := d.txCfg k
    let d1 := if d.on F.TX_CTL_CMTREQ k then d.txCommit k else d
    let d2 := d1.mapTx k fun x => { x with dpdEn := d.on F.TX_DPDCTL_EN k, fs := d.rd F.TX_DAC_FS k, freeBlocks := x.freeBlocks + 1 }
    let d3 := if d.txPendDue k then d2.txState k old else d2
    let t3 := (d3.lane k).tx
    let start := t3.frame == 0 && t3.hist.isEmpty
    let st := d3.rd F.TX_STAT_STATE k
    let d4 := d3.wr F.TX_STAT_SQACT k (b2n (d.on F.TX_CTL_SQ k && st != 0))
    let d5 := if !t3.streaming then
        (if st = 1 then d4.beaconRest k else if (d.lane k).tx.streaming then d4 else d4.mapTx k fun x => { x with dac := quiet [] })
      else
        let (levels, e) := if st = 3 then d4.patternOut k else if d4.isC k then d4.frameOut k even odd else d4.blockOut k even
        ((e.txSend k old (e.txCfg k) start levels).obsFeed k t3.frame (levels.map fun a => if a = 0 then 0 else valOf a)).patternEnd k st
    let d6 := (d5.hostLoop k even odd).adaptHosts k
    let d7 := match d6.pathOf k with | some p => d6.plainActive p | none => d6
    d7.settleWait (.txCommit k) .ok []

/-- UTRAIN_START: the U-mode output enters DATA at a 1,088-UI boundary, and the first symbol sampled is symbol 0 (R173). -/
def execUtrainStart (lane : Fin 8) : State → Host.Outcome State Fault Refusal := lift fun d =>
  let k := lane.val
  match d.pathOf k with
  | none => d
  | some p =>
    let aligned := p.far || (hostsOfLane p.lrm k).all fun n => d.on F.HL_STAT_ALIGNED n
    if !p.bringup || p.lrm < 2 || d.stepOf k ≠ 1 || !aligned then d
    else
      let d1 := (d.txPend k 2).txState k (d.txCfg k)
      (((d1.searchEntry k 8).rxBegin k 2).set F.SA_LSTAT_ALIGNED k).mapLane k fun l => { l with trn := true }

/-! ## The beacon exchange (R162 to R166) -/

/-- CONTENT of the lane's next beacon block (Table 7-2). -/
def Dev.beaconOut (d : Dev) (k : Nat) (p : Path) (switch : Nat) : List Byte :=
  let st := d.stepOf k
  be 1 1 ++ be 1 st ++ be 1 p.lrm ++ be 1 (k + 16 * p.size) ++ be 1 (b2n (3 ≤ st && !d.on F.LN_STAT_MISMATCH k)) ++ be 1 0 ++
    be 2 0x3400 ++ be 4 d.sec.running.version ++ be 4 (d.sec.serial % 2 ^ 32) ++ be 4 (d.lane k).tx.blk ++ be 4 switch ++ be 2 0

/-- BEACON_BLOCK_TX: from SQUELCH the beacon starts here; a block begins at a commit boundary, so the forced squelch takes effect with it
(R134, R177). The codes up to the next boundary are ±V3, inverted by INV and 0 under the forced squelch; the rest of a C225 block follows
at that boundary. In AGREED the first block announces SWITCH; the block numbered SWITCH is frame 0 instead. -/
def execBeaconBlockTx (lane : Fin 8) : State → Host.Outcome State Fault Refusal := lift fun d =>
  let k := lane.val
  match d.pathOf k with
  | none => d
  | some p =>
    let d1 := if (d.lane k).tx.pend = some 1 && d.rd F.TX_STAT_STATE k = 0 then d.txState k (d.txCfg k) else d
    let t := (d1.lane k).tx
    let st := d1.stepOf k
    if !d1.domOn (dLTXD k) || d1.rd F.TX_STAT_STATE k ≠ 1 || t.pend.isSome || st < 2 || 4 < st ||
        (t.switch ≠ 0 && t.switch = t.blk) then d1
    else
      let sw := if st = 4 && t.switch = 0 then (t.blk + 1024) % 2 ^ 32 else t.switch
      let bits := beaconBits (d1.beaconOut k p sw)
      let d2 := d1.wr F.TX_STAT_SQACT k (b2n (d1.on F.TX_CTL_SQ k))
      let c := d2.txCfg k
      let uis := beaconUis p.lrm bits
      let d3 := d2.mapTx k fun x =>
        { x with blk := (t.blk + 1) % 2 ^ 32, switch := sw, lastBlock := bitsNat bits, rest := uis.drop 1088
                 dac := (x.rest ++ uis.take 1088).map fun b => c.code (if b then c.v3 else -c.v3) }
      if (d3.lane k).outcome.isNone then d3.mapLane k fun l => { l with srch := true } else d3

/-- A valid beacon block's CONTENT (R163). -/
structure Beacon where
  mode : Nat
  lane : Nat
  rxsync : Bool
  part : Nat
  fwver : Nat
  devid : Nat
  blk : Nat
  switch : Nat

/-- Reads a block's bits, at either polarity; the Boolean says that it came inverted. -/
def readBeacon (bits : List Bool) : Option (Bool × Beacon) :=
  let inv := bitsNat (bits.take 32) == 0x4B19E3D2
  match beaconContent (if inv then bits.map (!·) else bits) with
  | none => none
  | some l =>
    let n := fun (o w : Nat) => fieldAt (l.map (BitVec.ofNat 8)) o w
    if n 0 1 ≠ 1 then none
    else some (inv, { mode := n 2 1, lane := n 3 1 % 8, rxsync := (n 4 1).testBit 0, part := n 6 2, fwver := n 8 4
                      devid := n 12 4, blk := n 16 4, switch := n 20 4 })

/-- What R164 refuses: another MODE, or a PART Table 7-2 does not list. -/
def Beacon.fault (b : Beacon) (lrm : Nat) : Bool := b.mode != lrm || !([0x0425, 0x1700, 0x3400].contains b.part)

/-- What every valid block leaves: the far end's identity; an inverted one sets the inversion, which holds until the next bring-up (R65). -/
def Dev.beaconSeen (d : Dev) (k : Nat) (inv : Bool) (b : Beacon) : Dev :=
  (((((d.wr F.LN_FEID_PART k b.part).wr F.LN_FEID_LANE k b.lane).wr F.LN_FEID_MODE k b.mode).wr F.LN_STAT_XLANE k
    (b2n (b.lane != k))).wr F.SA_LSTAT_INV k (b2n (inv || d.on F.SA_LSTAT_INV k))).mapRx k fun r => { r with feFwver := b.fwver, feDevid := b.devid }

/-- BCNLOCK: the far end's grid is held; the interleave alignment is taken on it (R163). -/
def Dev.beaconLock (d : Dev) (k : Nat) (grid : Bool) : Dev :=
  if grid && 3 ≤ d.stepOf k then (d.set F.LN_STAT_BCNLOCK k).set F.SA_LSTAT_ALIGNED k else d

/-- A valid block in SEARCH, HEARD or AGREED. -/
def Dev.beaconStep (d : Dev) (k : Nat) (p : Path) (grid : Bool) (b : Beacon) : Dev :=
  let x := (d.lane k).rx
  let st := d.stepOf k
  let follows := x.lastBlk == some b.blk
  let clash := b.switch ≠ 0 && x.farSwitch ≠ 0 && b.switch ≠ x.farSwitch
  if (3 ≤ st && !follows) || clash then d.restartSearch k
  else
    let run := if follows then x.runValid + 1 else 1
    let ok := if b.fault p.lrm then 0 else x.runMatch + 1
    let d1 := d.mapRx k fun r =>
      { r with lastBlk := some ((b.blk + 1) % 2 ^ 32), runValid := run, runMatch := ok
               farSwitch := if b.switch = 0 then r.farSwitch else b.switch }
    let d2 := if b.fault p.lrm then d1.set F.LN_STAT_MISMATCH k
      else if 4 ≤ ok then d1.clr F.LN_STAT_MISMATCH k else d1
    let d3 := if st = 2 then (if 4 ≤ run then (d2.setStep k 3).mapLane k fun l => { l with heard := true } else d2)
      else if st = 3 && b.rxsync && !d2.on F.LN_STAT_MISMATCH k then d2.setStep k 4
      else d2
    d3.beaconLock k grid

/-- TRAIN begins once both ends' frame 0 have passed (R165). -/
def Dev.tryTrain (d : Dev) (k : Nat) : Dev :=
  if d.stepOf k = 4 && (d.lane k).tx.switched && (d.lane k).rx.started then
    (d.setStep k 5).mapLane k fun l => { l with trn := true, srch := false }
  else d

/-- FRAME0_START: the boundary at which block SWITCH would begin; the output enters DATA at frame 0. -/
def execFrame0Start (lane : Fin 8) : State → Host.Outcome State Fault Refusal := lift fun d =>
  let k := lane.val
  let t := (d.lane k).tx
  if d.stepOf k ≠ 4 || d.rd F.TX_STAT_STATE k ≠ 1 || t.switch = 0 || t.switch ≠ t.blk then d
  else (((d.txPend k 2).txState k (d.txCfg k)).mapTx k fun x => { x with switched := true }).tryTrain k

/-- RX_FRAME0: received frame 0 (C modes) or symbol 0 (U modes) starts the host transmit lanes (R153, R169). -/
def execRxFrame0 (lane : Fin 8) : State → Host.Outcome State Fault Refusal := lift fun d =>
  let k := lane.val
  if d.isC k then
    (if d.stepOf k ≠ 4 || (d.lane k).rx.farSwitch = 0 || (d.lane k).rx.started then d
     else ((d.rxBegin k 1).fixHosts k).tryTrain k)
  else if (d.lane k).rx.started && d.stepOf k == 8 then d.fixHosts k
  else d

/-! ## Judgement: SIGDET, timeouts, fallback -/

/-- SIGDET_UPDATE (R171). -/
def execSigdetUpdate (lane : Fin 8) (rms : Nat) : State → Host.Outcome State Fault Refusal := lift fun d =>
  let k := lane.val
  if d.domOn (dLADC k) && d.domOn (dLRXD k) then d.wr F.LN_STAT_SIGDET k (b2n (16 < rms)) else d

/-- The paths an armed fallback selects (R172). -/
def Fallback.paths (f : Fallback) (p : Path) : List Path :=
  let mk := fun (first size lrm : Nat) => ({ first := first, size := size, mode := f.mode, lrm := lrm, pretx := f.pretx
                                             prerx := f.prerx, fb := true } : Path)
  match f.mode with
  | 6 => [mk p.first 8 2]
  | 8 => [mk p.first 8 3]
  | 7 => p.lanes.map fun k => mk k 1 2
  | _ => p.lanes.map fun k => mk k 1 3

/-- Evaluates the fallback of a group whose lanes are all FOREIGN and in SEARCH, unless a low-power request has become effective. -/
def Dev.tryFallback (d : Dev) (p : Path) : Dev :=
  match d.fallbacks.find? fun f => f.first == p.first with
  | none => d
  | some f =>
    if !(p.lanes.all fun k => (d.lane k).outcome == some 1 && d.stepOf k == 2) || p.state = 3 || !d.canSelect then d
    else
      let rest := { d with paths := d.paths.filter fun q => q.first != p.first }
      if (f.paths p).all rest.fits then
        let d1 := p.lanes.foldl (fun e k => e.putOutcome k (some 5)) { d with fallbacks := d.fallbacks.filter fun g => g.first != p.first }
        (d1.mapPath p.first fun q => { q with state := 3, next := some f }).event evBringup (0x200 + p.first) |>.int
      else p.lanes.foldl (fun e k => e.set F.LN_STAT_FBREF k) d

/-- Evaluates the armed fallback of the group lane `k` lies in. -/
def Dev.fallback (d : Dev) (k : Nat) : Dev :=
  match d.pathOf k with
  | some p => d.tryFallback p
  | none => d

/-- BEACON_BLOCK_RX: the codes of one received block before the receive inversion, with its first edge `start` eighths of a UI after the first
(R64); `grid` says that the far end's symbol grid is held within ±1/8 UI. -/
def execBeaconBlockRx (lane : Fin 8) (samples : List Int) (start : Int) (grid : Bool) : State → Host.Outcome State Fault Refusal := lift fun d =>
  let k := lane.val
  match d.pathOf k with
  | none => d
  | some p =>
    let st := d.stepOf k
    if st < 2 then d
    else match readBeacon (beaconDecide p.lrm samples start) with
      | none => if st ≤ 4 then d.mapRx k fun r =>
          { r with lastBlk := r.lastBlk.map fun b => (b + 1) % 2 ^ 32, runValid := 0, runMatch := 0 } else d
      | some (inv, b) =>
        if 2 ≤ p.lrm then d.set F.LN_STAT_PEERC k
        else if 5 ≤ st then d.retrain k
        else ((d.beaconSeen k inv b).beaconStep k p grid b).fallback k

/-- BEACON_LOSS: the far-end beacon ends before a nonzero SWITCH has been decoded, in whichever step (R166); with no beacon heard there is
none to end. -/
def execBeaconLoss (lane : Fin 8) : State → Host.Outcome State Fault Refusal := lift fun d =>
  let k := lane.val
  let st := d.stepOf k
  let x := (d.lane k).rx
  if x.farSwitch ≠ 0 || st < 2 || 4 < st || (st = 2 && x.lastBlk.isNone) then d
  else (d.restartSearch k).fallback k

/-- SRCHTO_EXPIRY: before frame 0 the lane takes the first of NOSIG, MISMATCH, NOAGREE and FOREIGN that holds. -/
def execSrchtoExpiry (lane : Fin 8) : State → Host.Outcome State Fault Refusal := lift fun d =>
  let k := lane.val
  let l := d.lane k
  if !l.srch then d
  else
    let d1 := d.mapLane k fun l => { l with srch := false }
    if d.stepOf k < 2 || 4 < d.stepOf k then d1
    else
      let o := if !d.on F.LN_STAT_SIGDET k then 2 else if d.on F.LN_STAT_MISMATCH k then 3 else if l.heard then 7 else 1
      let d2 := d1.putOutcome k (some o)
      let d3 := if o = 7 then d2.toSearch k else d2
      (d3.fallback k).settlePaths

/-- TRNTO_EXPIRY: the outcome is TRAINTO; C modes restart at SEARCH, U modes restart UTRAIN with the taps of R104. -/
def execTrntoExpiry (lane : Fin 8) : State → Host.Outcome State Fault Refusal := lift fun d =>
  let k := lane.val
  let st := d.stepOf k
  if !(d.lane k).trn || !(st == 5 || st == 6 || st == 8) then d
  else
    let d1 := (d.set F.LN_STAT_TRAINTO k).putOutcome k (some 4)
    (if st = 8 then (d1.writeTaps k).restartUtrain k else d1.toSearch k).settlePaths

/-- RETRAIN_DELAY_EXPIRY: LOCK has stayed clear for RTDLY; with AUTORT = 1 the lane retrains. -/
def execRetrainDelayExpiry (lane : Fin 8) : State → Host.Outcome State Fault Refusal := lift fun d =>
  let k := lane.val
  let st := d.stepOf k
  if (d.lane k).lolTimer && !d.on F.LN_TRSTAT_LOCK k && d.on F.LN_CTL_AUTORT k && 5 ≤ st && st ≤ 7 then d.retrain k else d

/-! ## Reporting and stopping -/

/-- Writes one lane's latencies, each within its band (R32, R152): none towards the line under far-end loopback (R433), and none of a
host lane that realigns (R156). -/
def Dev.putLat (d : Dev) (k lrm : Nat) (r : LatReport) : Dev :=
  let far := d.farLoop k
  let tx := latTx lrm r.tx
  let even := if far || (d.host (2 * k)).realign then 0 else tx
  let d1 := ((d.wr F.LN_LATRX_LAT k (latRx lrm r.rx)).wr F.LN_LATTX_LAT k even).wr F.HL_LATTX_LAT (2 * k) even
  if lrm = 0 then d1.wr F.HL_LATTX_LAT (2 * k + 1) (if far || (d.host (2 * k + 1)).realign then 0 else latOdd tx r.odd) else d1

/-- CAP has been sent, or is booked, being sent or waiting for a retry, on a lane of the path (R182). -/
def Dev.capOut (d : Dev) (p : Path) : Bool :=
  (p.lanes.any fun k => (d.lane k).capSent) || p.lanes.any fun k =>
    let t := (d.lane k).tx
    (t.calendar.any fun b => b.type == 2) || (t.cur.any fun b => b.type == 2) || t.retry.any fun r => r.1 == 2

/-- DATAPATH_ACTIVATED: every lane of the group is ACTIVE; firmware writes the latencies it has measured, reports the data
path activated, and sends CAP (R168, R182). A near-end loopback group has its loop latencies written (R160). -/
def execDatapathActivated (first : Fin 8) (lats : List LatReport) : State → Host.Outcome State Fault Refusal := lift fun d =>
  match d.paths.find? fun p => p.first == first.val with
  | none => d
  | some p =>
    let all := p.lanes.all fun k => lats.any fun r => r.lane.val == k
    if !all || p.reported then d
    else if !p.bringup then
      (if p.mode = 12 && p.state = 2 then
        p.hosts.foldl (fun e n => match lats.find? fun r => r.lane.val == n / 2 with
          | some r => e.wr F.HL_LATTX_LAT n (if n % 2 = 0 then r.tx else r.odd)
          | none => e) (d.mapPath p.first fun q => { q with reported := true })
       else d)
    else if p.state = 3 || !(p.lanes.all fun k => d.stepOf k == 7) then d
    else
      let d1 := lats.foldl (fun e r => if p.lanes.contains r.lane.val then e.putLat r.lane.val p.lrm r else e) d
      let d2 := d1.mapPath p.first fun q => { q with state := 2, reported := true }
      (if d.capOut p then d2 else d2.sendCap p).settlePaths

/-- A deactivating path with no lane left active is OFF: its outcomes are final, its bias channels go to zero and its domains go down (R40,
R389); from step 2 of R29 on these are steps of the power-down. -/
def Dev.pathStopped (d : Dev) (first : Nat) : Dev :=
  match d.paths.find? fun p => p.first == first with
  | none => d
  | some p =>
    if p.state ≠ 3 || (p.lanes.any fun k => (d.lane k).active) then d
    else
      let d1 := if p.bringup then p.lanes.foldl (fun e k => if (e.lane k).outcome.isNone then e.putOutcome k (some 6) else e) d else d
      (if d1.power.downStep ≤ 1 then (d1.opticsZero p.lanes).pathDown p else d1).settlePaths

/-- DATAPATH_STOP: the lane of a deactivating path stops at its boundary (R29, R133, R177). -/
def execDatapathStop (lane : Fin 8) : State → Host.Outcome State Fault Refusal := lift fun d =>
  let k := lane.val
  match d.pathOf k with
  | none => d
  | some p =>
    if p.state ≠ 3 || !(d.lane k).active then d
    else
      let taps := (List.range 48).map fun i => d.rd ((F.LN_FFETAP_VAL).at i) k
      let was := (d.lane k).wasActive
      let open_ := p.bringup && (d.stepOf k != 7 || !p.reported) && (d.lane k).outcome != some 5
      let d1 := if open_ then d.putOutcome k (some 6) else d
      let d2 := ((d1.ptnrDrop k true).dropMarks k).txFlush k (d.txCfg k)
      let d3 := (((d2.wr F.TX_STAT_STATE k 0).clr F.TX_STAT_SQACT k).mapTx k fun t =>
        { t with pend := none, blk := 0, switch := 0, switched := false, streaming := false }).mapRx k fun r =>
          { r.idle with taps := if was then vset r.taps p.lrm fun _ => taps else r.taps }
      let d4 := (d3.setStep k 0).mapLane k fun l =>
        { l with active := false, prepared := false, srch := false, trn := false, lolTimer := false, heard := false, capSent := false }
      let d5 := (((((d4.clr F.LN_TRSTAT_LOCK k).wr F.DEC_STAT_MODE k 0).clr F.SA_LSTAT_ALIGNED k).clr F.LN_STAT_BCNLOCK k).zeroLat k)
      let d6 := (hostsOfLane p.lrm k).foldl (fun e n =>
        ((e.clr F.HL_STAT_ALIGNED n).clr F.HL_STAT_TXLOCK n).mapHost n fun h => { h with realign := false, lost := false, lolIdle := false }) d5
      (((d6.hostState (2 * k) 0).hostState (2 * k + 1) 0).tbEnd k false).pathStopped p.first

/-- Begins a deactivation: a pattern stream is abandoned at once (R247); a path with no active lane is OFF already. -/
def Dev.startDeact (d : Dev) (first : Nat) : Dev :=
  let d1 := d.deactivate first
  (if d.paths.any fun p => p.first == first && p.mode == 11 && p.state != 3 then d1.pgAbandon else d1).pathStopped first

/-- Every deactivated path whose domains are down is gone: the commands that wait complete, and a fallback is selected and its configuration
reported as accepted, or abandoned with its arming kept (R40, R172). -/
def Dev.pathsGone (d : Dev) : Dev :=
  let down := fun (i : Nat) => !d.domOn i && !d.power.downing.testBit i && !d.power.waking.testBit i
  let gone := fun (p : Path) => p.state == 3 && !(p.lanes.any fun k => (d.lane k).active) && p.domains.all down
  let out := d.paths.filter gone
  let d1 := { d with paths := d.paths.filter fun p => !gone p }
  out.foldl (fun e p =>
    let e1 := e.settle fun a => if a.wait == .deact (laneMask p.lanes) then some (.ok, []) else none
    match p.next with
    | none => e1
    | some f =>
      if e1.canSelect then (f.paths p).foldl (fun x q => if x.fits q then (x.selectPath q).putConfig q.lanes 1 else x) e1
      else { e1 with fallbacks := e1.fallbacks ++ [f] }) d1 |>.appselProgress

/-! ## Commands -/

/-- APP.STAT.GET (Table 1-9). -/
def execAppStatGet (src : Src) : State → Host.Outcome State Fault Refusal := lift fun d =>
  d.kci src 0xAC00 .q fun d =>
    .ok d ((List.range 8).flatMap fun k => match d.pathOf k with
      | none => be 1 0 ++ be 1 0xFF ++ be 1 0 ++ be 1 0xFF
      | some p => be 1 p.mode ++ be 1 p.first ++ be 1 p.state ++ be 1 p.lrm)

/-- APP.SELECT (R39), in the order of R434: BUSY on a conflict whatever the other fields hold, and behind waiting CMIS selections, which
firmware accepted earlier (R26; DESIGN CHOICE, log entry 79). -/
def execAppSelect (src : Src) (first mode size lrm outputs pretx prerx : Byte) :
    State → Host.Outcome State Fault Refusal := lift fun d =>
  let r : AppReq := ⟨first.toNat, mode.toNat, size.toNat, lrm.toNat, outputs.toNat, pretx.toNat, prerx.toNat⟩
  d.kci src 0xAC01 .d (fun d =>
    if !d.mgmt.appselWait.isEmpty then .busy d.appselRetry
    else match r.path with
    | none => .no .badParam
    | some q =>
      if !d.canSelect then .no .notReady
      else if !d.fits q then .no .badParam
      else .hold (d.selectPath q) (.activate q.first)) (laneMask r.touch) (d.famMask r)

/-- APP.DEACT (R40). -/
def execAppDeact (src : Src) (first : Byte) : State → Host.Outcome State Fault Refusal := lift fun d =>
  let p := d.paths.find? fun p => p.first == first.toNat && p.state != 3
  let mask := match p with | some q => laneMask q.lanes | none => 0
  d.kciThen src 0xAC02 .d (fun d =>
    match p with
    | none => .no .badParam
    | some q => .hold (d.startDeact q.first) (.deact mask)) mask 0 Dev.pathsGone

/-- LINE.BRUP.GET (Table 7-7). -/
def execLineBrupGet (src : Src) (lane : Byte) : State → Host.Outcome State Fault Refusal := lift fun d =>
  d.kci src 0xA110 .q fun d =>
    let k := lane.toNat
    if 7 < k then .no .badParam
    else
      let r := fun (f : Fld) => if d.domOn (dLRXD k) then d.rd f k else 0
      let l := d.lane k
      let us := if l.active && d.stepOf k != 0 then satN (2 ^ 32 - 1) ((d.now - l.since) * 2 / 3125) else 0
      .ok d (be 1 (r F.LN_STAT_STEP) ++ be 1 (l.outcome.getD 0xFF) ++
        be 2 (if d.domOn (dLRXD k) then d.regWord 0x10004 k else 0) ++ be 2 (r F.LN_RTCNT_RETRAINS) ++
        be 2 (r F.LN_RTCNT_SYNCFAIL) ++ be 2 (r F.LN_FEID_PART) ++ be 1 (r F.LN_FEID_LANE) ++ be 1 (r F.LN_FEID_MODE) ++
        be 4 l.rx.feFwver ++ be 4 l.rx.feDevid ++ be 4 us)

/-- LINE.BRUP.CFG.SET (Table 7-8). -/
def execLineBrupCfgSet (src : Src) (lane srchto : Byte) (trnto : BitVec 16) (rtdly actmarg autort urxinv lead ptflags pcth : Byte) :
    State → Host.Outcome State Fault Refusal := lift fun d =>
  d.kci src 0xA111 .c fun d =>
    let k := lane.toNat
    let dom := dLRXD k
    if 7 < k || !okKeep srchto.toNat 200 || srchto.toNat = 0 || !(trnto.toNat == 0xFFFF || (1 ≤ trnto.toNat && trnto.toNat ≤ 300)) ||
        !okKeep actmarg.toNat 50 || !okKeep autort.toNat 1 || !okKeep urxinv.toNat 1 || !okKeep lead.toNat 7 ||
        !okKeep ptflags.toNat 15 || !(pcth.toNat == 0xFF || (40 ≤ pcth.toNat && pcth.toNat ≤ 64)) then .no .badParam
    else
      let d1 := ((((((d.cfgKeep dom F.LN_BRCFG_SRCHTO k srchto.toNat 0xFF).cfgKeep dom F.LN_BRCFG_TRNTO k trnto.toNat
        0xFFFF).cfgKeep dom F.LN_BRCFG_RTDLY k rtdly.toNat 0xFF).cfgKeep dom F.LN_BRCFG_ACTMARG k actmarg.toNat 0xFF).cfgKeep dom
        F.LN_CTL_AUTORT k autort.toNat 0xFF).cfgKeep dom F.LN_CTL_URXINV k urxinv.toNat 0xFF).cfgKeep dom F.LN_PTCTL_LEAD k
        lead.toNat 0xFF
      let bit := fun (e : Dev) (f : Fld) (i : Nat) => if ptflags.toNat = 0xFF then e else e.cfg dom f k (b2n (ptflags.toNat.testBit i))
      let d2 := bit (bit (bit (bit d1 F.LN_PTCTL_HINTTX 0) F.LN_PTCTL_HINTRX 1) F.LN_PTCTL_TELEM 2) F.LN_PTCTL_HOSTRX 3
      .ok ((d2.cfgKeep dom F.DEC_PCTH_PCTH k pcth.toNat 0xFF).capChange d) []

/-- LINE.FALLBACK.SET (Table 7-9); a group that is FOREIGN on every lane already falls back at once (R172). -/
def execLineFallbackSet (src : Src) (lane fbmode pretx prerx : Byte) : State → Host.Outcome State Fault Refusal := lift fun d =>
  d.kci src 0xA112 .c fun d =>
    let m := fbmode.toNat
    match d.paths.find? fun p => p.first == lane.toNat && p.lrm < 2 with
    | none => .no .badParam
    | some p =>
      if 7 < lane.toNat || !([0, 6, 7, 8, 9].contains m) || 1 < pretx.toNat || 1 < prerx.toNat || ((m == 6 || m == 8) && p.size != 8) then
        .no .badParam
      else
        let rest := d.fallbacks.filter fun f => f.first != p.first
        let armed := if m = 0 then rest else rest ++ [⟨p.first, m, pretx.toNat == 1, prerx.toNat == 1⟩]
        .ok (Dev.tryFallback { d with fallbacks := armed } p) []

/-- LINE.RETRAIN: completes at the lane's outcome (R170). -/
def execLineRetrain (src : Src) (lane : Byte) : State → Host.Outcome State Fault Refusal := lift fun d =>
  let k := lane.toNat
  let mask := match d.pathOf k with | some p => laneMask p.lanes | none => 0
  d.kciThen src 0xA113 .d (fun d =>
    if 7 < k then .no .badParam
    else match d.pathOf k with
      | none => .no .notReady
      | some p => if !d.isReady || !(d.lane k).active || !p.bringup then .no .notReady else .hold ((d.retrainRequest k).fallback k) (.retrain k)) mask 0
    Dev.settlePaths

end Sys2Proof.Machine
end

