-- ==== Sys2Proof/Machine/SelfTest.lean ====
section
/-! DEFINITION. Self-test (chapter 18) with the BIST commands, and the test access port (R428). -/

namespace Sys2Proof.Machine

/-- Updates the self-test run. -/
def Dev.mapBist (d : Dev) (f : Bist → Bist) : Dev := { d with bist := f d.bist }

/-- The tests of the field set and of the full set (Table 18-1). -/
def setTests (full : Bool) : List Nat := if full then [1, 2, 3, 4, 5, 6, 7, 8, 9] else [1, 4, 5, 6, 7]

/-- A lane test (IDs 1 to 4). -/
def laneTest (t : Nat) : Bool := t ≤ 4

/-- Duration of one test of one unit, in 0.1 ms (Table 18-1). -/
def testTime (t : Nat) : Nat := [0, 400, 1200, 250, 100, 3, 40, 20, 1800, 300].getD t 0

/-- The limit a result entry names (Tables 18-1 and 18-6). -/
def testLimit (t : Nat) : Nat := [0, 240, 2000, 0, 0, 200, 4, 0, 0, 0].getD t 0

/-- Whether a step's measurement is within the test's limit (Table 18-1). -/
def stepOk (m : StepMeas) : Bool :=
  if m.test = 1 then 240 ≤ m.snr && m.errors == 0 && -2 ≤ m.dev && m.dev ≤ 2
  else if m.test = 2 then -2000 ≤ m.dev && m.dev ≤ 2000
  else if m.test = 5 then -200 ≤ m.dev && m.dev ≤ 200 && m.errors == 0
  else if m.test = 6 then -4 ≤ m.dev && m.dev ≤ 4 && m.errors == 0
  else m.errors == 0

/-- What a step measured, in the unit of the entry's VALUE: SNR_F for LBK, a deviation for SADC, BIAS and MADC, errors
otherwise. -/
def stepValue (m : StepMeas) : Int :=
  if m.test = 1 then m.snr else if m.test = 2 || m.test = 5 || m.test = 6 then m.dev else m.errors

/-- The worse of two values of a test: for LBK the lower, for deviations the larger magnitude, otherwise the larger. -/
def worse (t : Nat) (a b : Int) : Int :=
  if t = 1 then min a b
  else if t = 2 || t = 5 || t = 6 then (if a.natAbs < b.natAbs then b else a)
  else max a b

/-- Adds a result entry; at most 64 are held. Codes: 0 PASS, 1 FAIL, 2 SKIP, 3 ABORT. -/
def Bist.add (b : Bist) (test unit result : Nat) (value : Int) : Bist :=
  if 64 ≤ b.entries.length then b
  else { b with entries := b.entries ++ [{ test := test, unit := unit, result := result, value := value, limit := testLimit test }] }

/-- Counts the entries with a result code. -/
def Bist.count (b : Bist) (r : Nat) : Nat := (b.entries.filter fun e => e.result == r).length

/-- The five line domains of a lane and the domains of its host lanes. -/
def laneDomains (k : Nat) : List Nat :=
  [dLRXA k, dLADC k, dLRXD k, dLTXD k, dLDAC k, dHRX (2 * k), dHTX (2 * k), dHRX (2 * k + 1), dHTX (2 * k + 1)]

/-- A BIAS test may not touch the channel (R411): it is enabled or a loop owns it. -/
def Dev.biasTaken (d : Dev) (ch : Nat) : Bool := d.on F.OC_BCTL_EN ch || (d.biasLoop ch).isSome

/-- The families of the halves. -/
def Dev.halfFams (d : Dev) : Nat := d.rd F.PW_CLKSTAT_H0FAM + 2 * d.rd F.PW_CLKSTAT_H1FAM

/-- Lane test `t` begins: the lane's domains wake, and for LBK and SADC a half without a data path runs in family C (R409). -/
def Dev.laneTestStart (d : Dev) (t k : Nat) : Dev :=
  let off := (laneDomains k).filter fun i => !d.domReq i
  let d1 := (d.wakeAll off).mapBist fun b => { b with powered := b.powered ++ off }
  if 2 < t || d.paths.any fun p => p.lanes.any fun j => j / 4 == k / 4 then d1
  else (d1.setFam (k / 4) 0).mapBist fun b => { b with fams := if k < 4 then b.fams / 2 * 2 else b.fams % 2 }

/-- Starts what R412 lets start: the first remaining test of a lane while fewer than two lanes are tested, and with no lane
test left one device-level test; a BIAS test of a taken channel is skipped. -/
def Dev.bistNext : Nat → Dev → Dev
  | 0, d => d
  | n + 1, d =>
    let b := d.bist
    let busy := (b.running.filter fun t => laneTest t.test).map fun t => t.unit
    match b.todo.find? fun t => laneTest t.1 && !busy.contains t.2 with
    | some t =>
      if 2 ≤ busy.length || (b.running.any fun r => !laneTest r.test) then d
      else Dev.bistNext n ((d.mapBist fun x => { x with todo := x.todo.erase t, running := x.running ++ [{ test := t.1, unit := t.2 }] }).laneTestStart t.1 t.2)
    | none =>
      if !b.running.isEmpty then d
      else match b.todo with
        | [] => d
        | t :: rest =>
          if t.1 = 5 && d.biasTaken t.2 then
            Dev.bistNext n (d.mapBist fun x => ({ x with todo := rest } : Bist).add 5 t.2 2 0)
          else d.mapBist fun x => { x with todo := rest, running := [{ test := t.1, unit := t.2 }] }

/-- Lane `k` has no lane test left: domains powered only for it go down, unless a data path now uses them (R410). -/
def Dev.bistPowerDown (d : Dev) (k : Nat) : Dev :=
  let left := (d.bist.running.any fun t => laneTest t.test && t.unit == k) || d.bist.todo.any fun t => laneTest t.1 && t.2 == k
  if left || (d.pathOf k).isSome then d
  else
    let l := (laneDomains k).filter d.bist.powered.contains
    (d.downAll l).mapBist fun b => { b with powered := b.powered.filter fun i => !l.contains i }

/-- The EVENT record of a run: RUNID, set, the four counts, and the FAIL entries (R414). -/
def Bist.report (b : Bist) : List Byte :=
  be 2 b.runid ++ [BitVec.ofNat 8 (b2n b.full)] ++ [0, 1, 2, 3].map (fun r => BitVec.ofNat 8 (b.count r)) ++
    (b.entries.filter fun e => e.result == 1).flatMap fun e =>
      [BitVec.ofNat 8 e.test, BitVec.ofNat 8 e.unit, 1, 0] ++ be 4 (tc 32 e.value) ++ be 4 e.limit

/-- The run is over, complete or ended: its EVENT record, the interrupt asked for, and BIST.ABORT's answer. -/
def Dev.bistClose (d : Dev) (st : Nat) : Dev :=
  let d1 := d.mapBist fun b => { b with state := st, elapsed := (d.now - b.since) / tickMs, todo := [], running := [], ending := false }
  let d2 := iter 8 (fun k e => e.bistPowerDown k) d1
  let d3 := d2.event evBist 0x800 d2.bist.report
  (if d3.bist.notify then d3.int else d3).settleWait .bistEnd .ok []

/-- The run ends at a step boundary (Table 18-2): running tests and untested units report ABORT. -/
def Dev.bistEnd (d : Dev) : Dev :=
  let open_ := (d.bist.running.map fun t => (t.test, t.unit)) ++ d.bist.todo
  let once := open_.foldl (fun l t => if laneTest t.1 && (l.any fun u => laneTest u.1 && u.2 == t.2) then l else l ++ [t]) []
  (d.mapBist fun b => once.foldl (fun x t => x.add t.1 t.2 3 0) b).bistClose 3

/-- Whether a running test aborts at this step boundary (Table 18-2): a data path has taken the lane, the half has changed
family, the bias channel is in use, or an A11 selection has come during MEM. The table aborts the pattern RAM part of MEM; a unit reports one
result, so the model ends the test with ABORT (DESIGN CHOICE, log entry 74). -/
def Dev.bistAborts (d : Dev) (t : BistTest) : Bool :=
  if laneTest t.test then
    (d.pathOf t.unit).isSome || bitOf d.halfFams (t.unit / 4) != bitOf d.bist.fams (t.unit / 4)
  else if t.test = 5 then d.biasTaken t.unit
  else t.test == 8 && d.a11.isSome

/-- After LBK and SADC firmware restores the lane's trims by a commit, its shaping set in the same way, and the taps of the mode it ran in
last (R410). -/
def Dev.laneRestored (d : Dev) (k : Nat) : Dev :=
  let d1 := (((d.stageTrims k).set F.SA_LCTL_CMTREQ k).txStageSet k (d.lane k).tx.saved).txCmtReq k
  match (d.lane k).rx.taps.getD (d.lane k).lastLrm [] with
  | [] => d1
  | l => (l.zipIdx).foldl (fun e x => e.wr ((F.LN_FFETAP_VAL).at x.2) k x.1) d1

/-- A test's end (R410): after LBK and SADC the lane's settings are restored, after LBIST its digital domains, and after MEM firmware restarts
the Whetstone. -/
def Dev.bistAfter (d : Dev) (t : BistTest) : Dev :=
  let d1 := if t.test = 1 || t.test = 2 then d.laneRestored t.unit
    else if t.test = 3 then (d.restore (dLRXD t.unit)).restore (dLTXD t.unit)
    else if t.test = 8 then d.wsRestart else d
  if laneTest t.test then d1.bistPowerDown t.unit else d1

/-- One running test meets its step's measurement: it aborts, goes on with its worst value, or ends with its entry. -/
def Dev.bistJudge (d : Dev) (meas : List StepMeas) (t : BistTest) : Dev :=
  if d.bistAborts t then
    let lane := laneTest t.test
    (d.mapBist fun b => ({ b with running := b.running.erase t,
                                  todo := b.todo.filter fun u => !(lane && laneTest u.1 && u.2 == t.unit) } : Bist).add t.test t.unit 3
      t.value).bistAfter t
  else match meas.find? fun m => m.test == t.test && m.unit == t.unit with
    | none => d
    | some m =>
      let v := if t.started then worse t.test t.value (stepValue m) else stepValue m
      let t1 := { t with value := v, started := true, failed := t.failed || !stepOk m }
      if m.last then
        (d.mapBist fun b => ({ b with running := b.running.erase t } : Bist).add t.test t.unit (b2n t1.failed) v).bistAfter t
      else d.mapBist fun b => { b with running := b.running.map fun x => if x == t then t1 else x }

/-- BIST_STEP (R408 to R414): a step boundary of the run. A MEM test that ends leaves its last pattern in the pattern RAM. -/
def execBistStep (meas : List StepMeas) : State → Host.Outcome State Fault Refusal := liftMem fun m d =>
  if d.bist.state ≠ 1 then (m, d)
  else if d.bist.ending || !d.isReady then (m, d.bistEnd)
  else
    let mem8 := d.bist.running.any fun t => t.test == 8 &&
      (d.bistAborts t || meas.any fun x => x.test == 8 && x.last)
    let d1 := d.bist.running.foldl (fun e t => e.bistJudge meas t) d
    let d2 := if mem8 then d1.mapPg fun g => { g with march := g.march + 1 } else d1
    let d3 := Dev.bistNext 64 d2
    (if mem8 then memClear m patBase (patBase + 0x100000) else m,
     if d3.bist.running.isEmpty && d3.bist.todo.isEmpty then d3.bistClose 2 else d3)

/-- The tests of a request, per unit in ID order: lanes first, then the device-level tests. -/
def bistPlan (sel : List Nat) (lanes : Nat) : List (Nat × Nat) :=
  (((List.range 8).filter fun k => lanes.testBit k).flatMap fun k => (sel.filter laneTest).map fun t => (t, k)) ++
    (sel.filter fun t => !laneTest t).flatMap fun t =>
      if t = 5 then (List.range 16).map fun ch => (5, ch) else if t = 6 then [(6, 0), (6, 1)] else [(t, 0)]

/-- ESTMS: lanes two at a time, then the device-level tests in turn, without the bias channels that will be skipped. -/
def Dev.bistEstimate (d : Dev) (plan : List (Nat × Nat)) (sel : List Nat) (lanes : Nat) : Nat :=
  let one := ((sel.filter laneTest).map testTime).foldl (· + ·) 0
  let n := ((List.range 8).filter fun k => lanes.testBit k).length
  let dev := plan.filter fun t => !laneTest t.1 && !(t.1 == 5 && d.biasTaken t.2)
  ceilDiv (ceilDiv n 2 * one + (dev.map fun t => testTime t.1).foldl (· + ·) 0) 10

/-- Whether the conditions of R411 let a run start. -/
def Dev.bistFree (d : Dev) (full : Bool) (sel : List Nat) (lanes : Nat) : Bool :=
  d.isReady && d.bist.state != 1 &&
    (if full then d.paths.isEmpty && (!sel.contains 9 || !d.attached)
     else (List.range 8).all fun k => !lanes.testBit k || (d.pathOf k).isNone)

/-- Whether a command's source is an applet. -/
def srcApplet : Src → Bool
  | .applet _ => true
  | _ => false

/-- BIST.RUN (Tables 18-3 and 18-4). -/
def execBistRun (src : Src) (set lanes : Byte) (tests : BitVec 16) (flags : Byte) : State → Host.Outcome State Fault Refusal :=
  lift fun d0 => d0.kci src 0xAB00 .c fun d =>
    let full := set.toNat == 1
    let all := setTests full
    let sel := if tests = 0 then all else all.filter fun t => tests.getLsbD t
    let stray := (List.range 16).any fun t => tests.getLsbD t && !all.contains t
    if srcApplet src then .no .denied
    else if 1 < set.toNat || stray || 1 < flags.toNat then .no .badParam
    else if full && !(d.lc == 0 || d.lc == 1 || d.lc == 4) then .no .denied
    else if !d.bistFree full sel lanes.toNat then .no .notReady
    else
      let plan := bistPlan sel lanes.toNat
      let id := (d.bist.runid + 1) % 65536
      let est := d.bistEstimate plan sel lanes.toNat
      let d1 := d.mapBist fun _ => { runid := id, state := 1, full := full, notify := flags.getLsbD 0, since := d.now
                                     lanes := lanes.toNat, todo := plan, fams := d.halfFams }
      .ok (Dev.bistNext 64 d1) (be 2 id ++ [0, 0] ++ be 4 est)

/-- BIST.STAT.GET (Table 18-5). -/
def execBistStatGet (src : Src) : State → Host.Outcome State Fault Refusal := lift fun d0 =>
  d0.kci src 0xAB01 .q fun d =>
    let b := d.bist
    let ms := if b.state = 1 then (d.now - b.since) / tickMs else b.elapsed
    .ok d (be 2 b.runid ++ [BitVec.ofNat 8 b.state, BitVec.ofNat 8 b.entries.length] ++
      [0, 1, 2, 3].map (fun r => BitVec.ofNat 8 (b.count r)) ++ be 4 ms)

/-- BIST.RESULT.GET (Table 18-6). -/
def execBistResultGet (src : Src) (first : Byte) : State → Host.Outcome State Fault Refusal := lift fun d0 =>
  d0.kci src 0xAB02 .q fun d =>
    if 63 < first.toNat then .no .badParam
    else
      let l := (d.bist.entries.drop first.toNat).take 8
      .ok d ([BitVec.ofNat 8 l.length, 0, 0, 0] ++ l.flatMap fun e =>
        [BitVec.ofNat 8 e.test, BitVec.ofNat 8 e.unit, BitVec.ofNat 8 e.result, 0] ++ be 4 (tc 32 e.value) ++ be 4 e.limit)

/-- BIST.ABORT: completes when the run has ended at a step boundary. -/
def execBistAbort (src : Src) : State → Host.Outcome State Fault Refusal := lift fun d0 =>
  d0.kci src 0xAB03 .c fun d =>
    if srcApplet src then .no .denied
    else if d.bist.state ≠ 1 then .no .notReady
    else .hold (d.mapBist fun b => { b with ending := true }) .bistEnd

/-! ## Test access (R428) -/

/-- The IDCODE: stepping 0xB, part 0x3400, Vankobo's code, bit 0 set. -/
def jtagId : Nat := 0xB340072B

/-- JTAG_EXTEST: the single-ended pins follow the boundary register; their normal functions are suspended. -/
def execJtagExtest (drive : BitVec 25) : State → Host.Outcome State Fault Refusal := lift fun d =>
  { d with jtag := { d.jtag with ir := .extest, boundary := drive } }

/-- JTAG_BYPASS: the one-bit register takes TDI. -/
def execJtagBypass (tdi : Bool) : State → Host.Outcome State Fault Refusal := lift fun d =>
  { d with jtag := { d.jtag with ir := .bypass, bypass := tdi } }

/-- JTAG_IDCODE. -/
def execJtagIdcode : State → Host.Outcome State Fault Refusal := lift fun d =>
  { d with jtag := { d.jtag with ir := .idcode, captured := jtagId } }

/-- JTAG_SAMPLE_PRELOAD: the pins are captured and the boundary register is loaded. -/
def execJtagSamplePreload (pins preload : BitVec 25) : State → Host.Outcome State Fault Refusal := lift fun d =>
  { d with jtag := { d.jtag with ir := .sample, captured := pins.toNat, boundary := preload } }

end Sys2Proof.Machine
end

