-- ==== Sys2Proof/Machine/Telemetry.lean ====
section
/-! DEFINITION. The telemetry cache, the Colander and the Tally counters (chapter 13). -/

namespace Sys2Proof.Machine

/-! ## The Colander (R323 to R325) -/

/-- A Colander snapshot: the live counters are copied and cleared; firmware adds them to its totals when it has asked. -/
def Dev.clSnap (d : Dev) (n : Nat) : Dev :=
  let h := d.host n
  let d1 := iter 16 (fun b e => e.wr ((F.TM_CLBIN_COUNT).at b) n (h.live.getD b 0)) (d.wr F.TM_CLUNC_COUNT n (h.live.getD 16 0))
  ((d1.inc F.TM_CLSTAT_SSEQ n).clr F.TM_CLCTL_SNAP n).mapHost n fun x =>
    { x with live := List.replicate 17 0, snap := false
             totals := if x.snap then List.zipWith (fun a b => (a + b) % 2 ^ 64) x.totals x.live else x.totals }

/-- The Colander counts: DATA, EN = 1, and marker lock. -/
def Dev.clLocked (d : Dev) (n : Nat) : Bool := (d.host n).state == 2 && d.on F.TM_CLCTL_EN n && d.on F.TM_CLSTAT_LOCK n

/-- A write of 1 to TM_CLCTL.SNAP: at the next codeword boundary, or at once without lock. -/
def Dev.clSnapReq (d : Dev) (n : Nat) : Dev := if d.clLocked n then d.set F.TM_CLCTL_SNAP n else d.clSnap n

/-- Multiplication by x in GF(2^10), with x^10 + x^3 + 1 (PRESUMED, log entry 30). -/
def gfX (a : Nat) : Nat := if a.testBit 9 then (2 * a % 1024) ^^^ 9 else 2 * a

/-- The product in GF(2^10). -/
def gfMul (a b : Nat) : Nat := (List.range 10).foldl (fun r i => if b.testBit (9 - i) then gfX r ^^^ a else gfX r) 0

/-- The power α^n. -/
def gfPow : Nat → Nat
  | 0 => 1
  | n + 1 => gfX (gfPow n)

/-- The inverse: the 1,022nd power. -/
def gfInv (a : Nat) : Nat := (List.range 9).foldl (fun (r : Nat × Nat) _ =>
    let s := gfMul r.2 r.2
    (gfMul r.1 s, s)) (1, a) |>.1

/-- The syndromes S_0 to S_29 of a codeword, first symbol highest: its value at α^0 to α^29. -/
def syndromes (cw : List (BitVec 10)) : List Nat :=
  (List.range 30).map fun j => cw.foldl (fun r c => gfMul r (gfPow j) ^^^ c.toNat) 0

/-- State of Berlekamp–Massey: locator C, previous locator B, length L, gap m, previous discrepancy b. -/
structure Bm where
  c : List Nat
  b : List Nat
  len : Nat
  m : Nat
  d : Nat

/-- `a − f · x^m · b` over coefficient lists, lowest first. -/
def bmUpdate (a b : List Nat) (f m : Nat) : List Nat :=
  let s := List.replicate m 0 ++ b.map fun v => gfMul v f
  (List.range (max a.length s.length)).map fun i => a.getD i 0 ^^^ s.getD i 0

/-- One Berlekamp–Massey step at syndrome `n`. -/
def bmStep (s : List Nat) (x : Bm) (n : Nat) : Bm :=
  let disc := (List.range (x.len + 1)).foldl (fun r i => r ^^^ gfMul (x.c.getD i 0) (s.getD (n - i) 0)) 0
  if disc = 0 then { x with m := x.m + 1 }
  else
    let c := bmUpdate x.c x.b (gfMul disc (gfInv x.d)) x.m
    if 2 * x.len ≤ n then { c := c, b := x.c, len := n + 1 - x.len, m := 1, d := disc } else { x with c := c, m := x.m + 1 }

/-- The locator degree ν of a codeword (R323); 16 stands for more than 15. -/
def locatorDegree (cw : List (BitVec 10)) : Nat :=
  let s := syndromes cw
  satN 16 ((List.range 30).foldl (bmStep s) ⟨[1], [1], 0, 1, 1⟩).len

/-- Counts a codeword: its live bin (16 is UNC) and the ring entry. -/
def Dev.clCount (d : Dev) (n nu : Nat) : Dev :=
  let h := d.host n
  let f := (F.TM_CLRING_NU).at (h.ringAt / 4)
  let sh := 8 * (h.ringAt % 4)
  let w := d.rd f n
  let v := if 16 ≤ nu then 0xFF else nu
  (d.wr f n (w - slice w sh 8 * 2 ^ sh + v * 2 ^ sh)).mapHost n fun x =>
    { x with live := setAt x.live nu (satN (2 ^ 32 - 1) (x.live.getD nu 0 + 1)), ringAt := (x.ringAt + 1) % 2048 }

/-- What an expected marker does to the lock: 3 matches set it, 4 misses in a row clear it. -/
def Dev.clMarker (d : Dev) (n : Nat) (hit : Bool) : Dev :=
  let h := d.host n
  if d.on F.TM_CLSTAT_LOCK n then
    (if hit then d.mapHost n fun x => { x with mkBad := 0 }
     else if h.mkBad + 1 < 4 then d.mapHost n fun x => { x with mkBad := x.mkBad + 1 }
     else (((d.clr F.TM_CLSTAT_LOCK n).set F.TM_CLSTAT_LOL n).inc F.TM_CLSTAT_LOLCNT n).mapHost n fun x =>
       { x with mkGood := 0, mkBad := 0 })
  else if !hit then d.mapHost n fun x => { x with mkGood := 0 }
  else if h.mkGood + 1 < 3 then d.mapHost n fun x => { x with mkGood := x.mkGood + 1 }
  else (d.set F.TM_CLSTAT_LOCK n).mapHost n fun x => { x with mkGood := 0, mkBad := 0 }

/-- COLANDER_CODEWORD: a codeword boundary of host lane n's stream. `marker` says whether a marker expected there matched; a
requested snapshot is taken, and a locked codeword of 544 symbols is counted. -/
def execColanderCodeword (hlane : Fin 16) (marker : Option Bool) (codeword : List (BitVec 10)) :
    State → Host.Outcome State Fault Refusal := lift fun d =>
  let n := hlane.val
  if !d.domOn (dHTX n) || (d.host n).state ≠ 2 || !d.on F.TM_CLCTL_EN n then d
  else
    let d1 := if d.on F.TM_CLCTL_SNAP n then d.clSnap n else d
    let was := d1.on F.TM_CLSTAT_LOCK n
    let d2 := match marker with | some b => d1.clMarker n b | none => d1
    if was && d2.on F.TM_CLSTAT_LOCK n && codeword.length = 544 then d2.clCount n (locatorDegree codeword) else d2

/-! ## The cache (R321) -/

/-- Refreshes one lane's entry, or marks it stale. -/
def Dev.telLane (d : Dev) (k : Nat) : Dev :=
  if !d.domOn (dLRXD k) then d.mapTel k fun t => { t with stale := true }
  else
    let taps := (List.range 48).map fun i => d.rd ((F.LN_FFETAP_VAL).at i) k
    (d.mapTel k fun t =>
      { t with since := d.now, time := d.stamp 3, stale := false, lqf := d.rd F.LN_LQF_LQF k, valid := d.on F.LN_LQF_VALID k, snrp := d.rd F.LN_SNR_PILOT k
               snrf := d.rd F.LN_SNR_FFE k, lock := d.on F.LN_TRSTAT_LOCK k, level := d.levelWord k, taps := taps
               snap := true }).set F.DEC_CTL_HSNAP k

/-- Firmware asks for one host lane's Colander snapshot. -/
def Dev.telHost (d : Dev) (n : Nat) : Dev :=
  if d.domOn (dHTX n) then (d.mapHost n fun h => { h with snap := true, time := d.stamp 3 }).clSnapReq n else d

/-- TELEMETRY_REFRESH. -/
def execTelemetryRefresh : State → Host.Outcome State Fault Refusal := lift fun d =>
  if !d.fwRun then d
  else
    let d1 := iter 16 (fun n e => e.telHost n) (iter 8 (fun k e => e.telLane k) d)
    d1.mapOpt fun o => { o with dieTemp := o.temps.toList.foldl (fun a t => max a (t.getD 0)) 0 }

/-! ## Tally counters (R327 to R330) -/

/-- The latch of accessor `a` for counter `c`. -/
def Dev.tallyLatch (d : Dev) (a c : Nat) : Nat := (d.tally.latch.getD a (Vector.replicate 32 0)).getD c 0

/-- Sets the latch. -/
def Dev.setLatch (d : Dev) (a c v : Nat) : Dev :=
  { d with tally := { d.tally with latch := vset d.tally.latch a fun l => vset l c fun _ => v } }

/-- User mode sees counter `c`. -/
def Dev.userSees (d : Dev) (c : Nat) (user : Bool) : Bool := !user || (d.rd F.TL_UEN_UEN).testBit c

/-- TL_CNTLO_READ: the low half is returned and the high half latched; a user without UEN reads 0 and latches nothing. -/
def Dev.tallyRead (d : Dev) (a c : Nat) (user : Bool) : Dev :=
  if d.userSees c user then d.setLatch a c (d.tally.count.getD c 0 / 2 ^ 32) else d

/-- TL_CNTHI_WRITE stages a high half; user-mode writes are ignored. -/
def Dev.tallyHi (d : Dev) (a c : Nat) (user : Bool) (v : Nat) : Dev := if user then d else d.setLatch a c (v % 2 ^ 16)

/-- TL_CNTLO_WRITE loads both halves and clears the staged one. -/
def Dev.tallyLo (d : Dev) (a c : Nat) (user : Bool) (v : Nat) : Dev :=
  if user then d
  else
    let d1 := { d with tally := { d.tally with count := vset d.tally.count c fun _ => d.tallyLatch a c * 2 ^ 32 + v % 2 ^ 32 } }
    d1.setLatch a c 0

/-- TEL.LANE.GET (Table 13-4). -/
def execTelLaneGet (src : Src) (lane what : Byte) : State → Host.Outcome State Fault Refusal := lift fun d =>
  d.kci src 0xA900 .q fun d =>
    if 7 < lane.toNat || 1 < what.toNat then .no .badParam
    else
      let t := d.tel.getD lane.toNat {}
      let age := if t.stale then 0xFFFF else satN 0xFFFE ((d.now - t.since) * 2 / 3125)
      let head := be 2 age ++ be 1 (b2n t.valid + 2 * b2n t.lock) ++ be 1 0
      .ok d (head ++ if what.toNat = 0 then be 2 t.lqf ++ be 2 t.snrp ++ (List.range 16).flatMap fun b => be 4 (t.bins.getD b 0)
        else (List.range 48).flatMap fun i => be 2 (tc 16 (sx 12 (t.taps.getD i 0))))

/-- TEL.COL.GET (Table 13-5). -/
def execTelColGet (src : Src) (hlane part : Byte) : State → Host.Outcome State Fault Refusal := lift fun d =>
  d.kci src 0xA910 .q fun d =>
    let n := hlane.toNat
    if 15 < n || 1 < part.toNat then .no .badParam
    else
      let stat := if d.domOn (dHTX n) then d.regWord 0xF0004 n else 0
      .ok d (be 4 stat ++ (List.range (8 + part.toNat)).flatMap fun j => be 8 ((d.host n).totals.getD (8 * part.toNat + j) 0))

/-- TEL.TALLY.SET. -/
def execTelTallySet (src : Src) (cnt uen load : Byte) (cfg base limit : Word32) :
    State → Host.Outcome State Fault Refusal := lift fun d =>
  d.kci src 0xA920 .c fun d =>
    let c := cnt.toNat
    if !srcHost src then .no .denied
    else if 31 < c || !okKeep uen.toNat 1 || 1 < load.toNat then .no .badParam
    else
      let keep := cfg.toNat == 0xFFFFFFFF
      let f := fun (e : Dev) (g : Fld) => e.wr g c (slice cfg.toNat g.lo g.w)
      let d1 := if keep then d
        else ((([F.TL_CFG_EVENT, F.TL_CFG_PRIV, F.TL_CFG_CLASS, F.TL_CFG_MASTER, F.TL_CFG_EN].foldl f d).wr F.TL_BASE_ADDR c
          base.toNat).wr F.TL_LIMIT_ADDR c limit.toNat)
      let d2 := if uen.toNat = 0xFF then d1 else d1.wr F.TL_UEN_UEN 0 (withBit (d1.rd F.TL_UEN_UEN) c (uen.toNat == 1))
      let d3 := if load.toNat = 1 then { d2 with tally := { d2.tally with count := vset d2.tally.count c fun _ => 0 } } else d2
      .ok d3 []

/-- TEL.TALLY.GET (R330). -/
def execTelTallyGet (src : Src) (first count : Byte) : State → Host.Outcome State Fault Refusal := lift fun d =>
  d.kci src 0xA921 .q fun d =>
    let f := first.toNat
    let n := count.toNat
    if n = 0 || 8 < n || 32 < f + n then .no .badParam
    else if !srcHost src && !(List.range n).all (fun j => d.userSees (f + j) true) then .no .denied
    else .ok d ((List.range n).flatMap fun j => be 6 (d.tally.count.getD (f + j) 0) ++ be 2 (d.rd F.TL_STAT_OVF (f + j)))

/-! ## The TALLY record (R331) -/

/-- The four counters whose deltas a lane's part carries. -/
def Dev.tallyNow (d : Dev) (k : Nat) : List Nat :=
  [d.rd F.DEC_TAINTCNT_COUNT k, d.rd F.DEC_LOWMCNT_COUNT k, d.rd F.SA_OVRCNT_COUNT k, d.rd F.LN_TRSTAT_LOLCNT k]

/-- A lane's part. LOLCNT wraps at 2^16, the others at 2^32. -/
def Dev.tallyLane (d : Dev) (k : Nat) : List Byte :=
  if !d.domOn (dLRXD k) then zeros 32
  else
    let t := d.tel.getD k {}
    let now := d.tallyNow k
    be 2 t.lqf ++ be 2 t.snrp ++ be 2 t.snrf ++ be 1 (d.stepOf k) ++ be 1 1 ++ be 4 (tc 32 (d.rdS F.LN_TRFREQ_FREQ k)) ++
      ((List.range 4).flatMap fun i =>
        let m := if i = 3 then 2 ^ 16 else 2 ^ 32
        be 4 ((now.getD i 0 + m - t.prev.getD i 0 % m) % m)) ++ zeros 4

/-- A host lane's part. -/
def Dev.tallyHost (d : Dev) (n : Nat) : List Byte :=
  if !d.domOn (dHTX n) then zeros 72
  else
    let h := d.host n
    ((List.range 17).flatMap fun b =>
      be 4 (satN (2 ^ 32 - 1) ((h.totals.getD b 0 + 2 ^ 64 - h.prev.getD b 0) % 2 ^ 64))) ++ be 4 (d.regWord 0xF0004 n)

/-- The TALLY payload (Table 13-3). -/
def Dev.tallyPayload (d : Dev) : List Byte :=
  ((List.range 8).flatMap d.tallyLane) ++ ((List.range 16).flatMap d.tallyHost) ++
    ((List.range 32).flatMap fun c => be 6 (d.tally.count.getD c 0) ++ be 2 (d.rd F.TL_STAT_OVF c)) ++
    (d.optics.temps.toList.flatMap fun t => be 2 (t.getD 0)) ++ (d.optics.rails.toList.flatMap fun v => be 2 v) ++
    ((List.range 16).flatMap fun c => be 2 (if d.domOn dBDAC then d.rd F.OC_BACT_CODE c else 0)) ++
    ((List.range 8).flatMap fun k => be 1 (d.loop k).state) ++ be 4 (if d.domOn dWHET then d.regWord 0x100010 0 else 0) ++ zeros 286

/-- TALLY_RECORD: every 10 s; before the mount at most 512 records are held, and a further one is dropped and counted. -/
def execTallyRecord : State → Host.Outcome State Fault Refusal := lift fun d =>
  if !d.fwRun then d
  else if !d.pot.mounted && 512 ≤ d.pot.buf.length then { d with pot := { d.pot with dropped := (d.pot.dropped + 1) % 2 ^ 32 } }
  else
    let d1 := (d.record 1 0 0x800 d.tallyPayload).dma 2048
    let d2 := iter 8 (fun k e => if d.domOn (dLRXD k) then e.mapTel k fun t => { t with prev := d.tallyNow k } else e) d1
    iter 16 (fun n e => e.mapHost n fun h => { h with prev := h.totals }) d2

end Sys2Proof.Machine
end

