-- ==== Sys2Proof/Machine/Pot.lean ====
section
/-! DEFINITION. Memory integrity and the Stockpot logbook (chapter 12): the scrubber, the vote words, records, coalescing, the
mount, CONF, and the POT commands. -/

namespace Sys2Proof.Machine

/-- Updates the Stockpot. -/
def Dev.mapPot (d : Dev) (f : Pot → Pot) : Dev := { d with pot := f d.pot }

/-! ## The scrubber (R305, R306) -/

/-- The number of a memory in `Pot.scrub`. -/
def memIdx : MemId → Nat
  | .mgmt => 0 | .pattern => 1 | .prog => 2 | .x => 3 | .y => 4

/-- Protected words of a memory and the bytes of one (Table 12-1). -/
def memWords : MemId → Nat × Nat
  | .mgmt => (524288, 8) | .pattern => (262144, 4) | .prog => (65536, 4) | .x => (8192, 4) | .y => (8192, 4)

/-- The memories scrubbed in one pass with the given one. -/
def passOf : MemId → List MemId
  | .mgmt | .pattern => [.mgmt, .pattern]
  | _ => [.prog, .x, .y]

/-- Whether the pass a memory belongs to runs: its period is not 0 and its domain is on. -/
def Dev.scrubs (d : Dev) (m : MemId) : Bool :=
  if passOf m = [.mgmt, .pattern] then d.rd F.MI_SCRUBCFG_MPER != 0 && d.domOn dMGMT
  else d.rd F.MI_SCRUBCFG_WPER != 0 && d.domOn dWHET && d.domOn dMGMT

/-- An uncorrectable word enters the first free log entry, once; with eight valid entries it is counted in LOST. -/
def Dev.scrubLog (d : Dev) (m : MemId) (word : Nat) : Dev :=
  let code := memIdx m + 1
  let l := List.range 8
  let valid := fun (n : Nat) => d.on ((F.MI_SCRUBLOG_VALID).at n)
  if l.any fun n => valid n && d.rd ((F.MI_SCRUBLOG_MEM).at n) == code && d.rd ((F.MI_SCRUBLOG_WORD).at n) == word then d
  else match l.find? fun n => !valid n with
    | some n => ((d.wr ((F.MI_SCRUBLOG_WORD).at n) 0 word).wr ((F.MI_SCRUBLOG_MEM).at n) 0 code).set ((F.MI_SCRUBLOG_VALID).at n)
    | none => d.incSat F.MI_SCRUBSTAT_LOST

/-- Every memory of the pass has been read to its end: the pass is counted and the next starts at the lowest address. -/
def Dev.scrubPass (d : Dev) (m : MemId) : Dev :=
  if (passOf m).all fun q => d.pot.scrub.getD (memIdx q) 0 == (memWords q).1 then
    ((passOf m).foldl (fun e q => e.mapPot fun p => { p with scrub := vset p.scrub (memIdx q) fun _ => 0 }) d).inc
      (if passOf m = [.mgmt, .pattern] then F.MI_SCRUBSTAT_MPASS else F.MI_SCRUBSTAT_WPASS)
  else d

/-- SCRUB_READ: the next protected word of a memory. A memory that has been read to its end waits for the other memories of its
pass. -/
def execScrubRead (mem : MemId) (result : ScrubResult) : State → Host.Outcome State Fault Refusal := lift fun d =>
  let at_ := d.pot.scrub.getD (memIdx mem) 0
  let (words, bytes) := memWords mem
  if !d.scrubs mem || at_ = words || result = .collide then d
  else
    let d1 := match if d.isBad mem (at_ * bytes) then .uncorrectable else result with
      | .clean | .collide => d
      | .correctable | .dropped => d.eccEvent mem false 13 3 (at_ * bytes)
      | .uncorrectable =>
          let e := (d.eccEvent mem true 13 3 (at_ * bytes)).scrubLog mem at_
          if e.fwRun then e.event evEcc 0x900 (be 1 (memIdx mem + 1) ++ be 4 at_) else e
    (d1.mapPot fun p => { p with scrub := vset p.scrub (memIdx mem) fun _ => at_ + 1 }).scrubPass mem

/-- VOTE_REVOTE: the three copies of every vote word are compared, and on a disagreement rewritten with the majority (R308). -/
def execVoteRevote : State → Host.Outcome State Fault Refusal := lift fun d =>
  let words := (List.range 16).map d.vote.word
  if d.phase == .held || d.phase == .rising || d.vote.flops.all (fun l => l == words) then d
  else ({ d with vote := { d.vote with flops := Vector.replicate 3 words } }).incSat F.MI_VSTAT_REVOTES

/-! ## Blocks (R313, R314) -/

/-- A block is retired: a spare takes its place, or LOG shrinks by one block and an EVENT is written. -/
def Dev.retire (d : Dev) : Dev :=
  if 0 < d.pot.spares then d.mapPot fun p => { p with spares := p.spares - 1, retired := p.retired + 1 }
  else (d.mapPot fun p => { p with logCap := p.logCap - 1, retired := p.retired + 1 }).event evShrink 0x900

/-- The walker's rewrite of a block: its age starts again. -/
def Dev.rewriteBlock (d : Dev) (id : Nat) : Dev :=
  d.mapPot fun p => { p with blocks := { id := id, written := (d.stamp 3).sec } :: p.blocks.filter fun b => b.id != id }

/-- A block's age in seconds (R402), and whether R314 has made it due. -/
def Dev.blockDue (d : Dev) (b : Block) : Bool := 90 * 86400 ≤ (d.stamp 3).sec - b.written + b.off

/-- The previous version of a CONF record becomes current again (R313, R319). -/
def Pot.confBack (p : Pot) (key : Nat) : Pot :=
  { p with conf := p.conf.filter (fun e => e.src != key) ++ p.prior.filter (fun e => e.src == key)
           prior := p.prior.filter fun e => e.src != key }

/-- A page that LDPC cannot correct, by its partition (R313): LOG records become a gap, CONF falls back to the previous version, the image
no longer verifies, the vote copy is invalid. -/
def Dev.pageLost (d : Dev) : FlashRead → Dev
  | .good | .weak => d
  | .log seqs => d.mapPot fun p => { p with unread := p.unread ++ seqs }
  | .conf key => d.mapPot fun p => p.confBack key.toNat
  | .img slot => d.setSlot (slot.val + 1) { d.slotImage (slot.val + 1) with good := false }
  | .vote c => { d with vote := { d.vote with copies := vset d.vote.copies c.val fun x => { x with valid := false } } }

/-- REFRESH_WALKER: a block is read and rewritten to a fresh block, in READY and LOWPWR; one on which a program or erase fails, or whose reads
need more than the correction threshold, is retired (R313, R314). -/
def execRefreshWalker (block : Nat) (read : FlashRead) (fails : Bool) : State → Host.Outcome State Fault Refusal := lift fun d =>
  if !d.fwRun || !d.domOn dSTOCK then d
  else
    let d1 := (d.pageLost read).rewriteBlock block
    if fails || read != .good then d1.retire else d1

/-! ## Records (R315 to R317) -/

/-- A record's bytes: the header of Table 12-6 with its CRC, then the payload. -/
def Record.bytes (r : Record) : List Byte :=
  let h := be 2 0xA5E1 ++ be 1 r.type ++ be 1 r.flags ++ be 2 r.payload.length ++ be 2 r.src ++ be 8 r.seq ++ be 6 r.tsec ++
    be 4 r.tns ++ be 2 0
  h ++ be 4 (crc32 (h ++ r.payload)) ++ r.payload

/-- Bytes of a record. -/
def Record.size (r : Record) : Nat := 32 + r.payload.length

/-- Bytes of a list of records, and MiB (one block is 1 MiB). -/
def recordsSize (l : List Record) : Nat := l.foldl (fun a r => a + r.size) 0

/-- The records without the oldest block of them. -/
def dropBlock : Nat → List Record → List Record
  | _, [] => []
  | room, r :: t => if r.size ≤ room then dropBlock (room - r.size) t else r :: t

/-- The ring: while the records exceed the capacity, the oldest block is erased. -/
def ringFit (cap : Nat) : Nat → List Record → List Record
  | 0, l => l
  | n + 1, l => if recordsSize l ≤ cap then l else ringFit cap n (dropBlock (2 ^ 20) l)

/-- Buffered records are programmed. -/
def Dev.flush (d : Dev) : Dev :=
  if !d.pot.mounted || !d.domOn dSTOCK then d
  else d.mapPot fun p =>
    { p with log := ringFit (p.logCap * 2 ^ 20) (p.buf.length + 1) (p.log ++ p.buf), buf := [] }

/-- RECORD_FLUSH: the records are programmed to `block`, which counts as written when it was erased before. A block on which the program
fails is retired, its valid data moved first. -/
def execRecordFlush (block : Nat) (fails : Bool) : State → Host.Outcome State Fault Refusal := lift fun d =>
  if !d.fwRun || !d.pot.mounted || !d.domOn dSTOCK || d.pot.buf.isEmpty then d
  else
    let d1 := if d.pot.blocks.any fun b => b.id == block then d.flush else d.flush.rewriteBlock block
    if fails then d1.retire else d1

/-! ## The attestation bucket (R383) -/

/-- What an attestation EVENT record's payload holds after its CODE: level, due second, leaf. -/
def attestData (level due leaf : Nat) : List Byte := be 1 level ++ be 6 due ++ be 4 leaf

/-- The newest attestation EVENT record. -/
def Dev.attestRecord (d : Dev) : Option Record :=
  (d.pot.log ++ d.pot.buf).reverse.find? fun r =>
    r.type == 2 && r.flags % 2 == 0 && r.payload.length == 13 && fieldAt r.payload 0 2 == Config.eventCode evAttest % 2 ^ 16

/-- Sets the bucket: its level, and when the next token falls due. -/
def Dev.setBucket (d : Dev) (level : Nat) (due : Option Nat) : Dev :=
  ({ d with sec := { d.sec with nextDue := due } }).wr F.SEC_ATT_TOKENS 0 level

/-- After the mount firmware restores the bucket from the newest record and adds the tokens that have fallen due since. -/
def Dev.bucketRestore (d : Dev) : Dev :=
  let now := (d.stamp 3).sec
  match d.attestRecord with
  | none => d.setBucket 0 (some (now + 480))
  | some r =>
    let level := fieldAt r.payload 2 1
    let due := fieldAt r.payload 3 6
    if 64 ≤ level then d.setBucket 64 none
    else
      let n := if due ≤ now then (now - due) / 480 + 1 else 0
      if 64 ≤ level + n then d.setBucket 64 none else d.setBucket (level + n) (some (due + 480 * n))

/-! ## The mount (R317, R335) -/

/-- TB3 is set to the newest record's time plus 1 s, once, and the records held so far move by the same amount. -/
def Dev.tb3Mount (d : Dev) : Dev :=
  if d.on F.TU_TBSTAT_VALID 3 || !d.domOn dTIME then d
  else match d.pot.log.reverse.head? with
    | none => d.set F.TU_TBSTAT_VALID 3
    | some r =>
      let nano : Int := 1000000000
      let t := d.stamp 3
      let delta : Int := ((r.tsec : Int) + 1 - t.sec) * nano + r.tns - t.ns
      let move := fun (sec ns : Nat) => ((sec : Int) * nano + ns + delta).toNat
      let d1 := d.mapPot fun p => { p with buf := p.buf.map fun x =>
        { x with tsec := move x.tsec x.tns / 1000000000 % 2 ^ 48, tns := move x.tsec x.tns % 1000000000 } }
      (d1.mapTb 3 fun b => { b with sec := (r.tsec + 1) % 2 ^ 48, sub := r.tns * subNs + b.sub % subNs }).set F.TU_TBSTAT_VALID 3

/-- LOG_MOUNT: LOG is mounted, TB3 set, the held records written, the bucket restored. -/
def execLogMount : State → Host.Outcome State Fault Refusal := lift fun d =>
  if !d.fwRun || d.pot.mounted || !d.domOn dSTOCK then d
  else ((d.tb3Mount.mapPot fun p => { p with mounted := true }).flush).bucketRestore

/-! ## Coalesced events (R318) -/

/-- One summary EVENT record (log entry 31 gives the count 64 bits). -/
def Dev.summary (d : Dev) (c : Coalesced) : Dev :=
  let st := fun (t : Nat × Nat) => be 6 t.1 ++ be 4 t.2
  d.record 2 1 c.src (be 2 c.code ++ be 8 c.count ++ st c.first ++ st c.last)

/-- Two pairs folded into one with CODE 0xFFFF and the exact total. -/
def Coalesced.join (a b : Coalesced) : Coalesced :=
  let le := fun (s t : Nat × Nat) => s.1 < t.1 || (s.1 == t.1 && s.2 ≤ t.2)
  { code := 0xFFFF, src := 0, count := a.count + b.count, first := if le a.first b.first then a.first else b.first
    last := if le a.last b.last then b.last else a.last }

/-- The summaries of a second: at most 64, the pairs beyond 63 folded into one. -/
def summaries (l : List Coalesced) : List Coalesced :=
  if l.length ≤ 64 then l
  else match l.drop 63 with
    | [] => l
    | a :: t => l.take 63 ++ [t.foldl Coalesced.join { a with code := 0xFFFF, src := 0 }]

/-- EVENT_SUMMARY: the end of a second. Before the mount the summaries wait while no more records can be held (R317). -/
def execEventSummary : State → Host.Outcome State Fault Refusal := lift fun d =>
  let l := summaries d.pot.folded
  if !d.fwRun || (!d.pot.mounted && 512 < d.pot.buf.length + l.length) then d
  else l.foldl Dev.summary (d.mapPot fun p => { p with folded := [] })

/-! ## CONF (R319, R84, R129) -/

/-- A new version of a CONF record becomes current; LOG receives an EVENT naming the key. A host-lane row is read again
(R148), and the optics entry of a loop that is OFF (R234). -/
def Dev.confWrite (d : Dev) (key : Nat) (data : List Byte) : Dev :=
  let t := d.stamp 3
  let r : Record := { type := 4, flags := if d.pot.mounted then 0 else 2, src := key, seq := d.pot.nextSeq, tsec := t.sec, tns := t.ns
                      payload := data }
  let d1 := d.mapPot fun p =>
    let old := p.conf.filter fun e => e.src == key
    { p with conf := (p.conf.filter fun e => e.src != key) ++ [r], nextSeq := p.nextSeq + 1
             prior := if old.isEmpty then p.prior else (p.prior.filter fun e => e.src != key) ++ old }
  ((if 0x400 ≤ key && key < 0x408 then d1.loopRow (key - 0x400) else iter 16 (fun n e => e.readRow n) d1)).event evConf 0x900 (be 2 key)

/-- A lane's committed trims and shaping set as CONF records (log entry 28). -/
def trimBytes (l : List (Nat × Nat × Nat)) : List Byte := l.flatMap fun t => be 2 t.1 ++ be 2 t.2.1 ++ be 2 t.2.2

/-- The trims of such a record. -/
def readTrims (l : List Byte) : List (Nat × Nat × Nat) :=
  (List.range (l.length / 6)).map fun i => (fieldAt l (6 * i) 2, fieldAt l (6 * i + 2) 2, fieldAt l (6 * i + 4) 2)

/-- The shaping set of such a record. -/
def readSet (l : List Byte) : List Nat := (List.range (l.length / 2)).map fun i => fieldAt l (2 * i) 2

/-- Firmware copies the committed trims and shaping sets it keeps to CONF, once per hour and at LOWPWR entry. -/
def Dev.confCopy (d : Dev) : Dev :=
  iter 8 (fun k e =>
    let l := e.lane k
    let e1 := if l.trims.isEmpty then e else e.confWrite (0x500 + k) (trimBytes l.trims)
    if l.tx.saved.isEmpty then e1 else e1.confWrite (0x600 + k) (l.tx.saved.flatMap fun v => be 2 v)) d

/-- CONF_COPY_HOURLY. -/
def execConfCopyHourly : State → Host.Outcome State Fault Refusal := lift fun d =>
  if d.fwRun && d.domOn dSTOCK then d.confCopy else d

/-! ## The POT commands -/

/-- Records held: LOG, then those still buffered. -/
def Pot.held (p : Pot) : List Record := p.log ++ p.buf

/-- A POT command other than POT.STAT.GET can be served: LOG mounted (R317), STOCK on. -/
def Dev.potReady (d : Dev) : Bool := d.pot.mounted && d.domOn dSTOCK

/-- POT.STAT.GET (Table 12-9). With no record held, the spec gives no oldest and newest SEQ: free values. -/
def execPotStatGet (src : Src) : State → Host.Outcome State Fault Refusal := lift fun d0 =>
  d0.kci src 0xA700 .q fun d =>
    if !d.domOn dSTOCK then .no .notReady
    else
      let p := d.pot
      let (ov, nv, d1) := match p.held.head?, p.held.reverse.head? with
        | some a, some b => (a.seq, b.seq, d)
        | _, _ => let (a, e) := d.freeVal 64
                  let (b, e1) := e.freeVal 64
                  (a, b, e1)
      .ok d1 (be 1 (if p.session.isSome then 2 else b2n p.mounted) ++ zeros 3 ++ be 4 p.logCap ++ be 4 (ceilDiv (recordsSize p.log) (2 ^ 20)) ++
        be 8 ov ++ be 8 nv ++ be 4 p.spares ++ be 4 p.retired ++ be 4 p.coalesced ++ be 4 p.dropped)

/-- Inserts a record in SEQ order. -/
def insertSeq (r : Record) : List Record → List Record
  | [] => [r]
  | x :: t => if r.seq ≤ x.seq then r :: x :: t else x :: insertSeq r t

/-- LOG and CONF records in SEQ order. -/
def Pot.all (p : Pot) : List Record := (p.prior ++ p.conf).foldl (fun l r => insertSeq r l) p.held

/-- Those that can be read: the others are a gap (R313). -/
def Pot.records (p : Pot) : List Record := p.all.filter fun r => !p.unread.contains r.seq

/-- POT.QUERY (Table 12-10): at most 16 records, over CDB at most 6 (R270). NEXT is the SEQ of the first match left out, or the
SEQ the next record will take. -/
def execPotQuery (src : Src) (tmask : Byte) (rsrc : BitVec 16) (start : BitVec 64) (tfirst tlast : BitVec 48) :
    State → Host.Outcome State Fault Refusal := lift fun d0 =>
  d0.kci src 0xA701 .s fun d =>
    if !d.potReady then .no .notReady
    else
      let hit := fun (r : Record) => start.toNat ≤ r.seq && tmask.toNat.testBit r.type && (rsrc.toNat == 0xFFFF || r.src == rsrc.toNat) &&
        tfirst.toNat ≤ r.tsec && r.tsec ≤ tlast.toNat
      let l := d.pot.records.filter hit
      let n := match src with | .cdb _ => 6 | _ => 16
      let next := match (l.drop n).head? with | some r => r.seq | none => d.pot.nextSeq
      let out := l.take n
      .ok d (be 1 out.length ++ be 8 next ++ zeros 3 ++ out.flatMap fun r =>
        be 8 r.seq ++ be 1 r.type ++ be 1 r.flags ++ be 2 r.payload.length ++ be 4 r.tsec)

/-- POT.READ: bytes of a record, its header included. -/
def execPotRead (src : Src) (seq : BitVec 64) (offset count : BitVec 16) : State → Host.Outcome State Fault Refusal :=
  lift fun d0 => d0.kci src 0xA702 .s fun d =>
    let c := count.toNat
    if !d.potReady then .no .notReady
    else if c = 0 || 1016 < c || srcRoom src < c then .no .badParam
    else match d.pot.all.find? fun r => r.seq == seq.toNat with
      | none => .no .badParam
      | some r => if r.size < offset.toNat + c then .no .badParam
          else if d.pot.unread.contains r.seq then .late d .fault else .ok d (bytesAt r.bytes offset.toNat c)

/-- The Colander's SNAP payload (R326): totals, TM_CLSTAT, ILV and the newest 1,904 ring entries, oldest first. -/
def Dev.colanderSnap (d : Dev) (n : Nat) : List Byte :=
  let h := d.host n
  let entry := fun (i : Nat) => slice (d.rd ((F.TM_CLRING_NU).at (i / 4)) n) (8 * (i % 4)) 8
  (h.totals.flatMap fun t => be 8 t) ++ be 4 (d.regWord 0xF0004 n) ++ be 4 (d.rd F.TM_CLCTL_ILV n) ++
    (List.range 1904).flatMap fun j => be 1 (entry ((h.ringAt + 2048 - 1904 + j) % 2048))

/-- POT.SNAP (R326): a tap-buffer capture queued under R90, or the Colander's counters and ring at once. -/
def execPotSnap (src : Src) (kind ch mode : Byte) : State → Host.Outcome State Fault Refusal := lift fun d =>
  let k := ch.toNat
  d.kciThen src 0xA703 .s (fun d =>
    if kind.toNat = 0 then
      if 7 < k || 2 < mode.toNat || (mode.toNat = 2 && !d.isC k) then .no .badParam
      else if !d.potReady || !d.domOn (dLADC k) then .no .notReady
      else .hold d (.snap k mode.toNat)
    else if kind.toNat = 1 then
      if 15 < k then .no .badParam
      else if !d.potReady || !d.domOn (dHTX k) then .no .notReady
      else .ok ((d.record 3 0 (0x400 + k) (d.colanderSnap k)).dma 2080) (be 8 d.pot.nextSeq)
    else .no .badParam) 0 0 fun e => if kind.toNat ≠ 0 then e else e.fwNext k

/-- The keys of Table 12-8. -/
def confKey (key : Nat) : Bool :=
  (0x100 ≤ key && key < 0x110) || ((List.range 6).any fun i => 0x200 + 0x100 * i ≤ key && key < 0x208 + 0x100 * i) ||
    (0x800 ≤ key && key < 0x900) || (0x1000 ≤ key && key < 0x2000)

/-- POT.CONF.WRITE: a part with bit 15 of LEN set waits for more; the final part makes the record current. -/
def execPotConfWrite (src : Src) (key len : BitVec 16) (data : List Byte) : State → Host.Outcome State Fault Refusal :=
  lift fun d0 => d0.kci src 0xA704 .s fun d =>
    let k := key.toNat
    let n := len.toNat % 2 ^ 15
    let held := match d.pot.parts with | some (q, l) => if q = k then l else [] | none => []
    if !d.potReady then .no .notReady
    else if k / 256 = 7 then .no .denied
    else if n = 0 || 1016 < n || data.length ≠ n || (match src with | .cdb _ => 116 < n | _ => false) || !confKey k ||
        4064 < held.length + n then .no .badParam
    else if len.toNat.testBit 15 then .ok (d.mapPot fun p => { p with parts := some (k, held ++ data) }) []
    else .ok ((d.mapPot fun p => { p with parts := none }).confWrite k (held ++ data)) []

/-- POT.CONF.READ. -/
def execPotConfRead (src : Src) (key offset count : BitVec 16) : State → Host.Outcome State Fault Refusal := lift fun d0 =>
  d0.kci src 0xA705 .s fun d =>
    let c := count.toNat
    if !d.potReady then .no .notReady
    else if c = 0 || 1016 < c || (match src with | .cdb _ => 116 < c | _ => false) then .no .badParam
    else match d.conf key.toNat with
      | none => .no .badParam
      | some l => if l.length < offset.toNat + c then .no .badParam else .ok d (be 2 l.length ++ bytesAt l offset.toNat c)

/-- POT.EXPORT opens or closes the one export session (R320). -/
def execPotExport (src : Src) (action mode : Byte) (first : BitVec 64) : State → Host.Outcome State Fault Refusal :=
  lift fun d0 => d0.kci src 0xA706 .c fun d =>
    if !d.potReady then .no .notReady
    else if action.toNat = 1 then
      if d.pot.session.isSome || 1 < mode.toNat then .no .badParam
      else if mode.toNat = 1 && !(d.lc == 1 || d.lc == 4 || d.expert) then .no .denied
      else .ok (d.mapPot fun p => { p with session := some (
        { mode := mode.toNat, next := if mode.toNat = 1 then 0 else first.toNat, last := p.nextSeq, chunk := 0, again := none }) }) []
    else if action.toNat = 2 && d.pot.session.isSome then .ok (d.mapPot fun p => { p with session := none }) []
    else .no .badParam

end Sys2Proof.Machine
end

