-- ==== Sys2Proof/Machine/Sec.lean ====
section
/-! DEFINITION. Vote-word updates (R310), and life cycle, secure boot and attestation (chapter 16): signed images, keys, the
token bucket, signatures, tickets, and the SEC commands. -/

namespace Sys2Proof.Machine

/-! ## Register words (Table 16-7) -/

/-- SEC_LC: the fuses' state and flags while the SEC domain is on, before that the shadow's state alone. -/
def Dev.secLc (d : Dev) : Nat :=
  if !d.domOn dSEC then d.voteWord 0 % 8
  else d.lc + 8 * d.rd F.SEC_LC_KEYGEN + 16 * b2n d.sec.keyOk + 32 * d.rd F.SEC_LC_KEYERR + 64 * b2n (!d.sec.cert.isEmpty) +
    128 * b2n (!d.sec.root.isEmpty) + 256 * d.rd F.SEC_LC_ZEROERR + 2 ^ 16 * d.rd F.SEC_LC_SHADOWFIX

/-- SEC_BOOT. -/
def Dev.secBoot (d : Dev) : Nat :=
  d.bootSlot + 4 * d.rd F.SEC_BOOT_RUN + 16 * d.trialSlot + 64 * b2n ((d.voteWord 3).testBit 8) + 2 ^ 16 * (d.voteWord 2 % 2 ^ 16)

/-- SEC_ATT. -/
def Dev.secAtt (d : Dev) : Nat :=
  d.voteWord 1 % 2 ^ 21 + 2 ^ 24 * d.rd F.SEC_ATT_TOKENS + 2 ^ 31 * d.rd F.SEC_ATT_SIGOK

/-- SEC_RMA. -/
def Dev.secRma (d : Dev) : Nat := d.voteWord 5 % 2 ^ 21

/-- SEC_ROOT n. -/
def Dev.secRoot (d : Dev) (n : Nat) : Nat := fieldAt d.sec.root (4 * n) 4

/-! ## Entropy, keys, zeroization -/

/-- A new 32-byte challenge (R382). -/
def Dev.newChallenge (d : Dev) : Dev :=
  let (c, d1) := d.draw 32
  d1.mapSec fun s => { s with challenge := c }

/-- Zeroization programs every bit of SK_SEED and SK_PRF to 1 and reads them back (R386). Whether the read-back fails no command of the
table tells: a free value sets ZEROERR (log entry 96). -/
def Dev.zeroKey (d : Dev) : Dev :=
  let (bad, d1) := (d.mapSec fun s => { s with key := List.replicate 64 0xFF, keyOk := false }).freeVal 1
  if bad = 1 then d1.set F.SEC_LC_ZEROERR else d1

/-- Firmware start recomputes the device root from the stored nodes of level 10 and compares it with the certificate's (R369). -/
def Dev.checkRoot (d : Dev) : Dev :=
  d.wr F.SEC_ATT_SIGOK 0 (b2n (d.sec.keyOk && !d.sec.cert.isEmpty &&
    bytesAt (Config.certKey d.sec.cert) 4 32 == Config.xmssRoot d.sec.nodes (bytesAt d.sec.pub 36 32)))

/-! ## Signed images (R375, R376) -/

/-- Bytes of an XMSS signature of a given height. -/
def sigBytes (height : Nat) : Nat := 2180 + 32 * height

/-- The SP 800-208 OID of XMSS-SHAKE256 with n = 32 and a height (PRESUMED, log entry 33). -/
def xmssOid (height : Nat) : Nat := if height = 10 then 0x10 else if height = 16 then 0x11 else 0x12

/-- R376 without the rollback floor: header fields, OID, root, signature and digest. -/
def imageOk (kind : Nat) (root img : List Byte) : Bool :=
  let h := fieldAt img 5 1
  let pub := bytesAt img 56 68
  let body := img.drop 4096
  fieldAt img 0 4 == 0x45465A53 && fieldAt img 4 1 == kind && (if kind = 1 then h == 20 else h == 10 || h == 16 || h == 20) &&
    fieldAt img 6 2 == 0x3400 && fieldAt pub 0 4 == xmssOid h && Config.shake256 pub 32 == root &&
    Config.xmssVerify pub (img.take 128) (bytesAt img 128 (sigBytes h)) && fieldAt img 16 4 == body.length &&
    bytesAt img 24 32 == Config.shake256 body 32

/-- The header fields of an image (Table 16-3). -/
def imageOf (img : List Byte) : Image :=
  { good := true, svn := fieldAt img 12 2, version := fieldAt img 8 4, xproto := fieldAt img 14 1, xmin := fieldAt img 15 1
    digest := bytesAt img 24 32 }

/-- A firmware slot verifies under R376 now. -/
def Dev.slotOk (d : Dev) (slot : Nat) : Bool :=
  (slot == 1 || slot == 2) && (d.slotImage slot).good && d.voteWord 2 % 2 ^ 16 ≤ (d.slotImage slot).svn

/-! ## Signatures (R381 to R385) -/

/-- The next leaf of the range in use, and the first leaf beyond it. -/
def Dev.leafNow (d : Dev) : Nat := if d.lc = 4 then d.secRma else d.voteWord 1 % 2 ^ 21

/-- Signatures accepted and not yet made. -/
def Dev.signQueue (d : Dev) : Nat := (d.vote.jobs.filter fun j => match j.after with | .sign _ _ => j.changes.isEmpty | _ => false).length

/-- The bucket applies (PROVISION and DEPLOYED). -/
def Dev.bucketed (d : Dev) : Bool := d.lc == 2 || d.lc == 3

/-- Milliseconds until the next token falls due, at most 65,535. -/
def Dev.tokenWait (d : Dev) : Nat :=
  let t := d.stamp 3
  satN 65535 (max 1 (ceilDiv ((d.sec.nextDue.getD 0) * 1000000000 - (t.sec * 1000000000 + t.ns)) 1000000))

/-- The end of the leaves of the state. -/
def Dev.leafEnd (d : Dev) : Nat := if d.lc = 4 then 1048576 else if d.lc = 1 then 16 else 1047552

/-- A signature begins: the token is taken, the attestation record written and programmed, the leaf named, and the update that
advances the index composed (R384 steps 1 to 3). -/
def Dev.signBegin (d : Dev) (j : VoteJob) : Dev × VoteJob :=
  let leaf := d.leafNow
  let level := d.rd F.SEC_ATT_TOKENS - 1
  let due := (d.sec.nextDue.getD ((d.stamp 3).sec + 480))
  let d1 := if d.bucketed then d.setBucket level (some due) else d
  let d2 := (d1.event evAttest 0x800 (attestData (d1.rd F.SEC_ATT_TOKENS) due leaf)).flush
  (d2, { j with leaf := leaf, changes := [(if d.lc = 4 then 5 else 1, leaf + 1)] })

/-- The report of Table 16-4. -/
def Dev.report (d : Dev) (nonce : List Byte) (leaf : Nat) : List Byte :=
  let r := d.sec.running
  let apps := d.mgmt.applets.toList.flatMap fun a => if a.state = 0 then zeros 32 else a.digest
  nonce ++ be 8 d.sec.serial ++ be 1 d.lc ++ be 1 (d.rd F.GLB_STAT_BOOT) ++ be 2 r.svn ++ be 4 r.version ++ be 4 leaf ++
    be 4 (d.voteWord 2) ++ r.digest ++ Config.shake256 apps 32 ++ be 6 (d.stamp 3).sec ++ zeros 2

/-- The signature is computed and released (R384 step 4): the signed object is the report and 2,820 signature bytes. -/
def Dev.signRelease (d : Dev) (src : Option Src) (nonce : List Byte) (leaf : Nat) : Dev :=
  let r := d.report nonce leaf
  let obj := r ++ (Config.xmssSign (d.sec.key ++ d.sec.pub) leaf r ++ zeros 2820).take 2820
  let d1 := d.mapSec fun s => { s with signed := obj }
  match src with
  | none => d1.message (d.sec.cert ++ obj)
  | some s => match d1.mgmt.outst.find? fun a => a.src == s && a.op == 0xA810 && a.wait == .vote with
    | some a => (d1.unlist a).respond s 0xA810 .ok (be 4 leaf ++ be 2 2948)
    | none => d1

/-! ## Vote-word updates (R310) -/

/-- The command that waits for a vote-word update completes; a standard CDB command without a KCI reply. -/
def Dev.voteRespond (d : Dev) (src : Src) (op : Nat) : Dev :=
  match d.mgmt.outst.find? fun a => a.src == src && a.op == op && a.wait == .vote with
  | none => d
  | some a =>
    let d1 := d.unlist a
    match src with
    | .cdb i => if op < 0xA000 then d1.cdbDone i op true 0 (Config.cmisReply op []) else d1.respond src op .ok []
    | _ => d1.respond src op .ok []

/-- Running applets stop: only DEPLOYED lets them run (Table 16-2). -/
def Dev.appletsStop (d : Dev) : Dev :=
  d.mapMgmt fun m => { m with applets := m.applets.map fun a => if a.state = 2 then { a with state := 1 } else a }

/-- A transition's effects (R371 step 3): at SCRAPPED the secrets are zeroized, at PROVISION the bucket starts empty, at
DEPLOYED a record with the bucket full is written (R374, R383); the response follows. -/
def Dev.lcEffects (d : Dev) (src : Src) (target : Nat) : Dev :=
  let now := (d.stamp 3).sec
  let d1 :=
    if target = 5 then ((d.zeroKey.mapSec fun s => { s with tokenKey := List.replicate 32 0xFF }).clr F.GLB_STAT_EXPERT).appletsStop
    else if target = 4 then d.appletsStop
    else if target = 2 then d.setBucket 0 (some (now + 480))
    else if target = 3 then ((d.setBucket 64 none).event evAttest 0x800 (attestData 64 now d.leafNow)).flush
    else d
  d1.voteRespond src 0xA820

/-- What a job does when it becomes the first: a signature's first steps, or the fuses of a life-cycle state. -/
def Dev.jobBegin (d : Dev) : Dev :=
  match d.vote.jobs with
  | [] => d
  | j :: t => match j.after with
    | .sign _ _ =>
      let (d1, j1) := d.signBegin j
      { d1 with vote := { d1.vote with jobs := j1 :: t } }
    | .advance _ target => d.mapSec fun s => { s with lc := target }
    | _ => d

/-- Queues an update and begins it when it is the only one. -/
def Dev.enqueue (d : Dev) (changes : List (Nat × Nat)) (after : VoteThen) : Dev :=
  let d1 := d.voteJob changes after
  if d.vote.jobs.isEmpty then d1.jobBegin else d1

/-- What follows the last step of an update. -/
def Dev.voteAfter (d : Dev) (j : VoteJob) : Dev :=
  match j.after with
  | .nothing | .role => d
  | .respond src op => d.voteRespond src op
  | .reset src op => (d.voteRespond src op).mapMgmt fun m => { m with resetDue := true }
  | .advance src target => d.lcEffects src target
  | .sign src nonce => d.signRelease src nonce j.leaf

/-- The words of an update's page. -/
def Dev.pageWords (d : Dev) (j : VoteJob) : List Nat :=
  j.changes.foldl (fun l c => setAt l c.1 (c.2 % 2 ^ 32)) ((List.range 16).map d.vote.word)

/-- VOTE_PAGE_PROGRAMMED: the page of the copy under way was programmed and read back. After 4 failures the block is retired;
after VC2 the flops take the words. -/
def execVotePageProgrammed (ok : Bool) : State → Host.Outcome State Fault Refusal := lift fun d =>
  match d.vote.jobs with
  | [] => d
  | j :: t =>
    if !d.fwRun || !d.domOn dSTOCK then d
    else if !ok then
      if j.fails + 1 < 4 then { d with vote := { d.vote with jobs := { j with fails := j.fails + 1 } :: t } }
      else ({ d with vote := { d.vote with jobs := { j with fails := 0 } :: t } }).retire
    else
      let words := d.pageWords j
      let gen := d.vote.gen + 1
      let copies := vset d.vote.copies j.stage fun _ => { gen := gen, words := words, valid := true }
      if j.stage < 2 then
        { d with vote := { d.vote with copies := copies, jobs := { j with stage := j.stage + 1, fails := 0 } :: t } }
      else
        let v := { d.vote with copies := copies, gen := gen, flops := Vector.replicate 3 words, jobs := t }
        ((({ d with vote := v }).wr F.MI_VSTAT_GENLO 0 gen).voteAfter j).jobBegin

/-- TOKEN_DUE: one token per 480 s of TB3, at most 64 (R383). -/
def execTokenDue : State → Host.Outcome State Fault Refusal := lift fun d =>
  match d.sec.nextDue with
  | none => d
  | some due =>
    let level := d.rd F.SEC_ATT_TOKENS + 1
    if !d.fwRun || !d.pot.mounted || !d.bucketed || 64 < level || (d.stamp 3).sec < due then d
    else d.setBucket level (if level = 64 then none else some (due + 480))

/-! ## The SEC commands -/

/-- SEC.STAT.GET (Table 16-5). -/
def execSecStatGet (src : Src) : State → Host.Outcome State Fault Refusal := lift fun d0 =>
  d0.kci src 0xA800 .q fun d =>
    .ok d (be 4 d.secLc ++ be 4 d.secBoot ++ be 4 d.secAtt ++ be 4 d.secRma ++ be 4 (match d.sec.nextDue with
      | none => 0 | some t => t - (d.stamp 3).sec))

/-- SEC.ATTEST (R384): the checks are made at acceptance, with the signatures already waiting counted. -/
def execSecAttest (src : Src) (nonce : BitVec 256) : State → Host.Outcome State Fault Refusal := lift fun d0 =>
  d0.kci src 0xA810 .s fun d =>
    if d.lc = 0 || d.lc = 5 then .no .denied
    else if !d.pot.mounted then .no .notReady
    else if !d.on F.SEC_ATT_SIGOK || !d.sec.keyOk then .late d .fault
    else if d.bucketed && d.rd F.SEC_ATT_TOKENS ≤ d.signQueue then .busy d.tokenWait
    else if d.leafEnd ≤ d.leafNow + d.signQueue then .late d .exhausted
    else .hold (d.enqueue [] (.sign (some src) (be 32 nonce.toNat))) .vote

/-- SEC.ATTEST.READ. -/
def execSecAttestRead (src : Src) (offset count : BitVec 16) : State → Host.Outcome State Fault Refusal := lift fun d0 =>
  d0.kci src 0xA811 .q fun d =>
    let c := count.toNat
    if c = 0 || srcRoom src < c || d.sec.signed.length < offset.toNat + c then .no .badParam
    else .ok d (bytesAt d.sec.signed offset.toNat c)

/-- SEC.CERT.READ. -/
def execSecCertRead (src : Src) (offset count : BitVec 16) : State → Host.Outcome State Fault Refusal := lift fun d0 =>
  d0.kci src 0xA812 .q fun d =>
    let c := count.toNat
    if d.sec.cert.isEmpty then .no .notReady
    else if c = 0 || srcRoom src < c || d.sec.cert.length < offset.toNat + c then .no .badParam
    else .ok d (bytesAt d.sec.cert offset.toNat c)

/-- SEC.CHALLENGE. -/
def execSecChallenge (src : Src) : State → Host.Outcome State Fault Refusal := lift fun d0 =>
  d0.kci src 0xA813 .q fun d => .ok d d.sec.challenge

/-- The transitions of Table 16-1. -/
def Dev.lcAllowed (d : Dev) (target : Nat) : Bool :=
  (d.lc == 0 && target == 1) || (d.lc == 1 && target == 2 && d.sec.keyOk && !d.sec.cert.isEmpty) ||
    (d.lc == 2 && target == 3 && !d.sec.root.isEmpty) || (d.lc == 3 && target == 4 && d.sec.rmaOk) ||
    (d.lc != 5 && target == 5 && d.expert)

/-- SEC.LC.ADVANCE: fuses, then the shadow under R310, then the effects (R371, R372). -/
def execSecLcAdvance (src : Src) (target : Byte) : State → Host.Outcome State Fault Refusal := lift fun d0 =>
  d0.kci src 0xA820 .s fun d =>
    let t := target.toNat
    if 5 < t then .no .badParam
    else if !d.lcAllowed t then .no .denied
    else .hold (d.enqueue [(0, d.voteWord 0 / 8 * 8 + t)] (.advance src t)) .vote

/-- SEC.KEYGEN: zeroizes the old key, draws SK_SEED, SK_PRF and PUB_SEED, and starts (R373). -/
def execSecKeygen (src : Src) : State → Host.Outcome State Fault Refusal := lift fun d0 =>
  d0.kci src 0xA821 .c fun d =>
    if d.lc ≠ 1 then .no .denied
    else
      let (k, d1) := d.zeroKey.draw 96
      .ok (((d1.mapSec fun s => { s with key := k.take 64, pub := k.drop 64, nodes := [] }).set F.SEC_LC_KEYGEN).clr F.SEC_ATT_SIGOK) []

/-- The computed tree is in the key store: its nodes of level 10, and the public key (SP 800-208 OID, root, PUB_SEED). -/
def Dev.keyStored (d : Dev) : Dev :=
  d.mapSec fun s =>
    let nodes := Config.xmssNodes (s.key ++ s.pub)
    { s with nodes := nodes, pub := be 4 (xmssOid 20) ++ Config.xmssRoot nodes s.pub ++ s.pub, keyOk := true }

/-- KEYGEN_DONE: the tree, and KEYOK with both indexes set in one vote-word update, or KEYERR. -/
def execKeygenDone (ok : Bool) : State → Host.Outcome State Fault Refusal := lift fun d =>
  if !d.on F.SEC_LC_KEYGEN then d
  else
    let d1 := (d.clr F.SEC_LC_KEYGEN).wr F.SEC_LC_KEYERR 0 (b2n (!ok))
    if ok then d1.keyStored.enqueue [(1, 0), (5, 1047552)] .nothing else d1

/-- SEC.ROOT.SET: once, in PROVISION only (R379). -/
def execSecRootSet (src : Src) (root : BitVec 256) : State → Host.Outcome State Fault Refusal := lift fun d0 =>
  d0.kci src 0xA822 .s fun d =>
    if d.lc ≠ 2 || !d.sec.root.isEmpty then .no .denied
    else .ok (d.mapSec fun s => { s with root := be 32 root.toNat }) []

/-- A whole certificate or ticket is checked and applied (R382): the device after it, or none on failure. -/
def Dev.ticketApply (d : Dev) (kind : Nat) (obj : List Byte) : Dev × Bool :=
  if kind = 1 then
    if d.lc = 1 && d.sec.keyOk && Config.certValid Config.vankoboRoot obj && Config.certKey obj == d.sec.pub then
      (d.mapSec fun s => { s with cert := obj }, true)
    else (d, false)
  else
    let ok := Config.ticketValid Config.vankoboRoot obj && Config.ticketNames obj == (d.sec.serial, d.sec.challenge)
    ((if ok then d.mapSec fun s => { s with rmaOk := true } else d).newChallenge, ok)

/-- SEC.TICKET.LOAD (Table 16-6). Blocks ascend from offset 0; a failed check discards the object. -/
def execSecTicketLoad (src : Src) (kind last : Byte) (size : BitVec 16) (offset : Word32) (data : List Byte) :
    State → Host.Outcome State Fault Refusal := lift fun d0 =>
  d0.kci src 0xA830 .f fun d =>
    let n := size.toNat
    let held := if offset.toNat = 0 then some [] else match d.sec.ticket with
      | some u => if u.slot = kind.toNat && u.data.length = offset.toNat then some u.data else none
      | none => none
    match held with
    | none => .no .badParam
    | some h =>
      if !(kind.toNat == 1 || kind.toNat == 2) || 1 < last.toNat || n = 0 || 960 < n || data.length ≠ n ||
          (match src with | .cdb _ => 112 < n | _ => false) || 16384 < h.length + n then .no .badParam
      else if kind.toNat = 1 && d.lc ≠ 1 then .no .denied
      else if last.toNat = 0 then .ok (d.mapSec fun s => { s with ticket := some ⟨kind.toNat, h ++ data⟩ }) []
      else
        let (d1, ok) := (d.mapSec fun s => { s with ticket := none }).ticketApply kind.toNat (h ++ data)
        if ok then .ok d1 [] else .refuse d1 .denied

end Sys2Proof.Machine
end

