-- ==== Sys2Proof/Machine/Power.lean ====
section
/-! DEFINITION. Resets, the start-up timeline (chapter 11), power domains, power states, OFF-AON, clocks and thermal protection
(chapters 17 and 19). -/

namespace Sys2Proof.Machine

/-- Updates the power sequencing. -/
def Dev.mapPower (d : Dev) (f : Power → Power) : Dev := { d with power := f d.power }

/-! ## Registers of AON and MGMT across resets -/

/-- A stored key belongs to an AON register. -/
def aonKey (key : Nat) : Bool :=
  match findReg (key % 2 ^ 26 / 32) with
  | some (r, _) => r.dom == .aon
  | none => false

/-- A stored key belongs to an MGMT register that a soft reset restores: any type but RWS (R11). -/
def softKey (key : Nat) : Bool :=
  keyDomain key == some dMGMT && (match keyField key with | some f => f.ty != .rws | none => true)

/-- The fused and strapped fields of the GLB block. -/
def Dev.glbFused (d : Dev) : Dev :=
  ((((d.wr F.GLB_ID_GRADE 0 d.sec.grade).wr F.GLB_SERLO_SERIAL 0 d.sec.serial).wr F.GLB_SERHI_SERIAL 0 (d.sec.serial / 2 ^ 32)).wr
    F.GLB_STAT_LEGACY 0 (b2n d.mgmt.legStrap)).wr F.GLB_STAT_LEGSTRAP 0 (b2n d.mgmt.legStrap)

/-! ## Reset (R418, R421, R422) -/

/-- An applet as the flash holds it: stopped, its image to be checked again. -/
def Applet.installed (a : Applet) : Applet :=
  { state := b2n (!a.image.isEmpty), version := a.version, digest := a.digest, image := a.image }

/-- What a reset of the whole device leaves: flash, one-time-programmable state, pin levels, the test port, and the model's own
counters. -/
def Dev.coldReset (d : Dev) : Dev :=
  let e := Dev.initial
  { e with
    now := d.now
    free := d.free
    jtag := d.jtag
    mgmt := { e.mgmt with lpmode := d.mgmt.lpmode, modselHigh := d.mgmt.modselHigh
                          applets := d.mgmt.applets.map Applet.installed }
    vote := { e.vote with copies := d.vote.copies }
    pot := { log := d.pot.log, conf := d.pot.conf, prior := d.pot.prior, unread := d.pot.unread, nextSeq := d.pot.nextSeq, spares := d.pot.spares, retired := d.pot.retired
             logCap := d.pot.logCap, blocks := d.pot.blocks }
    sec := { d.sec with download := none, running := {}, signed := [], chosen := 0, challenge := [], rmaOk := false, nextDue := none
                        ticket := none } }

/-- RESET_L_HOLD: RESET_L has been low for 1 µs; the device is held in reset. -/
def execResetLHold : State → Host.Outcome State Fault Refusal := lift Dev.coldReset

/-- SUPPLY_UNDERVOLTAGE: a reset as for a RESET_L low pulse while RESET_L is high. Fault source 2 is a FAULT_DETECT of its
own. -/
def execSupplyUndervoltage : State → Host.Outcome State Fault Refusal := lift fun d =>
  if d.phase == .held then d else d.coldReset

/-- LOSS_OF_SUPPLIES: unprogrammed records are lost; a vote copy whose page was being programmed keeps the page before it
(R309, R316, R421). The test port starts anew. -/
def execLossOfSupplies : State → Host.Outcome State Fault Refusal := lift fun d => { d.coldReset with jtag := {} }

/-- RESET_L_RISE: t0. The straps are sampled (R417); REFCLK runs. -/
def execResetLRise (legacy : Bool) (twinId : Fin 3) : State → Host.Outcome State Fault Refusal := lift fun d =>
  if d.phase != .held then d
  else
    let d1 := { d with phase := .rising, mgmt := { d.mgmt with legStrap := legacy, twinId := twinId.val } }
    (d1.wr F.PW_AVS_TARGET 0 d.sec.avsTarget).set F.PW_CLKSTAT_REFOK

/-- The newest GEN over the valid vote copies. -/
def Vote.best (v : Vote) : Option VoteCopy :=
  v.copies.toList.foldl (fun b c =>
    if !c.valid then b else match b with
      | none => some c
      | some x => if x.gen < c.gen then some c else b) none

/-- AON_READY: t1. The vote words are loaded from the copies with the highest GEN (R309). -/
def execAonReady : State → Host.Outcome State Fault Refusal := lift fun d =>
  if d.phase != .rising then d
  else
    let d1 := ({ d with phase := .aon }).fixPlls
    match d.vote.best with
    | none => d1.set F.MI_VSTAT_LOADERR
    | some b =>
      let mask := fun (p : VoteCopy → Bool) => (d.vote.copies.toList.zipIdx).foldl (fun a c => if p c.1 then a + 2 ^ c.2 else a) 0
      (((d1.wr F.MI_VSTAT_CURRENT 0 (mask fun c => c.valid && c.gen == b.gen)).wr F.MI_VSTAT_STALE 0
        (mask fun c => c.valid && c.gen != b.gen)).wr F.MI_VSTAT_GENLO 0 b.gen) |> fun e =>
        { e with vote := { e.vote with gen := b.gen, flops := Vector.replicate 3 b.words } }

/-! ## The boot ROM (R371, R377, R299) -/

/-- The device stays in the boot ROM and reports ModuleFault. -/
def Dev.bootFailed (d : Dev) (boot : Nat) : Dev :=
  (({ d with phase := .romFailed }).wr F.GLB_STAT_BOOT 0 boot).wr F.PW_STAT_CMIS 0 5 |>.stateInt

/-- The life-cycle shadow is repaired from the fuses. -/
def Dev.shadowRepair (d : Dev) : Dev :=
  if d.voteWord 0 % 8 = d.lc then d else (d.voteNow [(0, d.voteWord 0 / 8 * 8 + d.lc)]).incSat F.SEC_LC_SHADOWFIX

/-- After RESET_L, TWINROLE takes the strapped role in the flops; at t3 the device holds the endpoint when TWINROLE names LEAD
and DEPOSED is clear (R354, R356). -/
def Dev.bootTwin (d : Dev) : Dev :=
  let w := d.voteWord 4
  let d1 := if d.power.boot = 0 then { d with vote := d.vote.setFlops 4 (w / 256 * 256 + d.mgmt.twinId) } else d
  let e := d.mgmt.twinId != 0 && d1.voteWord 4 % 4 == 1 && !d.on F.XC_AON_DEPOSED
  let d2 := d1.mapMgmt fun m => { m with endpt := e }
  if d.domOn dXCUT then d2.wr F.XC_STAT_ENDPT 0 (b2n e) else d2

/-- The slots to try, in order, after ARMED or TRIAL has been cleared (R377; a SLOT other than 1 or 2, DESIGN CHOICE, log entry
72). -/
def Dev.bootOrder (d : Dev) : List Nat × Dev :=
  let slot := d.bootSlot
  let trial := d.trialSlot
  if (d.voteWord 3).testBit 8 then ([trial, slot], d.voteNow [(3, d.bootWord slot trial 0)])
  else if trial ≠ 0 then ([slot, if slot = 1 then 2 else 1], d.voteNow [(3, d.bootWord slot 0 0)])
  else ([slot, if slot = 1 then 2 else 1], d)

/-- BOOT_ROM_START: from t2 the boot ROM repairs the shadow, selects the slot, powers SEC and STOCK and verifies the image. -/
def execBootRomStart : State → Host.Outcome State Fault Refusal := lift fun d =>
  if d.phase != .aon || !d.domOn dMGMT then d
  else
    let d1 := if d.power.boot = 2 then d else d.wr F.PW_STAT_CMIS 0 0
    let d2 := ((d1.demand dSEC).demand dSTOCK).glbFused
    if d2.on F.MI_VSTAT_LOADERR then d2.bootFailed 0
    else
      let (order, d3) := d2.bootTwin.shadowRepair.bootOrder
      match order.find? d3.slotOk with
      | none => d3.bootFailed 7
      | some s => ({ d3 with phase := .rom }).mapSec fun x => { x with chosen := s, running := d3.slotImage s }

/-- SRAM_INIT_DONE: GLB_STAT.SRAMRDY. After a power-up of MGMT the pattern RAM reads 0 as well (R300). -/
def execSramInitDone : State → Host.Outcome State Fault Refusal := liftMem fun m d =>
  if d.phase == .held || d.phase == .rising || d.phase == .off || !d.domOn dMGMT || d.on F.GLB_STAT_SRAMRDY then (m, d)
  else if d.power.boot = 2 then (m, d.set F.GLB_STAT_SRAMRDY)
  else (memClear m patBase (patBase + 0x100000), (d.set F.GLB_STAT_SRAMRDY).memFresh [.mgmt, .pattern])

/-! ## Power states (R395 to R397) -/

/-- The effective low-power request; a thermal trip asks for LOWPWR too (R404). -/
def Dev.lowReq (d : Dev) : Bool := (d.mgmt.lowPwrAllowHW && d.mgmt.lpmode) || d.mgmt.lowPwrSW || d.on F.PW_STAT_TTRIP

/-- The domains READY adds. -/
def Dev.readyDomains (d : Dev) : List Nat := [dWHET, dBDAC] ++ (if d.mgmt.twinId = 0 then [] else [dXCUT])

/-- ModulePwrDn is entered (R396); a self-test run ends at its next step boundary. -/
def Dev.pwrDn (d : Dev) : Dev :=
  ((d.wr F.PW_STAT_CMIS 0 4).mapPower fun p => { p with upStep := 0, downStep := 1 }).mapBist fun b =>
    if b.state = 1 then { b with ending := true } else b

/-- ModulePwrUp is entered once AVSSET is set (R395, R403). -/
def Dev.pwrUp (d : Dev) : Dev :=
  if d.on F.PW_STAT_AVSSET then
    ((d.wr F.PW_STAT_CMIS 0 2).mapPower fun p => { p with upStep := 1 }).wakeAll d.readyDomains
  else d

/-- Firmware evaluates the effective request. -/
def Dev.powerEval (d : Dev) : Dev :=
  if !d.fwRun then d
  else if d.rd F.PW_STAT_CMIS = 1 && !d.lowReq then d.pwrUp
  else if d.rd F.PW_STAT_CMIS = 3 && d.lowReq then d.pwrDn
  else d

/-- A power-up's next step is due: t1 when the domains are awake; a request that has become true ends it (R397). -/
def Dev.upProgress (d : Dev) : Dev :=
  if d.power.upStep = 1 && d.readyDomains.all d.domOn then
    if d.lowReq then d.pwrDn else (d.wsRestart).mapPower fun p => { p with upStep := 2 }
  else if d.power.upStep = 2 && !d.ws.restarting && d.lowReq then d.pwrDn
  else d

/-- ModuleLowPwr is entered, or ModuleFault after a thermal trip. -/
def Dev.enterLowPwr (d : Dev) : Dev :=
  (((d.mapPower fun p => { p with downStep := 0 }).wr F.PW_STAT_STATE 0 1).wr F.PW_STAT_CMIS 0
    (if d.on F.PW_STAT_TTRIP then 5 else 1)).stateInt.powerEval

/-- The steps of R29: accepted commands complete, every data path stops, the bias DACs go to zero, the datapath domains go down,
then WHET, BDAC and, with no twin link in use, XCUT. Trims and shaping sets are copied and records programmed (R84, R316). -/
def Dev.downProgress (d : Dev) : Dev :=
  let off := [dWHET, dBDAC] ++ (if d.xc.trained then [] else [dXCUT])
  if d.power.downStep = 1 then
    if d.mgmt.outst.isEmpty then
      d.paths.foldl (fun e p => e.startDeact p.first) (d.mapPower fun p => { p with downStep := 2 })
    else d
  else if d.power.downStep = 2 then
    if d.paths.all fun p => p.state == 3 && !(p.lanes.any fun k => (d.lane k).active) then
      let d1 := d.opticsOff.confCopy.flush
      (d.paths.foldl (fun e p => e.pathDown p) d1).mapPower fun p => { p with downStep := 3 }
    else d
  else if d.power.downStep = 3 then
    let e := d.pathsGone
    if e.paths.isEmpty then (e.downAll off).mapPower fun p => { p with downStep := 4 } else e
  else if d.power.downStep = 4 then
    if off.all fun i => !d.domOn i && !d.power.downing.testBit i then d.enterLowPwr else d
  else d

/-- Every step of a transition that is due now. -/
def Dev.powerProgress (d : Dev) : Dev :=
  if d.fwRun then d.upProgress.downProgress.downProgress.downProgress.downProgress else d

/-- LOWPWR_REQUEST_CHANGE. -/
def execLowpwrRequestChange : State → Host.Outcome State Fault Refusal := lift fun d => d.powerEval.powerProgress

/-- MODULE_READY_ENTRY: t3 of R395, once the Whetstone has been restarted. -/
def execModuleReadyEntry : State → Host.Outcome State Fault Refusal := lift fun d =>
  if !d.fwRun || d.power.upStep ≠ 2 || d.ws.restarting then d
  else if d.lowReq then d.pwrDn.powerProgress
  else ((((d.mapPower fun p => { p with upStep := 0 }).wr F.PW_STAT_STATE 0 2).wr F.PW_STAT_CMIS 0 3).stateInt).loopsAuto

/-- AVS_SET: 2 ms after AVS_PWM is driven. -/
def execAvsSet : State → Host.Outcome State Fault Refusal := lift fun d =>
  if !d.fwRun || d.rd F.PW_AVS_DUTY = 0 then d else (d.set F.PW_STAT_AVSSET).powerEval.powerProgress

/-! ## Domains (R387 to R390) -/

/-- A write of PW_DREQ word `i`: bit b is domain 32 i + b. -/
def Dev.dreqWrite (d : Dev) (i v : Nat) : Dev :=
  iter 32 (fun b e =>
    let n := 32 * i + b
    if 80 ≤ n then e
    else if v.testBit b == e.domReq n then e
    else if v.testBit b then e.wake n else e.down n) d

/-- PW_DREQ_WRITE: only the management core switches domains. -/
def execPwDreqWrite (acc : Accessor) (i : Fin 3) (value : Word32) : State → Host.Outcome State Fault Refusal := lift fun d =>
  if acc != .mgmt then d else d.dreqWrite i.val value.toNat

/-- DOMAIN_WAKE_DONE: the domain is fully on. The Whetstone's memories read 0 (R300); a strapped twin's link begins to train
(R352); transitions and activations that waited for the domain go on. -/
def execDomainWakeDone (domain : Fin 80) : State → Host.Outcome State Fault Refusal := liftMem fun m d =>
  let i := domain.val
  if !d.power.waking.testBit i then (m, d)
  else
    let d1 := d.domUp i
    let d2 := if i = dXCUT && d1.fwRun then d1.xcTrain else d1
    let d3 := if i = dWHET then d2.memFresh [.prog, .x, .y] else d2
    (if i = dWHET then memClear m xBase (pmBase + 0x40000) else m, (d3.prepareReady).powerProgress)

/-- DOMAIN_DOWN_DONE: the domain is off; a capture of its sub-ADCs has ended (R92); a group whose domains are all off is gone (R40). -/
def execDomainDownDone (domain : Fin 80) : State → Host.Outcome State Fault Refusal := lift fun d =>
  let i := domain.val
  if !d.power.downing.testBit i then d
  else
    let d1 := if dLADC 0 ≤ i && i < dLRXD 0 then d.tbDead (i - 8) else if i = dBDAC then d.biasOff else d
    (((d1.mapPower fun p => { p with downing := withBit p.downing i false }).fixTrans).pathsGone).powerProgress

/-! ## Firmware start (R297, R311, R369, R403, R429, R431) -/

/-- Addresses whose values firmware restores by rules of their own (R20, R84, R104, R129) or that are no configuration: a rebuild
of the configuration copies leaves them out (log entry 34). -/
def ownRule (a : Nat) : Bool :=
  (0x20004 ≤ a && a < 0x20050) || a == 0x4000C || (0x40024 ≤ a && a < 0x40110) || (0x10200 ≤ a && a < 0x10300) || a == 0x3000C ||
    (0x60000 ≤ a && a < 0x60008) || (0x60044 ≤ a && a < 0x60054) || a == 0x60090 || (0x80014 ≤ a && a < 0x8001C) || 0x100000 ≤ a

/-- The configuration copies after a soft reset: the writable fields of the domains that are on (R429). -/
def Dev.rebuilt (d : Dev) : FieldFile := d.regs.filter fun e =>
  !ownRule (e.1 % 2 ^ 26 / 32) &&
    (match keyDomain e.1 with | some i => i != dMGMT && d.domOn i | none => false) &&
    (match keyField e.1 with | some f => f.ty == .rw || f.ty == .rws | none => false)

/-- The trims and shaping set firmware keeps for lane `k`: the live ones where the domain is on, else the CONF records. -/
def Dev.laneCopies (d : Dev) (k : Nat) : Dev := d.mapLane k fun l =>
  { l with trims := if d.domOn (dLADC k) then d.activeTrims k else readTrims ((d.conf (0x500 + k)).getD [])
           tx := { l.tx with saved := if d.domOn (dLTXD k) then d.txActive k else readSet ((d.conf (0x600 + k)).getD []) } }

/-- A stale or invalid vote copy is rewritten with the loaded page (R311), and TWINROLE as the boot ROM wrote it is brought into
the copies (R354). -/
def Dev.voteRewrite (d : Dev) : Dev :=
  match d.vote.best with
  | none => d
  | some b =>
    let d1 := { d with vote := { d.vote with copies := d.vote.copies.map fun _ => b } }
    if b.words.getD 4 0 = d.voteWord 4 then d1 else d1.voteJob [(4, d.voteWord 4)] .nothing

/-- The AVS duty: round(256 × (target − 0.600 V) / 0.250 V), target 0.650 V + 1 mV × TARGET. -/
def avsDuty (target : Nat) : Nat := (2 * 256 * (50 + target) + 250) / 500

/-- Block ages take the off time plus 2 % (R402). -/
def Dev.offAges (d : Dev) : Dev :=
  let inc := d.rd F.PW_OFFTIME_SEC - d.pot.offSeen
  d.mapPot fun p => { p with blocks := p.blocks.map fun b => { b with off := b.off + ceilDiv (inc * 102) 100 }
                             offSeen := d.rd F.PW_OFFTIME_SEC }

/-- The services firmware starts however it was started: copies of vote words, keys, challenge, board rows, kept trims and sets,
the TIME and MADC domains, and XCUT when strapped as a twin. -/
def Dev.services (d : Dev) : Dev :=
  let d1 := (d.voteRewrite.checkRoot.newChallenge).mapSec fun s => { s with rmaOk := false }
  let d2 := iter 8 (fun k e => e.laneCopies k) (iter 8 (fun k e => e.loopRow k) (iter 16 (fun n e => e.bootRow n) d1))
  let need := ([dTIME, dMADC] ++ (if d.mgmt.twinId = 0 then [] else [dXCUT])).filter fun i => !d2.domOn i
  d2.wakeAll need

/-- Firmware takes up the link again after a soft reset (R352, R355): a trained link of a deposed device, or one whose handshake the reset
ended, starts the handshake, and an untrained one trains; an attached one is left as it is. -/
def Dev.xcResume (d : Dev) : Dev :=
  if d.mgmt.twinId = 0 || !d.domOn dXCUT || !d.on F.XC_CTL_ATTEN then d
  else if !d.xc.trained then d.xcTrain
  else if d.on F.XC_AON_DEPOSED || d.rd F.XC_STAT_STATE = 2 then d.handshake
  else d

/-- FIRMWARE_START: t5. After RESET_L or OFF-AON the device is in LOWPWR; after a soft reset the state is kept and the request
evaluated (R431); a self-test that the reset ended has its lane domains powered down now (R410, log entry 74). -/
def execFirmwareStart : State → Host.Outcome State Fault Refusal := lift fun d =>
  if d.phase != .rom || !d.domOn dSEC || !d.domOn dSTOCK then d
  else
    let soft := d.power.boot == 2
    let d1 := ((((({ d with phase := .fw }).set F.GLB_STAT_FWRUN).wr F.GLB_STAT_BOOT 0 d.sec.chosen).wr F.SEC_BOOT_RUN 0 d.sec.chosen).stateInt).mapMgmt
      fun m => { m with lowPwrAllowHW := true, lowPwrSW := false, coreFast := true }
    let d2 := ({ d1 with fw := if soft then d1.rebuilt else [] }).services
    if soft then
      let d0 := iter 8 (fun k e => e.bistPowerDown k) d2
      let d3 := if d0.domOn dWHET then d0.trapReport.wsRestart else d0
      let d4 := iter 8 (fun k e => e.mapLane k fun l => { l with alarm := l.alarm ||| 16 }) d3
      d4.xcResume.powerEval.powerProgress
    else
      let d3 := ((d2.wr F.PW_STAT_STATE 0 1).wr F.PW_STAT_CMIS 0 (if d2.on F.PW_STAT_TTRIP then 5 else 1)).wr F.PW_AVS_DUTY 0
        (avsDuty d.sec.avsTarget)
      (if d.power.boot = 1 then d3.offAges else d3).powerEval

/-! ## Soft reset (R11, R280, R394, R429) -/

/-- What a soft reset takes from a lane: firmware's own copies and timers of retries; the tap set of the mode it last ran in
is taken from the live taps (R104). -/
def Dev.laneSoft (d : Dev) (k : Nat) : Dev :=
  let live := (List.range 48).map fun i => d.rd ((F.LN_FFETAP_VAL).at i) k
  let last := (d.lane k).lastLrm
  d.mapLane k fun l =>
    { l with tx := { l.tx with retry := [] }
             rx := { l.rx with copy := none
                               taps := Vector.ofFn fun i =>
                                 if d.domOn (dLRXD k) && i.val = last then (if l.wasActive then live else l.rx.taps.getD i.val []) else [] } }

/-- What a soft reset leaves of the management interface. -/
def Mgmt.soft (m : Mgmt) : Mgmt :=
  { m with outst := [], pins := [], legq := [], legCache := [], upload := none, i3cAddr := none, resetDue := false
           offDue := false, coreFast := false, config := Vector.replicate 8 0, appselWait := [], cmisFlags := []
           modFlags := 0, modMasks := 0, laneMasks := [], intL := false, page00 := 0, page11 := Vector.replicate 16 {}
           page14 := Vector.replicate 8 0, diag := 0, bankSel := 0, pageSel := 0
           outDis := Vector.replicate 16 false, fixedTarget := Vector.replicate 16 0, applets := m.applets.map Applet.installed }

/-- What a soft reset leaves of the Stockpot: flash, and SEQ, which never repeats. -/
def Pot.soft (p : Pot) (now : Nat) : Pot :=
  { p with mounted := false, buf := [], parts := none, folded := [], session := none, coalesced := 0, dropped := 0
           credit := 5000 * tickMs, creditAt := now, scrub := Vector.replicate 5 0 }

/-- What a soft reset leaves of the blocks that keep running: firmware's own copies of their results are gone. -/
def Dev.copiesGone (d : Dev) : Dev :=
  let d1 := { d with hosts := d.hosts.map fun (h : HostLane) =>
    { h with snap := false, totals := List.replicate 17 0, prev := List.replicate 17 0, row := [], preCode := 0, postCode := 0 } }
  let d2 := { d1 with tu := { d1.tu with kept := [], tt := d1.tu.tt.map fun (t : TtLane) => { t with tx := [], rx := [] } } }
  let d3 := d2.mapOpt fun o => { o with temps := Vector.replicate 4 none, rails := Vector.replicate 7 0, dieTemp := 0, calTemp := none }
  let d4 := d3.mapSec fun s => { s with download := none, signed := [], challenge := [], rmaOk := false, nextDue := none, ticket := none }
  { d4 with fw := [], fallbacks := [], bist := { powered := d4.bist.powered }, tally := {}, tel := Vector.replicate 8 {}, pg := { march := d4.pg.march } }

/-- A soft reset: MGMT registers but RWS at Reset values, management SRAM gone, the Whetstone halted, the management core back in
the boot ROM. The response unit keeps its queue. -/
def Dev.softReset (d : Dev) : Dev :=
  let d1 := (if d.domOn dWHET && d.rd F.WS_STAT_STATE = 1 then d.wsHalt else d).pgStop
  let d3 := (iter 8 (fun k (e : Dev) => e.laneSoft k) ({ d1 with regs := d1.regs.filter fun e => !softKey e.1 })).copiesGone
  let d4 := (d3.mapMgmt Mgmt.soft).mapPot fun p => p.soft d3.now
  (({ d4 with phase := .aon, vote := { d4.vote with jobs := [] } }).mapPower fun p => { p with boot := 2 }).clr F.XC_HB_ALIVE

/-- An accepted command ends with FAULT: a response on SPI and to the twin, CdbStatus failure over CDB (R279). -/
def Dev.endFault (d : Dev) (a : Accepted) : Dev :=
  match a.src with
  | .cdb i => d.cdbDone i a.op false 0 []
  | .applet _ => d
  | _ => d.respond a.src a.op .fault []

/-- SOFT_RESET_START: the soft reset that SYS.RESET or Run Firmware Image has scheduled. Commands accepted since then end as a
watchdog reset ends them. -/
def execSoftResetStart : State → Host.Outcome State Fault Refusal := lift fun d =>
  if d.fwRun && d.mgmt.resetDue then (d.mgmt.outst.foldl Dev.endFault d).softReset else d

/-- WATCHDOG_RESET. -/
def execWatchdogReset : State → Host.Outcome State Fault Refusal := lift fun d =>
  if !d.fwRun then d else (d.mgmt.outst.foldl Dev.endFault d).softReset

/-! ## Clocks (R392, R393) -/

/-- CORE_CLOCK_LOWER. -/
def execCoreClockLower : State → Host.Outcome State Fault Refusal := lift fun d => d.mapMgmt fun m => { m with coreFast := false }

/-- AON's detectors run. -/
def Dev.aonUp (d : Dev) : Bool := !(d.phase == .held || d.phase == .rising || d.phase == .off)

/-- REFCLK_LOSS. -/
def execRefclkLoss : State → Host.Outcome State Fault Refusal := lift fun d =>
  if !d.aonUp || !d.on F.PW_CLKSTAT_REFOK then d
  else
    let d1 := (((d.clr F.PW_CLKSTAT_REFOK).set F.PW_CLKSTAT_REFLOS).inc F.PW_CLKSTAT_REFLOSCNT).int
    if d1.fwRun then d1.event evRefclk 0x800 else d1

/-- REFCLK_RETURN. -/
def execRefclkReturn : State → Host.Outcome State Fault Refusal := lift fun d =>
  if d.aonUp then d.set F.PW_CLKSTAT_REFOK else d

/-! ## Thermal protection (R404) -/

/-- THERMAL_TRIP: the sensor's bit; EN of every bias channel cleared; fault source 1; firmware goes to LOWPWR and ModuleFault. -/
def execThermalTrip (sensor : Fin 4) : State → Host.Outcome State Fault Refusal := lift fun d =>
  if !d.aonUp then d
  else
    let d1 := d.wr F.PW_THERM_TRIPSRC 0 (withBit (d.rd F.PW_THERM_TRIPSRC) sensor.val true)
    let d2 := if d1.domOn dBDAC then iter 16 (fun ch e => e.biasEn ch false) d1 else d1
    let d3 := ((d2.set F.PW_STAT_TTRIP).int).faultRaise 1
    let d4 := d3.mapBist fun b => if b.state = 1 then { b with ending := true } else b
    if !d4.fwRun then d4
    else if d4.rd F.PW_STAT_CMIS = 1 then (d4.wr F.PW_STAT_CMIS 0 5).stateInt
    else d4.powerEval.powerProgress

/-! ## Power per mode (R405 to R407)

Typical figures in mW; nothing in the device depends on them. -/

/-- A lane's figures (Table 17-5): ADC and AFE, DAC, receive DSP, transmit DSP, host receive, host transmit. -/
def lanePower (lrm : Nat) : List Nat :=
  [[350, 250, 550, 100, 400, 400], [200, 140, 290, 50, 200, 200], [190, 130, 240, 40, 200, 200], [110, 80, 130, 20, 125, 125]].getD lrm []

/-- The figure of each lane of a data path. In A11 the columns of the powered outputs count: DAC and transmit DSP for line outputs, host transmit for host
outputs. -/
def Path.lanePower (p : Path) : Nat :=
  let l := Machine.lanePower p.lrm
  if p.mode = 11 then
    (if p.outputs.testBit 0 then l.getD 1 0 + l.getD 3 0 else 0) + (if p.outputs.testBit 1 then l.getD 5 0 else 0)
  else l.foldl (· + ·) 0

/-- Device power in READY: the base, the line PLL of each half with an active lane, and the lanes (R405). -/
def Dev.readyPower (d : Dev) : Nat :=
  let pll := ([0, 1].filter fun h => d.paths.any fun p => p.halves.contains h).foldl (fun a h =>
    a + if d.rd (if h = 0 then F.PW_CLKSTAT_H0FAM else F.PW_CLKSTAT_H1FAM) = 0 then 300 else 200) 0
  1200 + pll + d.paths.foldl (fun a p => a + p.lanes.length * p.lanePower) 0

/-- The output-stage loss of the bias channels in µW from the rail and, of each live channel, current in µA and ball voltage in mV (R406). -/
def biasLoss (rail : Nat) (l : List (Nat × Nat)) : Nat := l.foldl (fun a c => a + c.1 * (rail - c.2) / 1000) 0

/-- Device dissipation in µW (R407). -/
def Dev.dissipation (d : Dev) (rail : Nat) (l : List (Nat × Nat)) : Nat := 1000 * d.readyPower + biasLoss rail l

/-! ## OFF-AON (R399 to R402) -/

/-- A wake from OFF-AON after a number of seconds there: the timer and PW_OFFTIME have counted, AON requests MGMT. -/
def Dev.offWake (d : Dev) (sources seconds : Nat) : Dev :=
  let d1 := (d.incSat F.PW_OFFTIME_SEC 0 seconds).wr F.PW_WAKETMR_SEC 0 (d.rd F.PW_WAKETMR_SEC - seconds)
  ((({ d1 with phase := .aon }).wr F.PW_WAKE_LAST 0 sources).mapPower fun p =>
    { p with boot := 1, timerWake := sources == 8 }).wake dMGMT

/-- The wake sources that are enabled. -/
def Dev.wakeEn (d : Dev) (sources : Nat) : Nat := sources &&& (d.regWord 0xC0034 0 % 16)

/-- OFF-AON is due: SYS.PWR.SET has completed, or the refresh after a timer wake is done (R401). -/
def Dev.offReady (d : Dev) : Bool :=
  d.fwRun && (d.mgmt.offDue || (d.power.timerWake && d.pot.mounted && d.rd F.PW_STAT_CMIS == 1 && d.mgmt.outst.isEmpty &&
    !(d.pot.blocks.any d.blockDue)))

/-- OFF_AON_ENTRY: DETACH, records programmed, expert access and pins ended, the timer armed, every domain but AON down. What
AON holds is kept: the vote words, XC_AON, the PW registers, the count of wrong tokens and a lockout. -/
def execOffAonEntry : State → Host.Outcome State Fault Refusal := lift fun d =>
  if !d.offReady then d
  else
    let d1 := (if d.attached then d.detached else d).flush
    let d2 := if d1.on F.PW_WAKE_TMR then d1.wr F.PW_WAKETMR_SEC 0 2592000 else d1
    let e := d2.coldReset
    let d3 := { e with
      phase := .off
      regs := d2.regs.filter fun x => aonKey x.1
      vote := { d2.vote with jobs := [] }
      pot := { e.pot with offSeen := d2.pot.offSeen }
      mgmt := { e.mgmt with twinId := d2.mgmt.twinId, legStrap := d2.mgmt.legStrap, wrongTokens := d2.mgmt.wrongTokens
                            lockout := d2.mgmt.lockout } }
    let d4 := ((iter 80 (fun i x => (x.setDon i false).setDreq i false) d3).fixTrans.fixPlls).wr F.PW_STAT_STATE 0 0
    let latched := d2.wakeEn d2.mgmt.wakeLatched
    if latched = 0 then d4 else d4.offWake latched 0

/-- OFF_AON_WAKE: sources that came; while entry is still under way they are latched. After a timer wake another source keeps the device up
(R401). -/
def execOffAonWake (sources : BitVec 4) (seconds : Nat) : State → Host.Outcome State Fault Refusal := lift fun d =>
  let s := d.wakeEn sources.toNat
  if d.fwRun && d.mgmt.offDue then d.mapMgmt fun m => { m with wakeLatched := m.wakeLatched ||| s }
  else if s = 0 then d
  else if d.phase != .off then d.mapPower fun p => { p with timerWake := false }
  else d.offWake s seconds

/-- WAKE_TIMER_EXPIRY: PW_WAKETMR reaches 0; a timer at 0 never wakes. -/
def execWakeTimerExpiry : State → Host.Outcome State Fault Refusal := lift fun d =>
  let t := d.rd F.PW_WAKETMR_SEC
  if d.phase != .off || t = 0 || !d.on F.PW_WAKE_TMR then d else d.offWake 8 t

/-! ## The power commands -/

/-- SYS.PWR.GET (Table 17-8). -/
def execSysPwrGet (src : Src) : State → Host.Outcome State Fault Refusal := lift fun d0 =>
  d0.kci src 0xA050 .q fun d =>
    let flags := d.rd F.PW_STAT_TTRIP + 2 * d.rd F.PW_STAT_AVSSET + 4 * d.rd F.PW_CLKSTAT_REFLOS + 8 * d.rd F.PW_STAT_TRANS
    .ok d (be 1 (d.rd F.PW_STAT_STATE) ++ be 1 (d.rd F.PW_STAT_CMIS) ++ be 1 (d.rd F.PW_WAKE_LAST) ++ be 1 flags ++
      be 4 (d.regWord 0xC0020 0) ++ be 4 (d.regWord 0xC0024 0) ++ be 4 (d.regWord 0xC0028 0) ++ be 4 (d.regWord 0xC0030 0) ++
      be 4 (d.rd F.PW_WAKETMR_SEC))

/-- SYS.PWR.SET (Table 17-9). -/
def execSysPwrSet (src : Src) (target wakeen : Byte) (waketmr : Word32) : State → Host.Outcome State Fault Refusal := lift fun d0 =>
  d0.kci src 0xA051 .c fun d =>
    let t := target.toNat
    if !srcHost src then .no .denied
    else if !okKeep t 2 || !okKeep wakeen.toNat 15 || (16777215 < waketmr.toNat && waketmr.toNat ≠ 0xFFFFFFFF) then .no .badParam
    else if t = 0 && !d.mgmt.outst.isEmpty then .busy (match d.mgmt.outst with | [] => 1 | a :: _ => d.retryOf a)
    else if (t = 0 && d.rd F.PW_STAT_CMIS ≠ 1) || (t = 2 && d.on F.PW_STAT_TTRIP) then .no .notReady
    else
      let bit := fun (e : Dev) (f : Fld) (i : Nat) => if wakeen.toNat = 0xFF then e else e.wr f 0 (b2n (wakeen.toNat.testBit i))
      let d1 := bit (bit (bit (bit d F.PW_WAKE_TWI 0) F.PW_WAKE_SPI 1) F.PW_WAKE_LPM 2) F.PW_WAKE_TMR 3
      let d2 := if waketmr.toNat = 0xFFFFFFFF then d1 else d1.wr F.PW_WAKETMR_SEC 0 waketmr.toNat
      let d3 := d2.mapMgmt fun m =>
        { m with lowPwrSW := if t = 1 then true else if t = 2 then false else m.lowPwrSW, offDue := m.offDue || t == 0
                 wakeLatched := if t = 0 then 0 else m.wakeLatched }
      .ok (if t = 1 || t = 2 then d3.powerEval.powerProgress else d3) []

end Sys2Proof.Machine
end

