-- ==== Sys2Proof/Machine/Mgmt.lean ====
section
/-! DEFINITION. The management interface (chapter 11): the quad SPI port, KCI frames, the CDB instances and the standard CDB
commands, the CMIS agent, the legacy window, the export stream and the firmware messages of the twin. -/

namespace Sys2Proof.Machine

/-! ## The SPI port (R262 to R264) -/

/-- The boot ROM or firmware runs: from t3 on. -/
def Dev.romOrFw (d : Dev) : Bool := d.phase == .rom || d.phase == .romFailed || d.phase == .fw

/-- The quad SPI port answers: from t3 on, and not under EXTEST. -/
def Dev.spiUp (d : Dev) : Bool := d.pinsLive && d.romOrFw

/-- What the device drives back in a transaction; nothing where it leaves IO0 to IO3 at high impedance (R262). -/
def Dev.drive (d : Dev) (out : List Byte) : Dev := d.mapMgmt fun m => { m with spiOut := out }

/-- The status byte (Table 11-3). -/
def Dev.spiStatus (d : Dev) : Nat :=
  b2n (!d.mgmt.rspq.isEmpty) + 2 * ((d.mgmt.outst.filter fun a => srcSpi a.src).length % 8) + 16 * b2n d.mgmt.reqdrop +
    32 * b2n d.fwRun + 64 * d.rd F.GLB_STAT_LEGACY + 128 * b2n d.expert

/-- STATUS: the byte is returned and REQDROP clears. -/
def execStatus : State → Host.Outcome State Fault Refusal := lift fun d =>
  if !d.spiUp then d.drive [] else (d.drive [BitVec.ofNat 8 d.spiStatus]).mapMgmt fun m => { m with reqdrop := false }

/-- KCI_READ: the oldest response frame, removed when it has been clocked out whole; a held response takes the place. -/
def execKciRead (whole : Bool) : State → Host.Outcome State Fault Refusal := lift fun d =>
  if !d.spiUp then d.drive []
  else match d.mgmt.rspq with
    | [] => d.drive emptyFrame
    | fr :: t =>
      let d1 := d.drive fr
      if whole then d1.mapMgmt fun m => { m with rspq := t ++ m.rsphold.take 1, rsphold := m.rsphold.drop 1 } else d1

/-! ## The export stream (R320) -/

/-- A chunk: header and data. -/
def exportChunk (n flags : Nat) (data : List Byte) : List Byte :=
  be 4 n ++ be 2 data.length ++ be 2 flags ++ be 4 (crc32 data) ++ zeros 4 ++ data

/-- Mode 0: the next chunk's flags and data, and the session after it. Missing SEQs give a GAP chunk. -/
def Session.nextRecord (s : Session) (rs : List Record) : Nat × List Byte × Session :=
  if s.last ≤ s.next then (1, [], s)
  else match rs.find? fun r => s.next ≤ r.seq && r.seq < s.last with
    | none => (3, be 8 s.next ++ be 8 (s.last - 1), { s with next := s.last, off := 0 })
    | some r =>
      if s.next < r.seq then (2, be 8 s.next ++ be 8 (r.seq - 1), { s with next := r.seq, off := 0 })
      else
        let data := bytesAt r.bytes s.off 4096
        if s.off + data.length < r.size then (0, data, { s with off := s.off + data.length })
        else (b2n (decide (s.last ≤ r.seq + 1)), data, { s with next := r.seq + 1, off := 0 })

/-- EXPORT_READ: the next chunk, or the same one again after a read that was cut short. -/
def execExportRead (whole : Bool) : State → Host.Outcome State Fault Refusal := lift fun d =>
  if !d.spiUp then d.drive []
  else match d.pot.session with
    | none => d.drive (exportChunk 0 4 [])
    | some s =>
      if !d.fwRun || !d.potReady then d.drive (exportChunk s.chunk 4 [])
      else match s.again with
        | some c => (d.drive c).mapPot fun p => { p with session := some { s with again := if whole then none else some c } }
        | none =>
          let r := if s.mode = 0 then s.nextRecord d.pot.records
            else if Config.flashPages ≤ s.next then (1, [], s)
            else (b2n (decide (Config.flashPages ≤ s.next + 1)), (Config.flashPage s.next d.free).take 4096, { s with next := s.next + 1 })
          let c := exportChunk s.chunk r.1 r.2.1
          let d1 := if s.mode = 0 then d else { d with free := d.free + 1 }
          (d1.drive c).mapPot fun p =>
            { p with session := some { r.2.2 with chunk := s.chunk + 1, again := if whole then none else some c } }

/-! ## The legacy window (R291 to R293, Table 11-10) -/

/-- The coverage class of a legacy address and its fixed or reset value: 0 equivalent, 1 approximated, 2 read-as-fixed,
3 ignored. -/
def legacyCov (a : Nat) : Nat × Nat :=
  let o := a % 256
  if a < 0x10 then (2, if a = 0 then 0x1608 else if a = 1 then 0x3400 else 0)
  else if a < 0x20 then (1, 0)
  else if 0x100 ≤ a && a < 0x900 then
    (if o < 0x40 then (0, 0) else if o < 0x80 then (1, 0) else (3, Config.legacyReset a % 2 ^ 16))
  else if 0x900 ≤ a && a < 0x1100 then (if o < 0x40 then (1, 0) else (3, Config.legacyReset a % 2 ^ 16))
  else if 0x1100 ≤ a && a < 0x1900 && o < 0x40 then (0, 0)
  else if 0x2000 ≤ a && a < 0x2040 then (0, 0)
  else if 0x3000 ≤ a && a < 0x4000 then (3, Config.legacyReset a % 2 ^ 16)
  else if 0x4000 ≤ a && a < 0x5000 then (2, 0)
  else (3, 0)

/-- LEG.WRITE and LEG.READ are enabled. -/
def Dev.legOn (d : Dev) : Bool := d.spiUp && d.fwRun && d.on F.GLB_STAT_LEGACY

/-- QDEPTH follows the queue. -/
def Dev.legDepth (d : Dev) : Dev := d.wr F.GLB_LEGSTAT_QDEPTH 0 d.mgmt.legq.length

/-- LEG_WRITE; while the window is not active the instruction is ignored (R262). -/
def execLegWrite (addr data : BitVec 16) : State → Host.Outcome State Fault Refusal := lift fun d0 =>
  let d := d0.drive []
  if !d.legOn then d
  else if 64 ≤ d.mgmt.legq.length then d.set F.GLB_LEGSTAT_DROP
  else (d.mapMgmt fun m => { m with
    legq := m.legq ++ [(addr.toNat, data.toNat)]
    legCache := (m.legCache.filter fun e => e.1 != addr.toNat) ++ [(addr.toNat, data.toNat)] }).legDepth

/-- LEG_READ: a fixed or ignored register reads its value; another reads the written value until the refresh after the write has
taken effect, and then what firmware's cache holds: its translation, which the spec does not give, is a free value that stands until the
next refresh. -/
def execLegRead (addr : BitVec 16) : State → Host.Outcome State Fault Refusal := lift fun d =>
  if !d.legOn then d.drive []
  else
    let (cov, v) := legacyCov addr.toNat
    if 2 ≤ cov then d.drive (be 2 v)
    else match d.mgmt.legCache.find? fun e => e.1 == addr.toNat with
      | some e => d.drive (be 2 e.2)
      | none =>
        let (x, d1) := d.freeVal 16
        (d1.drive (be 2 x)).mapMgmt fun m => { m with legCache := m.legCache ++ [(addr.toNat, x)] }

/-- A free value for a field of a domain that is on. -/
def Dev.legFree (d : Dev) (dom : Nat) (f : Fld) (ch : Nat) : Dev :=
  let (x, d1) := d.freeVal f.w
  if d1.domOn dom then d1.wr f ch x else d1

/-- The translated effect of a legacy write. The spec names the targets and not the translation: the values are free. -/
def Dev.legEffect (d : Dev) (a : Nat) : Dev :=
  let o := a % 256
  if (legacyCov a).1 ≥ 2 then d
  else if a < 0x20 then
    let (x, d1) := d.freeVal 2
    let (y, d2) := d1.freeVal 1
    let d3 := d2.mapMgmt fun m =>
      { m with lowPwrSW := if x = 0 then false else if x = 1 then true else m.lowPwrSW, resetDue := m.resetDue || y == 1 }
    d3.powerEval.powerProgress
  else if a < 0x900 then
    (if o < 0x40 then d
      else
        let (t, d1) := d.freeVal 6
        let k := a / 256 - 1
        (d1.legFree (dLRXD k) ((F.LN_FFETAP_VAL).at (t % 48)) k).tapWritten k (t % 48))
  else if a < 0x1100 then
    let k := a / 256 - 9
    let (t, d1) := d.freeVal 4
    (d1.legFree (dLTXD k) F.TX_DAC_FS k).legFree (dLTXD k) ((F.TX_FFETAP_STG).at (t % 9)) k
  else if a < 0x1900 then
    let n := 2 * (a / 256 - 17)
    (((d.legFree (dHTX n) F.HL_TXEQ_PRE1 n).legFree (dHTX n) F.HL_TXEQ_POST1 n).legFree (dHTX n) F.HL_TXEQ_AMP n).legFree (dHRX n)
      F.HL_RXEQ_CTLE n
  else
    let (x, d1) := d.freeVal 1
    if x = 1 then d1.int else d1.mapMgmt fun m => Mgmt.intEval { m with modFlags := m.modFlags - slice m.modFlags 40 1 * 2 ^ 40 }

/-- LEGACY_WRITE_APPLY: the oldest queued write takes effect. -/
def execLegacyWriteApply : State → Host.Outcome State Fault Refusal := lift fun d =>
  if !d.fwRun then d
  else match d.mgmt.legq with
    | [] => d
    | e :: t => (((d.mapMgmt fun m => { m with legq := t }).legDepth).inc F.GLB_LEGSTAT_WRITES).legEffect e.1

/-- LEGACY_CACHE_REFRESH: registers with a write still queued go on reading the written value. -/
def execLegacyCacheRefresh : State → Host.Outcome State Fault Refusal := lift fun d =>
  if !d.fwRun then d
  else d.mapMgmt fun m => { m with legCache := m.legCache.filter fun e => m.legq.any fun q => q.1 == e.1 }

/-- SYS.LEGACY.SET. -/
def execSysLegacySet (src : Src) (en : Byte) : State → Host.Outcome State Fault Refusal := lift fun d0 =>
  d0.kci src 0xA010 .c fun d =>
    if 1 < en.toNat then .no .badParam
    else
      let d1 := d.wr F.GLB_STAT_LEGACY 0 en.toNat
      .ok (if en.toNat = 0 then (d1.mapMgmt fun m => { m with legq := [], legCache := [] }).legDepth else d1) []

/-- SYS.LEGACY.COV.GET. -/
def execSysLegacyCovGet (src : Src) (addr : BitVec 16) : State → Host.Outcome State Fault Refusal := lift fun d0 =>
  d0.kci src 0xA011 .q fun d => .ok d (be 1 (legacyCov addr.toNat).1 ++ be 2 (legacyCov addr.toNat).2)

/-! ## The two-wire bus and the CMIS agent (R259 to R268, R357) -/

/-- SETDASA: firmware answers a dynamic address in I3C SDR. -/
def execSetdasa (addr : BitVec 7) : State → Host.Outcome State Fault Refusal := lift fun d =>
  if d.fwRun && d.twoWire then d.mapMgmt fun m => { m with i3cAddr := some addr } else d

/-- MODSEL_L_RISE: no address is acknowledged; an abandoned transaction changes nothing. -/
def execModselLRise : State → Host.Outcome State Fault Refusal := lift fun d => d.mapMgmt fun m => { m with modselHigh := true }

/-- MODSEL_L_FALL. -/
def execModselLFall : State → Host.Outcome State Fault Refusal := lift fun d => d.mapMgmt fun m => { m with modselHigh := false }

/-- LPMODE_CHANGE. -/
def execLpmodeChange (level : Bool) : State → Host.Outcome State Fault Refusal := lift fun d =>
  let d1 := d.mapMgmt fun m => { m with lpmode := level }
  if d1.pinsLive then d1.powerEval.powerProgress else d1

/-- A CMIS page write reaches firmware. -/
def Dev.cmisOn (d : Dev) : Bool := d.fwRun && d.twoWire

/-- A CMIS write for the twin's host lane `n` goes over MAILBOX_RELAY (R357); while the twin is deposed it is refused with ConfigRejected
(R364). -/
def Dev.relayWrite (d : Dev) (n kind : Nat) (body : List Byte) : Dev :=
  if d.xc.twinDown then d.mapXc fun x => { x with image := putImage x.image (4 + n / 2) [2] }
  else d.message (be 1 kind ++ body)

/-- CMIS_APPSEL_WRITE: AppSel n for the data path whose first host lane is that of lane `first`. -/
def execCmisAppselWrite (first : Fin 8) (appSel : BitVec 4) (size lrm outputs pretx prerx : Byte) :
    State → Host.Outcome State Fault Refusal := lift fun d =>
  if !d.cmisOn then d
  else match d.cmisLane (2 * first.val) with
    | none => d
    | some (twin, n) =>
      if twin then d.relayWrite n 0xE1 (be 1 (n / 2) ++ be 1 appSel.toNat ++ [size, lrm, outputs, pretx, prerx])
      else d.appsel ⟨n / 2, appSel.toNat, size.toNat, lrm.toNat, outputs.toNat, pretx.toNat, prerx.toNat⟩

/-- OutputDisableTx of host lane `n` (R237). -/
def Dev.outputDisable (d : Dev) (n : Nat) (dis : Bool) : Dev :=
  (d.mapMgmt fun m => { m with outDis := vset m.outDis n fun _ => dis }).loopDisable (n / 2)

/-- CMIS_OUTPUT_DISABLE_WRITE. -/
def execCmisOutputDisableWrite (hlane : Fin 16) (disable : Bool) : State → Host.Outcome State Fault Refusal := lift fun d =>
  if !d.cmisOn then d
  else match d.cmisLane hlane.val with
    | none => d
    | some (twin, n) => if twin then d.relayWrite n 0xE2 (be 1 n ++ be 1 (b2n disable)) else d.outputDisable n disable

/-- CMIS_LOWPWR_SW_WRITE: LowPwrRequestSW and LowPwrAllowRequestHW (R395). -/
def execCmisLowpwrSwWrite (request allowHW : Bool) : State → Host.Outcome State Fault Refusal := lift fun d =>
  if !d.cmisOn then d
  else (d.mapMgmt fun m => { m with lowPwrSW := request, lowPwrAllowHW := allowHW }).powerEval.powerProgress

/-- A host equalisation write as a relayed message. -/
def eqBytes : EqWrite → List Byte
  | .amp c => be 1 0 ++ be 1 c.val
  | .pre c => be 1 1 ++ be 1 c.val
  | .post c => be 1 2 ++ be 1 c.val
  | .adapt on => be 1 3 ++ be 1 (b2n on)
  | .fixedTarget c => be 1 4 ++ be 1 c.val

/-- CMIS_EQ_CODE_WRITE (R146, R147). -/
def execCmisEqCodeWrite (hlane : Fin 16) (eq : EqWrite) : State → Host.Outcome State Fault Refusal := lift fun d =>
  if !d.cmisOn then d
  else match d.cmisLane hlane.val with
    | none => d
    | some (twin, n) => if twin then d.relayWrite n 0xE3 (be 1 n ++ eqBytes eq) else d.cmisEq n eq

/-- The status page 11h gives host lane `n`: its data path deactivated, initialising, deinitialising or activated, its RxOutputStatus (R158),
and its Application. -/
def Dev.laneStatus (d : Dev) (n : Nat) : Page11 :=
  let out := [2, 3, 4].contains (d.host n).state
  match d.pathOf (n / 2) with
  | none => { rxOut := out }
  | some p =>
    if !(hostsOfLane p.lrm (n / 2)).contains n then { rxOut := out }
    else { dp := if p.state = 1 then 2 else if p.state = 3 then 3 else 4, rxOut := out, app := p.mode, first := p.first }

/-- The flags of host lane `n` that the refresh latches: the conditions of R142, and a data path that has come to DPDeactivated or
DPActivated. -/
def Dev.newFlags (d : Dev) (n : Nat) : Nat :=
  let s := (d.laneStatus n).dp
  d.cmisFlag n + 8 * b2n (s != (d.mgmt.page11.getD n {}).dp && (s == 1 || s == 4))

/-- CMIS_STATUS_REFRESH: the readable status of pages 00h, 11h and 14h; a new flag that is not masked asserts INT_L. An attached pair
mirrors what has changed (R358), and a new endpoint reads the status of a deposed twin's lanes (R364). -/
def execCmisStatusRefresh : State → Host.Outcome State Fault Refusal := lift fun d =>
  if !d.fwRun then d
  else (d.mapMgmt fun m => Mgmt.intEval { m with
    page00 := d.rd F.PW_STAT_CMIS
    cmisFlags := (List.range 16).map fun n => m.cmisFlags.getD n 0 ||| d.newFlags n
    page11 := Vector.ofFn fun n : Fin 16 => d.laneStatus n.val
    page14 := Vector.ofFn fun k : Fin 8 => (d.tel.getD k.val {}).snrp }).appselProgress.mirrorChanges.askLanes

/-! ## Two-wire transactions (R259, R260, R265, R267)

The places of the fields in the pages are CMIS 5.2's (PRESUMED, log entry 88). -/

/-- Bit `i` of a value for each of eight lanes, as one byte. -/
def laneBits (f : Nat → Bool) : Nat := (List.range 8).foldl (fun a j => a + 2 ^ j * b2n (f j)) 0

/-- Bytes 0 to 127: the lower memory of page 00h. -/
def Dev.cmisLower (d : Dev) (o : Nat) : Byte :=
  let m := d.mgmt
  let cdb := fun (i : Fin 2) => 128 * b2n (m.cdb.get i).busy + 64 * b2n (!(m.cdb.get i).busy && !(m.cdb.get i).success) +
    (m.cdb.get i).failure % 64
  let flagged := fun (b : Nat) => (List.range 8).any fun j => m.cmisFlags.getD (8 * b + j) 0 != 0
  if o = 1 then 0x52
  else if o = 3 then BitVec.ofNat 8 (2 * (if d.fwRun then m.page00 else if d.phase == .romFailed then 5 else 0) + b2n (!m.intL))
  else if o = 4 || o = 5 then BitVec.ofNat 8 (b2n (flagged (o - 4)))
  else if 8 ≤ o && o < 14 then BitVec.ofNat 8 (m.modFlags / 2 ^ (8 * (o - 8)))
  else if o = 14 || o = 15 then BitVec.ofNat 8 (tc 16 (((d.optics.dieTemp : Int) - 800) * 16) / (if o = 14 then 256 else 1))
  else if o = 26 then BitVec.ofNat 8 (64 * b2n m.lowPwrAllowHW + 16 * b2n m.lowPwrSW)
  else if 31 ≤ o && o < 37 then BitVec.ofNat 8 (m.modMasks / 2 ^ (8 * (o - 31)))
  else if o = 37 then BitVec.ofNat 8 (cdb 0)
  else if o = 38 then BitVec.ofNat 8 (cdb 1)
  else if o = 126 then BitVec.ofNat 8 m.bankSel
  else if o = 127 then BitVec.ofNat 8 m.pageSel
  else Config.cmisStatic 0 o

/-- Page 11h of module lane `m`: of the host lane behind it (R142, R357), the twin's as mirrored. -/
def Dev.page11At (d : Dev) (m : Nat) : Page11 :=
  match d.cmisLane m with
  | some (false, n) => d.mgmt.page11.getD n {}
  | some (true, n) =>
    let b := fun i => d.xc.mirrored (28 + 4 * n + i)
    { dp := b 0, rxOut := b 1 == 1, app := b 2, first := b 3 }
  | none => {}

/-- The flags of module lane `m`, or their masks: this device's, or the twin's at offset `o` of the image. -/
def Dev.flagsAt (d : Dev) (l : List Nat) (o m : Nat) : Nat :=
  match d.cmisLane m with
  | some (false, n) => l.getD n 0
  | some (true, n) => d.xc.mirrored (o + n)
  | none => 0

/-- The configuration status and OutputDisableTx of module lane `m`. -/
def Dev.configAt (d : Dev) (m : Nat) : Nat × Bool :=
  match d.cmisLane m with
  | some (false, n) => (d.mgmt.config.getD (n / 2) 0, d.mgmt.outDis.getD n false)
  | some (true, n) => (d.xc.mirrored (4 + n / 2), (d.xc.mirroredN 92 2).testBit n)
  | none => (0, false)

/-- The flag byte of page 11h at offset `o` shows this bit of the lane flags; the mask byte stands in page 10h 79 bytes on. -/
def flagOf (o : Nat) : Option Nat :=
  if o = 134 then some 3 else if o = 136 then some 0 else if o = 137 then some 1 else if o = 148 then some 2 else none

/-- Bytes 128 to 255 of a page and bank; outside Table 11-4 they read 0 (R265). -/
def Dev.cmisUpper (d : Dev) (page bank o : Nat) : Byte :=
  let m := d.mgmt
  let lane := fun j => d.page11At (8 * bank + j)
  if page = 0x00 || page = 0x01 || page = 0x02 || page = 0x13 then Config.cmisStatic page o
  else if page = 0x14 then
    (if o = 128 then BitVec.ofNat 8 m.diag
      else if m.diag = 6 && 240 ≤ o then
        let v := (m.page14.getD ((o - 240) / 2) 0) * 256 / 10
        BitVec.ofNat 8 (if o % 2 = 0 then v else v / 256)
      else Config.cmisStatic page o)
  else if 1 < bank then 0
  else if page = 0x10 then
    (if o = 130 then BitVec.ofNat 8 (laneBits fun j => (d.configAt (8 * bank + j)).2)
      else match flagOf (o - 79) with
        | some i => BitVec.ofNat 8 (laneBits fun j => (d.flagsAt m.laneMasks 94 (8 * bank + j)).testBit i)
        | none => 0)
  else if page = 0x11 then
    (if 128 ≤ o && o < 132 then BitVec.ofNat 8 ((lane (2 * (o - 128))).dp + 16 * (lane (2 * (o - 128) + 1)).dp)
      else if o = 132 then BitVec.ofNat 8 (laneBits fun j => (lane j).rxOut)
      else if 202 ≤ o && o < 206 then
        let c := fun j => (d.configAt (8 * bank + j)).1
        BitVec.ofNat 8 (c (2 * (o - 202)) + 16 * c (2 * (o - 202) + 1))
      else if 206 ≤ o && o < 214 then BitVec.ofNat 8 (16 * (lane (o - 206)).app + 2 * ((lane (o - 206)).first % 8))
      else match flagOf o with
        | some i => BitVec.ofNat 8 (laneBits fun j => (d.flagsAt m.cmisFlags 12 (8 * bank + j)).testBit i)
        | none => 0)
  else if page = 0x9F then
    let c := m.cdb.get (if bank = 0 then 0 else 1)
    if o = 128 || o = 129 then BitVec.ofNat 8 (if o = 128 then c.cmd / 256 else c.cmd)
    else if o = 134 then BitVec.ofNat 8 c.reply.length
    else if 136 ≤ o then c.reply.getD (o - 136) 0
    else 0
  else 0

/-- The byte a two-wire read gives; under the boot ROM only page 00h is there (Table 11-1). -/
def Dev.cmisByte (d : Dev) (o : Nat) : Byte :=
  if o < 128 then d.cmisLower o
  else if d.fwRun then d.cmisUpper d.mgmt.pageSel d.mgmt.bankSel o
  else if d.mgmt.pageSel = 0 then Config.cmisStatic 0 o
  else 0

/-- The addresses of `n` bytes from `o` on: within the lower memory, or within the page. -/
def cmisSpan (o n : Nat) : List Nat := (List.range n).map fun i => if o < 128 then (o + i) % 128 else 128 + (o - 128 + i) % 128

/-- The own host lane behind each of a bank's module lanes, with the module lane's place in the bank. -/
def Dev.bankLanes (d : Dev) (bank : Nat) : List (Nat × Nat) :=
  (List.range 8).filterMap fun j => match d.cmisLane (8 * bank + j) with
    | some (false, n) => some (j, n)
    | _ => none

/-- Replaces bit `i` of the entries of lanes in a list of 16. -/
def putLaneBit (l : List Nat) (i : Nat) (lanes : List (Nat × Nat)) (v : Nat → Bool) : List Nat :=
  (List.range 16).map fun n => match lanes.find? fun e => e.2 == n with
    | some e => withBit (l.getD n 0) i (v e.1)
    | none => l.getD n 0

/-- The twin's host lane behind each of a bank's module lanes, with the module lane's place in the bank. -/
def Dev.twinLanes (d : Dev) (bank : Nat) : List (Nat × Nat) :=
  (List.range 8).filterMap fun j => match d.cmisLane (8 * bank + j) with
    | some (true, n) => some (j, n)
    | _ => none

/-- A flag read or a mask written of the twin's lanes changes the image, and the twin is told (R357). `o` is the place in the image. -/
def Dev.twinBits (d : Dev) (o i kind : Nat) (v : Nat → Bool) : Dev :=
  (d.twinLanes d.mgmt.bankSel).foldl (fun e p =>
    let e1 := e.mapXc fun x => { x with image := putImage x.image (o + p.2) (be 1 (withBit (x.mirrored (o + p.2)) i (v p.1))) }
    if e1.xc.twinDown then e1 else e1.message (be 1 kind ++ be 1 p.2 ++ be 1 i ++ be 1 (b2n (v p.1)))) d

/-- Reading a flag byte clears the flags it shows. -/
def Dev.cmisReadClears (d : Dev) (o : Nat) : Dev :=
  if 8 ≤ o && o < 14 then d.mapMgmt fun m => { m with modFlags := m.modFlags - slice m.modFlags (8 * (o - 8)) 8 * 2 ^ (8 * (o - 8)) }
  else if o < 128 || d.mgmt.pageSel ≠ 0x11 || 1 < d.mgmt.bankSel then d
  else match flagOf o with
    | some i => (d.mapMgmt fun m => { m with
      cmisFlags := putLaneBit m.cmisFlags i (d.bankLanes m.bankSel) fun _ => false }).twinBits 12 i 0xE4 fun _ => false
    | none => d

/-- A byte written over two-wire: bank and page, flag masks, the diagnostics selector. The controls that have a command of their own take
effect by that command; a page outside Table 11-4 and a read-only byte ignore the write (R265). -/
def Dev.cmisWriteByte (d : Dev) (o v : Nat) : Dev :=
  if o = 126 then d.mapMgmt fun m => { m with bankSel := v }
  else if o = 127 then d.mapMgmt fun m => { m with pageSel := v }
  else if 31 ≤ o && o < 37 then
    let s := 2 ^ (8 * (o - 31))
    d.mapMgmt fun m => { m with modMasks := m.modMasks - slice m.modMasks (8 * (o - 31)) 8 * s + v * s }
  else if o < 128 then d
  else if d.mgmt.pageSel = 0x14 && o = 128 then d.mapMgmt fun m => { m with diag := v }
  else if d.mgmt.pageSel ≠ 0x10 || 1 < d.mgmt.bankSel then d
  else match flagOf (o - 79) with
    | some i => (d.mapMgmt fun m => { m with
      laneMasks := putLaneBit m.laneMasks i (d.bankLanes m.bankSel) fun j => v.testBit j }).twinBits 94 i 0xE5 fun j => v.testBit j
    | none => d

/-- The device answers a two-wire address: 0x50, and once SETDASA has given one its dynamic address (R259). -/
def Dev.answers (d : Dev) (addr : BitVec 7) : Bool := addr == 0x50 || d.mgmt.i3cAddr == some addr

/-- What a transaction does at its STOP. -/
def Dev.twoWireDone (d : Dev) : TwoWire → Dev
  | .other => d
  | .read addr off count =>
    if !d.twoWire || !d.answers addr || !d.romOrFw then d
    else
      let l := cmisSpan off.toNat count
      let d1 := d.mapMgmt fun m => { m with twoOut := l.map d.cmisByte }
      if d.fwRun then (l.foldl Dev.cmisReadClears d1).mapMgmt Mgmt.intEval else d1
  | .write addr off data =>
    if !d.twoWire || !d.answers addr || !d.fwRun then d
    else (((cmisSpan off.toNat data.length).zip data).foldl (fun e x => e.cmisWriteByte x.1 x.2.toNat) d).mapMgmt Mgmt.intEval

/-- TWO_WIRE_STOP: the transaction takes effect (R260), and then a pending swap; each device of the pair sees every STOP (R356, R367). -/
def execTwoWireStop (xfer : TwoWire) : State → Host.Outcome State Fault Refusal := lift fun d =>
  if d.pinsLive then (d.twoWireDone xfer).swapStop else d

/-! ## CDB (R269, R270) -/

/-- What a standard command's body gives: success with the values its reply reports, failure with a reason, or an update it waits
for. -/
inductive StdRes where
  | done (d : Dev) (vals : List Nat)
  | fail (d : Dev) (reason : Nat)
  | hold (d : Dev)

/-- Runs a standard command that has been admitted. -/
def Dev.stdBody (d : Dev) (e : Accepted) (i : Fin 2) (body : Dev → StdRes) : Dev :=
  match body d with
  | .done d1 vals => d1.cdbDone i e.op true 0 (Config.cmisReply e.op vals)
  | .fail d1 r => d1.cdbDone i e.op false r []
  | .hold d1 => (d1.cdbBusy e.src e.op).mapMgmt fun m => { m with outst := m.outst ++ [{ e with wait := .vote }] }

/-- Firmware admits a standard command on an instance: reached and free, and within its class's depth (R269, R275). -/
def Dev.stdAdmits (d : Dev) (i : Fin 2) (op : Nat) (cls : Cls) : Bool :=
  d.phase == .fw && d.twoWire && !(d.mgmt.cdb.get i).busy && ((d.arrives op).admission (.cdb i) cls 0 0).isNone

/-- Every standard CDB command: a busy instance ignores it; under the boot ROM it is answered with NOT_READY (R297); a class that is
full fails it; an admitted one executes at once. -/
def Dev.std (d : Dev) (i : Fin 2) (op : Nat) (cls : Cls) (body : Dev → StdRes) : Dev :=
  if !(d.phase == .rom || d.phase == .romFailed || d.phase == .fw) || !d.twoWire || (d.mgmt.cdb.get i).busy then d
  else if d.phase != .fw then d.respond (.cdb i) op .notReady []
  else if ((d.arrives op).admission (.cdb i) cls 0 0).isSome then (d.arrives op).cdbDone i op false 0 []
  else ((d.arrives op).accepted).stdBody (d.entry (.cdb i) op cls) i body

/-- Query Status: the instance's own status. -/
def execQueryStatus (inst : Fin 2) : State → Host.Outcome State Fault Refusal := lift fun d0 =>
  d0.std inst 0x0000 .q fun d => .done d [b2n (d.mgmt.cdb.get inst).success, (d.mgmt.cdb.get inst).failure]

/-- Module Features. -/
def execModuleFeatures (inst : Fin 2) : State → Host.Outcome State Fault Refusal := lift fun d0 =>
  d0.std inst 0x0040 .q fun d => .done d []

/-- Firmware Management Features. -/
def execFirmwareManagementFeatures (inst : Fin 2) : State → Host.Outcome State Fault Refusal := lift fun d0 =>
  d0.std inst 0x0041 .q fun d => .done d []

/-- Get Firmware Info: the running slot, the committed and the trial slot, and the two images. -/
def execGetFirmwareInfo (inst : Fin 2) : State → Host.Outcome State Fault Refusal := lift fun d0 =>
  d0.std inst 0x0100 .q fun d => .done d [d.rd F.GLB_STAT_BOOT, d.bootSlot, d.trialSlot, b2n d.sec.slotA.good, d.sec.slotA.version,
    b2n d.sec.slotB.good, d.sec.slotB.version]

/-- Start Firmware Download: the slot that is neither SLOT nor TRIAL opens and is no longer verified. -/
def Dev.downloadOpen (d : Dev) : Dev :=
  (d.setSlot d.freeSlot {}).mapSec fun s => { s with download := some (d.freeSlot, []) }

/-- The download ends: an image that passes R376, its SVN no lower than ROLLBACK, makes its slot verified. -/
def Dev.downloadEnd (d : Dev) (slot : Nat) (img : List Byte) : Dev × Bool :=
  let d1 := d.mapSec fun s => { s with download := none }
  if imageOk 1 Config.vankoboRoot img && d.voteWord 2 % 2 ^ 16 ≤ (imageOf img).svn then (d1.setSlot slot (imageOf img), true)
  else (d1.setSlot slot {}, false)

/-- START_FIRMWARE_DOWNLOAD. -/
def execStartFirmwareDownload (inst : Fin 2) : State → Host.Outcome State Fault Refusal := lift fun d0 =>
  d0.std inst 0x0101 .q fun d => if d.trialSlot ≠ 0 then .fail d 0 else .done d.downloadOpen []

/-- WRITE_FIRMWARE_BLOCK_LPL: blocks in ascending order. -/
def execWriteFirmwareBlockLpl (inst : Fin 2) (addr : Word32) (data : List Byte) : State → Host.Outcome State Fault Refusal :=
  lift fun d0 => d0.std inst 0x0103 .f fun d =>
    match d.sec.download with
    | none => .fail d 0
    | some (slot, img) =>
      if addr.toNat ≠ img.length || data.isEmpty || 116 < data.length then .fail d 2
      else .done (d.mapSec fun s => { s with download := some (slot, img ++ data) }) []

/-- COMPLETE_FIRMWARE_DOWNLOAD. -/
def execCompleteFirmwareDownload (inst : Fin 2) : State → Host.Outcome State Fault Refusal := lift fun d0 =>
  d0.std inst 0x0107 .q fun d =>
    match d.sec.download with
    | none => .fail d 0
    | some (slot, img) =>
      let (d1, ok) := d.downloadEnd slot img
      if ok then .done d1 [] else .fail d1 0

/-- ABORT_FIRMWARE_DOWNLOAD: the slot stays unverified. -/
def execAbortFirmwareDownload (inst : Fin 2) : State → Host.Outcome State Fault Refusal := lift fun d0 =>
  d0.std inst 0x0102 .q fun d => .done (d.mapSec fun s => { s with download := none }) []

/-- A trial boot of the verified, uncommitted slot: TRIAL and ARMED in one update, and the soft reset that follows. -/
def Dev.runImage (d : Dev) (src : Src) (op : Nat) : Dev :=
  d.enqueue [(3, d.bootWord d.bootSlot d.freeSlot 1)] (.reset src op)

/-- RUN_FIRMWARE_IMAGE. -/
def execRunFirmwareImage (inst : Fin 2) : State → Host.Outcome State Fault Refusal := lift fun d0 =>
  d0.std inst 0x0109 .s fun d => if (d.slotImage d.freeSlot).good then .hold (d.runImage (.cdb inst) 0x0109) else .fail d 0

/-- COMMIT_FIRMWARE_IMAGE. -/
def execCommitFirmwareImage (inst : Fin 2) : State → Host.Outcome State Fault Refusal := lift fun d0 =>
  d0.std inst 0x010A .s fun d =>
    match d.commitWords with
    | some w => .hold (d.enqueue w (.respond (.cdb inst) 0x010A))
    | none => .fail d 0

/-! ## Firmware messages of the twin (R355, R357, R366, R368) -/

/-- The status a response frame carries. -/
def statusOf (fr : List Byte) : Status :=
  match fieldAt fr 3 1 % 16 with
  | 0 => .ok | 1 => .busy | 2 => .notReady | 3 => .badParam | 4 => .denied | 5 => .unsupported | 8 => .exhausted | _ => .fault

/-- The oldest waiting TWIN.RELAY completes with the twin's response; a status other than OK is returned as it is. -/
def Dev.relayReply (d : Dev) (fr : List Byte) : Dev :=
  match d.mgmt.outst.find? fun a => a.wait == .twinRelay with
  | none => d
  | some a =>
    let d1 := d.unlist a
    match statusOf fr with
    | .ok => if fr.length ≤ srcRoom a.src then d1.respond a.src a.op .ok fr else d1.respond a.src a.op .badParam []
    | .busy => d1.respondBusy a.src a.op (fieldAt fr 8 2)
    | st => d1.respond a.src a.op st []

/-- The report that a copy, restart or commit has succeeded or not. -/
def Dev.upgradeReport (d : Dev) (ok : Bool) : Dev := d.message (be 1 0xF0 ++ be 1 (b2n ok))

/-- Part of the image LEAD copies to this device's inactive slot; the last part completes the download. -/
def Dev.imagePart (d : Dev) (size offset : Nat) (data : List Byte) : Dev :=
  let d1 := if offset = 0 && d.trialSlot = 0 then d.downloadOpen else d
  match d1.sec.download with
  | none => d1.upgradeReport false
  | some (slot, img) =>
    if img.length ≠ offset then d1.upgradeReport false
    else if img.length + data.length < size then d1.mapSec fun s => { s with download := some (slot, img ++ data) }
    else
      let (d2, ok) := d1.downloadEnd slot (img ++ data)
      d2.upgradeReport ok

/-- FOLLOW hands its loops to LEAD with TAKE and restarts into its inactive slot. -/
def Dev.twinRestart (d : Dev) : Dev :=
  if (d.slotImage d.freeSlot).good then
    let mask := iter 8 (fun k a => if (d.loop k).state = 0 then a else a + 2 ^ k) 0
    (((d.cell 6 (be 1 0 ++ be 1 mask)).mapXc fun x => { x with asked := mask })).runImage (.twin 0) 0
  else d.upgradeReport false

/-- The device can make a signature now (R355, R384). -/
def Dev.canSign (d : Dev) : Bool :=
  d.lc != 0 && d.lc != 5 && d.pot.mounted && d.on F.SEC_ATT_SIGOK && d.sec.keyOk &&
    (!d.bucketed || decide (d.signQueue < d.rd F.SEC_ATT_TOKENS)) && decide (d.leafNow + d.signQueue < d.leafEnd)

/-! ## Identity and reset -/

/-- SYS.ID.GET (Table 11-12). -/
def execSysIdGet (src : Src) : State → Host.Outcome State Fault Refusal := lift fun d0 =>
  d0.kci src 0xA000 .q fun d =>
    .ok d (be 2 (d.rd F.GLB_ID_PART) ++ be 1 (d.rd F.GLB_ID_STEP) ++ be 1 (d.rd F.GLB_ID_GRADE) ++ be 8 d.sec.serial ++ be 1 d.lc ++
      be 1 (d.rd F.GLB_STAT_BOOT) ++ be 1 0x52 ++
      be 1 (d.rd F.GLB_STAT_LEGACY + 2 * b2n d.expert + 4 * d.rd F.GLB_STAT_SRAMRDY) ++
      be 4 (if d.fwRun then d.sec.running.version else 0))

/-- SYS.RESET (R280): admitted only with no other command outstanding; the soft reset follows its response. -/
def execSysReset (src : Src) : State → Host.Outcome State Fault Refusal := lift fun d0 =>
  d0.kci src 0xA001 .c fun d =>
    match d.mgmt.outst with
    | a :: _ => .busy (d.retryOf a)
    | [] => .ok (d.mapMgmt fun m => { m with resetDue := true }) []

end Sys2Proof.Machine
end

