-- ==== Sys2Proof/Machine/Applet.lean ====
section
/-! DEFINITION. Module applets (R294 to R296, R380) and expert access (R281, R282). -/

namespace Sys2Proof.Machine

/-! ## Applets -/

/-- An applet slot. -/
def Dev.applet (d : Dev) (s : Nat) : Applet := d.mgmt.applets.getD s {}

/-- Updates an applet slot. -/
def Dev.mapApplet (d : Dev) (s : Nat) (f : Applet → Applet) : Dev :=
  d.mapMgmt fun m => { m with applets := vset m.applets s f }

/-- An applet image verifies under R376 against the module-maker root. -/
def Dev.appletOk (d : Dev) (img : List Byte) : Bool := !d.sec.root.isEmpty && imageOk 2 d.sec.root img

/-- A verified image is installed in its slot, and in CONF under key 0x0700 + slot. -/
def Dev.appletInstall (d : Dev) (s : Nat) (img : List Byte) : Dev :=
  (d.mapApplet s fun _ => { state := 1, version := fieldAt img 8 4, digest := bytesAt img 24 32, image := img }).confWrite (0x700 + s) img

/-- SYS.APPLET.LOAD (Table 11-13): blocks ascend from offset 0, at most 256 KiB; the last one triggers verification, and a failure
discards the image. -/
def execSysAppletLoad (src : Src) (slot last : Byte) (size : BitVec 16) (offset : Word32) (data : List Byte) :
    State → Host.Outcome State Fault Refusal := lift fun d0 =>
  d0.kci src 0xA020 .f fun d =>
    let n := size.toNat
    let held := if offset.toNat = 0 then some [] else match d.mgmt.upload with
      | some u => if u.slot = slot.toNat && u.data.length = offset.toNat then some u.data else none
      | none => none
    match held with
    | none => .no .badParam
    | some h =>
      if 3 < slot.toNat || 1 < last.toNat || n = 0 || 960 < n || data.length ≠ n ||
          (match src with | .cdb _ => 112 < n | _ => false) || 262144 < h.length + n then .no .badParam
      else if last.toNat = 0 then .ok (d.mapMgmt fun m => { m with upload := some ⟨slot.toNat, h ++ data⟩ }) []
      else
        let d1 := d.mapMgmt fun m => { m with upload := none }
        if d.appletOk (h ++ data) then .ok (d1.appletInstall slot.toNat (h ++ data)) [] else .refuse d1 .denied

/-- An applet stops by a fault or fails its check: state 3 and an EVENT record. -/
def Dev.appletStopped (d : Dev) (s : Nat) : Dev :=
  (d.mapApplet s fun a => { a with state := 3 }).event evApplet 0x800 (be 1 s)

/-- An applet starts: before its first run after a firmware start it is verified again (R294, R380). -/
def Dev.appletStart (d : Dev) (s : Nat) : Dev :=
  if !(d.applet s).checked && !d.appletOk (d.applet s).image then d.appletStopped s
  else d.mapApplet s fun a => { a with state := 2, checked := true, restart := false, window := none }

/-- SYS.APPLET.CTL. Applets run in DEPLOYED only (Table 16-2). -/
def execSysAppletCtl (src : Src) (slot action : Byte) : State → Host.Outcome State Fault Refusal := lift fun d0 =>
  d0.kci src 0xA021 .c fun d =>
    let s := slot.toNat
    if 3 < s || !(action.toNat == 1 || action.toNat == 2 || action.toNat == 3) then .no .badParam
    else if (d.applet s).state = 0 || (action.toNat = 1 && d.lc ≠ 3) then .no .notReady
    else if action.toNat = 1 then .ok (if (d.applet s).state = 2 then d else d.appletStart s) []
    else if action.toNat = 2 then .ok (d.mapApplet s fun a => { a with state := 1, restart := false }) []
    else .ok ((d.mapApplet s fun _ => {}).mapPot fun p => { p with
      conf := p.conf.filter fun e => e.src != 0x700 + s
      prior := p.prior.filter fun e => e.src != 0x700 + s }) []

/-- The times of an applet's stops within the last hour. -/
def Dev.appletStops (d : Dev) (s : Nat) : List Nat := (d.applet s).stops.filter fun t => d.now < t + 3600 * tickS

/-- SYS.APPLET.LIST (Table 11-14). -/
def execSysAppletList (src : Src) : State → Host.Outcome State Fault Refusal := lift fun d0 =>
  d0.kci src 0xA022 .q fun d =>
    .ok d ([0, 1, 2, 3].flatMap fun s =>
      be 1 (d.applet s).state ++ be 1 (satN 255 (d.appletStops s).length) ++ be 2 0 ++ be 4 (d.applet s).version)

/-- APPLET_FAULT: the applet is stopped; firmware restarts it unless this is the third stop within one hour. -/
def execAppletFault (slot : Fin 4) : State → Host.Outcome State Fault Refusal := lift fun d =>
  let s := slot.val
  if !d.fwRun || (d.applet s).state ≠ 2 then d
  else
    let l := d.now :: d.appletStops s
    (d.mapApplet s fun a => { a with stops := l, restart := decide (l.length < 3) }).appletStopped s

/-- APPLET_RESTART: 1 s after a stop. -/
def execAppletRestart (slot : Fin 4) : State → Host.Outcome State Fault Refusal := lift fun d =>
  let a := d.applet slot.val
  if !d.fwRun || a.state ≠ 3 || !a.restart || d.lc ≠ 3 then d else d.appletStart slot.val

/-- APPLET_PREEMPT: the applet has used its 2 ms of the 20 ms window, and waits for the next one. -/
def execAppletPreempt (slot : Fin 4) : State → Host.Outcome State Fault Refusal := lift fun d =>
  if (d.applet slot.val).state ≠ 2 then d
  else d.mapApplet slot.val fun a => { a with window := some (d.now / (20 * tickMs)) }

/-! ## Expert access -/

/-- The device's expert token: SHAKE256 of the token key and the serial number, 8 bytes (R370). -/
def Dev.token (d : Dev) : Nat := fieldAt (Config.shake256 (d.sec.tokenKey ++ be 8 d.sec.serial) 8) 0 8

/-- EXP.UNLOCK (R281, R282). -/
def execExpUnlock (src : Src) (token : BitVec 64) : State → Host.Outcome State Fault Refusal := lift fun d0 =>
  d0.kci src 0xAA00 .c fun d =>
    if d.lc = 0 || d.lc = 1 || d.lc = 4 then .ok d []
    else if d.lc = 5 || d.mgmt.lockout then .no .denied
    else if token.toNat = d.token then .ok ((d.set F.GLB_STAT_EXPERT).mapMgmt fun m => { m with wrongTokens := 0 }) []
    else
      let n := d.mgmt.wrongTokens + 1
      .refuse ((d.event evWrongToken 0x800).mapMgmt fun m => { m with wrongTokens := n, lockout := decide (4 ≤ n) }) .denied

/-- EXP.LOCK. -/
def execExpLock (src : Src) : State → Host.Outcome State Fault Refusal := lift fun d0 =>
  d0.kci src 0xAA01 .c fun d => .ok (d.clr F.GLB_STAT_EXPERT) []

/-- EXPERT_ACCESS_TIMEOUT: 30 minutes without an EXP command or an SPI register instruction. -/
def execExpertAccessTimeout : State → Host.Outcome State Fault Refusal := lift fun d => d.clr F.GLB_STAT_EXPERT

/-- UNLOCK_LOCKOUT_END: 60 s after the fourth wrong token. -/
def execUnlockLockoutEnd : State → Host.Outcome State Fault Refusal := lift fun d =>
  if d.mgmt.lockout then d.mapMgmt fun m => { m with lockout := false, wrongTokens := 0 } else d

end Sys2Proof.Machine
end

