-- ==== Sys2Proof/Machine/Window.lean ====
section
/-! DEFINITION. The register window (R284 to R290): how an access finds its register and channel, what it reads and writes by
access type, the effects of particular registers, and the commands that reach registers. -/

namespace Sys2Proof.Machine

/-! ## Finding a register -/

/-- The unit, channel and broadcast an access uses. -/
structure Sel where
  unit : Nat
  index : Nat
  bcast : Bool := false
  deriving DecidableEq, Repr

/-- What the accessor's GLB_CHSEL copy selects. -/
def Dev.selOf (d : Dev) (a : Accessor) : Sel :=
  { unit := d.rd F.GLB_CHSEL_UNIT (Accessor.idx a), index := d.rd F.GLB_CHSEL_INDEX (Accessor.idx a)
    bcast := d.on F.GLB_CHSEL_BCAST (Accessor.idx a) }

/-- The highest channel of a unit (Table 11-9). -/
def unitTop (u : Nat) : Nat := [7, 511, 15, 15, 7, 1, 1, 31, 7, 3, 63].getD u 0

/-- What an access finds: an error bit of GLB_ACCERR, or a register, the number of its member, and the channels it acts on. -/
inductive Hit where
  | err (f : Fld)
  | reg (r : RegDesc) (m : Nat) (chs : List Nat)

/-- A register of the SEC block. -/
def RegDesc.isSec (r : RegDesc) : Bool := r.dom == .sec

/-- Finds the register of an access (R285 to R287). -/
def Dev.hit (d : Dev) (sel : Sel) (addr : Nat) (write : Bool) : Hit :=
  match findReg addr with
  | none => .err F.GLB_ACCERR_NOREG
  | some (r, m) =>
    if write && r.isSec then .err F.GLB_ACCERR_WINDOW
    else match r.unit with
      | none => if d.regOn r 0 then .reg r m [0] else .err F.GLB_ACCERR_PWROFF
      | some u =>
        if sel.unit ≠ u || unitTop u < sel.index then .err F.GLB_ACCERR_CHSEL
        else if write && sel.bcast then .reg r m ((List.range (unitTop u + 1)).filter (d.regOn r))
        else if d.regOn r sel.index then .reg r m [sel.index]
        else .err F.GLB_ACCERR_PWROFF

/-- Sets a bit of the accessor's GLB_ACCERR copy; the twin has none (R284). -/
def Dev.accErr (d : Dev) (a : Accessor) (f : Fld) : Dev := if a = .twin then d else d.set f (Accessor.idx a)

/-- A bus access for the Tally counters: class 2 read, 3 write; the expert mailbox counts as the management core (R327). -/
def Dev.busAccess (d : Dev) (a : Accessor) (addr cls : Nat) (user : Bool := false) : Dev :=
  d.tallyEvent 1 1 (some (match a with | .ws => 1 | .mgmt | .mbox => 0 | .spi => 10 | .twin => 11)) user cls (some addr)

/-! ## Reading -/

/-- The channel under which an accessor's copy or a channel's register is stored. -/
def RegDesc.chOf (r : RegDesc) (a : Accessor) (ch : Nat) : Nat := if r.perAcc then Accessor.idx a + 8 * ch else ch

/-- Fields whose value is computed when they are read. -/
def computedFlds : List Fld :=
  [F.GLB_STAT_EXPERT, F.SA_TBSTAT_QUEUED, F.XC_HB_AGE, F.MI_SCRUBSTAT_LOGCNT]

/-- The stored fields of a register as one word; WO fields read 0 (R12). -/
def Dev.foldWord (d : Dev) (r : RegDesc) (m ch : Nat) : Nat :=
  r.fields.foldl (fun a f => if f.ty == .wo || computedFlds.contains f then a else a + 2 ^ f.lo * d.rd (f.at m r.stride) ch) 0

/-- SEC[47:32] in bits 15:0 and FRAC in bits 31:16. -/
def Stamp.hiWord (t : Stamp) : Nat := t.sec / 2 ^ 32 % 2 ^ 16 + 2 ^ 16 * t.frac

/-- The time an accessor has latched from time base `i`. -/
def Dev.tuLatch (d : Dev) (a : Accessor) (i : Nat) : Stamp := (d.tu.latch.getD (Accessor.idx a) (Vector.replicate 4 {})).getD i {}

/-- The pattern RAM offset of a PG_RAMWIN word. -/
def Dev.ramOff (d : Dev) (w : Nat) : Nat := 32768 * d.rd F.PG_RAMPAGE_PAGE + 4 * w

/-- A pattern RAM word, least significant byte at the lowest address (R243). -/
def Dev.ramWord (d : Dev) (m : Memory) (off : Nat) : Nat :=
  (List.range 4).foldl (fun a i => a + 256 ^ i * d.pg.ramByte m (off + i)) 0

/-- A register's current value, without the effects of a read. -/
def Dev.peek (d : Dev) (mem : Memory) (a : Accessor) (r : RegDesc) (m ch : Nat) : Nat :=
  let w := d.foldWord r m (r.chOf a ch)
  if r.base = 0xC then w + 16 * b2n d.expert
  else if r.base = 0x20034 then w + 2 ^ 14 * b2n ((d.lane ch).rx.tbq.contains a)
  else if r.base = 0x6010C then d.ospiWord a
  else if r.base = 0x78000 then d.ramWord mem (d.ramOff m)
  else if r.base = 0x80008 then (d.stamp ch).ns
  else if r.base = 0x8000C then (d.tuLatch a ch).sec % 2 ^ 32
  else if r.base = 0x80010 then (d.tuLatch a ch).hiWord
  else if r.base = 0x80014 then tc 48 (d.tu.tbs.getD ch {}).rate % 2 ^ 32
  else if r.base = 0x80018 then tc 48 (d.tu.tbs.getD ch {}).rate / 2 ^ 32
  else if r.base = 0x80114 then (match d.tu.fifo with | [] => 0 | e :: _ => e.word)
  else if r.base = 0x80118 then (d.tu.fifoLatch.getD (Accessor.idx a) {}).ns
  else if r.base = 0x8011C then (d.tu.fifoLatch.getD (Accessor.idx a) {}).sec % 2 ^ 32
  else if r.base = 0x80120 then (d.tu.fifoLatch.getD (Accessor.idx a) {}).hiWord
  else if r.base = 0x90008 then w + 256 * d.hbAge
  else if r.base = 0xA0100 then d.tally.count.getD m 0 % 2 ^ 32
  else if r.base = 0xA0104 then d.tallyLatch (Accessor.idx a) m
  else if r.base = 0xB0004 then w + 2 ^ 24 * ((List.range 8).filter fun n => d.on ((F.MI_SCRUBLOG_VALID).at n)).length
  else if r.base = 0xB0080 then (if m < 6 then d.voteWord m else 0)
  else if r.base = 0xD0000 then d.secLc
  else if r.base = 0xD0004 then d.secBoot
  else if r.base = 0xD0008 then d.secAtt
  else if r.base = 0xD000C then d.secRma
  else if r.base = 0xD0020 then d.secRoot m
  else w

/-- The number of an accessor in MI_ECCLAST.MASTER. -/
def eccMaster : Accessor → Nat
  | .mgmt => 0 | .ws => 1 | .spi => 10 | .mbox | .twin => 11

/-- A read of a protected word through the window: an uncorrectable one is an event, and its stored bits are read (Table 12-2). -/
def Dev.eccRead (d : Dev) (a : Accessor) (mem : MemId) (addr : Nat) : Dev :=
  if d.isBad mem addr then d.eccEvent mem true (eccMaster a) 3 addr else d

/-- What a read of a register changes (R233, R302, R329, R334, R343). -/
def Dev.readEffect (d : Dev) (a : Accessor) (r : RegDesc) (m ch : Nat) : Dev :=
  if r.base = 0x6010C then d.ospiRx a
  else if r.base = 0x78000 then d.eccRead a .pattern (d.ramOff m)
  else if r.base = 0x80008 then d.readTns (Accessor.idx a) ch
  else if r.base = 0x80114 then d.readFifoHdr (Accessor.idx a)
  else if r.base = 0xA0100 then d.tallyRead (Accessor.idx a) m false
  else d

/-- A read of one register (R284 to R287, R207): its value, and the device after it. -/
def Dev.regRead (d0 : Dev) (mem : Memory) (a : Accessor) (sel : Sel) (addr : Nat) : Nat × Dev :=
  let d := d0.busAccess a addr 2
  match d.wsWindow addr with
  | some w =>
    if d.domOn dWHET then (d.wsMemRead mem addr, if d.wsOpen then d.eccRead a (winMem w).1 (winMem w).2 else d) else (0, d.accErr a F.GLB_ACCERR_PWROFF)
  | none => match d.hit sel addr false with
    | .err f => (0, d.accErr a f)
    | .reg r m chs => match chs with
      | [] => (0, d)
      | ch :: _ => (d.peek mem a r m ch, d.readEffect a r m ch)

/-! ## Writing -/

/-- RW fields that a register's own rule writes (`Dev.writeEffect`), and those only the management core writes. -/
def ownWrite (a : Accessor) (f : Fld) : Bool :=
  f == F.OC_BCTL_EN || f == F.OC_BCTL_RANGE || f == F.TU_RATELO_VALUE || f == F.TU_RATEHI_VALUE || (0xA0100 ≤ f.addr && f.addr < 0xA0200) ||
    f == F.PG_RAMWIN_DATA || f == F.WS_PC_PC || (0xC0010 ≤ f.addr && f.addr < 0xC0020) || (f == F.MI_VWDATA_DATA && a != .mgmt)

/-- W1S fields that only hold a request for hardware. -/
def holdsRequest (f : Fld) : Bool :=
  [F.SA_LCTL_CMTREQ, F.DEC_CTL_HSNAP, F.TX_CTL_CMTREQ, F.OC_STRB_SW0, F.OC_STRB_SW1, F.OC_NCOCTL_EARM, F.OC_MACTL_GO, F.OC_MACOM_GO,
   F.PG_SEGSTRM_RDY0, F.PG_SEGSTRM_RDY1].contains f

/-- What a written value is stored as: SA_VGA.GAIN above 96 stores 96. -/
def heldTo (f : Fld) (v : Nat) : Nat := if f == F.SA_VGA_GAIN then satN 96 v else v

/-- A write to one field by its type: `v` is the value under the mask, `act` the bits set in both (Table 0-3, EXP.REG.WR). -/
def Dev.fieldWrite (d : Dev) (a : Accessor) (f g : Fld) (ch v act : Nat) : Dev :=
  match f.ty with
  | .rw | .rws => if ownWrite a f then d else d.wr g ch (heldTo f (slice v f.lo f.w))
  | .w1c => d.wr g ch (d.rd g ch - (d.rd g ch &&& slice act f.lo f.w))
  | .w1s => if holdsRequest f then d.wr g ch (d.rd g ch ||| slice act f.lo f.w) else d
  | .ro | .wo => d

/-- A bit of a field is written 1. -/
def wr1 (f : Fld) (act : Nat) : Bool := act.testBit f.lo

/-- What a write to a register does beyond its fields' types. `o` is the device before the write. -/
def Dev.writeEffect (d o : Dev) (a : Accessor) (r : RegDesc) (m ch v act mask : Nat) : Dev :=
  let b := r.base
  if b = 0x10000 then (if wr1 F.LN_CTL_RETRAIN act then (d.retrainRequest ch).fallback ch else d)
  else if b = 0x10018 then d.capChange o
  else if b = 0x10200 then d.tapWritten ch m
  else if b = 0x20000 || b = 0x20004 then
    (if o.rd F.SA_AFE_RANGE ch = d.rd F.SA_AFE_RANGE ch && o.rd F.SA_AFE_PEAK ch = d.rd F.SA_AFE_PEAK ch &&
        o.rd F.SA_VGA_GAIN ch = d.rd F.SA_VGA_GAIN ch then d else d.afeChanged ch)
  else if b = 0x6004C then (if mask = 0 then d else d.clr F.OC_NCOCTL_EARM ch)
  else if b = 0x100030 then d.calWatch
  else if b = 0x100008 then (if d.rd F.WS_STAT_STATE = 2 then d.wr F.WS_PC_PC 0 (slice v F.WS_PC_PC.lo F.WS_PC_PC.w) else d)
  else if b = 0x20030 then (if wr1 F.SA_TBCTL_REQ act then d.tbReq a ch else d)
  else if b = 0x20038 then (if wr1 F.SA_TBREL_RELEASE act then d.tbRelease a ch else d)
  else if b = 0x30000 then d.fixHosts (ch / 2)
  else if b = 0x40104 then (if wr1 F.TX_OBSCTL_START act then d.obsStart else d)
  else if b = 0x60000 then
    let d1 := if mask.testBit F.OC_BCTL_EN.lo then d.biasEn ch (v.testBit F.OC_BCTL_EN.lo) else d
    d1.biasRange ch (slice v F.OC_BCTL_RANGE.lo F.OC_BCTL_RANGE.w)
  else if b = 0x60080 then (if wr1 F.OC_MACTL_CALREQ act then d.madcCalReq ch else d)
  else if b = 0x60090 then (if wr1 F.OC_MAINJ_REQ act then d.madcInject ch else d)
  else if b = 0x60108 then (if mask = 0 then d else d.ospiTx a act)
  else if b = 0x70000 then
    let d1 := if wr1 F.PG_CTL_START act then d.pgCtlStart else d
    if wr1 F.PG_CTL_STOP act then d1.pgCtlStop else d1
  else if b = 0x70008 then (if wr1 F.PG_JMP_REQ act then d.pgJump else d)
  else if b = 0x70018 then (if wr1 F.PG_SYNCCTL_CAL act then d.pgCal else d)
  else if b = 0x78000 then d.mended .pattern (d.ramOff m)
  else if b = 0x80014 then d.writeRateLo (Accessor.idx a) ch v
  else if b = 0x80018 then d.writeRateHi (Accessor.idx a) ch v
  else if b = 0x80024 then (if mask = 0 then d else (d.offer ch 1 (hostTheta act) none).2)
  else if b = 0x8010C then (if wr1 F.TU_FIFOCTL_SWSTAMP act then d.fifoPush 5 0 (d.rd F.TU_FIFOCTL_TB) 0 else d)
  else if b = 0x90000 then (if wr1 F.XC_CTL_DETACH act then d.detachReq else d)
  else if b = 0x90008 then (if wr1 F.XC_HB_KICK act then d.hbKick else d)
  else if b = 0xA0100 then d.tallyLo (Accessor.idx a) m false v
  else if b = 0xA0104 then d.tallyHi (Accessor.idx a) m false v
  else if b = 0xB0048 then
    (if a = .mgmt && wr1 F.MI_VWR_GO act then { d with vote := d.vote.setFlops (slice act F.MI_VWR_INDEX.lo F.MI_VWR_INDEX.w) (d.rd F.MI_VWDATA_DATA) }
      else d)
  else if 0xC0010 ≤ b && b < 0xC001C then (if a = .mgmt then d.dreqWrite ((b - 0xC0010) / 4) v else d)
  else if b = 0xF0000 then (if wr1 F.TM_CLCTL_SNAP act then d.clSnapReq ch else d)
  else if b = 0x100000 then
    let d1 := if wr1 F.WS_CTL_HALTREQ act then d.wsHaltReq else d
    let d2 := if wr1 F.WS_CTL_RUN act then d1.wsRun else d1
    if wr1 F.WS_CTL_RTSWAP act then d2.set F.WS_CTL_RTSWAP else d2
  else d

/-- The order in which writes of one clock are applied (R288); the twin's remote accesses come after the expert mailbox's (R365). -/
def accRank : Accessor → Nat
  | .ws => 0 | .mgmt => 1 | .spi => 2 | .mbox => 3 | .twin => 4

/-- The bits of a register's channel that accessors applied later have written in this clock: what they left stands (R288). -/
def Dev.kept (d : Dev) (a : Accessor) (r : RegDesc) (m ch : Nat) : Nat :=
  if r.perAcc then 0
  else (d.writes.filter fun w => w.addr == r.base + m * r.stride && w.ch == ch && accRank a < accRank w.acc).foldl (fun x w => x ||| w.mask) 0

/-- A mask without the bits that stand. -/
def Dev.freeMask (d : Dev) (a : Accessor) (r : RegDesc) (m mask ch : Nat) : Nat := mask - (mask &&& d.kept a r m ch)

/-- A write is noted for the rest of its clock. -/
def Dev.mark (d : Dev) (a : Accessor) (r : RegDesc) (m : Nat) (chs : List Nat) (mask : Nat) : Dev :=
  { d with writes := d.writes ++ chs.map fun ch => ⟨a, r.base + m * r.stride, ch, mask⟩ }

/-- The value a write under a mask leaves in a register: (old AND NOT MASK) OR (VALUE AND MASK), but for the bits that stand. -/
def Dev.masked (d : Dev) (mem : Memory) (a : Accessor) (r : RegDesc) (m value mask ch : Nat) : Nat :=
  let old := d.peek mem a r m ch
  let free := d.freeMask a r m mask ch
  (old - (old &&& free)) ||| (value &&& free)

/-- A channel of a register after a write under a mask, each field by its type (R12). -/
def Dev.stored (d : Dev) (mem : Memory) (a : Accessor) (r : RegDesc) (m value mask ch : Nat) : Dev :=
  r.fields.foldl (fun e f => e.fieldWrite a f (f.at m r.stride) (r.chOf a ch) (d.masked mem a r m value mask ch) (value &&& mask)) d

/-- A write to one channel of a register under a mask. -/
def Dev.chanWrite (d : Dev) (mem : Memory) (a : Accessor) (r : RegDesc) (m value mask ch : Nat) : Dev :=
  (d.stored mem a r m value mask ch).writeEffect d a r m ch (d.masked mem a r m value mask ch) (value &&& mask)
    (d.freeMask a r m mask ch)

/-- The lanes whose loop uses a bias channel or NCO; any lane for the other OC registers. -/
def Dev.lanesOf (d : Dev) (r : RegDesc) (index : Nat) : Nat :=
  if r.unit = some 3 then iter 8 (fun k a => if (d.loop k).cfg.lch = index || (d.loop k).cfg.mch = index then a + 2 ^ k else a) 0
  else if r.unit = some 4 then 2 ^ index
  else 255

/-- An OC register. -/
def RegDesc.isOc (r : RegDesc) : Bool := 0x60000 ≤ r.base && r.base < 0x70000

/-- The channels that a write reaches: while LOOPSOUT is set for a lane, its own Whetstone's writes to the lane's OC registers are dropped
(R364). -/
def Dev.reached (d : Dev) (a : Accessor) (r : RegDesc) (chs : List Nat) : List Nat :=
  if a = .ws && r.isOc then chs.filter fun ch => (d.rd F.XC_AON_LOOPSOUT &&& d.lanesOf r ch) == 0 else chs

/-- A write of one register under a mask: memory and device after it (R12, R284 to R287, R207). -/
def Dev.regWrite (d0 : Dev) (mem : Memory) (a : Accessor) (sel : Sel) (addr value mask : Nat) : Memory × Dev :=
  let d := d0.busAccess a addr 3
  match d.wsWindow addr with
  | some _ =>
    if !d.domOn dWHET then (mem, d.accErr a F.GLB_ACCERR_PWROFF)
    else if !d.wsOpen then (mem, d.accErr a F.GLB_ACCERR_WINDOW)
    else
      let old := d.wsMemRead mem addr
      d.wsMemWrite mem addr ((old - (old &&& mask)) ||| (value &&& mask))
  | none => match d.hit sel addr true with
    | .err f => (mem, d.accErr a f)
    | .reg r m chs0 =>
      let chs := d.reached a r chs0
      let mem1 := if r.base = 0x78000 then
          let old := d.ramWord mem (d.ramOff m)
          let free := d.freeMask a r m mask 0
          d.pg.ramWrite mem (d.ramOff m) ((be 4 ((old - (old &&& free)) ||| (value &&& free))).reverse)
        else mem
      (mem1, chs.foldl (fun e ch => e.chanWrite mem a r m value mask ch) (d.mark a r m chs mask))

/-- All 32 bits. -/
def fullMask : Nat := 2 ^ 32 - 1

/-! ## Accessors -/

/-- An accessor can reach the window: the SPI host and the expert mailbox through running firmware (R297); the management core and
the Whetstone while their domains are on. Accesses of the twin come as RREQ cells, with unit and index of their own. -/
def Dev.reachable (d : Dev) : Accessor → Bool
  | .spi => d.spiUp && d.fwRun
  | .mbox => d.fwRun
  | .mgmt => d.domOn dMGMT
  | .ws => d.domOn dWHET
  | .twin => false

/-- What an access that is not turned away acts on: the device with the access counted, the register, its member and the channels
(none where the accessor does not reach the window, expert access is locked, the address lies in a Whetstone memory window, or the
access finds an error). -/
def Dev.grants (d : Dev) (a : Accessor) (sel : Sel) (addr : Nat) (write : Bool) : Option (Dev × RegDesc × Nat × List Nat) :=
  let x := d.busAccess a addr (if write then 3 else 2)
  if !d.reachable a || ((a = .spi || a = .mbox) && !d.expert) || (x.wsWindow addr).isSome then none
  else match x.hit sel addr write with
    | .reg r m chs0 =>
      let chs := if write then x.reached a r chs0 else chs0
      some (if write then x.mark a r m chs fullMask else x, r, m, chs)
    | .err _ => none

/-- A register write by an accessor through its own GLB_CHSEL; while expert access is locked the SPI host and the mailbox change
nothing, and LOCKED sets in the SPI copy (R283). -/
def Dev.access (d : Dev) (mem : Memory) (a : Accessor) (addr value : Nat) : Memory × Dev :=
  if !d.reachable a then (mem, d)
  else if (a = .spi || a = .mbox) && !d.expert then (mem, if a = .spi then d.accErr a F.GLB_ACCERR_LOCKED else d)
  else d.regWrite mem a (d.selOf a) addr value fullMask

/-- A register read by an accessor; what SPI may read while locked is GLB_ID to GLB_STAT. -/
def Dev.look (d : Dev) (mem : Memory) (a : Accessor) (sel : Sel) (addr : Nat) : Nat × Dev :=
  if !d.reachable a then (0, d)
  else if (a = .spi || a = .mbox) && !d.expert && !(a = .spi && addr ≤ 0xC) then
    (0, if a = .spi then d.accErr a F.GLB_ACCERR_LOCKED else d)
  else d.regRead mem a sel addr

/-- A value read is returned to its accessor; over SPI it is driven back. -/
def Dev.deliver (d : Dev) (a : Accessor) (v : Nat) : Dev :=
  let d1 := d.mapMgmt fun m => { m with busData := vset m.busData (Accessor.idx a) fun _ => v }
  if a = .spi then d1.drive (be 4 v) else d1

/-- A command that writes one register at an address. -/
def regRow (a : Accessor) (addr : Nat) (value : Word32) : State → Host.Outcome State Fault Refusal :=
  liftMem fun m d => d.access m a addr value.toNat

/-- A command that reads one register of a given channel. -/
def readRow (a : Accessor) (unit ch addr : Nat) : State → Host.Outcome State Fault Refusal := liftMem fun m d =>
  let r := d.look m a { unit := unit, index := ch } addr
  (m, if d.reachable a then r.2.deliver a r.1 else d)

/-- A command that writes one register of a given channel. -/
def writeRow (a : Accessor) (unit ch addr : Nat) (value : Word32) : State → Host.Outcome State Fault Refusal := liftMem fun m d =>
  if !d.reachable a || ((a = .spi || a = .mbox) && !d.expert) then (m, d)
  else d.regWrite m a { unit := unit, index := ch } addr value.toNat fullMask

/-! ## Register commands -/

/-- SA_AFE_WRITE: SA_AFE, or SA_VGA for the gain (R70). -/
def execSaAfeWrite (acc : Accessor) (vga : Bool) (value : Word32) : State → Host.Outcome State Fault Refusal :=
  regRow acc (if vga then 0x20004 else 0x20000) value

/-- SA_LCTL_CMTREQ. -/
def execSaLctlCmtreq (acc : Accessor) (value : Word32) : State → Host.Outcome State Fault Refusal := regRow acc 0x20008 value

/-- SA_TBCTL_REQ. -/
def execSaTbctlReq (acc : Accessor) (value : Word32) : State → Host.Outcome State Fault Refusal := regRow acc 0x20030 value

/-- SA_TBREL_RELEASE. -/
def execSaTbrelRelease (acc : Accessor) (value : Word32) : State → Host.Outcome State Fault Refusal := regRow acc 0x20038 value

/-- LN_FFETAP_WRITE. -/
def execLnFfetapWrite (acc : Accessor) (tap : Fin 48) (value : Word32) : State → Host.Outcome State Fault Refusal :=
  regRow acc (0x10200 + 4 * tap.val) value

/-- DEC_CTL_HSNAP. -/
def execDecCtlHsnap (acc : Accessor) (value : Word32) : State → Host.Outcome State Fault Refusal := regRow acc 0x50000 value

/-- TX_CTL_CMTREQ. -/
def execTxCtlCmtreq (acc : Accessor) (value : Word32) : State → Host.Outcome State Fault Refusal := regRow acc 0x40000 value

/-- TX_OBSCTL_START. -/
def execTxObsctlStart (acc : Accessor) (value : Word32) : State → Host.Outcome State Fault Refusal := regRow acc 0x40104 value

/-- LN_CTL_RETRAIN. -/
def execLnCtlRetrain (acc : Accessor) (value : Word32) : State → Host.Outcome State Fault Refusal := regRow acc 0x10000 value

/-- WS_CTL_HALTREQ. -/
def execWsCtlHaltreq (acc : Accessor) (value : Word32) : State → Host.Outcome State Fault Refusal := regRow acc 0x100000 value

/-- WS_CTL_RUN. -/
def execWsCtlRun (acc : Accessor) (value : Word32) : State → Host.Outcome State Fault Refusal := regRow acc 0x100000 value

/-- WS_CTL_RTSWAP. -/
def execWsCtlRtswap (acc : Accessor) (value : Word32) : State → Host.Outcome State Fault Refusal := regRow acc 0x100000 value

/-- OC_STRB_SW. -/
def execOcStrbSw (acc : Accessor) (value : Word32) : State → Host.Outcome State Fault Refusal := regRow acc 0x60010 value

/-- OC_BCTL_EN_WRITE. -/
def execOcBctlEnWrite (acc : Accessor) (value : Word32) : State → Host.Outcome State Fault Refusal := regRow acc 0x60000 value

/-- OC_BCTL_RANGE_WRITE. -/
def execOcBctlRangeWrite (acc : Accessor) (value : Word32) : State → Host.Outcome State Fault Refusal := regRow acc 0x60000 value

/-- OC_NCOCTL_EARM. -/
def execOcNcoctlEarm (acc : Accessor) (value : Word32) : State → Host.Outcome State Fault Refusal := regRow acc 0x60040 value

/-- OC_MAINJ_REQ. -/
def execOcMainjReq (acc : Accessor) (value : Word32) : State → Host.Outcome State Fault Refusal := regRow acc 0x60090 value

/-- OC_MACTL_CALREQ. -/
def execOcMactlCalreq (acc : Accessor) (value : Word32) : State → Host.Outcome State Fault Refusal := regRow acc 0x60080 value

/-- OC_OSPITX_WRITE. -/
def execOcOspitxWrite (acc : Accessor) (value : Word32) : State → Host.Outcome State Fault Refusal := regRow acc 0x60108 value

/-- OC_OSPIRX_READ. -/
def execOcOspirxRead (acc : Accessor) : State → Host.Outcome State Fault Refusal := readRow acc 0 0 0x6010C

/-- PG_CTL_START. -/
def execPgCtlStart (acc : Accessor) (value : Word32) : State → Host.Outcome State Fault Refusal := regRow acc 0x70000 value

/-- PG_CTL_STOP. -/
def execPgCtlStop (acc : Accessor) (value : Word32) : State → Host.Outcome State Fault Refusal := regRow acc 0x70000 value

/-- PG_JMP_REQ. -/
def execPgJmpReq (acc : Accessor) (value : Word32) : State → Host.Outcome State Fault Refusal := regRow acc 0x70008 value

/-- PG_SEGSTRM_RDY. -/
def execPgSegstrmRdy (acc : Accessor) (value : Word32) : State → Host.Outcome State Fault Refusal := regRow acc 0x70048 value

/-- PG_SYNCCTL_CAL. -/
def execPgSyncctlCal (acc : Accessor) (value : Word32) : State → Host.Outcome State Fault Refusal := regRow acc 0x70018 value


/-- TM_CLCTL_SNAP. -/
def execTmClctlSnap (acc : Accessor) (value : Word32) : State → Host.Outcome State Fault Refusal := regRow acc 0xF0000 value

/-- TU_FIFOCTL_SWSTAMP. -/
def execTuFifoctlSwstamp (acc : Accessor) (value : Word32) : State → Host.Outcome State Fault Refusal := regRow acc 0x8010C value

/-- TU_FIFOHDR_READ. -/
def execTuFifohdrRead (acc : Accessor) : State → Host.Outcome State Fault Refusal := readRow acc 0 0 0x80114

/-- TU_TNS_READ. -/
def execTuTnsRead (acc : Accessor) (tb : Fin 4) : State → Host.Outcome State Fault Refusal := readRow acc 9 tb.val 0x80008

/-- TU_RATEHI_WRITE. -/
def execTuRatehiWrite (acc : Accessor) (tb : Fin 4) (value : Word32) : State → Host.Outcome State Fault Refusal :=
  writeRow acc 9 tb.val 0x80018 value

/-- TU_RATELO_WRITE. -/
def execTuRateloWrite (acc : Accessor) (tb : Fin 4) (value : Word32) : State → Host.Outcome State Fault Refusal :=
  writeRow acc 9 tb.val 0x80014 value

/-- TU_OFFSET_WRITE. -/
def execTuOffsetWrite (acc : Accessor) (tb : Fin 4) (value : Word32) : State → Host.Outcome State Fault Refusal :=
  writeRow acc 9 tb.val 0x80024 value

/-- XC_HB_KICK. -/
def execXcHbKick (acc : Accessor) (value : Word32) : State → Host.Outcome State Fault Refusal := regRow acc 0x90008 value

/-- XC_CTL_DETACH. -/
def execXcCtlDetach (acc : Accessor) (value : Word32) : State → Host.Outcome State Fault Refusal := regRow acc 0x90000 value

/-- REGISTER_WRITE: a register with no row of its own. -/
def execRegisterWrite (acc : Accessor) (addr value : Word32) : State → Host.Outcome State Fault Refusal := regRow acc addr.toNat value

/-- WS_MEMORY_WINDOW_ACCESS (R207): a word of a Whetstone memory window. -/
def execWsMemoryWindowAccess (acc : Accessor) (addr : Word32) (write : Option Word32) : State → Host.Outcome State Fault Refusal :=
  match write with
  | some v => regRow acc addr.toNat v
  | none => readRow acc 0 0 addr.toNat

/-- Only the management core has a user mode (R327, R330). -/
def userOf (a : Accessor) (user : Bool) : Bool := user && a == .mgmt

/-- MI_VWR_GO: only the management core in supervisor mode writes a vote word (R308). -/
def execMiVwrGo (acc : Accessor) (user : Bool) (value : Word32) : State → Host.Outcome State Fault Refusal :=
  if userOf acc user then lift fun d => if d.reachable acc then d.busAccess acc 0xB0048 3 true else d
  else regRow acc 0xB0048 value

/-- TL_CNTLO_READ (R329, R330). -/
def execTlCntloRead (acc : Accessor) (c : Fin 32) (user : Bool) : State → Host.Outcome State Fault Refusal :=
  if userOf acc user then lift fun d =>
    if d.reachable acc then
      let e := d.busAccess acc (0xA0100 + 8 * c.val) 2 true
      (e.tallyRead (Accessor.idx acc) c.val true).deliver acc (if e.userSees c.val true then e.tally.count.getD c.val 0 % 2 ^ 32 else 0)
    else d
  else readRow acc 0 0 (0xA0100 + 8 * c.val)

/-- TL_CNTHI_WRITE (R329): user-mode writes are ignored. -/
def execTlCnthiWrite (acc : Accessor) (c : Fin 32) (user : Bool) (value : Word32) : State → Host.Outcome State Fault Refusal :=
  if userOf acc user then lift fun d => if d.reachable acc then d.busAccess acc (0xA0104 + 8 * c.val) 3 true else d
  else regRow acc (0xA0104 + 8 * c.val) value

/-- TL_CNTLO_WRITE (R329). -/
def execTlCntloWrite (acc : Accessor) (c : Fin 32) (user : Bool) (value : Word32) : State → Host.Outcome State Fault Refusal :=
  if userOf acc user then lift fun d => if d.reachable acc then d.busAccess acc (0xA0100 + 8 * c.val) 3 true else d
  else regRow acc (0xA0100 + 8 * c.val) value

/-! ## SPI register instructions -/

/-- Reads `n` consecutive registers. -/
def Dev.lookMany (mem : Memory) (a : Accessor) (sel : Sel) : Nat → Nat → Dev → List Nat × Dev
  | 0, _, d => ([], d)
  | n + 1, addr, d =>
    let (v, d1) := d.look mem a sel addr
    let (l, d2) := Dev.lookMany mem a sel n ((addr + 4) % 2 ^ 32) d1
    (v :: l, d2)

/-- REG_READ: words of consecutive registers; under the boot ROM they read 0 (R297). -/
def execRegRead (addr : Word32) (count : Nat) : State → Host.Outcome State Fault Refusal := liftMem fun m d =>
  if !d.spiUp then (m, d.drive [])
  else
    let r := Dev.lookMany m .spi (d.selOf .spi) count addr.toNat d
    (m, r.2.drive (r.1.flatMap (be 4)))

/-- Writes consecutive registers. -/
def accessMany (a : Accessor) : Memory × Dev → Nat → List Word32 → Memory × Dev
  | s, _, [] => s
  | s, addr, v :: t => accessMany a (s.2.access s.1 a addr v.toNat) ((addr + 4) % 2 ^ 32) t

/-- REG_WRITE. -/
def execRegWrite (addr : Word32) (values : List Word32) : State → Host.Outcome State Fault Refusal := liftMem fun m d =>
  if d.spiUp then accessMany .spi (m, d.drive []) addr.toNat values else (m, d.drive [])

/-! ## The Whetstone's accesses (R195, R196) -/

/-- The core gets a bus error: an address it does not reach (its own block and memory windows), no register, a register whose domain
is off, or a write to SEC. -/
def Dev.wsBusError (d : Dev) (addr : Nat) (write : Bool) : Bool :=
  (0x100000 ≤ addr && addr < 0x140000) || (match d.hit (d.selOf .ws) addr write with
    | .err f => f != F.GLB_ACCERR_CHSEL
    | .reg _ _ _ => false)

/-- The oldest posted write completes. One that meets a bus error traps the task that posted it, while the core runs (cause 4, at its
WRREG). -/
def wsPosted (m : Memory) (d : Dev) : Memory × Dev :=
  match d.ws.posted with
  | [] => (m, d)
  | p :: t =>
    let s := (d.mapWs fun w => { w with posted := t }).access m .ws p.addr p.data
    (s.1, if d.wsBusError p.addr true && d.rd F.WS_STAT_STATE == 1 then s.2.wsTrapOf p.task 4 p.pc else s.2)

/-- Up to `n` posted writes complete, in order, as long as none traps. -/
def wsPostedAll : Nat → Memory → Dev → Memory × Dev
  | 0, m, d => (m, d)
  | n + 1, m, d => let s := wsPosted m d; if s.2.wsTask.isNone then s else wsPostedAll n s.1 s.2

/-- RDREG: every earlier posted write completes, then the value returns, its low half in Ir and its high half in the next register
(log entry 36). -/
def execRdreg (addr : Word32) (dst : Fin 8) : State → Host.Outcome State Fault Refusal :=
  wsMem false fun b _ m d =>
    let s := wsPostedAll d.ws.posted.length m d
    if s.2.wsTask.isNone then .stopped s.1 s.2
    else if s.2.wsBusError addr.toNat false then .trap s.1 s.2 4
    else
      let r := s.2.look s.1 .ws (s.2.selOf .ws) addr.toNat
      .done s.1 (r.2.mapBank b fun k => (k.write (r.1 % 65536) (.int dst)).write (r.1 / 65536) (.int (dst + 1)))

/-- The core stalls on a full queue (Tally event 4) for a number of cycles the spec does not give: a free value (log entry 94). -/
def Dev.wsStall (d : Dev) (addr : Nat) : Dev :=
  let (n, d1) := d.freeVal 16
  d1.tallyEvent 4 n (some 1) false 3 (some addr)

/-- WRREG: posted into the 8-entry queue; a full queue stalls the core until its oldest write has completed. Whether the write meets a bus
error shows when it completes. -/
def execWrreg (addr : Word32) (src : Fin 8) : State → Host.Outcome State Fault Refusal :=
  wsMem true fun b _ m d =>
    let s := if 8 ≤ d.ws.posted.length then wsPosted m (d.wsStall addr.toNat) else (m, d)
    if s.2.wsTask.isNone then .stopped s.1 s.2
    else
      let (lo, d1) := s.2.wsRead b (.int src)
      let (hi, d2) := d1.wsRead b (.int (src + 1))
      .done s.1 (d2.mapWs fun w => { w with posted := w.posted ++ [⟨addr.toNat, lo + 65536 * hi, b + 1, (d.bank b).pc⟩] })

/-- WRREG_COMPLETE. -/
def execWrregComplete : State → Host.Outcome State Fault Refusal := liftMem wsPosted

/-! ## The expert commands -/

/-- A count of registers fits the path (Table 11-15). -/
def expCount (src : Src) (n : Nat) : Bool := 1 ≤ n && n ≤ 64 && (match src with | .cdb _ => decide (n ≤ 29) | _ => true)

/-- EXP.REG.RD. -/
def execExpRegRd (src : Src) (addr : Word32) (count : Byte) : State → Host.Outcome State Fault Refusal := liftMem fun m d0 =>
  (m, d0.kci src 0xAA10 .q fun d =>
    if !d.expert then .no .denied
    else if addr.toNat % 4 ≠ 0 || !expCount src count.toNat then .no .badParam
    else
      let r := Dev.lookMany m .mbox (d.selOf .mbox) count.toNat addr.toNat d
      .ok r.2 (r.1.flatMap (be 4)))

/-- EXP.REG.WR: (old AND NOT MASK) OR (VALUE AND MASK); W1C, W1S and WO fields act on the bits set in MASK. -/
def execExpRegWr (src : Src) (addr mask value : Word32) : State → Host.Outcome State Fault Refusal := liftMem fun m d0 =>
  let w := fun (d : Dev) => d.regWrite m .mbox (d.selOf .mbox) addr.toNat value.toNat mask.toNat
  (if d0.expert && addr.toNat % 4 = 0 && d0.admits src 0xAA11 .c then (w d0).1 else m,
   d0.kci src 0xAA11 .c fun d =>
    if !d.expert then .no .denied
    else if addr.toNat % 4 ≠ 0 then .no .badParam
    else .ok (w d).2 [])

/-- A pin's register: found, with its unit and a channel of that unit, and a mask that covers whole RW or RWS fields only. -/
def pinTarget (unit index addr mask : Nat) : Option (RegDesc × Nat) :=
  match findReg addr with
  | none => none
  | some (r, m) =>
    let whole := fun (f : Fld) => slice mask f.lo f.w == 2 ^ f.w - 1 && (f.ty == .rw || f.ty == .rws)
    let covered := r.fields.foldl (fun a f => if slice mask f.lo f.w = 0 then a else a ||| (2 ^ f.w - 1) * 2 ^ f.lo) 0
    if unitCode r.unit = unit && (match r.unit with | none => true | some u => decide (index ≤ unitTop u)) && !r.perAcc && !r.isSec &&
        mask ≠ 0 && covered = mask && (r.fields.all fun f => slice mask f.lo f.w == 0 || whole f) then some (r, m)
    else none

/-- The entry of a register and channel. -/
def Mgmt.pinAt (g : Mgmt) (addr unit index : Nat) : Option Pin :=
  g.pins.find? fun p => p.addr == addr && p.unit == unit && p.index == index

/-- A pin joins its entry, or is a new one (R290). -/
def Mgmt.addPin (g : Mgmt) (p : Pin) : Mgmt :=
  match g.pinAt p.addr p.unit p.index with
  | none => { g with pins := g.pins ++ [p] }
  | some q => { g with pins := g.pins.map fun x =>
      if x = q then { q with mask := q.mask ||| p.mask, value := (q.value - (q.value &&& p.mask)) ||| p.value } else x }

/-- The masked value is written to the pinned channel. -/
def pinWrite (m : Memory) (d : Dev) (p : Pin) (value : Nat) : Memory × Dev :=
  d.regWrite m .mbox { unit := p.unit, index := p.index } p.addr value p.mask

/-- EXP.PIN (R290). A register of unit none ignores the index. -/
def execExpPin (src : Src) (action unit : Byte) (index : BitVec 16) (addr mask value : Word32) :
    State → Host.Outcome State Fault Refusal := liftMem fun m d0 =>
  let idx := if unit.toNat = 0xFF then 0 else index.toNat
  let p : Pin := { addr := addr.toNat, unit := unit.toNat, index := idx, mask := mask.toNat, value := value.toNat &&& mask.toNat }
  let ok := (pinTarget unit.toNat idx addr.toNat mask.toNat).isSome
  let room := fun (d : Dev) => d.mgmt.pins.length < 64 || (d.mgmt.pinAt p.addr p.unit p.index).isSome
  let count := fun (d : Dev) => be 1 d.mgmt.pins.length
  (if action.toNat = 1 && ok && d0.expert && room d0 && d0.admits src 0xAA20 .c then (pinWrite m d0 p value.toNat).1 else m,
   d0.kci src 0xAA20 .c fun d =>
    if !d.expert then .no .denied
    else if action.toNat = 1 then
      if !ok then .no .badParam
      else if !room d then .late d .exhausted
      else
        let d1 := (pinWrite m d p value.toNat).2.mapMgmt fun g => g.addPin p
        .ok d1 (count d1)
    else if action.toNat = 2 then
      let d1 := d.mapMgmt fun g => { g with pins := g.pins.filter fun q => !(q.addr == p.addr && q.unit == p.unit && q.index == p.index) }
      .ok d1 (count d1)
    else if action.toNat = 3 then
      let d1 := d.mapMgmt fun g => { g with pins := [] }
      .ok d1 (count d1)
    else .no .badParam)

/-- A pin entry as EXP.PIN.LIST gives it. -/
def Pin.bytes (p : Pin) : List Byte :=
  be 1 1 ++ be 1 p.unit ++ be 2 p.index ++ be 4 p.addr ++ be 4 p.mask ++ be 4 p.value

/-- EXP.PIN.LIST: up to 8 entries, over CDB at most 7 (R270). -/
def execExpPinList (src : Src) (first : Byte) : State → Host.Outcome State Fault Refusal := lift fun d0 =>
  d0.kci src 0xAA21 .q fun d =>
    if !d.expert then .no .denied
    else if 63 < first.toNat then .no .badParam
    else .ok d (be 1 d.mgmt.pins.length ++ zeros 3 ++
      ((d.mgmt.pins.drop first.toNat).take (match src with | .cdb _ => 7 | _ => 8)).flatMap Pin.bytes)

/-! ## The twin's accesses (R365) -/

/-- The operation records of an RREQ cell's body. -/
def rreqOps (body : List Byte) : List XOp :=
  (List.range (fieldAt body 1 1 % 8)).map fun j =>
    let o := 2 + 11 * j
    { write := (fieldAt body o 1).testBit 7, count := fieldAt body o 1 % 8, unit := fieldAt body (o + 1) 1
      index := fieldAt body (o + 2) 2, addr := fieldAt body (o + 4) 3, data := fieldAt body (o + 7) 4 }

/-- Whether an operation is refused: writes but to OC registers of lanes in LOOPSOUT, reads of SEC and the Whetstone windows. -/
def Dev.rreqRefused (d : Dev) (o : XOp) : Bool :=
  if o.write then
    match findReg o.addr with
    | none => true
    | some (r, _) => !r.isOc || (d.rd F.XC_AON_LOOPSOUT &&& d.lanesOf r o.index) == 0
  else o.count == 0 || 5 < o.count || (List.range o.count).any fun j =>
    let a := o.addr + 4 * j
    (0x110000 ≤ a && a < 0x140000) || (0xD0000 ≤ a && a < 0xE0000)

/-- Executes one operation: the values read, and the device after it. -/
def Dev.rreqOp (d : Dev) (m : Memory) (o : XOp) : List Nat × Dev :=
  let sel : Sel := { unit := o.unit, index := o.index }
  if d.rreqRefused o then (List.replicate (if o.write then 0 else o.count) 0, d)
  else if o.write then ([], (d.regWrite m .twin sel o.addr o.data fullMask).2)
  else (List.range o.count).foldl (fun (s : List Nat × Dev) j =>
    let (v, e) := s.2.regRead m .twin sel (o.addr + 4 * j)
    (s.1 ++ [v], e)) ([], d)

/-- Executes a whole message and answers it with an RRSP: TAG, STAT, NVAL and the values. A message that names more than five registers
is refused whole: each register it reads, at most five, returns 0. -/
def Dev.rreqRun (d : Dev) (m : Memory) (tag : Nat) (ops : List XOp) : Dev :=
  let named := ops.foldl (fun a o => a + if o.write then 1 else o.count) 0
  let whole := decide (5 < named || 5 < ops.length)
  let (vals, d1) := if whole then (List.replicate (min 5 (ops.foldl (fun a o => a + if o.write then 0 else o.count) 0)) 0, d) else ops.foldl (fun (s : List Nat × Dev) o =>
    let (v, e) := s.2.rreqOp m o
    (s.1 ++ v, e)) ([], d)
  let stat := (ops.zipIdx).foldl (fun a x => if whole || d.rreqRefused x.1 then a ||| 2 ^ x.2 else a) 0
  let body := be 1 tag ++ be 1 stat ++ be 1 vals.length ++ vals.flatMap (be 4)
  d1.cell 11 (body ++ zeros (24 - body.length))

/-- The records collected of a TAG. The cells of a message follow one another, so one of another TAG shows that the message before is
incomplete: it is discarded and counted (R365). -/
def Dev.rreqBefore (d : Dev) (tag : Nat) : List XOp × Dev :=
  match d.xc.rreq with
  | some (t, l) => if t = tag then (l, d) else ([], d.inc F.XC_LERR_CRCERR 0)
  | none => ([], d)

/-- RREQ_CELL: records of a TAG are collected in order and executed when the LAST cell arrives. -/
def execRreqCell (seq : Byte) (body : List Byte) : State → Host.Outcome State Fault Refusal := liftMem fun m d =>
  (m, d.accept seq 10 fun d1 =>
    if !d1.attached then d1
    else
      let tag := fieldAt body 0 1
      let (before, d2) := d1.rreqBefore tag
      let ops := before ++ rreqOps body
      if (fieldAt body 1 1).testBit 7 then (d2.mapXc fun x => { x with rreq := none }).rreqRun m tag ops
      else d2.mapXc fun x => { x with rreq := some (tag, ops) })

end Sys2Proof.Machine
end

