-- ==== Sys2Proof/Machine/Requests.lean ====
section
/-! DEFINITION. The commands that bring other commands: KCI frames over SPI, CDB command IDs, frames relayed by the twin. A frame that
passes the checks of R273 is read by its command's request table, and the command executes at once. -/

namespace Sys2Proof.Machine

/-! ## The request tables -/

/-- What a command does to the machine. -/
abbrev Act := State → Host.Outcome State Fault Refusal

/-- The big-endian field of `w` bits at offset `o` of a payload (R271). -/
def num (w : Nat) (p : List Byte) (o : Nat) : BitVec w := BitVec.ofNat w (fieldAt p o (w / 8))

/-- `n` consecutive fields of `w` bits from offset `o` on. -/
def nums (w n : Nat) (p : List Byte) (o : Nat) : List (BitVec w) := (List.range n).map fun j => num w p (o + j * (w / 8))

/-- The request table of every command: the operands its payload carries, each at its offset. -/
def requestTable : List (Nat × (Src → List Byte → Act)) :=
  [(0xA000, fun s _ => execSysIdGet s),
   (0xA001, fun s _ => execSysReset s),
   (0xA010, fun s p => execSysLegacySet s (p.getD 0 0)),
   (0xA011, fun s p => execSysLegacyCovGet s (num 16 p 0)),
   (0xA020, fun s p => execSysAppletLoad s (p.getD 0 0) (p.getD 1 0) (num 16 p 2) (num 32 p 4) (p.drop 8)),
   (0xA021, fun s p => execSysAppletCtl s (p.getD 0 0) (p.getD 1 0)),
   (0xA022, fun s _ => execSysAppletList s),
   (0xA040, fun s _ => execSysWsStatGet s),
   (0xA041, fun s p => execSysWsCtl s (p.getD 0 0)),
   (0xA050, fun s _ => execSysPwrGet s),
   (0xA051, fun s p => execSysPwrSet s (p.getD 0 0) (p.getD 1 0) (num 32 p 4)),
   (0xA110, fun s p => execLineBrupGet s (p.getD 0 0)),
   (0xA111, fun s p => execLineBrupCfgSet s (p.getD 0 0) (p.getD 1 0) (num 16 p 2) (p.getD 4 0) (p.getD 5 0) (p.getD 6 0) (p.getD 7 0) (p.getD 8 0) (p.getD 9 0) (p.getD 10 0)),
   (0xA112, fun s p => execLineFallbackSet s (p.getD 0 0) (p.getD 1 0) (p.getD 2 0) (p.getD 3 0)),
   (0xA113, fun s p => execLineRetrain s (p.getD 0 0)),
   (0xA130, fun s p => execLineAfeGet s (p.getD 0 0)),
   (0xA131, fun s p => execLineAfeSet s (p.getD 0 0) (p.getD 1 0) (p.getD 2 0) (p.getD 3 0) (p.getD 4 0) (p.getD 5 0)),
   (0xA132, fun s p => execLineAdcTrimGet s (p.getD 0 0) (p.getD 1 0) (p.getD 2 0)),
   (0xA133, fun s p => execLineAdcTrimSet s (p.getD 0 0) (p.getD 1 0) (p.getD 2 0) (num 16 p 4) (num 16 p 6) (num 16 p 8)),
   (0xA134, fun s p => execLineAdcCapture s (p.getD 0 0) (p.getD 1 0) (p.getD 2 0) (p.getD 3 0) (num 16 p 4)),
   (0xA135, fun s p => execLineAdcRead s (p.getD 0 0) (p.getD 1 0) (num 16 p 2) (num 16 p 4)),
   (0xA136, fun s p => execLineAdcStatGet s (p.getD 0 0)),
   (0xA140, fun s p => execLineRxStatGet s (p.getD 0 0)),
   (0xA141, fun s p => execLineRxCfgSet s (p.getD 0 0) (p.getD 1 0) (p.getD 2 0) (p.getD 3 0) (p.getD 4 0) (p.getD 5 0) (p.getD 6 0) (p.getD 7 0) (p.getD 8 0)),
   (0xA142, fun s p => execLineFfeGet s (p.getD 0 0)),
   (0xA143, fun s p => execLineFfeSet s (p.getD 0 0) (p.getD 1 0) (p.getD 2 0) (nums 16 ((p.length - 4) / 2) p 4))] ++
  [(0xA144, fun s p => execLineDecHistGet s (p.getD 0 0)),
   (0xA150, fun s p => execLineTxGet s (p.getD 0 0)),
   (0xA151, fun s p => execLineTxSet s (p.getD 0 0) (p.getD 1 0) (p.getD 2 0) (p.getD 3 0) (p.getD 4 0) (p.getD 5 0)),
   (0xA152, fun s p => execLineTxFfeSet s (p.getD 0 0) (p.getD 1 0) (p.getD 2 0) (p.getD 3 0) (nums 16 ((p.length - 4) / 2) p 4)),
   (0xA153, fun s p => execLineTxDpdSet s (p.getD 0 0) (p.getD 1 0) (p.getD 2 0) (p.getD 3 0) (p.getD 4 0) (p.getD 5 0) (p.getD 6 0) (nums 16 5 p 8) (nums 16 5 p 18)),
   (0xA160, fun s p => execLinePtnrSend s (p.getD 0 0) (p.getD 1 0) (num 16 p 2) (p.drop 4)),
   (0xA161, fun s p => execLinePtnrRecv s (p.getD 0 0) (p.getD 1 0) (num 16 p 2) (num 16 p 4)),
   (0xA162, fun s p => execLinePtnrStatGet s (p.getD 0 0)),
   (0xA170, fun s p => execLineCalGet s (p.getD 0 0)),
   (0xA171, fun s p => execLineCalSet s (p.getD 0 0) (p.getD 1 0) (num 16 p 2)),
   (0xA200, fun s p => execHostStatGet s (p.getD 0 0)),
   (0xA201, fun s p => execHostEqGet s (p.getD 0 0)),
   (0xA202, fun s p => execHostEqSet s (p.getD 0 0) (p.getD 1 0) (p.getD 2 0) (p.getD 3 0) (p.getD 4 0) (p.getD 5 0) (p.getD 6 0) (p.getD 7 0) (p.getD 8 0)),
   (0xA300, fun s p => execOptBiasGet s (p.getD 0 0)),
   (0xA301, fun s p => execOptBiasSet s (p.getD 0 0) (p.getD 1 0) (p.getD 2 0) (p.getD 3 0) (num 16 p 4) (num 16 p 6) (p.getD 8 0) (p.getD 9 0)),
   (0xA310, fun s p => execOptNcoSet s (p.getD 0 0) (p.getD 1 0) (p.getD 2 0) (num 32 p 4) (num 32 p 8) (num 32 p 12)),
   (0xA320, fun s p => execOptMadcRead s (p.getD 0 0) (p.getD 1 0) (p.getD 2 0) (p.getD 3 0)),
   (0xA321, fun s p => execOptMadcCal s (p.getD 0 0)),
   (0xA330, fun s p => execOptLoopGet s (p.getD 0 0)),
   (0xA331, fun s p => execOptLoopSet s (p.getD 0 0) (p.getD 1 0) (p.getD 2 0) (p.getD 3 0) (p.getD 4 0) (p.getD 5 0) (p.getD 6 0) (p.getD 7 0) (p.getD 8 0) (p.getD 9 0) (p.getD 10 0) (p.getD 11 0) (num 16 p 12) (num 16 p 14) (num 16 p 16) (num 16 p 18) (num 16 p 20) (num 16 p 22)),
   (0xA340, fun s p => execOptOspiXfer s (p.getD 0 0) (p.getD 1 0) (nums 32 ((p.length - 4) / 4) p 4)),
   (0xA400, fun s p => execPatSegSet s (p.getD 0 0) (p.getD 1 0) (p.getD 2 0) (num 16 p 4) (num 16 p 6)),
   (0xA401, fun s p => execPatSeqSet s (p.getD 0 0) (p.getD 1 0) (p.getD 2 0) (p.getD 3 0) (num 32 p 4)),
   (0xA402, fun s p => execPatRamWrite s (num 16 p 0) (p.getD 2 0) (p.getD 3 0) (p.drop 4)),
   (0xA403, fun s p => execPatRun s (p.getD 0 0) (p.getD 1 0) (p.getD 2 0)),
   (0xA404, fun s p => execPatMkSet s (p.getD 0 0) (p.getD 1 0) (p.getD 2 0) (p.getD 3 0) (num 32 p 4) (num 16 p 8))] ++
  [(0xA405, fun s p => execPatSyncCal s (p.getD 0 0) (p.getD 1 0)),
   (0xA406, fun s _ => execPatStatGet s),
   (0xA500, fun s p => execTimeTbGet s (p.getD 0 0)),
   (0xA501, fun s p => execTimeTbCfg s (p.getD 0 0) (p.getD 1 0) (p.getD 2 0) (num 16 p 4) (num 16 p 6) (num 32 p 8)),
   (0xA502, fun s p => execTimeTbStep s (p.getD 0 0) (p.getD 1 0) (num 48 p 4) (num 32 p 10) (num 16 p 14) (num 64 p 4)),
   (0xA503, fun s p => execTimeOffset s (p.getD 0 0) (num 32 p 4)),
   (0xA504, fun s p => execTimePpsSet s (p.getD 0 0) (p.getD 1 0) (p.getD 2 0) (p.getD 3 0) (p.getD 4 0) (num 16 p 6)),
   (0xA510, fun s p => execTimeLinkGet s (p.getD 0 0)),
   (0xA511, fun s p => execTimeLinkSet s (p.getD 0 0) (p.getD 1 0) (p.getD 2 0) (p.getD 3 0) (p.getD 4 0) (p.getD 5 0) (num 16 p 8) (num 16 p 10) (num 32 p 12)),
   (0xA520, fun s p => execTimeStampRead s (p.getD 0 0)),
   (0xA600, fun s _ => execTwinStatGet s),
   (0xA601, fun s p => execTwinCfgSet s (p.getD 0 0) (p.getD 1 0) (p.getD 2 0) (p.getD 3 0) (p.getD 4 0) (p.getD 5 0) (p.getD 6 0)),
   (0xA602, fun s _ => execTwinAttach s),
   (0xA603, fun s _ => execTwinDetach s),
   (0xA604, fun s _ => execTwinSwap s),
   (0xA610, fun s p => execTwinRelay s p),
   (0xA620, fun s p => execTwinUpgrade s (p.getD 0 0)),
   (0xA630, fun s _ => execTwinFaultSend s),
   (0xA700, fun s _ => execPotStatGet s),
   (0xA701, fun s p => execPotQuery s (p.getD 0 0) (num 16 p 2) (num 64 p 4) (num 48 p 12) (num 48 p 18)),
   (0xA702, fun s p => execPotRead s (num 64 p 0) (num 16 p 8) (num 16 p 10)),
   (0xA703, fun s p => execPotSnap s (p.getD 0 0) (p.getD 1 0) (p.getD 2 0)),
   (0xA704, fun s p => execPotConfWrite s (num 16 p 0) (num 16 p 2) (p.drop 4)),
   (0xA705, fun s p => execPotConfRead s (num 16 p 0) (num 16 p 2) (num 16 p 4)),
   (0xA706, fun s p => execPotExport s (p.getD 0 0) (p.getD 1 0) (num 64 p 2)),
   (0xA800, fun s _ => execSecStatGet s)] ++
  [(0xA810, fun s p => execSecAttest s (num 256 p 0)),
   (0xA811, fun s p => execSecAttestRead s (num 16 p 0) (num 16 p 2)),
   (0xA812, fun s p => execSecCertRead s (num 16 p 0) (num 16 p 2)),
   (0xA813, fun s _ => execSecChallenge s),
   (0xA820, fun s p => execSecLcAdvance s (p.getD 0 0)),
   (0xA821, fun s _ => execSecKeygen s),
   (0xA822, fun s p => execSecRootSet s (num 256 p 0)),
   (0xA830, fun s p => execSecTicketLoad s (p.getD 0 0) (p.getD 1 0) (num 16 p 2) (num 32 p 4) (p.drop 8)),
   (0xA900, fun s p => execTelLaneGet s (p.getD 0 0) (p.getD 1 0)),
   (0xA910, fun s p => execTelColGet s (p.getD 0 0) (p.getD 1 0)),
   (0xA920, fun s p => execTelTallySet s (p.getD 0 0) (p.getD 1 0) (p.getD 2 0) (num 32 p 4) (num 32 p 8) (num 32 p 12)),
   (0xA921, fun s p => execTelTallyGet s (p.getD 0 0) (p.getD 1 0)),
   (0xAA00, fun s p => execExpUnlock s (num 64 p 0)),
   (0xAA01, fun s _ => execExpLock s),
   (0xAA10, fun s p => execExpRegRd s (num 32 p 0) (p.getD 4 0)),
   (0xAA11, fun s p => execExpRegWr s (num 32 p 0) (num 32 p 4) (num 32 p 8)),
   (0xAA20, fun s p => execExpPin s (p.getD 0 0) (p.getD 1 0) (num 16 p 2) (num 32 p 4) (num 32 p 8) (num 32 p 12)),
   (0xAA21, fun s p => execExpPinList s (p.getD 0 0)),
   (0xAB00, fun s p => execBistRun s (p.getD 0 0) (p.getD 1 0) (num 16 p 2) (p.getD 4 0)),
   (0xAB01, fun s _ => execBistStatGet s),
   (0xAB02, fun s p => execBistResultGet s (p.getD 0 0)),
   (0xAB03, fun s _ => execBistAbort s),
   (0xAC00, fun s _ => execAppStatGet s),
   (0xAC01, fun s p => execAppSelect s (p.getD 0 0) (p.getD 1 0) (p.getD 2 0) (p.getD 3 0) (p.getD 4 0) (p.getD 5 0) (p.getD 6 0)),
   (0xAC02, fun s p => execAppDeact s (p.getD 0 0))]

/-- A command that answers with a status alone. -/
def refuseRequest (src : Src) (op : Nat) (st : Status) : Act := lift fun d => d.respond src op st []

/-- An opcode and its payload meet steps 2 and 3 of R273, and the command executes with the operands its request table names. Under the
boot ROM, which holds no command table, every opcode but SYS.ID.GET is NOT_READY (R297). -/
def runRequest (src : Src) (op : Nat) (p : List Byte) : Act := fun s =>
  if s.dev.phase != .fw && op != 0xA000 then refuseRequest src op .notReady s
  else match kciRow op, (requestTable.find? fun r => r.1 == op) with
    | some (_, rule), some r =>
      if s.dev.phase != .fw || rule.fits p then r.2 src p s else refuseRequest src op .badParam s
    | _, _ => refuseRequest src op .unsupported s

/-! ## KCI frames over SPI (R264, R273) -/

/-- A frame's byte count, FLAGS and CRC are right (step 1 of R273); the CRC is looked at only when the count is. -/
def frameOk (fr : List Byte) : Bool :=
  fr.length == 8 + fieldAt fr 4 2 && crc16 (fr.take 6 ++ fr.drop 8) == fieldAt fr 6 2 && fieldAt fr 3 1 == 0

/-- A frame that fails step 1 of R273. -/
def Dev.badFrame (d : Dev) (src : Src) (fr : List Byte) : Dev :=
  (d.respond src (fieldAt fr 0 2) .badParam []).inc F.GLB_KCICNT_CRCERR

/-- A native request frame of at least 8 bytes. -/
def runFrame (src : Src) (fr : List Byte) : Act := fun s =>
  if frameOk fr then runRequest src (fieldAt fr 0 2) (fr.drop 8) s else lift (fun d => d.badFrame src fr) s

/-- KCI_WRITE: one KCI request frame; SDO is at high impedance in it (R262: nothing is returned). One of fewer than 8 bytes, or one that arrives while 8 responses wait, is discarded and sets
REQDROP. -/
def execKciWrite (frame : List Byte) : Act := fun s =>
  if !s.dev.spiUp then lift (fun d => d.drive []) s
  else if 8 ≤ s.dev.mgmt.rspq.length || frame.length < 8 then
    lift (fun d => d.mapMgmt fun m => { m with reqdrop := true }) s
  else runFrame (.spi (frame.getD 2 0)) frame s

/-! ## CDB (R269, R270) -/

/-- The standard commands and what their LPL carries. -/
def stdTable : List (Nat × (Fin 2 → List Byte → Act)) :=
  [(0x0000, fun i _ => execQueryStatus i), (0x0040, fun i _ => execModuleFeatures i),
   (0x0041, fun i _ => execFirmwareManagementFeatures i), (0x0100, fun i _ => execGetFirmwareInfo i),
   (0x0101, fun i _ => execStartFirmwareDownload i), (0x0102, fun i _ => execAbortFirmwareDownload i),
   (0x0103, fun i p => execWriteFirmwareBlockLpl i (num 32 p 0) (p.drop 4)), (0x0107, fun i _ => execCompleteFirmwareDownload i),
   (0x0109, fun i _ => execRunFirmwareImage i), (0x010A, fun i _ => execCommitFirmwareImage i)]

/-- The one's complement of the byte sum of the command ID, lengths and LPL (PRESUMED from CMIS, log entry 35). -/
def cdbChk (cmd : Nat) (lpl : List Byte) : Nat :=
  255 - ((be 2 cmd ++ be 2 0 ++ be 1 lpl.length ++ lpl).foldl (fun a b => a + b.toNat) 0) % 256

/-- CDB_COMMAND_ID_WRITE: a busy instance ignores it; a CdbChkCode error or an LPL above 120 bytes fails it; otherwise the command it
names executes with the LPL as its payload. A command ID that names none fails as unsupported. -/
def execCdbCommandIdWrite (inst : Fin 2) (cmd : BitVec 16) (lpl : List Byte) (chk : Byte) : Act := fun s =>
  let op := cmd.toNat
  let fail := fun (reason : Nat) => lift (fun d => d.cdbDone inst op false reason []) s
  if !(s.dev.phase == .rom || s.dev.phase == .romFailed || s.dev.phase == .fw) || !s.dev.twoWire || (s.dev.mgmt.cdb.get inst).busy then
    .next s
  else if chk.toNat ≠ cdbChk op lpl then fail 5
  else if 120 < lpl.length then fail 2
  else if s.dev.phase != .fw || (0xA000 ≤ op && op ≤ 0xACFF) then runRequest (.cdb inst) op lpl s
  else match stdTable.find? fun r => r.1 == op with
    | some r => r.2 inst lpl s
    | none => fail 1

/-! ## Firmware messages of the twin (R355, R357, R366, R368) -/

/-- A firmware message of the twin other than a relayed command. The certificate and attestation may pass during the handshake; everything else needs the pair
attached. -/
def Dev.twinMessage (d : Dev) : RelayMsg → Dev
  | .attest nonce =>
    if d.canSign then d.enqueue [] (.sign none (be 32 nonce.toNat)) else d.message d.sec.cert
  | m =>
    if !d.attached then d
    else match m with
      | .command _ => d
      | .reply fr => d.relayReply fr
      | .select first mode size lrm outputs pretx prerx =>
        d.appsel ⟨first.toNat, mode.toNat, size.toNat, lrm.toNat, outputs.toNat, pretx.toNat, prerx.toNat⟩
      | .output hlane dis => d.outputDisable hlane.val dis
      | .eq hlane w => d.cmisEq hlane.val w
      | .clear hlane bit => d.mapMgmt fun m => Mgmt.intEval { m with
          cmisFlags := putLaneBit m.cmisFlags bit.val [(0, hlane.val)] fun _ => false }
      | .mask hlane bit on => d.mapMgmt fun m => Mgmt.intEval { m with
          laneMasks := putLaneBit m.laneMasks bit.val [(0, hlane.val)] fun _ => on }
      | .image size offset data => d.imagePart size offset data
      | .restart => d.twinRestart
      | .commit => (match d.commitWords with | some w => d.enqueue w .nothing | none => d.upgradeReport false)
      | .done ok => d.mapXc fun x => { x with upg := if ok then 0 else 255, upgPct := if ok then 100 else x.upgPct }
      | .attest _ => d

/-- Whether an accepted firmware message of the twin carries a KCI frame for this device. -/
def Dev.relayedFrame (d : Dev) (seq : Byte) (fr : List Byte) : Bool :=
  d.domOn dXCUT && !d.xc.seen.contains seq.toNat && d.fwRun && d.attached && 8 ≤ fr.length

/-- MAILBOX_RELAY_CELL: a relayed frame runs as one the twin's endpoint has written; every other message has its own effect. -/
def execMailboxRelayCell (seq : Byte) (msg : RelayMsg) : Act := fun s =>
  match msg with
  | .command fr =>
    if s.dev.relayedFrame seq fr then runFrame (.twin (fr.getD 2 0)) fr { s with dev := s.dev.taken seq 7 }
    else lift (fun d => d.accept seq 7 id) s
  | m => lift (fun d => d.accept seq 7 fun d1 => if d1.fwRun then d1.twinMessage m else d1) s

end Sys2Proof.Machine
end

