-- ==== Sys2Proof/Machine/Dispatch.lean ====
section
/-! DEFINITION. One arm per command: each is one direct call of the command's meaning. -/

namespace Sys2Proof.Machine

def exec (i : Instr) (s : State) : Host.Outcome State Fault Refusal :=
  match i with
  | .appStatGet src => Sys2Proof.Machine.execAppStatGet src s
  | .appSelect src first mode size lrm outputs pretx prerx => Sys2Proof.Machine.execAppSelect src first mode size lrm outputs pretx prerx s
  | .appDeact src first => Sys2Proof.Machine.execAppDeact src first s
  | .activationStart lane => Sys2Proof.Machine.execActivationStart lane s
  | .datapathStop lane => Sys2Proof.Machine.execDatapathStop lane s
  | .txCommitBoundary lane even odd => Sys2Proof.Machine.execTxCommitBoundary lane even odd s
  | .beaconBlockTx lane => Sys2Proof.Machine.execBeaconBlockTx lane s
  | .beaconBlockRx lane samples start grid => Sys2Proof.Machine.execBeaconBlockRx lane samples start grid s
  | .beaconLoss lane => Sys2Proof.Machine.execBeaconLoss lane s
  | .frame0Start lane => Sys2Proof.Machine.execFrame0Start lane s
  | .rxFrame0 lane => Sys2Proof.Machine.execRxFrame0 lane s
  | .utrainStart lane => Sys2Proof.Machine.execUtrainStart lane s
  | .overrangeSample lane sample => Sys2Proof.Machine.execOverrangeSample lane sample s
  | .recWindowEnd lane => Sys2Proof.Machine.execRecWindowEnd lane s
  | .agcStep lane outer => Sys2Proof.Machine.execAgcStep lane outer s
  | .saAfeWrite acc vga value => Sys2Proof.Machine.execSaAfeWrite acc vga value s
  | .afeSettleEnd lane => Sys2Proof.Machine.execAfeSettleEnd lane s
  | .saLctlCmtreq acc value => Sys2Proof.Machine.execSaLctlCmtreq acc value s
  | .saCommitBoundary lane => Sys2Proof.Machine.execSaCommitBoundary lane s
  | .saTbctlReq acc value => Sys2Proof.Machine.execSaTbctlReq acc value s
  | .tbGrant lane => Sys2Proof.Machine.execTbGrant lane s
  | .tbTrigger lane cycle => Sys2Proof.Machine.execTbTrigger lane cycle s
  | .tbTrigTimeout lane => Sys2Proof.Machine.execTbTrigTimeout lane s
  | .tbDone lane => Sys2Proof.Machine.execTbDone lane s
  | .saTbrelRelease acc value => Sys2Proof.Machine.execSaTbrelRelease acc value s
  | .tbHoldTimeout lane => Sys2Proof.Machine.execTbHoldTimeout lane s
  | .lineAfeGet src lane => Sys2Proof.Machine.execLineAfeGet src lane s
  | .lineAfeSet src lane range peak agcen agctgt gain => Sys2Proof.Machine.execLineAfeSet src lane range peak agcen agctgt gain s
  | .lineAdcTrimGet src lane first count => Sys2Proof.Machine.execLineAdcTrimGet src lane first count s
  | .lineAdcTrimSet src lane phase which gain offs skew => Sys2Proof.Machine.execLineAdcTrimSet src lane phase which gain offs skew s
  | .lineAdcCapture src lane mode phase trig trigpos => Sys2Proof.Machine.execLineAdcCapture src lane mode phase trig trigpos s
  | .lineAdcRead src lane seq first count => Sys2Proof.Machine.execLineAdcRead src lane seq first count s
  | .lineAdcStatGet src lane => Sys2Proof.Machine.execLineAdcStatGet src lane s
  | .calVisitStart => Sys2Proof.Machine.execCalVisitStart s
  | .calVisitEnd => Sys2Proof.Machine.execCalVisitEnd s
  | .lqfBlockEnd lane => Sys2Proof.Machine.execLqfBlockEnd lane s
  | .trFreqLimit lane positive => Sys2Proof.Machine.execTrFreqLimit lane positive s
  | .frameSignDecide lane => Sys2Proof.Machine.execFrameSignDecide lane s
  | .windowDecode lane => Sys2Proof.Machine.execWindowDecode lane s
  | .lnFfetapWrite acc tap value => Sys2Proof.Machine.execLnFfetapWrite acc tap value s
  | .decCtlHsnap acc value => Sys2Proof.Machine.execDecCtlHsnap acc value s
  | .lineRxStatGet src lane => Sys2Proof.Machine.execLineRxStatGet src lane s
  | .lineRxCfgSet src lane bw trfrz mu ffefrz cursor alpha twt mth => Sys2Proof.Machine.execLineRxCfgSet src lane bw trfrz mu ffefrz cursor alpha twt mth s
  | .lineFfeGet src lane => Sys2Proof.Machine.execLineFfeGet src lane s
  | .lineFfeSet src lane first count taps => Sys2Proof.Machine.execLineFfeSet src lane first count taps s
  | .lineDecHistGet src lane => Sys2Proof.Machine.execLineDecHistGet src lane s
  | .txCtlCmtreq acc value => Sys2Proof.Machine.execTxCtlCmtreq acc value s
  | .txObsctlStart acc value => Sys2Proof.Machine.execTxObsctlStart acc value s
  | .obsSliceDone samples => Sys2Proof.Machine.execObsSliceDone samples s
  | .dpdPass lane => Sys2Proof.Machine.execDpdPass lane s
  | .lineTxGet src lane => Sys2Proof.Machine.execLineTxGet src lane s
  | .lineTxSet src lane fs inv sq v1 v3 => Sys2Proof.Machine.execLineTxSet src lane fs inv sq v1 v3 s
  | .lineTxFfeSet src lane main first count taps => Sys2Proof.Machine.execLineTxFfeSet src lane main first count taps s
  | .lineTxDpdSet src lane en iden linmem step period load h1 h3 => Sys2Proof.Machine.execLineTxDpdSet src lane en iden linmem step period load h1 h3 s
  | .hostCdrLock lane phiEven phiOdd => Sys2Proof.Machine.execHostCdrLock lane phiEven phiOdd s
  | .hostCdrLoss hlane => Sys2Proof.Machine.execHostCdrLoss hlane s
  | .hostCdrReturn hlane => Sys2Proof.Machine.execHostCdrReturn hlane s
  | .hostSlip hlane => Sys2Proof.Machine.execHostSlip hlane s
  | .hostRealignDone hlane phi lat => Sys2Proof.Machine.execHostRealignDone hlane phi lat s
  | .hostStatGet src hlane => Sys2Proof.Machine.execHostStatGet src hlane s
  | .hostEqGet src hlane => Sys2Proof.Machine.execHostEqGet src hlane s
  | .hostEqSet src hlane pre2 pre1 post1 amp ctle vga dfe1 adapt => Sys2Proof.Machine.execHostEqSet src hlane pre2 pre1 post1 amp ctle vga dfe1 adapt s
  | .lnCtlRetrain acc value => Sys2Proof.Machine.execLnCtlRetrain acc value s
  | .sigdetUpdate lane rms => Sys2Proof.Machine.execSigdetUpdate lane rms s
  | .srchtoExpiry lane => Sys2Proof.Machine.execSrchtoExpiry lane s
  | .trntoExpiry lane => Sys2Proof.Machine.execTrntoExpiry lane s
  | .retrainDelayExpiry lane => Sys2Proof.Machine.execRetrainDelayExpiry lane s
  | .datapathActivated first lats => Sys2Proof.Machine.execDatapathActivated first lats s
  | .ptnrPacketTxStart lane => Sys2Proof.Machine.execPtnrPacketTxStart lane s
  | .ptnrRetryTimer lane => Sys2Proof.Machine.execPtnrRetryTimer lane s
  | .eqhintTimer lane deltas => Sys2Proof.Machine.execEqhintTimer lane deltas s
  | .lvlhintTimer lane => Sys2Proof.Machine.execLvlhintTimer lane s
  | .alarmTimer lane => Sys2Proof.Machine.execAlarmTimer lane s
  | .telemTimer first => Sys2Proof.Machine.execTelemTimer first s
  | .hintStepCommit lane => Sys2Proof.Machine.execHintStepCommit lane s
  | .preambleMatch lane => Sys2Proof.Machine.execPreambleMatch lane s
  | .ptnrBadPacket lane => Sys2Proof.Machine.execPtnrBadPacket lane s
  | .ptnrReadyRx lane => Sys2Proof.Machine.execPtnrReadyRx lane s
  | .ptnrCapRx lane => Sys2Proof.Machine.execPtnrCapRx lane s
  | .ptnrEqhintRx lane => Sys2Proof.Machine.execPtnrEqhintRx lane s
  | .ptnrLvlhintRx lane => Sys2Proof.Machine.execPtnrLvlhintRx lane s
  | .ptnrAlarmRx lane => Sys2Proof.Machine.execPtnrAlarmRx lane s
  | .ptnrTelemRx lane => Sys2Proof.Machine.execPtnrTelemRx lane s
  | .ptnrTtstampRx lane => Sys2Proof.Machine.execPtnrTtstampRx lane s
  | .ptnrTtrptRx lane => Sys2Proof.Machine.execPtnrTtrptRx lane s
  | .ptnrHostRx lane => Sys2Proof.Machine.execPtnrHostRx lane s
  | .ptnrReservedRx lane => Sys2Proof.Machine.execPtnrReservedRx lane s
  | .lineBrupGet src lane => Sys2Proof.Machine.execLineBrupGet src lane s
  | .lineBrupCfgSet src lane srchto trnto rtdly actmarg autort urxinv lead ptflags pcth => Sys2Proof.Machine.execLineBrupCfgSet src lane srchto trnto rtdly actmarg autort urxinv lead ptflags pcth s
  | .lineFallbackSet src lane fbmode pretx prerx => Sys2Proof.Machine.execLineFallbackSet src lane fbmode pretx prerx s
  | .lineRetrain src lane => Sys2Proof.Machine.execLineRetrain src lane s
  | .linePtnrSend src lane type len payload => Sys2Proof.Machine.execLinePtnrSend src lane type len payload s
  | .linePtnrRecv src lane flags offset max => Sys2Proof.Machine.execLinePtnrRecv src lane flags offset max s
  | .linePtnrStatGet src lane => Sys2Proof.Machine.execLinePtnrStatGet src lane s
  | .cmac ac x y ecc => Sys2Proof.Machine.execCmac ac x y ecc s
  | .cmacj ac x y ecc => Sys2Proof.Machine.execCmacj ac x y ecc s
  | .cmul ac x y ecc => Sys2Proof.Machine.execCmul ac x y ecc s
  | .mac half x y ecc => Sys2Proof.Machine.execMac half x y ecc s
  | .msu half x y ecc => Sys2Proof.Machine.execMsu half x y ecc s
  | .mpy half x y ecc => Sys2Proof.Machine.execMpy half x y ecc s
  | .add dst src => Sys2Proof.Machine.execAdd dst src s
  | .sub dst src => Sys2Proof.Machine.execSub dst src s
  | .neg dst => Sys2Proof.Machine.execNeg dst s
  | .abs dst => Sys2Proof.Machine.execAbs dst s
  | .shl dst n => Sys2Proof.Machine.execShl dst n s
  | .shr dst n logical => Sys2Proof.Machine.execShr dst n logical s
  | .rnd half => Sys2Proof.Machine.execRnd half s
  | .ld wide a step dst ecc => Sys2Proof.Machine.execLd wide a step dst ecc s
  | .st wide a step src ecc => Sys2Proof.Machine.execSt wide a step src ecc s
  | .mov dst src => Sys2Proof.Machine.execMov dst src s
  | .rep n => Sys2Proof.Machine.execRep n s
  | .jmp target => Sys2Proof.Machine.execJmp target s
  | .jsr target => Sys2Proof.Machine.execJsr target s
  | .rts => Sys2Proof.Machine.execRts s
  | .bcc cond target => Sys2Proof.Machine.execBcc cond target s
  | .rdreg addr dst => Sys2Proof.Machine.execRdreg addr dst s
  | .wrreg addr src => Sys2Proof.Machine.execWrreg addr src s
  | .wrregComplete => Sys2Proof.Machine.execWrregComplete s
  | .waitev ev => Sys2Proof.Machine.execWaitev ev s
  | .waitevWake ev => Sys2Proof.Machine.execWaitevWake ev s
  | .yieldSlot => Sys2Proof.Machine.execYield s
  | .halt => Sys2Proof.Machine.execHalt s
  | .slotStart unfinished work => Sys2Proof.Machine.execSlotStart unfinished work s
  | .roundStart => Sys2Proof.Machine.execRoundStart s
  | .wsCtlHaltreq acc value => Sys2Proof.Machine.execWsCtlHaltreq acc value s
  | .wsHalted => Sys2Proof.Machine.execWsHalted s
  | .wsCtlRun acc value => Sys2Proof.Machine.execWsCtlRun acc value s
  | .wsCtlRtswap acc value => Sys2Proof.Machine.execWsCtlRtswap acc value s
  | .wsRestartTimer => Sys2Proof.Machine.execWsRestartTimer s
  | .wsRestartDone => Sys2Proof.Machine.execWsRestartDone s
  | .wsMemoryWindowAccess acc addr write => Sys2Proof.Machine.execWsMemoryWindowAccess acc addr write s
  | .sysWsStatGet src => Sys2Proof.Machine.execSysWsStatGet src s
  | .sysWsCtl src action => Sys2Proof.Machine.execSysWsCtl src action s
  | .lineCalGet src lane => Sys2Proof.Machine.execLineCalGet src lane s
  | .lineCalSet src lane en gap => Sys2Proof.Machine.execLineCalSet src lane en gap s
  | .biasTick => Sys2Proof.Machine.execBiasTick s
  | .ocStrbSw acc value => Sys2Proof.Machine.execOcStrbSw acc value s
  | .ocBctlEnWrite acc value => Sys2Proof.Machine.execOcBctlEnWrite acc value s
  | .ocBctlRangeWrite acc value => Sys2Proof.Machine.execOcBctlRangeWrite acc value s
  | .rangeSettleEnd ch => Sys2Proof.Machine.execRangeSettleEnd ch s
  | .biasFaultDetect ch openLoop phase => Sys2Proof.Machine.execBiasFaultDetect ch openLoop phase s
  | .ocNcoctlEarm acc value => Sys2Proof.Machine.execOcNcoctlEarm acc value s
  | .madcPassTrigger conv source => Sys2Proof.Machine.execMadcPassTrigger conv source s
  | .commonTrigger => Sys2Proof.Machine.execCommonTrigger s
  | .madcConversionDone conv raw => Sys2Proof.Machine.execMadcConversionDone conv raw s
  | .ocMainjReq acc value => Sys2Proof.Machine.execOcMainjReq acc value s
  | .ocMactlCalreq acc value => Sys2Proof.Machine.execOcMactlCalreq acc value s
  | .madcCalDone conv factors => Sys2Proof.Machine.execMadcCalDone conv factors s
  | .ocOspitxWrite acc value => Sys2Proof.Machine.execOcOspitxWrite acc value s
  | .ospiFrameDone bus data => Sys2Proof.Machine.execOspiFrameDone bus data s
  | .ocOspirxRead acc => Sys2Proof.Machine.execOcOspirxRead acc s
  | .optBiasGet src ch => Sys2Proof.Machine.execOptBiasGet src ch s
  | .optBiasSet src ch en range nco code damp sd strobe => Sys2Proof.Machine.execOptBiasSet src ch en range nco code damp sd strobe s
  | .optNcoSet src nco en tb fw phoff esec => Sys2Proof.Machine.execOptNcoSet src nco en tb fw phoff esec s
  | .optMadcRead src conv chan stime gain => Sys2Proof.Machine.execOptMadcRead src conv chan stime gain s
  | .optMadcCal src conv => Sys2Proof.Machine.execOptMadcCal src conv s
  | .optLoopGet src lane => Sys2Proof.Machine.execOptLoopGet src lane s
  | .optLoopSet src lane en auto mode lch lmon mch mmon nco ramp nint bstep setpt ilim kp ki kb mcode => Sys2Proof.Machine.execOptLoopSet src lane en auto mode lch lmon mch mmon nco ramp nint bstep setpt ilim kp ki kb mcode s
  | .optOspiXfer src bus count frames => Sys2Proof.Machine.execOptOspiXfer src bus count frames s
  | .syncInEdge phase => Sys2Proof.Machine.execSyncInEdge phase s
  | .pgCtlStart acc value => Sys2Proof.Machine.execPgCtlStart acc value s
  | .pgCtlStop acc value => Sys2Proof.Machine.execPgCtlStop acc value s
  | .pgPlayEnd => Sys2Proof.Machine.execPgPlayEnd s
  | .pgGranuleStart ecc word => Sys2Proof.Machine.execPgGranuleStart ecc word s
  | .pgJmpReq acc value => Sys2Proof.Machine.execPgJmpReq acc value s
  | .pgSegstrmRdy acc value => Sys2Proof.Machine.execPgSegstrmRdy acc value s
  | .markerPulse m => Sys2Proof.Machine.execMarkerPulse m s
  | .markerPulseEnd m => Sys2Proof.Machine.execMarkerPulseEnd m s
  | .pgSyncctlCal acc value => Sys2Proof.Machine.execPgSyncctlCal acc value s
  | .syncCalEdge rt => Sys2Proof.Machine.execSyncCalEdge rt s
  | .patSegSet src seg type stream start len => Sys2Proof.Machine.execPatSegSet src seg type stream start len s
  | .patSeqSet src entry seg next flags loop => Sys2Proof.Machine.execPatSeqSet src entry seg next flags loop s
  | .patRamWrite src granule count ready data => Sys2Proof.Machine.execPatRamWrite src granule count ready data s
  | .patRun src action entry sync => Sys2Proof.Machine.execPatRun src action entry sync s
  | .patMkSet src marker en ref width ofs adj => Sys2Proof.Machine.execPatMkSet src marker en ref width ofs adj s
  | .patSyncCal src role delay => Sys2Proof.Machine.execPatSyncCal src role delay s
  | .patStatGet src => Sys2Proof.Machine.execPatStatGet src s
  | .status => Sys2Proof.Machine.execStatus s
  | .kciWrite frame => Sys2Proof.Machine.execKciWrite frame s
  | .kciRead whole => Sys2Proof.Machine.execKciRead whole s
  | .regRead addr count => Sys2Proof.Machine.execRegRead addr count s
  | .regWrite addr values => Sys2Proof.Machine.execRegWrite addr values s
  | .exportRead whole => Sys2Proof.Machine.execExportRead whole s
  | .legWrite addr data => Sys2Proof.Machine.execLegWrite addr data s
  | .legRead addr => Sys2Proof.Machine.execLegRead addr s
  | .legacyWriteApply => Sys2Proof.Machine.execLegacyWriteApply s
  | .legacyCacheRefresh => Sys2Proof.Machine.execLegacyCacheRefresh s
  | .registerWrite acc addr value => Sys2Proof.Machine.execRegisterWrite acc addr value s
  | .setdasa addr => Sys2Proof.Machine.execSetdasa addr s
  | .modselLRise => Sys2Proof.Machine.execModselLRise s
  | .lpmodeChange level => Sys2Proof.Machine.execLpmodeChange level s
  | .twoWireStop xfer => Sys2Proof.Machine.execTwoWireStop xfer s
  | .cmisAppselWrite first appSel size lrm outputs pretx prerx => Sys2Proof.Machine.execCmisAppselWrite first appSel size lrm outputs pretx prerx s
  | .cmisOutputDisableWrite hlane disable => Sys2Proof.Machine.execCmisOutputDisableWrite hlane disable s
  | .cmisLowpwrSwWrite request allowHW => Sys2Proof.Machine.execCmisLowpwrSwWrite request allowHW s
  | .cmisEqCodeWrite hlane eq => Sys2Proof.Machine.execCmisEqCodeWrite hlane eq s
  | .cmisStatusRefresh => Sys2Proof.Machine.execCmisStatusRefresh s
  | .sysIdGet src => Sys2Proof.Machine.execSysIdGet src s
  | .sysReset src => Sys2Proof.Machine.execSysReset src s
  | .softResetStart => Sys2Proof.Machine.execSoftResetStart s
  | .watchdogReset => Sys2Proof.Machine.execWatchdogReset s
  | .sysLegacySet src en => Sys2Proof.Machine.execSysLegacySet src en s
  | .sysLegacyCovGet src addr => Sys2Proof.Machine.execSysLegacyCovGet src addr s
  | .sysAppletLoad src slot last size offset data => Sys2Proof.Machine.execSysAppletLoad src slot last size offset data s
  | .sysAppletCtl src slot action => Sys2Proof.Machine.execSysAppletCtl src slot action s
  | .sysAppletList src => Sys2Proof.Machine.execSysAppletList src s
  | .appletFault slot => Sys2Proof.Machine.execAppletFault slot s
  | .appletRestart slot => Sys2Proof.Machine.execAppletRestart slot s
  | .appletPreempt slot => Sys2Proof.Machine.execAppletPreempt slot s
  | .expUnlock src token => Sys2Proof.Machine.execExpUnlock src token s
  | .expLock src => Sys2Proof.Machine.execExpLock src s
  | .expertAccessTimeout => Sys2Proof.Machine.execExpertAccessTimeout s
  | .unlockLockoutEnd => Sys2Proof.Machine.execUnlockLockoutEnd s
  | .expRegRd src addr count => Sys2Proof.Machine.execExpRegRd src addr count s
  | .expRegWr src addr mask value => Sys2Proof.Machine.execExpRegWr src addr mask value s
  | .expPin src action unit index addr mask value => Sys2Proof.Machine.execExpPin src action unit index addr mask value s
  | .expPinList src first => Sys2Proof.Machine.execExpPinList src first s
  | .queryStatus inst => Sys2Proof.Machine.execQueryStatus inst s
  | .moduleFeatures inst => Sys2Proof.Machine.execModuleFeatures inst s
  | .firmwareManagementFeatures inst => Sys2Proof.Machine.execFirmwareManagementFeatures inst s
  | .getFirmwareInfo inst => Sys2Proof.Machine.execGetFirmwareInfo inst s
  | .startFirmwareDownload inst => Sys2Proof.Machine.execStartFirmwareDownload inst s
  | .writeFirmwareBlockLpl inst addr data => Sys2Proof.Machine.execWriteFirmwareBlockLpl inst addr data s
  | .completeFirmwareDownload inst => Sys2Proof.Machine.execCompleteFirmwareDownload inst s
  | .abortFirmwareDownload inst => Sys2Proof.Machine.execAbortFirmwareDownload inst s
  | .runFirmwareImage inst => Sys2Proof.Machine.execRunFirmwareImage inst s
  | .commitFirmwareImage inst => Sys2Proof.Machine.execCommitFirmwareImage inst s
  | .resetLHold => Sys2Proof.Machine.execResetLHold s
  | .resetLRise legacy twinId => Sys2Proof.Machine.execResetLRise legacy twinId s
  | .aonReady => Sys2Proof.Machine.execAonReady s
  | .bootRomStart => Sys2Proof.Machine.execBootRomStart s
  | .sramInitDone => Sys2Proof.Machine.execSramInitDone s
  | .firmwareStart => Sys2Proof.Machine.execFirmwareStart s
  | .voteRevote => Sys2Proof.Machine.execVoteRevote s
  | .miVwrGo acc user value => Sys2Proof.Machine.execMiVwrGo acc user value s
  | .votePageProgrammed ok => Sys2Proof.Machine.execVotePageProgrammed ok s
  | .scrubRead mem result => Sys2Proof.Machine.execScrubRead mem result s
  | .refreshWalker block read fails => Sys2Proof.Machine.execRefreshWalker block read fails s
  | .recordFlush block fails => Sys2Proof.Machine.execRecordFlush block fails s
  | .logMount => Sys2Proof.Machine.execLogMount s
  | .eventSummary => Sys2Proof.Machine.execEventSummary s
  | .tallyRecord => Sys2Proof.Machine.execTallyRecord s
  | .confCopyHourly => Sys2Proof.Machine.execConfCopyHourly s
  | .potStatGet src => Sys2Proof.Machine.execPotStatGet src s
  | .potQuery src tmask rsrc start tfirst tlast => Sys2Proof.Machine.execPotQuery src tmask rsrc start tfirst tlast s
  | .potRead src seq offset count => Sys2Proof.Machine.execPotRead src seq offset count s
  | .potSnap src kind ch mode => Sys2Proof.Machine.execPotSnap src kind ch mode s
  | .potConfWrite src key len data => Sys2Proof.Machine.execPotConfWrite src key len data s
  | .potConfRead src key offset count => Sys2Proof.Machine.execPotConfRead src key offset count s
  | .potExport src action mode first => Sys2Proof.Machine.execPotExport src action mode first s
  | .telemetryRefresh => Sys2Proof.Machine.execTelemetryRefresh s
  | .colanderCodeword hlane marker codeword => Sys2Proof.Machine.execColanderCodeword hlane marker codeword s
  | .tmClctlSnap acc value => Sys2Proof.Machine.execTmClctlSnap acc value s
  | .tlCntloRead acc c user => Sys2Proof.Machine.execTlCntloRead acc c user s
  | .tlCnthiWrite acc c user value => Sys2Proof.Machine.execTlCnthiWrite acc c user value s
  | .tlCntloWrite acc c user value => Sys2Proof.Machine.execTlCntloWrite acc c user value s
  | .telLaneGet src lane what => Sys2Proof.Machine.execTelLaneGet src lane what s
  | .telColGet src hlane part => Sys2Proof.Machine.execTelColGet src hlane part s
  | .telTallySet src cnt uen load cfg base limit => Sys2Proof.Machine.execTelTallySet src cnt uen load cfg base limit s
  | .telTallyGet src first count => Sys2Proof.Machine.execTelTallyGet src first count s
  | .tuTnsRead acc tb => Sys2Proof.Machine.execTuTnsRead acc tb s
  | .tuRatehiWrite acc tb value => Sys2Proof.Machine.execTuRatehiWrite acc tb value s
  | .tuRateloWrite acc tb value => Sys2Proof.Machine.execTuRateloWrite acc tb value s
  | .tuOffsetWrite acc tb value => Sys2Proof.Machine.execTuOffsetWrite acc tb value s
  | .servoOffsetApply tb => Sys2Proof.Machine.execServoOffsetApply tb s
  | .tbStepApply tb => Sys2Proof.Machine.execTbStepApply tb s
  | .ppsInEdge falling => Sys2Proof.Machine.execPpsInEdge falling s
  | .ppsOutPulse n => Sys2Proof.Machine.execPpsOutPulse n s
  | .ppsWidthExpiry n => Sys2Proof.Machine.execPpsWidthExpiry n s
  | .tuFifohdrRead acc => Sys2Proof.Machine.execTuFifohdrRead acc s
  | .tuFifoctlSwstamp acc value => Sys2Proof.Machine.execTuFifoctlSwstamp acc value s
  | .fifoDrain => Sys2Proof.Machine.execFifoDrain s
  | .ttstampSend lane => Sys2Proof.Machine.execTtstampSend lane s
  | .timeTbGet src tb => Sys2Proof.Machine.execTimeTbGet src tb s
  | .timeTbCfg src tb source lane kp ki stepmax => Sys2Proof.Machine.execTimeTbCfg src tb source lane kp ki stepmax s
  | .timeTbStep src tb action sec ns frac delta => Sys2Proof.Machine.execTimeTbStep src tb action sec ns frac delta s
  | .timeOffset src tb offset => Sys2Proof.Machine.execTimeOffset src tb offset s
  | .timePpsSet src pin en tb pol width comp => Sys2Proof.Machine.execTimePpsSet src pin en tb pol width comp s
  | .timeLinkGet src lane => Sys2Proof.Machine.execTimeLinkGet src lane s
  | .timeLinkSet src lane en role calmode per tb txcomp rxcomp asym => Sys2Proof.Machine.execTimeLinkSet src lane en role calmode per tb txcomp rxcomp asym s
  | .timeStampRead src max => Sys2Proof.Machine.execTimeStampRead src max s
  | .xcLaneLock xlane locked => Sys2Proof.Machine.execXcLaneLock xlane locked s
  | .trainCell maxrate ready => Sys2Proof.Machine.execTrainCell maxrate ready s
  | .trainStepTimeout => Sys2Proof.Machine.execTrainStepTimeout s
  | .attachCell seq far => Sys2Proof.Machine.execAttachCell seq far s
  | .heartbeatCell seq role lowpwr alive => Sys2Proof.Machine.execHeartbeatCell seq role lowpwr alive s
  | .heartbeatSend => Sys2Proof.Machine.execHeartbeatSend s
  | .xcHbKick acc value => Sys2Proof.Machine.execXcHbKick acc value s
  | .aliveExpiry => Sys2Proof.Machine.execAliveExpiry s
  | .hbloss => Sys2Proof.Machine.execHbloss s
  | .takeoverCell seq => Sys2Proof.Machine.execTakeoverCell seq s
  | .faultDetect source => Sys2Proof.Machine.execFaultDetect source s
  | .faultCell seq cause => Sys2Proof.Machine.execFaultCell seq cause s
  | .twinFltFall => Sys2Proof.Machine.execTwinFltFall s
  | .detachCell seq => Sys2Proof.Machine.execDetachCell seq s
  | .xcCtlDetach acc value => Sys2Proof.Machine.execXcCtlDetach acc value s
  | .linkLoss => Sys2Proof.Machine.execLinkLoss s
  | .swapCell seq => Sys2Proof.Machine.execSwapCell seq s
  | .rreqCell seq body => Sys2Proof.Machine.execRreqCell seq body s
  | .rreqTimeout => Sys2Proof.Machine.execRreqTimeout s
  | .rrspCell seq body => Sys2Proof.Machine.execRrspCell seq body s
  | .loopHandoverCell seq kind mask => Sys2Proof.Machine.execLoopHandoverCell seq kind mask s
  | .mirrorCell seq offset data first last => Sys2Proof.Machine.execMirrorCell seq offset data first last s
  | .mirrorRefresh => Sys2Proof.Machine.execMirrorRefresh s
  | .mailboxRelayCell seq msg => Sys2Proof.Machine.execMailboxRelayCell seq msg s
  | .sleepCell seq => Sys2Proof.Machine.execSleepCell seq s
  | .sleepWakeTimer => Sys2Proof.Machine.execSleepWakeTimer s
  | .sleepHeartbeatTimeout => Sys2Proof.Machine.execSleepHeartbeatTimeout s
  | .reservedCell xlane type => Sys2Proof.Machine.execReservedCell xlane type s
  | .twinStatGet src => Sys2Proof.Machine.execTwinStatGet src s
  | .twinCfgSet src atten maxrate strict sleepen fltsrc fltact pinen => Sys2Proof.Machine.execTwinCfgSet src atten maxrate strict sleepen fltsrc fltact pinen s
  | .twinAttach src => Sys2Proof.Machine.execTwinAttach src s
  | .twinDetach src => Sys2Proof.Machine.execTwinDetach src s
  | .twinSwap src => Sys2Proof.Machine.execTwinSwap src s
  | .twinRelay src frame => Sys2Proof.Machine.execTwinRelay src frame s
  | .twinUpgrade src action => Sys2Proof.Machine.execTwinUpgrade src action s
  | .twinFaultSend src => Sys2Proof.Machine.execTwinFaultSend src s
  | .secStatGet src => Sys2Proof.Machine.execSecStatGet src s
  | .secAttest src nonce => Sys2Proof.Machine.execSecAttest src nonce s
  | .secAttestRead src offset count => Sys2Proof.Machine.execSecAttestRead src offset count s
  | .secCertRead src offset count => Sys2Proof.Machine.execSecCertRead src offset count s
  | .secChallenge src => Sys2Proof.Machine.execSecChallenge src s
  | .secLcAdvance src target => Sys2Proof.Machine.execSecLcAdvance src target s
  | .secKeygen src => Sys2Proof.Machine.execSecKeygen src s
  | .keygenDone ok => Sys2Proof.Machine.execKeygenDone ok s
  | .secRootSet src root => Sys2Proof.Machine.execSecRootSet src root s
  | .secTicketLoad src kind last size offset data => Sys2Proof.Machine.execSecTicketLoad src kind last size offset data s
  | .tokenDue => Sys2Proof.Machine.execTokenDue s
  | .pwDreqWrite acc ix value => Sys2Proof.Machine.execPwDreqWrite acc ix value s
  | .domainWakeDone domain => Sys2Proof.Machine.execDomainWakeDone domain s
  | .domainDownDone domain => Sys2Proof.Machine.execDomainDownDone domain s
  | .lowpwrRequestChange => Sys2Proof.Machine.execLowpwrRequestChange s
  | .moduleReadyEntry => Sys2Proof.Machine.execModuleReadyEntry s
  | .avsSet => Sys2Proof.Machine.execAvsSet s
  | .coreClockLower => Sys2Proof.Machine.execCoreClockLower s
  | .refclkLoss => Sys2Proof.Machine.execRefclkLoss s
  | .refclkReturn => Sys2Proof.Machine.execRefclkReturn s
  | .thermalTrip sensor => Sys2Proof.Machine.execThermalTrip sensor s
  | .supplyUndervoltage => Sys2Proof.Machine.execSupplyUndervoltage s
  | .offAonEntry => Sys2Proof.Machine.execOffAonEntry s
  | .offAonWake sources seconds => Sys2Proof.Machine.execOffAonWake sources seconds s
  | .wakeTimerExpiry => Sys2Proof.Machine.execWakeTimerExpiry s
  | .sysPwrGet src => Sys2Proof.Machine.execSysPwrGet src s
  | .sysPwrSet src target wakeen waketmr => Sys2Proof.Machine.execSysPwrSet src target wakeen waketmr s
  | .bistRun src set lanes tests flags => Sys2Proof.Machine.execBistRun src set lanes tests flags s
  | .bistStep meas => Sys2Proof.Machine.execBistStep meas s
  | .bistStatGet src => Sys2Proof.Machine.execBistStatGet src s
  | .bistResultGet src first => Sys2Proof.Machine.execBistResultGet src first s
  | .bistAbort src => Sys2Proof.Machine.execBistAbort src s
  | .jtagExtest drive => Sys2Proof.Machine.execJtagExtest drive s
  | .jtagBypass tdi => Sys2Proof.Machine.execJtagBypass tdi s
  | .jtagIdcode => Sys2Proof.Machine.execJtagIdcode s
  | .jtagSamplePreload pins preload => Sys2Proof.Machine.execJtagSamplePreload pins preload s
  | .rxDatapathClock lane samples => Sys2Proof.Machine.execRxDatapathClock lane samples s
  | .cdbCommandIdWrite inst cmd lpl chk => Sys2Proof.Machine.execCdbCommandIdWrite inst cmd lpl chk s
  | .modselLFall => Sys2Proof.Machine.execModselLFall s
  | .lossOfSupplies => Sys2Proof.Machine.execLossOfSupplies s

end Sys2Proof.Machine
end

