-- ==== Sys2Proof/Machine/Tick.lean ====
section
/-! DEFINITION. What time alone does: one tick of 0.64 ns of the time unit's clock. A step on an empty queue is one tick (log
entry 1). Every other event that falls due with time is a command of the table. -/

namespace Sys2Proof.Machine

/-- The management core's clock cycles that end in the present tick (R392): 1.25 GHz, or 312.5 MHz while idle; the core executes from the
boot ROM on. -/
def Dev.coreCycles (d : Dev) : Nat :=
  if !d.romOrFw then 0
  else if d.mgmt.coreFast then 4 * (d.now + 1) / 5 - 4 * d.now / 5
  else (d.now + 1) / 5 - d.now / 5

/-- Tally event 3 counts them. Whether an applet that runs has the core is not the model's to say: the mode is then a free value (log entry
94). -/
def Dev.coreTick (d : Dev) : Dev :=
  let n := d.coreCycles
  if n = 0 then d
  else if d.mgmt.applets.any fun a => a.state == 2 then
    let (x, d1) := d.freeVal 1
    d1.tallyEvent 3 n none (x == 1)
  else d.tallyEvent 3 n

/-- One tick: time passes and a new clock begins (R288), the time bases advance (R333), the link sends (R351), alarm conditions are seen (R182), CMIS selections that
waited are evaluated (R277), and power transitions go on (R29, R395). -/
def Dev.tick (d : Dev) : Dev :=
  ((((({ d.coreTick with now := d.now + 1, writes := [] }).tuTick).xcTick).alarmChanges).appselProgress).powerProgress

end Sys2Proof.Machine
end

