-- ==== Sys2Proof/Laws/State.lean ====
section
/-! SUPPORT. What each update of the device leaves in each component: one lemma per component and update. -/

namespace Sys2Proof.Machine

variable (d : Dev)

@[simp] theorem Dev.wr_now (f : Fld) (ch v : Nat) : (d.wr f ch v).now = d.now := rfl
@[simp] theorem Dev.wr_free (f : Fld) (ch v : Nat) : (d.wr f ch v).free = d.free := rfl
@[simp] theorem Dev.wr_phase (f : Fld) (ch v : Nat) : (d.wr f ch v).phase = d.phase := rfl
@[simp] theorem Dev.wr_regs (f : Fld) (ch v : Nat) : (d.wr f ch v).regs = putField d.regs f ch v := rfl
@[simp] theorem Dev.wr_fw (f : Fld) (ch v : Nat) : (d.wr f ch v).fw = d.fw := rfl
@[simp] theorem Dev.wr_mgmt (f : Fld) (ch v : Nat) : (d.wr f ch v).mgmt = d.mgmt := rfl
@[simp] theorem Dev.wr_paths (f : Fld) (ch v : Nat) : (d.wr f ch v).paths = d.paths := rfl
@[simp] theorem Dev.wr_fallbacks (f : Fld) (ch v : Nat) : (d.wr f ch v).fallbacks = d.fallbacks := rfl
@[simp] theorem Dev.wr_lanes (f : Fld) (ch v : Nat) : (d.wr f ch v).lanes = d.lanes := rfl
@[simp] theorem Dev.wr_hosts (f : Fld) (ch v : Nat) : (d.wr f ch v).hosts = d.hosts := rfl
@[simp] theorem Dev.wr_ws (f : Fld) (ch v : Nat) : (d.wr f ch v).ws = d.ws := rfl
@[simp] theorem Dev.wr_optics (f : Fld) (ch v : Nat) : (d.wr f ch v).optics = d.optics := rfl
@[simp] theorem Dev.wr_tel (f : Fld) (ch v : Nat) : (d.wr f ch v).tel = d.tel := rfl
@[simp] theorem Dev.wr_tally (f : Fld) (ch v : Nat) : (d.wr f ch v).tally = d.tally := rfl
@[simp] theorem Dev.wr_pot (f : Fld) (ch v : Nat) : (d.wr f ch v).pot = d.pot := rfl
@[simp] theorem Dev.wr_vote (f : Fld) (ch v : Nat) : (d.wr f ch v).vote = d.vote := rfl
@[simp] theorem Dev.wr_sec (f : Fld) (ch v : Nat) : (d.wr f ch v).sec = d.sec := rfl
@[simp] theorem Dev.wr_power (f : Fld) (ch v : Nat) : (d.wr f ch v).power = d.power := rfl
@[simp] theorem Dev.wr_pg (f : Fld) (ch v : Nat) : (d.wr f ch v).pg = d.pg := rfl
@[simp] theorem Dev.wr_tu (f : Fld) (ch v : Nat) : (d.wr f ch v).tu = d.tu := rfl
@[simp] theorem Dev.wr_xc (f : Fld) (ch v : Nat) : (d.wr f ch v).xc = d.xc := rfl
@[simp] theorem Dev.wr_bist (f : Fld) (ch v : Nat) : (d.wr f ch v).bist = d.bist := rfl
@[simp] theorem Dev.wr_jtag (f : Fld) (ch v : Nat) : (d.wr f ch v).jtag = d.jtag := rfl
@[simp] theorem Dev.wr_writes (f : Fld) (ch v : Nat) : (d.wr f ch v).writes = d.writes := rfl
@[simp] theorem Dev.wr_bad (f : Fld) (ch v : Nat) : (d.wr f ch v).bad = d.bad := rfl
@[simp] theorem Dev.lane_wr (f : Fld) (ch v : Nat) (j : Nat) : (d.wr f ch v).lane j = d.lane j := rfl

@[simp] theorem Dev.fwPut_now (f : Fld) (ch v : Nat) : (d.fwPut f ch v).now = d.now := rfl
@[simp] theorem Dev.fwPut_free (f : Fld) (ch v : Nat) : (d.fwPut f ch v).free = d.free := rfl
@[simp] theorem Dev.fwPut_phase (f : Fld) (ch v : Nat) : (d.fwPut f ch v).phase = d.phase := rfl
@[simp] theorem Dev.fwPut_regs (f : Fld) (ch v : Nat) : (d.fwPut f ch v).regs = d.regs := rfl
@[simp] theorem Dev.fwPut_fw (f : Fld) (ch v : Nat) : (d.fwPut f ch v).fw = ffPut d.fw (f.key ch) (v % 2 ^ f.w) := rfl
@[simp] theorem Dev.fwPut_mgmt (f : Fld) (ch v : Nat) : (d.fwPut f ch v).mgmt = d.mgmt := rfl
@[simp] theorem Dev.fwPut_paths (f : Fld) (ch v : Nat) : (d.fwPut f ch v).paths = d.paths := rfl
@[simp] theorem Dev.fwPut_fallbacks (f : Fld) (ch v : Nat) : (d.fwPut f ch v).fallbacks = d.fallbacks := rfl
@[simp] theorem Dev.fwPut_lanes (f : Fld) (ch v : Nat) : (d.fwPut f ch v).lanes = d.lanes := rfl
@[simp] theorem Dev.fwPut_hosts (f : Fld) (ch v : Nat) : (d.fwPut f ch v).hosts = d.hosts := rfl
@[simp] theorem Dev.fwPut_ws (f : Fld) (ch v : Nat) : (d.fwPut f ch v).ws = d.ws := rfl
@[simp] theorem Dev.fwPut_optics (f : Fld) (ch v : Nat) : (d.fwPut f ch v).optics = d.optics := rfl
@[simp] theorem Dev.fwPut_tel (f : Fld) (ch v : Nat) : (d.fwPut f ch v).tel = d.tel := rfl
@[simp] theorem Dev.fwPut_tally (f : Fld) (ch v : Nat) : (d.fwPut f ch v).tally = d.tally := rfl
@[simp] theorem Dev.fwPut_pot (f : Fld) (ch v : Nat) : (d.fwPut f ch v).pot = d.pot := rfl
@[simp] theorem Dev.fwPut_vote (f : Fld) (ch v : Nat) : (d.fwPut f ch v).vote = d.vote := rfl
@[simp] theorem Dev.fwPut_sec (f : Fld) (ch v : Nat) : (d.fwPut f ch v).sec = d.sec := rfl
@[simp] theorem Dev.fwPut_power (f : Fld) (ch v : Nat) : (d.fwPut f ch v).power = d.power := rfl
@[simp] theorem Dev.fwPut_pg (f : Fld) (ch v : Nat) : (d.fwPut f ch v).pg = d.pg := rfl
@[simp] theorem Dev.fwPut_tu (f : Fld) (ch v : Nat) : (d.fwPut f ch v).tu = d.tu := rfl
@[simp] theorem Dev.fwPut_xc (f : Fld) (ch v : Nat) : (d.fwPut f ch v).xc = d.xc := rfl
@[simp] theorem Dev.fwPut_bist (f : Fld) (ch v : Nat) : (d.fwPut f ch v).bist = d.bist := rfl
@[simp] theorem Dev.fwPut_jtag (f : Fld) (ch v : Nat) : (d.fwPut f ch v).jtag = d.jtag := rfl
@[simp] theorem Dev.fwPut_writes (f : Fld) (ch v : Nat) : (d.fwPut f ch v).writes = d.writes := rfl
@[simp] theorem Dev.fwPut_bad (f : Fld) (ch v : Nat) : (d.fwPut f ch v).bad = d.bad := rfl
@[simp] theorem Dev.rd_fwPut (f : Fld) (ch v : Nat) (g : Fld) (c : Nat) : (d.fwPut f ch v).rd g c = d.rd g c := rfl
@[simp] theorem Dev.lane_fwPut (f : Fld) (ch v : Nat) (j : Nat) : (d.fwPut f ch v).lane j = d.lane j := rfl

@[simp] theorem Dev.mapMgmt_now (f : Mgmt → Mgmt) : (d.mapMgmt f).now = d.now := rfl
@[simp] theorem Dev.mapMgmt_free (f : Mgmt → Mgmt) : (d.mapMgmt f).free = d.free := rfl
@[simp] theorem Dev.mapMgmt_phase (f : Mgmt → Mgmt) : (d.mapMgmt f).phase = d.phase := rfl
@[simp] theorem Dev.mapMgmt_regs (f : Mgmt → Mgmt) : (d.mapMgmt f).regs = d.regs := rfl
@[simp] theorem Dev.mapMgmt_fw (f : Mgmt → Mgmt) : (d.mapMgmt f).fw = d.fw := rfl
@[simp] theorem Dev.mapMgmt_mgmt (f : Mgmt → Mgmt) : (d.mapMgmt f).mgmt = f d.mgmt := rfl
@[simp] theorem Dev.mapMgmt_paths (f : Mgmt → Mgmt) : (d.mapMgmt f).paths = d.paths := rfl
@[simp] theorem Dev.mapMgmt_fallbacks (f : Mgmt → Mgmt) : (d.mapMgmt f).fallbacks = d.fallbacks := rfl
@[simp] theorem Dev.mapMgmt_lanes (f : Mgmt → Mgmt) : (d.mapMgmt f).lanes = d.lanes := rfl
@[simp] theorem Dev.mapMgmt_hosts (f : Mgmt → Mgmt) : (d.mapMgmt f).hosts = d.hosts := rfl
@[simp] theorem Dev.mapMgmt_ws (f : Mgmt → Mgmt) : (d.mapMgmt f).ws = d.ws := rfl
@[simp] theorem Dev.mapMgmt_optics (f : Mgmt → Mgmt) : (d.mapMgmt f).optics = d.optics := rfl
@[simp] theorem Dev.mapMgmt_tel (f : Mgmt → Mgmt) : (d.mapMgmt f).tel = d.tel := rfl
@[simp] theorem Dev.mapMgmt_tally (f : Mgmt → Mgmt) : (d.mapMgmt f).tally = d.tally := rfl
@[simp] theorem Dev.mapMgmt_pot (f : Mgmt → Mgmt) : (d.mapMgmt f).pot = d.pot := rfl
@[simp] theorem Dev.mapMgmt_vote (f : Mgmt → Mgmt) : (d.mapMgmt f).vote = d.vote := rfl
@[simp] theorem Dev.mapMgmt_sec (f : Mgmt → Mgmt) : (d.mapMgmt f).sec = d.sec := rfl
@[simp] theorem Dev.mapMgmt_power (f : Mgmt → Mgmt) : (d.mapMgmt f).power = d.power := rfl
@[simp] theorem Dev.mapMgmt_pg (f : Mgmt → Mgmt) : (d.mapMgmt f).pg = d.pg := rfl
@[simp] theorem Dev.mapMgmt_tu (f : Mgmt → Mgmt) : (d.mapMgmt f).tu = d.tu := rfl
@[simp] theorem Dev.mapMgmt_xc (f : Mgmt → Mgmt) : (d.mapMgmt f).xc = d.xc := rfl
@[simp] theorem Dev.mapMgmt_bist (f : Mgmt → Mgmt) : (d.mapMgmt f).bist = d.bist := rfl
@[simp] theorem Dev.mapMgmt_jtag (f : Mgmt → Mgmt) : (d.mapMgmt f).jtag = d.jtag := rfl
@[simp] theorem Dev.mapMgmt_writes (f : Mgmt → Mgmt) : (d.mapMgmt f).writes = d.writes := rfl
@[simp] theorem Dev.mapMgmt_bad (f : Mgmt → Mgmt) : (d.mapMgmt f).bad = d.bad := rfl
@[simp] theorem Dev.rd_mapMgmt (f : Mgmt → Mgmt) (g : Fld) (c : Nat) : (d.mapMgmt f).rd g c = d.rd g c := rfl
@[simp] theorem Dev.lane_mapMgmt (f : Mgmt → Mgmt) (j : Nat) : (d.mapMgmt f).lane j = d.lane j := rfl

@[simp] theorem Dev.mapLane_now (k : Nat) (f : Lane → Lane) : (d.mapLane k f).now = d.now := rfl
@[simp] theorem Dev.mapLane_free (k : Nat) (f : Lane → Lane) : (d.mapLane k f).free = d.free := rfl
@[simp] theorem Dev.mapLane_phase (k : Nat) (f : Lane → Lane) : (d.mapLane k f).phase = d.phase := rfl
@[simp] theorem Dev.mapLane_regs (k : Nat) (f : Lane → Lane) : (d.mapLane k f).regs = d.regs := rfl
@[simp] theorem Dev.mapLane_fw (k : Nat) (f : Lane → Lane) : (d.mapLane k f).fw = d.fw := rfl
@[simp] theorem Dev.mapLane_mgmt (k : Nat) (f : Lane → Lane) : (d.mapLane k f).mgmt = d.mgmt := rfl
@[simp] theorem Dev.mapLane_paths (k : Nat) (f : Lane → Lane) : (d.mapLane k f).paths = d.paths := rfl
@[simp] theorem Dev.mapLane_fallbacks (k : Nat) (f : Lane → Lane) : (d.mapLane k f).fallbacks = d.fallbacks := rfl
@[simp] theorem Dev.mapLane_lanes (k : Nat) (f : Lane → Lane) : (d.mapLane k f).lanes = d.lanes.mapIdx fun i x => if i = k then f x else x := rfl
@[simp] theorem Dev.mapLane_hosts (k : Nat) (f : Lane → Lane) : (d.mapLane k f).hosts = d.hosts := rfl
@[simp] theorem Dev.mapLane_ws (k : Nat) (f : Lane → Lane) : (d.mapLane k f).ws = d.ws := rfl
@[simp] theorem Dev.mapLane_optics (k : Nat) (f : Lane → Lane) : (d.mapLane k f).optics = d.optics := rfl
@[simp] theorem Dev.mapLane_tel (k : Nat) (f : Lane → Lane) : (d.mapLane k f).tel = d.tel := rfl
@[simp] theorem Dev.mapLane_tally (k : Nat) (f : Lane → Lane) : (d.mapLane k f).tally = d.tally := rfl
@[simp] theorem Dev.mapLane_pot (k : Nat) (f : Lane → Lane) : (d.mapLane k f).pot = d.pot := rfl
@[simp] theorem Dev.mapLane_vote (k : Nat) (f : Lane → Lane) : (d.mapLane k f).vote = d.vote := rfl
@[simp] theorem Dev.mapLane_sec (k : Nat) (f : Lane → Lane) : (d.mapLane k f).sec = d.sec := rfl
@[simp] theorem Dev.mapLane_power (k : Nat) (f : Lane → Lane) : (d.mapLane k f).power = d.power := rfl
@[simp] theorem Dev.mapLane_pg (k : Nat) (f : Lane → Lane) : (d.mapLane k f).pg = d.pg := rfl
@[simp] theorem Dev.mapLane_tu (k : Nat) (f : Lane → Lane) : (d.mapLane k f).tu = d.tu := rfl
@[simp] theorem Dev.mapLane_xc (k : Nat) (f : Lane → Lane) : (d.mapLane k f).xc = d.xc := rfl
@[simp] theorem Dev.mapLane_bist (k : Nat) (f : Lane → Lane) : (d.mapLane k f).bist = d.bist := rfl
@[simp] theorem Dev.mapLane_jtag (k : Nat) (f : Lane → Lane) : (d.mapLane k f).jtag = d.jtag := rfl
@[simp] theorem Dev.mapLane_writes (k : Nat) (f : Lane → Lane) : (d.mapLane k f).writes = d.writes := rfl
@[simp] theorem Dev.mapLane_bad (k : Nat) (f : Lane → Lane) : (d.mapLane k f).bad = d.bad := rfl
@[simp] theorem Dev.rd_mapLane (k : Nat) (f : Lane → Lane) (g : Fld) (c : Nat) : (d.mapLane k f).rd g c = d.rd g c := rfl

@[simp] theorem Dev.mapHost_now (n : Nat) (f : HostLane → HostLane) : (d.mapHost n f).now = d.now := rfl
@[simp] theorem Dev.mapHost_free (n : Nat) (f : HostLane → HostLane) : (d.mapHost n f).free = d.free := rfl
@[simp] theorem Dev.mapHost_phase (n : Nat) (f : HostLane → HostLane) : (d.mapHost n f).phase = d.phase := rfl
@[simp] theorem Dev.mapHost_regs (n : Nat) (f : HostLane → HostLane) : (d.mapHost n f).regs = d.regs := rfl
@[simp] theorem Dev.mapHost_fw (n : Nat) (f : HostLane → HostLane) : (d.mapHost n f).fw = d.fw := rfl
@[simp] theorem Dev.mapHost_mgmt (n : Nat) (f : HostLane → HostLane) : (d.mapHost n f).mgmt = d.mgmt := rfl
@[simp] theorem Dev.mapHost_paths (n : Nat) (f : HostLane → HostLane) : (d.mapHost n f).paths = d.paths := rfl
@[simp] theorem Dev.mapHost_fallbacks (n : Nat) (f : HostLane → HostLane) : (d.mapHost n f).fallbacks = d.fallbacks := rfl
@[simp] theorem Dev.mapHost_lanes (n : Nat) (f : HostLane → HostLane) : (d.mapHost n f).lanes = d.lanes := rfl
@[simp] theorem Dev.mapHost_hosts (n : Nat) (f : HostLane → HostLane) : (d.mapHost n f).hosts = d.hosts.mapIdx fun i x => if i = n then f x else x := rfl
@[simp] theorem Dev.mapHost_ws (n : Nat) (f : HostLane → HostLane) : (d.mapHost n f).ws = d.ws := rfl
@[simp] theorem Dev.mapHost_optics (n : Nat) (f : HostLane → HostLane) : (d.mapHost n f).optics = d.optics := rfl
@[simp] theorem Dev.mapHost_tel (n : Nat) (f : HostLane → HostLane) : (d.mapHost n f).tel = d.tel := rfl
@[simp] theorem Dev.mapHost_tally (n : Nat) (f : HostLane → HostLane) : (d.mapHost n f).tally = d.tally := rfl
@[simp] theorem Dev.mapHost_pot (n : Nat) (f : HostLane → HostLane) : (d.mapHost n f).pot = d.pot := rfl
@[simp] theorem Dev.mapHost_vote (n : Nat) (f : HostLane → HostLane) : (d.mapHost n f).vote = d.vote := rfl
@[simp] theorem Dev.mapHost_sec (n : Nat) (f : HostLane → HostLane) : (d.mapHost n f).sec = d.sec := rfl
@[simp] theorem Dev.mapHost_power (n : Nat) (f : HostLane → HostLane) : (d.mapHost n f).power = d.power := rfl
@[simp] theorem Dev.mapHost_pg (n : Nat) (f : HostLane → HostLane) : (d.mapHost n f).pg = d.pg := rfl
@[simp] theorem Dev.mapHost_tu (n : Nat) (f : HostLane → HostLane) : (d.mapHost n f).tu = d.tu := rfl
@[simp] theorem Dev.mapHost_xc (n : Nat) (f : HostLane → HostLane) : (d.mapHost n f).xc = d.xc := rfl
@[simp] theorem Dev.mapHost_bist (n : Nat) (f : HostLane → HostLane) : (d.mapHost n f).bist = d.bist := rfl
@[simp] theorem Dev.mapHost_jtag (n : Nat) (f : HostLane → HostLane) : (d.mapHost n f).jtag = d.jtag := rfl
@[simp] theorem Dev.mapHost_writes (n : Nat) (f : HostLane → HostLane) : (d.mapHost n f).writes = d.writes := rfl
@[simp] theorem Dev.mapHost_bad (n : Nat) (f : HostLane → HostLane) : (d.mapHost n f).bad = d.bad := rfl
@[simp] theorem Dev.rd_mapHost (n : Nat) (f : HostLane → HostLane) (g : Fld) (c : Nat) : (d.mapHost n f).rd g c = d.rd g c := rfl
@[simp] theorem Dev.lane_mapHost (n : Nat) (f : HostLane → HostLane) (j : Nat) : (d.mapHost n f).lane j = d.lane j := rfl

@[simp] theorem Dev.mapTel_now (k : Nat) (f : TelLane → TelLane) : (d.mapTel k f).now = d.now := rfl
@[simp] theorem Dev.mapTel_free (k : Nat) (f : TelLane → TelLane) : (d.mapTel k f).free = d.free := rfl
@[simp] theorem Dev.mapTel_phase (k : Nat) (f : TelLane → TelLane) : (d.mapTel k f).phase = d.phase := rfl
@[simp] theorem Dev.mapTel_regs (k : Nat) (f : TelLane → TelLane) : (d.mapTel k f).regs = d.regs := rfl
@[simp] theorem Dev.mapTel_fw (k : Nat) (f : TelLane → TelLane) : (d.mapTel k f).fw = d.fw := rfl
@[simp] theorem Dev.mapTel_mgmt (k : Nat) (f : TelLane → TelLane) : (d.mapTel k f).mgmt = d.mgmt := rfl
@[simp] theorem Dev.mapTel_paths (k : Nat) (f : TelLane → TelLane) : (d.mapTel k f).paths = d.paths := rfl
@[simp] theorem Dev.mapTel_fallbacks (k : Nat) (f : TelLane → TelLane) : (d.mapTel k f).fallbacks = d.fallbacks := rfl
@[simp] theorem Dev.mapTel_lanes (k : Nat) (f : TelLane → TelLane) : (d.mapTel k f).lanes = d.lanes := rfl
@[simp] theorem Dev.mapTel_hosts (k : Nat) (f : TelLane → TelLane) : (d.mapTel k f).hosts = d.hosts := rfl
@[simp] theorem Dev.mapTel_ws (k : Nat) (f : TelLane → TelLane) : (d.mapTel k f).ws = d.ws := rfl
@[simp] theorem Dev.mapTel_optics (k : Nat) (f : TelLane → TelLane) : (d.mapTel k f).optics = d.optics := rfl
@[simp] theorem Dev.mapTel_tel (k : Nat) (f : TelLane → TelLane) : (d.mapTel k f).tel = d.tel.mapIdx fun i x => if i = k then f x else x := rfl
@[simp] theorem Dev.mapTel_tally (k : Nat) (f : TelLane → TelLane) : (d.mapTel k f).tally = d.tally := rfl
@[simp] theorem Dev.mapTel_pot (k : Nat) (f : TelLane → TelLane) : (d.mapTel k f).pot = d.pot := rfl
@[simp] theorem Dev.mapTel_vote (k : Nat) (f : TelLane → TelLane) : (d.mapTel k f).vote = d.vote := rfl
@[simp] theorem Dev.mapTel_sec (k : Nat) (f : TelLane → TelLane) : (d.mapTel k f).sec = d.sec := rfl
@[simp] theorem Dev.mapTel_power (k : Nat) (f : TelLane → TelLane) : (d.mapTel k f).power = d.power := rfl
@[simp] theorem Dev.mapTel_pg (k : Nat) (f : TelLane → TelLane) : (d.mapTel k f).pg = d.pg := rfl
@[simp] theorem Dev.mapTel_tu (k : Nat) (f : TelLane → TelLane) : (d.mapTel k f).tu = d.tu := rfl
@[simp] theorem Dev.mapTel_xc (k : Nat) (f : TelLane → TelLane) : (d.mapTel k f).xc = d.xc := rfl
@[simp] theorem Dev.mapTel_bist (k : Nat) (f : TelLane → TelLane) : (d.mapTel k f).bist = d.bist := rfl
@[simp] theorem Dev.mapTel_jtag (k : Nat) (f : TelLane → TelLane) : (d.mapTel k f).jtag = d.jtag := rfl
@[simp] theorem Dev.mapTel_writes (k : Nat) (f : TelLane → TelLane) : (d.mapTel k f).writes = d.writes := rfl
@[simp] theorem Dev.mapTel_bad (k : Nat) (f : TelLane → TelLane) : (d.mapTel k f).bad = d.bad := rfl
@[simp] theorem Dev.rd_mapTel (k : Nat) (f : TelLane → TelLane) (g : Fld) (c : Nat) : (d.mapTel k f).rd g c = d.rd g c := rfl
@[simp] theorem Dev.lane_mapTel (k : Nat) (f : TelLane → TelLane) (j : Nat) : (d.mapTel k f).lane j = d.lane j := rfl

@[simp] theorem Dev.mapOpt_now (f : Optics → Optics) : (d.mapOpt f).now = d.now := rfl
@[simp] theorem Dev.mapOpt_free (f : Optics → Optics) : (d.mapOpt f).free = d.free := rfl
@[simp] theorem Dev.mapOpt_phase (f : Optics → Optics) : (d.mapOpt f).phase = d.phase := rfl
@[simp] theorem Dev.mapOpt_regs (f : Optics → Optics) : (d.mapOpt f).regs = d.regs := rfl
@[simp] theorem Dev.mapOpt_fw (f : Optics → Optics) : (d.mapOpt f).fw = d.fw := rfl
@[simp] theorem Dev.mapOpt_mgmt (f : Optics → Optics) : (d.mapOpt f).mgmt = d.mgmt := rfl
@[simp] theorem Dev.mapOpt_paths (f : Optics → Optics) : (d.mapOpt f).paths = d.paths := rfl
@[simp] theorem Dev.mapOpt_fallbacks (f : Optics → Optics) : (d.mapOpt f).fallbacks = d.fallbacks := rfl
@[simp] theorem Dev.mapOpt_lanes (f : Optics → Optics) : (d.mapOpt f).lanes = d.lanes := rfl
@[simp] theorem Dev.mapOpt_hosts (f : Optics → Optics) : (d.mapOpt f).hosts = d.hosts := rfl
@[simp] theorem Dev.mapOpt_ws (f : Optics → Optics) : (d.mapOpt f).ws = d.ws := rfl
@[simp] theorem Dev.mapOpt_optics (f : Optics → Optics) : (d.mapOpt f).optics = f d.optics := rfl
@[simp] theorem Dev.mapOpt_tel (f : Optics → Optics) : (d.mapOpt f).tel = d.tel := rfl
@[simp] theorem Dev.mapOpt_tally (f : Optics → Optics) : (d.mapOpt f).tally = d.tally := rfl
@[simp] theorem Dev.mapOpt_pot (f : Optics → Optics) : (d.mapOpt f).pot = d.pot := rfl
@[simp] theorem Dev.mapOpt_vote (f : Optics → Optics) : (d.mapOpt f).vote = d.vote := rfl
@[simp] theorem Dev.mapOpt_sec (f : Optics → Optics) : (d.mapOpt f).sec = d.sec := rfl
@[simp] theorem Dev.mapOpt_power (f : Optics → Optics) : (d.mapOpt f).power = d.power := rfl
@[simp] theorem Dev.mapOpt_pg (f : Optics → Optics) : (d.mapOpt f).pg = d.pg := rfl
@[simp] theorem Dev.mapOpt_tu (f : Optics → Optics) : (d.mapOpt f).tu = d.tu := rfl
@[simp] theorem Dev.mapOpt_xc (f : Optics → Optics) : (d.mapOpt f).xc = d.xc := rfl
@[simp] theorem Dev.mapOpt_bist (f : Optics → Optics) : (d.mapOpt f).bist = d.bist := rfl
@[simp] theorem Dev.mapOpt_jtag (f : Optics → Optics) : (d.mapOpt f).jtag = d.jtag := rfl
@[simp] theorem Dev.mapOpt_writes (f : Optics → Optics) : (d.mapOpt f).writes = d.writes := rfl
@[simp] theorem Dev.mapOpt_bad (f : Optics → Optics) : (d.mapOpt f).bad = d.bad := rfl
@[simp] theorem Dev.rd_mapOpt (f : Optics → Optics) (g : Fld) (c : Nat) : (d.mapOpt f).rd g c = d.rd g c := rfl
@[simp] theorem Dev.lane_mapOpt (f : Optics → Optics) (j : Nat) : (d.mapOpt f).lane j = d.lane j := rfl

@[simp] theorem Dev.mapWs_now (f : Ws → Ws) : (d.mapWs f).now = d.now := rfl
@[simp] theorem Dev.mapWs_free (f : Ws → Ws) : (d.mapWs f).free = d.free := rfl
@[simp] theorem Dev.mapWs_phase (f : Ws → Ws) : (d.mapWs f).phase = d.phase := rfl
@[simp] theorem Dev.mapWs_regs (f : Ws → Ws) : (d.mapWs f).regs = d.regs := rfl
@[simp] theorem Dev.mapWs_fw (f : Ws → Ws) : (d.mapWs f).fw = d.fw := rfl
@[simp] theorem Dev.mapWs_mgmt (f : Ws → Ws) : (d.mapWs f).mgmt = d.mgmt := rfl
@[simp] theorem Dev.mapWs_paths (f : Ws → Ws) : (d.mapWs f).paths = d.paths := rfl
@[simp] theorem Dev.mapWs_fallbacks (f : Ws → Ws) : (d.mapWs f).fallbacks = d.fallbacks := rfl
@[simp] theorem Dev.mapWs_lanes (f : Ws → Ws) : (d.mapWs f).lanes = d.lanes := rfl
@[simp] theorem Dev.mapWs_hosts (f : Ws → Ws) : (d.mapWs f).hosts = d.hosts := rfl
@[simp] theorem Dev.mapWs_ws (f : Ws → Ws) : (d.mapWs f).ws = f d.ws := rfl
@[simp] theorem Dev.mapWs_optics (f : Ws → Ws) : (d.mapWs f).optics = d.optics := rfl
@[simp] theorem Dev.mapWs_tel (f : Ws → Ws) : (d.mapWs f).tel = d.tel := rfl
@[simp] theorem Dev.mapWs_tally (f : Ws → Ws) : (d.mapWs f).tally = d.tally := rfl
@[simp] theorem Dev.mapWs_pot (f : Ws → Ws) : (d.mapWs f).pot = d.pot := rfl
@[simp] theorem Dev.mapWs_vote (f : Ws → Ws) : (d.mapWs f).vote = d.vote := rfl
@[simp] theorem Dev.mapWs_sec (f : Ws → Ws) : (d.mapWs f).sec = d.sec := rfl
@[simp] theorem Dev.mapWs_power (f : Ws → Ws) : (d.mapWs f).power = d.power := rfl
@[simp] theorem Dev.mapWs_pg (f : Ws → Ws) : (d.mapWs f).pg = d.pg := rfl
@[simp] theorem Dev.mapWs_tu (f : Ws → Ws) : (d.mapWs f).tu = d.tu := rfl
@[simp] theorem Dev.mapWs_xc (f : Ws → Ws) : (d.mapWs f).xc = d.xc := rfl
@[simp] theorem Dev.mapWs_bist (f : Ws → Ws) : (d.mapWs f).bist = d.bist := rfl
@[simp] theorem Dev.mapWs_jtag (f : Ws → Ws) : (d.mapWs f).jtag = d.jtag := rfl
@[simp] theorem Dev.mapWs_writes (f : Ws → Ws) : (d.mapWs f).writes = d.writes := rfl
@[simp] theorem Dev.mapWs_bad (f : Ws → Ws) : (d.mapWs f).bad = d.bad := rfl
@[simp] theorem Dev.rd_mapWs (f : Ws → Ws) (g : Fld) (c : Nat) : (d.mapWs f).rd g c = d.rd g c := rfl
@[simp] theorem Dev.lane_mapWs (f : Ws → Ws) (j : Nat) : (d.mapWs f).lane j = d.lane j := rfl

@[simp] theorem Dev.mapPot_now (f : Pot → Pot) : (d.mapPot f).now = d.now := rfl
@[simp] theorem Dev.mapPot_free (f : Pot → Pot) : (d.mapPot f).free = d.free := rfl
@[simp] theorem Dev.mapPot_phase (f : Pot → Pot) : (d.mapPot f).phase = d.phase := rfl
@[simp] theorem Dev.mapPot_regs (f : Pot → Pot) : (d.mapPot f).regs = d.regs := rfl
@[simp] theorem Dev.mapPot_fw (f : Pot → Pot) : (d.mapPot f).fw = d.fw := rfl
@[simp] theorem Dev.mapPot_mgmt (f : Pot → Pot) : (d.mapPot f).mgmt = d.mgmt := rfl
@[simp] theorem Dev.mapPot_paths (f : Pot → Pot) : (d.mapPot f).paths = d.paths := rfl
@[simp] theorem Dev.mapPot_fallbacks (f : Pot → Pot) : (d.mapPot f).fallbacks = d.fallbacks := rfl
@[simp] theorem Dev.mapPot_lanes (f : Pot → Pot) : (d.mapPot f).lanes = d.lanes := rfl
@[simp] theorem Dev.mapPot_hosts (f : Pot → Pot) : (d.mapPot f).hosts = d.hosts := rfl
@[simp] theorem Dev.mapPot_ws (f : Pot → Pot) : (d.mapPot f).ws = d.ws := rfl
@[simp] theorem Dev.mapPot_optics (f : Pot → Pot) : (d.mapPot f).optics = d.optics := rfl
@[simp] theorem Dev.mapPot_tel (f : Pot → Pot) : (d.mapPot f).tel = d.tel := rfl
@[simp] theorem Dev.mapPot_tally (f : Pot → Pot) : (d.mapPot f).tally = d.tally := rfl
@[simp] theorem Dev.mapPot_pot (f : Pot → Pot) : (d.mapPot f).pot = f d.pot := rfl
@[simp] theorem Dev.mapPot_vote (f : Pot → Pot) : (d.mapPot f).vote = d.vote := rfl
@[simp] theorem Dev.mapPot_sec (f : Pot → Pot) : (d.mapPot f).sec = d.sec := rfl
@[simp] theorem Dev.mapPot_power (f : Pot → Pot) : (d.mapPot f).power = d.power := rfl
@[simp] theorem Dev.mapPot_pg (f : Pot → Pot) : (d.mapPot f).pg = d.pg := rfl
@[simp] theorem Dev.mapPot_tu (f : Pot → Pot) : (d.mapPot f).tu = d.tu := rfl
@[simp] theorem Dev.mapPot_xc (f : Pot → Pot) : (d.mapPot f).xc = d.xc := rfl
@[simp] theorem Dev.mapPot_bist (f : Pot → Pot) : (d.mapPot f).bist = d.bist := rfl
@[simp] theorem Dev.mapPot_jtag (f : Pot → Pot) : (d.mapPot f).jtag = d.jtag := rfl
@[simp] theorem Dev.mapPot_writes (f : Pot → Pot) : (d.mapPot f).writes = d.writes := rfl
@[simp] theorem Dev.mapPot_bad (f : Pot → Pot) : (d.mapPot f).bad = d.bad := rfl
@[simp] theorem Dev.rd_mapPot (f : Pot → Pot) (g : Fld) (c : Nat) : (d.mapPot f).rd g c = d.rd g c := rfl
@[simp] theorem Dev.lane_mapPot (f : Pot → Pot) (j : Nat) : (d.mapPot f).lane j = d.lane j := rfl

@[simp] theorem Dev.mapSec_now (f : Sec → Sec) : (d.mapSec f).now = d.now := rfl
@[simp] theorem Dev.mapSec_free (f : Sec → Sec) : (d.mapSec f).free = d.free := rfl
@[simp] theorem Dev.mapSec_phase (f : Sec → Sec) : (d.mapSec f).phase = d.phase := rfl
@[simp] theorem Dev.mapSec_regs (f : Sec → Sec) : (d.mapSec f).regs = d.regs := rfl
@[simp] theorem Dev.mapSec_fw (f : Sec → Sec) : (d.mapSec f).fw = d.fw := rfl
@[simp] theorem Dev.mapSec_mgmt (f : Sec → Sec) : (d.mapSec f).mgmt = d.mgmt := rfl
@[simp] theorem Dev.mapSec_paths (f : Sec → Sec) : (d.mapSec f).paths = d.paths := rfl
@[simp] theorem Dev.mapSec_fallbacks (f : Sec → Sec) : (d.mapSec f).fallbacks = d.fallbacks := rfl
@[simp] theorem Dev.mapSec_lanes (f : Sec → Sec) : (d.mapSec f).lanes = d.lanes := rfl
@[simp] theorem Dev.mapSec_hosts (f : Sec → Sec) : (d.mapSec f).hosts = d.hosts := rfl
@[simp] theorem Dev.mapSec_ws (f : Sec → Sec) : (d.mapSec f).ws = d.ws := rfl
@[simp] theorem Dev.mapSec_optics (f : Sec → Sec) : (d.mapSec f).optics = d.optics := rfl
@[simp] theorem Dev.mapSec_tel (f : Sec → Sec) : (d.mapSec f).tel = d.tel := rfl
@[simp] theorem Dev.mapSec_tally (f : Sec → Sec) : (d.mapSec f).tally = d.tally := rfl
@[simp] theorem Dev.mapSec_pot (f : Sec → Sec) : (d.mapSec f).pot = d.pot := rfl
@[simp] theorem Dev.mapSec_vote (f : Sec → Sec) : (d.mapSec f).vote = d.vote := rfl
@[simp] theorem Dev.mapSec_sec (f : Sec → Sec) : (d.mapSec f).sec = f d.sec := rfl
@[simp] theorem Dev.mapSec_power (f : Sec → Sec) : (d.mapSec f).power = d.power := rfl
@[simp] theorem Dev.mapSec_pg (f : Sec → Sec) : (d.mapSec f).pg = d.pg := rfl
@[simp] theorem Dev.mapSec_tu (f : Sec → Sec) : (d.mapSec f).tu = d.tu := rfl
@[simp] theorem Dev.mapSec_xc (f : Sec → Sec) : (d.mapSec f).xc = d.xc := rfl
@[simp] theorem Dev.mapSec_bist (f : Sec → Sec) : (d.mapSec f).bist = d.bist := rfl
@[simp] theorem Dev.mapSec_jtag (f : Sec → Sec) : (d.mapSec f).jtag = d.jtag := rfl
@[simp] theorem Dev.mapSec_writes (f : Sec → Sec) : (d.mapSec f).writes = d.writes := rfl
@[simp] theorem Dev.mapSec_bad (f : Sec → Sec) : (d.mapSec f).bad = d.bad := rfl
@[simp] theorem Dev.rd_mapSec (f : Sec → Sec) (g : Fld) (c : Nat) : (d.mapSec f).rd g c = d.rd g c := rfl
@[simp] theorem Dev.lane_mapSec (f : Sec → Sec) (j : Nat) : (d.mapSec f).lane j = d.lane j := rfl

@[simp] theorem Dev.mapPower_now (f : Power → Power) : (d.mapPower f).now = d.now := rfl
@[simp] theorem Dev.mapPower_free (f : Power → Power) : (d.mapPower f).free = d.free := rfl
@[simp] theorem Dev.mapPower_phase (f : Power → Power) : (d.mapPower f).phase = d.phase := rfl
@[simp] theorem Dev.mapPower_regs (f : Power → Power) : (d.mapPower f).regs = d.regs := rfl
@[simp] theorem Dev.mapPower_fw (f : Power → Power) : (d.mapPower f).fw = d.fw := rfl
@[simp] theorem Dev.mapPower_mgmt (f : Power → Power) : (d.mapPower f).mgmt = d.mgmt := rfl
@[simp] theorem Dev.mapPower_paths (f : Power → Power) : (d.mapPower f).paths = d.paths := rfl
@[simp] theorem Dev.mapPower_fallbacks (f : Power → Power) : (d.mapPower f).fallbacks = d.fallbacks := rfl
@[simp] theorem Dev.mapPower_lanes (f : Power → Power) : (d.mapPower f).lanes = d.lanes := rfl
@[simp] theorem Dev.mapPower_hosts (f : Power → Power) : (d.mapPower f).hosts = d.hosts := rfl
@[simp] theorem Dev.mapPower_ws (f : Power → Power) : (d.mapPower f).ws = d.ws := rfl
@[simp] theorem Dev.mapPower_optics (f : Power → Power) : (d.mapPower f).optics = d.optics := rfl
@[simp] theorem Dev.mapPower_tel (f : Power → Power) : (d.mapPower f).tel = d.tel := rfl
@[simp] theorem Dev.mapPower_tally (f : Power → Power) : (d.mapPower f).tally = d.tally := rfl
@[simp] theorem Dev.mapPower_pot (f : Power → Power) : (d.mapPower f).pot = d.pot := rfl
@[simp] theorem Dev.mapPower_vote (f : Power → Power) : (d.mapPower f).vote = d.vote := rfl
@[simp] theorem Dev.mapPower_sec (f : Power → Power) : (d.mapPower f).sec = d.sec := rfl
@[simp] theorem Dev.mapPower_power (f : Power → Power) : (d.mapPower f).power = f d.power := rfl
@[simp] theorem Dev.mapPower_pg (f : Power → Power) : (d.mapPower f).pg = d.pg := rfl
@[simp] theorem Dev.mapPower_tu (f : Power → Power) : (d.mapPower f).tu = d.tu := rfl
@[simp] theorem Dev.mapPower_xc (f : Power → Power) : (d.mapPower f).xc = d.xc := rfl
@[simp] theorem Dev.mapPower_bist (f : Power → Power) : (d.mapPower f).bist = d.bist := rfl
@[simp] theorem Dev.mapPower_jtag (f : Power → Power) : (d.mapPower f).jtag = d.jtag := rfl
@[simp] theorem Dev.mapPower_writes (f : Power → Power) : (d.mapPower f).writes = d.writes := rfl
@[simp] theorem Dev.mapPower_bad (f : Power → Power) : (d.mapPower f).bad = d.bad := rfl
@[simp] theorem Dev.rd_mapPower (f : Power → Power) (g : Fld) (c : Nat) : (d.mapPower f).rd g c = d.rd g c := rfl
@[simp] theorem Dev.lane_mapPower (f : Power → Power) (j : Nat) : (d.mapPower f).lane j = d.lane j := rfl

@[simp] theorem Dev.mapPg_now (f : Pg → Pg) : (d.mapPg f).now = d.now := rfl
@[simp] theorem Dev.mapPg_free (f : Pg → Pg) : (d.mapPg f).free = d.free := rfl
@[simp] theorem Dev.mapPg_phase (f : Pg → Pg) : (d.mapPg f).phase = d.phase := rfl
@[simp] theorem Dev.mapPg_regs (f : Pg → Pg) : (d.mapPg f).regs = d.regs := rfl
@[simp] theorem Dev.mapPg_fw (f : Pg → Pg) : (d.mapPg f).fw = d.fw := rfl
@[simp] theorem Dev.mapPg_mgmt (f : Pg → Pg) : (d.mapPg f).mgmt = d.mgmt := rfl
@[simp] theorem Dev.mapPg_paths (f : Pg → Pg) : (d.mapPg f).paths = d.paths := rfl
@[simp] theorem Dev.mapPg_fallbacks (f : Pg → Pg) : (d.mapPg f).fallbacks = d.fallbacks := rfl
@[simp] theorem Dev.mapPg_lanes (f : Pg → Pg) : (d.mapPg f).lanes = d.lanes := rfl
@[simp] theorem Dev.mapPg_hosts (f : Pg → Pg) : (d.mapPg f).hosts = d.hosts := rfl
@[simp] theorem Dev.mapPg_ws (f : Pg → Pg) : (d.mapPg f).ws = d.ws := rfl
@[simp] theorem Dev.mapPg_optics (f : Pg → Pg) : (d.mapPg f).optics = d.optics := rfl
@[simp] theorem Dev.mapPg_tel (f : Pg → Pg) : (d.mapPg f).tel = d.tel := rfl
@[simp] theorem Dev.mapPg_tally (f : Pg → Pg) : (d.mapPg f).tally = d.tally := rfl
@[simp] theorem Dev.mapPg_pot (f : Pg → Pg) : (d.mapPg f).pot = d.pot := rfl
@[simp] theorem Dev.mapPg_vote (f : Pg → Pg) : (d.mapPg f).vote = d.vote := rfl
@[simp] theorem Dev.mapPg_sec (f : Pg → Pg) : (d.mapPg f).sec = d.sec := rfl
@[simp] theorem Dev.mapPg_power (f : Pg → Pg) : (d.mapPg f).power = d.power := rfl
@[simp] theorem Dev.mapPg_pg (f : Pg → Pg) : (d.mapPg f).pg = f d.pg := rfl
@[simp] theorem Dev.mapPg_tu (f : Pg → Pg) : (d.mapPg f).tu = d.tu := rfl
@[simp] theorem Dev.mapPg_xc (f : Pg → Pg) : (d.mapPg f).xc = d.xc := rfl
@[simp] theorem Dev.mapPg_bist (f : Pg → Pg) : (d.mapPg f).bist = d.bist := rfl
@[simp] theorem Dev.mapPg_jtag (f : Pg → Pg) : (d.mapPg f).jtag = d.jtag := rfl
@[simp] theorem Dev.mapPg_writes (f : Pg → Pg) : (d.mapPg f).writes = d.writes := rfl
@[simp] theorem Dev.mapPg_bad (f : Pg → Pg) : (d.mapPg f).bad = d.bad := rfl
@[simp] theorem Dev.rd_mapPg (f : Pg → Pg) (g : Fld) (c : Nat) : (d.mapPg f).rd g c = d.rd g c := rfl
@[simp] theorem Dev.lane_mapPg (f : Pg → Pg) (j : Nat) : (d.mapPg f).lane j = d.lane j := rfl

@[simp] theorem Dev.mapXc_now (f : Xc → Xc) : (d.mapXc f).now = d.now := rfl
@[simp] theorem Dev.mapXc_free (f : Xc → Xc) : (d.mapXc f).free = d.free := rfl
@[simp] theorem Dev.mapXc_phase (f : Xc → Xc) : (d.mapXc f).phase = d.phase := rfl
@[simp] theorem Dev.mapXc_regs (f : Xc → Xc) : (d.mapXc f).regs = d.regs := rfl
@[simp] theorem Dev.mapXc_fw (f : Xc → Xc) : (d.mapXc f).fw = d.fw := rfl
@[simp] theorem Dev.mapXc_mgmt (f : Xc → Xc) : (d.mapXc f).mgmt = d.mgmt := rfl
@[simp] theorem Dev.mapXc_paths (f : Xc → Xc) : (d.mapXc f).paths = d.paths := rfl
@[simp] theorem Dev.mapXc_fallbacks (f : Xc → Xc) : (d.mapXc f).fallbacks = d.fallbacks := rfl
@[simp] theorem Dev.mapXc_lanes (f : Xc → Xc) : (d.mapXc f).lanes = d.lanes := rfl
@[simp] theorem Dev.mapXc_hosts (f : Xc → Xc) : (d.mapXc f).hosts = d.hosts := rfl
@[simp] theorem Dev.mapXc_ws (f : Xc → Xc) : (d.mapXc f).ws = d.ws := rfl
@[simp] theorem Dev.mapXc_optics (f : Xc → Xc) : (d.mapXc f).optics = d.optics := rfl
@[simp] theorem Dev.mapXc_tel (f : Xc → Xc) : (d.mapXc f).tel = d.tel := rfl
@[simp] theorem Dev.mapXc_tally (f : Xc → Xc) : (d.mapXc f).tally = d.tally := rfl
@[simp] theorem Dev.mapXc_pot (f : Xc → Xc) : (d.mapXc f).pot = d.pot := rfl
@[simp] theorem Dev.mapXc_vote (f : Xc → Xc) : (d.mapXc f).vote = d.vote := rfl
@[simp] theorem Dev.mapXc_sec (f : Xc → Xc) : (d.mapXc f).sec = d.sec := rfl
@[simp] theorem Dev.mapXc_power (f : Xc → Xc) : (d.mapXc f).power = d.power := rfl
@[simp] theorem Dev.mapXc_pg (f : Xc → Xc) : (d.mapXc f).pg = d.pg := rfl
@[simp] theorem Dev.mapXc_tu (f : Xc → Xc) : (d.mapXc f).tu = d.tu := rfl
@[simp] theorem Dev.mapXc_xc (f : Xc → Xc) : (d.mapXc f).xc = f d.xc := rfl
@[simp] theorem Dev.mapXc_bist (f : Xc → Xc) : (d.mapXc f).bist = d.bist := rfl
@[simp] theorem Dev.mapXc_jtag (f : Xc → Xc) : (d.mapXc f).jtag = d.jtag := rfl
@[simp] theorem Dev.mapXc_writes (f : Xc → Xc) : (d.mapXc f).writes = d.writes := rfl
@[simp] theorem Dev.mapXc_bad (f : Xc → Xc) : (d.mapXc f).bad = d.bad := rfl
@[simp] theorem Dev.rd_mapXc (f : Xc → Xc) (g : Fld) (c : Nat) : (d.mapXc f).rd g c = d.rd g c := rfl
@[simp] theorem Dev.lane_mapXc (f : Xc → Xc) (j : Nat) : (d.mapXc f).lane j = d.lane j := rfl

@[simp] theorem Dev.mapBist_now (f : Bist → Bist) : (d.mapBist f).now = d.now := rfl
@[simp] theorem Dev.mapBist_free (f : Bist → Bist) : (d.mapBist f).free = d.free := rfl
@[simp] theorem Dev.mapBist_phase (f : Bist → Bist) : (d.mapBist f).phase = d.phase := rfl
@[simp] theorem Dev.mapBist_regs (f : Bist → Bist) : (d.mapBist f).regs = d.regs := rfl
@[simp] theorem Dev.mapBist_fw (f : Bist → Bist) : (d.mapBist f).fw = d.fw := rfl
@[simp] theorem Dev.mapBist_mgmt (f : Bist → Bist) : (d.mapBist f).mgmt = d.mgmt := rfl
@[simp] theorem Dev.mapBist_paths (f : Bist → Bist) : (d.mapBist f).paths = d.paths := rfl
@[simp] theorem Dev.mapBist_fallbacks (f : Bist → Bist) : (d.mapBist f).fallbacks = d.fallbacks := rfl
@[simp] theorem Dev.mapBist_lanes (f : Bist → Bist) : (d.mapBist f).lanes = d.lanes := rfl
@[simp] theorem Dev.mapBist_hosts (f : Bist → Bist) : (d.mapBist f).hosts = d.hosts := rfl
@[simp] theorem Dev.mapBist_ws (f : Bist → Bist) : (d.mapBist f).ws = d.ws := rfl
@[simp] theorem Dev.mapBist_optics (f : Bist → Bist) : (d.mapBist f).optics = d.optics := rfl
@[simp] theorem Dev.mapBist_tel (f : Bist → Bist) : (d.mapBist f).tel = d.tel := rfl
@[simp] theorem Dev.mapBist_tally (f : Bist → Bist) : (d.mapBist f).tally = d.tally := rfl
@[simp] theorem Dev.mapBist_pot (f : Bist → Bist) : (d.mapBist f).pot = d.pot := rfl
@[simp] theorem Dev.mapBist_vote (f : Bist → Bist) : (d.mapBist f).vote = d.vote := rfl
@[simp] theorem Dev.mapBist_sec (f : Bist → Bist) : (d.mapBist f).sec = d.sec := rfl
@[simp] theorem Dev.mapBist_power (f : Bist → Bist) : (d.mapBist f).power = d.power := rfl
@[simp] theorem Dev.mapBist_pg (f : Bist → Bist) : (d.mapBist f).pg = d.pg := rfl
@[simp] theorem Dev.mapBist_tu (f : Bist → Bist) : (d.mapBist f).tu = d.tu := rfl
@[simp] theorem Dev.mapBist_xc (f : Bist → Bist) : (d.mapBist f).xc = d.xc := rfl
@[simp] theorem Dev.mapBist_bist (f : Bist → Bist) : (d.mapBist f).bist = f d.bist := rfl
@[simp] theorem Dev.mapBist_jtag (f : Bist → Bist) : (d.mapBist f).jtag = d.jtag := rfl
@[simp] theorem Dev.mapBist_writes (f : Bist → Bist) : (d.mapBist f).writes = d.writes := rfl
@[simp] theorem Dev.mapBist_bad (f : Bist → Bist) : (d.mapBist f).bad = d.bad := rfl
@[simp] theorem Dev.rd_mapBist (f : Bist → Bist) (g : Fld) (c : Nat) : (d.mapBist f).rd g c = d.rd g c := rfl
@[simp] theorem Dev.lane_mapBist (f : Bist → Bist) (j : Nat) : (d.mapBist f).lane j = d.lane j := rfl

@[simp] theorem Dev.mapTb_now (i : Nat) (f : Tb → Tb) : (d.mapTb i f).now = d.now := rfl
@[simp] theorem Dev.mapTb_free (i : Nat) (f : Tb → Tb) : (d.mapTb i f).free = d.free := rfl
@[simp] theorem Dev.mapTb_phase (i : Nat) (f : Tb → Tb) : (d.mapTb i f).phase = d.phase := rfl
@[simp] theorem Dev.mapTb_regs (i : Nat) (f : Tb → Tb) : (d.mapTb i f).regs = d.regs := rfl
@[simp] theorem Dev.mapTb_fw (i : Nat) (f : Tb → Tb) : (d.mapTb i f).fw = d.fw := rfl
@[simp] theorem Dev.mapTb_mgmt (i : Nat) (f : Tb → Tb) : (d.mapTb i f).mgmt = d.mgmt := rfl
@[simp] theorem Dev.mapTb_paths (i : Nat) (f : Tb → Tb) : (d.mapTb i f).paths = d.paths := rfl
@[simp] theorem Dev.mapTb_fallbacks (i : Nat) (f : Tb → Tb) : (d.mapTb i f).fallbacks = d.fallbacks := rfl
@[simp] theorem Dev.mapTb_lanes (i : Nat) (f : Tb → Tb) : (d.mapTb i f).lanes = d.lanes := rfl
@[simp] theorem Dev.mapTb_hosts (i : Nat) (f : Tb → Tb) : (d.mapTb i f).hosts = d.hosts := rfl
@[simp] theorem Dev.mapTb_ws (i : Nat) (f : Tb → Tb) : (d.mapTb i f).ws = d.ws := rfl
@[simp] theorem Dev.mapTb_optics (i : Nat) (f : Tb → Tb) : (d.mapTb i f).optics = d.optics := rfl
@[simp] theorem Dev.mapTb_tel (i : Nat) (f : Tb → Tb) : (d.mapTb i f).tel = d.tel := rfl
@[simp] theorem Dev.mapTb_tally (i : Nat) (f : Tb → Tb) : (d.mapTb i f).tally = d.tally := rfl
@[simp] theorem Dev.mapTb_pot (i : Nat) (f : Tb → Tb) : (d.mapTb i f).pot = d.pot := rfl
@[simp] theorem Dev.mapTb_vote (i : Nat) (f : Tb → Tb) : (d.mapTb i f).vote = d.vote := rfl
@[simp] theorem Dev.mapTb_sec (i : Nat) (f : Tb → Tb) : (d.mapTb i f).sec = d.sec := rfl
@[simp] theorem Dev.mapTb_power (i : Nat) (f : Tb → Tb) : (d.mapTb i f).power = d.power := rfl
@[simp] theorem Dev.mapTb_pg (i : Nat) (f : Tb → Tb) : (d.mapTb i f).pg = d.pg := rfl
@[simp] theorem Dev.mapTb_tu (i : Nat) (f : Tb → Tb) : (d.mapTb i f).tu = { d.tu with tbs := vset d.tu.tbs i f } := rfl
@[simp] theorem Dev.mapTb_xc (i : Nat) (f : Tb → Tb) : (d.mapTb i f).xc = d.xc := rfl
@[simp] theorem Dev.mapTb_bist (i : Nat) (f : Tb → Tb) : (d.mapTb i f).bist = d.bist := rfl
@[simp] theorem Dev.mapTb_jtag (i : Nat) (f : Tb → Tb) : (d.mapTb i f).jtag = d.jtag := rfl
@[simp] theorem Dev.mapTb_writes (i : Nat) (f : Tb → Tb) : (d.mapTb i f).writes = d.writes := rfl
@[simp] theorem Dev.mapTb_bad (i : Nat) (f : Tb → Tb) : (d.mapTb i f).bad = d.bad := rfl
@[simp] theorem Dev.rd_mapTb (i : Nat) (f : Tb → Tb) (g : Fld) (c : Nat) : (d.mapTb i f).rd g c = d.rd g c := rfl
@[simp] theorem Dev.lane_mapTb (i : Nat) (f : Tb → Tb) (j : Nat) : (d.mapTb i f).lane j = d.lane j := rfl

@[simp] theorem Dev.mapTt_now (k : Nat) (f : TtLane → TtLane) : (d.mapTt k f).now = d.now := rfl
@[simp] theorem Dev.mapTt_free (k : Nat) (f : TtLane → TtLane) : (d.mapTt k f).free = d.free := rfl
@[simp] theorem Dev.mapTt_phase (k : Nat) (f : TtLane → TtLane) : (d.mapTt k f).phase = d.phase := rfl
@[simp] theorem Dev.mapTt_regs (k : Nat) (f : TtLane → TtLane) : (d.mapTt k f).regs = d.regs := rfl
@[simp] theorem Dev.mapTt_fw (k : Nat) (f : TtLane → TtLane) : (d.mapTt k f).fw = d.fw := rfl
@[simp] theorem Dev.mapTt_mgmt (k : Nat) (f : TtLane → TtLane) : (d.mapTt k f).mgmt = d.mgmt := rfl
@[simp] theorem Dev.mapTt_paths (k : Nat) (f : TtLane → TtLane) : (d.mapTt k f).paths = d.paths := rfl
@[simp] theorem Dev.mapTt_fallbacks (k : Nat) (f : TtLane → TtLane) : (d.mapTt k f).fallbacks = d.fallbacks := rfl
@[simp] theorem Dev.mapTt_lanes (k : Nat) (f : TtLane → TtLane) : (d.mapTt k f).lanes = d.lanes := rfl
@[simp] theorem Dev.mapTt_hosts (k : Nat) (f : TtLane → TtLane) : (d.mapTt k f).hosts = d.hosts := rfl
@[simp] theorem Dev.mapTt_ws (k : Nat) (f : TtLane → TtLane) : (d.mapTt k f).ws = d.ws := rfl
@[simp] theorem Dev.mapTt_optics (k : Nat) (f : TtLane → TtLane) : (d.mapTt k f).optics = d.optics := rfl
@[simp] theorem Dev.mapTt_tel (k : Nat) (f : TtLane → TtLane) : (d.mapTt k f).tel = d.tel := rfl
@[simp] theorem Dev.mapTt_tally (k : Nat) (f : TtLane → TtLane) : (d.mapTt k f).tally = d.tally := rfl
@[simp] theorem Dev.mapTt_pot (k : Nat) (f : TtLane → TtLane) : (d.mapTt k f).pot = d.pot := rfl
@[simp] theorem Dev.mapTt_vote (k : Nat) (f : TtLane → TtLane) : (d.mapTt k f).vote = d.vote := rfl
@[simp] theorem Dev.mapTt_sec (k : Nat) (f : TtLane → TtLane) : (d.mapTt k f).sec = d.sec := rfl
@[simp] theorem Dev.mapTt_power (k : Nat) (f : TtLane → TtLane) : (d.mapTt k f).power = d.power := rfl
@[simp] theorem Dev.mapTt_pg (k : Nat) (f : TtLane → TtLane) : (d.mapTt k f).pg = d.pg := rfl
@[simp] theorem Dev.mapTt_tu (k : Nat) (f : TtLane → TtLane) : (d.mapTt k f).tu = { d.tu with tt := vset d.tu.tt k f } := rfl
@[simp] theorem Dev.mapTt_xc (k : Nat) (f : TtLane → TtLane) : (d.mapTt k f).xc = d.xc := rfl
@[simp] theorem Dev.mapTt_bist (k : Nat) (f : TtLane → TtLane) : (d.mapTt k f).bist = d.bist := rfl
@[simp] theorem Dev.mapTt_jtag (k : Nat) (f : TtLane → TtLane) : (d.mapTt k f).jtag = d.jtag := rfl
@[simp] theorem Dev.mapTt_writes (k : Nat) (f : TtLane → TtLane) : (d.mapTt k f).writes = d.writes := rfl
@[simp] theorem Dev.mapTt_bad (k : Nat) (f : TtLane → TtLane) : (d.mapTt k f).bad = d.bad := rfl
@[simp] theorem Dev.rd_mapTt (k : Nat) (f : TtLane → TtLane) (g : Fld) (c : Nat) : (d.mapTt k f).rd g c = d.rd g c := rfl
@[simp] theorem Dev.lane_mapTt (k : Nat) (f : TtLane → TtLane) (j : Nat) : (d.mapTt k f).lane j = d.lane j := rfl

@[simp] theorem Dev.mapTx_now (k : Nat) (f : TxLane → TxLane) : (d.mapTx k f).now = d.now := rfl
@[simp] theorem Dev.mapTx_free (k : Nat) (f : TxLane → TxLane) : (d.mapTx k f).free = d.free := rfl
@[simp] theorem Dev.mapTx_phase (k : Nat) (f : TxLane → TxLane) : (d.mapTx k f).phase = d.phase := rfl
@[simp] theorem Dev.mapTx_regs (k : Nat) (f : TxLane → TxLane) : (d.mapTx k f).regs = d.regs := rfl
@[simp] theorem Dev.mapTx_fw (k : Nat) (f : TxLane → TxLane) : (d.mapTx k f).fw = d.fw := rfl
@[simp] theorem Dev.mapTx_mgmt (k : Nat) (f : TxLane → TxLane) : (d.mapTx k f).mgmt = d.mgmt := rfl
@[simp] theorem Dev.mapTx_paths (k : Nat) (f : TxLane → TxLane) : (d.mapTx k f).paths = d.paths := rfl
@[simp] theorem Dev.mapTx_fallbacks (k : Nat) (f : TxLane → TxLane) : (d.mapTx k f).fallbacks = d.fallbacks := rfl
@[simp] theorem Dev.mapTx_lanes (k : Nat) (f : TxLane → TxLane) : (d.mapTx k f).lanes = d.lanes.mapIdx fun i x => if i = k then { x with tx := f x.tx } else x := rfl
@[simp] theorem Dev.mapTx_hosts (k : Nat) (f : TxLane → TxLane) : (d.mapTx k f).hosts = d.hosts := rfl
@[simp] theorem Dev.mapTx_ws (k : Nat) (f : TxLane → TxLane) : (d.mapTx k f).ws = d.ws := rfl
@[simp] theorem Dev.mapTx_optics (k : Nat) (f : TxLane → TxLane) : (d.mapTx k f).optics = d.optics := rfl
@[simp] theorem Dev.mapTx_tel (k : Nat) (f : TxLane → TxLane) : (d.mapTx k f).tel = d.tel := rfl
@[simp] theorem Dev.mapTx_tally (k : Nat) (f : TxLane → TxLane) : (d.mapTx k f).tally = d.tally := rfl
@[simp] theorem Dev.mapTx_pot (k : Nat) (f : TxLane → TxLane) : (d.mapTx k f).pot = d.pot := rfl
@[simp] theorem Dev.mapTx_vote (k : Nat) (f : TxLane → TxLane) : (d.mapTx k f).vote = d.vote := rfl
@[simp] theorem Dev.mapTx_sec (k : Nat) (f : TxLane → TxLane) : (d.mapTx k f).sec = d.sec := rfl
@[simp] theorem Dev.mapTx_power (k : Nat) (f : TxLane → TxLane) : (d.mapTx k f).power = d.power := rfl
@[simp] theorem Dev.mapTx_pg (k : Nat) (f : TxLane → TxLane) : (d.mapTx k f).pg = d.pg := rfl
@[simp] theorem Dev.mapTx_tu (k : Nat) (f : TxLane → TxLane) : (d.mapTx k f).tu = d.tu := rfl
@[simp] theorem Dev.mapTx_xc (k : Nat) (f : TxLane → TxLane) : (d.mapTx k f).xc = d.xc := rfl
@[simp] theorem Dev.mapTx_bist (k : Nat) (f : TxLane → TxLane) : (d.mapTx k f).bist = d.bist := rfl
@[simp] theorem Dev.mapTx_jtag (k : Nat) (f : TxLane → TxLane) : (d.mapTx k f).jtag = d.jtag := rfl
@[simp] theorem Dev.mapTx_writes (k : Nat) (f : TxLane → TxLane) : (d.mapTx k f).writes = d.writes := rfl
@[simp] theorem Dev.mapTx_bad (k : Nat) (f : TxLane → TxLane) : (d.mapTx k f).bad = d.bad := rfl
@[simp] theorem Dev.rd_mapTx (k : Nat) (f : TxLane → TxLane) (g : Fld) (c : Nat) : (d.mapTx k f).rd g c = d.rd g c := rfl

@[simp] theorem Dev.mapRx_now (k : Nat) (f : RxLane → RxLane) : (d.mapRx k f).now = d.now := rfl
@[simp] theorem Dev.mapRx_free (k : Nat) (f : RxLane → RxLane) : (d.mapRx k f).free = d.free := rfl
@[simp] theorem Dev.mapRx_phase (k : Nat) (f : RxLane → RxLane) : (d.mapRx k f).phase = d.phase := rfl
@[simp] theorem Dev.mapRx_regs (k : Nat) (f : RxLane → RxLane) : (d.mapRx k f).regs = d.regs := rfl
@[simp] theorem Dev.mapRx_fw (k : Nat) (f : RxLane → RxLane) : (d.mapRx k f).fw = d.fw := rfl
@[simp] theorem Dev.mapRx_mgmt (k : Nat) (f : RxLane → RxLane) : (d.mapRx k f).mgmt = d.mgmt := rfl
@[simp] theorem Dev.mapRx_paths (k : Nat) (f : RxLane → RxLane) : (d.mapRx k f).paths = d.paths := rfl
@[simp] theorem Dev.mapRx_fallbacks (k : Nat) (f : RxLane → RxLane) : (d.mapRx k f).fallbacks = d.fallbacks := rfl
@[simp] theorem Dev.mapRx_lanes (k : Nat) (f : RxLane → RxLane) : (d.mapRx k f).lanes = d.lanes.mapIdx fun i x => if i = k then { x with rx := f x.rx } else x := rfl
@[simp] theorem Dev.mapRx_hosts (k : Nat) (f : RxLane → RxLane) : (d.mapRx k f).hosts = d.hosts := rfl
@[simp] theorem Dev.mapRx_ws (k : Nat) (f : RxLane → RxLane) : (d.mapRx k f).ws = d.ws := rfl
@[simp] theorem Dev.mapRx_optics (k : Nat) (f : RxLane → RxLane) : (d.mapRx k f).optics = d.optics := rfl
@[simp] theorem Dev.mapRx_tel (k : Nat) (f : RxLane → RxLane) : (d.mapRx k f).tel = d.tel := rfl
@[simp] theorem Dev.mapRx_tally (k : Nat) (f : RxLane → RxLane) : (d.mapRx k f).tally = d.tally := rfl
@[simp] theorem Dev.mapRx_pot (k : Nat) (f : RxLane → RxLane) : (d.mapRx k f).pot = d.pot := rfl
@[simp] theorem Dev.mapRx_vote (k : Nat) (f : RxLane → RxLane) : (d.mapRx k f).vote = d.vote := rfl
@[simp] theorem Dev.mapRx_sec (k : Nat) (f : RxLane → RxLane) : (d.mapRx k f).sec = d.sec := rfl
@[simp] theorem Dev.mapRx_power (k : Nat) (f : RxLane → RxLane) : (d.mapRx k f).power = d.power := rfl
@[simp] theorem Dev.mapRx_pg (k : Nat) (f : RxLane → RxLane) : (d.mapRx k f).pg = d.pg := rfl
@[simp] theorem Dev.mapRx_tu (k : Nat) (f : RxLane → RxLane) : (d.mapRx k f).tu = d.tu := rfl
@[simp] theorem Dev.mapRx_xc (k : Nat) (f : RxLane → RxLane) : (d.mapRx k f).xc = d.xc := rfl
@[simp] theorem Dev.mapRx_bist (k : Nat) (f : RxLane → RxLane) : (d.mapRx k f).bist = d.bist := rfl
@[simp] theorem Dev.mapRx_jtag (k : Nat) (f : RxLane → RxLane) : (d.mapRx k f).jtag = d.jtag := rfl
@[simp] theorem Dev.mapRx_writes (k : Nat) (f : RxLane → RxLane) : (d.mapRx k f).writes = d.writes := rfl
@[simp] theorem Dev.mapRx_bad (k : Nat) (f : RxLane → RxLane) : (d.mapRx k f).bad = d.bad := rfl
@[simp] theorem Dev.rd_mapRx (k : Nat) (f : RxLane → RxLane) (g : Fld) (c : Nat) : (d.mapRx k f).rd g c = d.rd g c := rfl

@[simp] theorem Dev.mapMadc_now (n : Nat) (f : Madc → Madc) : (d.mapMadc n f).now = d.now := rfl
@[simp] theorem Dev.mapMadc_free (n : Nat) (f : Madc → Madc) : (d.mapMadc n f).free = d.free := rfl
@[simp] theorem Dev.mapMadc_phase (n : Nat) (f : Madc → Madc) : (d.mapMadc n f).phase = d.phase := rfl
@[simp] theorem Dev.mapMadc_regs (n : Nat) (f : Madc → Madc) : (d.mapMadc n f).regs = d.regs := rfl
@[simp] theorem Dev.mapMadc_fw (n : Nat) (f : Madc → Madc) : (d.mapMadc n f).fw = d.fw := rfl
@[simp] theorem Dev.mapMadc_mgmt (n : Nat) (f : Madc → Madc) : (d.mapMadc n f).mgmt = d.mgmt := rfl
@[simp] theorem Dev.mapMadc_paths (n : Nat) (f : Madc → Madc) : (d.mapMadc n f).paths = d.paths := rfl
@[simp] theorem Dev.mapMadc_fallbacks (n : Nat) (f : Madc → Madc) : (d.mapMadc n f).fallbacks = d.fallbacks := rfl
@[simp] theorem Dev.mapMadc_lanes (n : Nat) (f : Madc → Madc) : (d.mapMadc n f).lanes = d.lanes := rfl
@[simp] theorem Dev.mapMadc_hosts (n : Nat) (f : Madc → Madc) : (d.mapMadc n f).hosts = d.hosts := rfl
@[simp] theorem Dev.mapMadc_ws (n : Nat) (f : Madc → Madc) : (d.mapMadc n f).ws = d.ws := rfl
@[simp] theorem Dev.mapMadc_optics (n : Nat) (f : Madc → Madc) : (d.mapMadc n f).optics = { d.optics with madc := vset d.optics.madc n f } := rfl
@[simp] theorem Dev.mapMadc_tel (n : Nat) (f : Madc → Madc) : (d.mapMadc n f).tel = d.tel := rfl
@[simp] theorem Dev.mapMadc_tally (n : Nat) (f : Madc → Madc) : (d.mapMadc n f).tally = d.tally := rfl
@[simp] theorem Dev.mapMadc_pot (n : Nat) (f : Madc → Madc) : (d.mapMadc n f).pot = d.pot := rfl
@[simp] theorem Dev.mapMadc_vote (n : Nat) (f : Madc → Madc) : (d.mapMadc n f).vote = d.vote := rfl
@[simp] theorem Dev.mapMadc_sec (n : Nat) (f : Madc → Madc) : (d.mapMadc n f).sec = d.sec := rfl
@[simp] theorem Dev.mapMadc_power (n : Nat) (f : Madc → Madc) : (d.mapMadc n f).power = d.power := rfl
@[simp] theorem Dev.mapMadc_pg (n : Nat) (f : Madc → Madc) : (d.mapMadc n f).pg = d.pg := rfl
@[simp] theorem Dev.mapMadc_tu (n : Nat) (f : Madc → Madc) : (d.mapMadc n f).tu = d.tu := rfl
@[simp] theorem Dev.mapMadc_xc (n : Nat) (f : Madc → Madc) : (d.mapMadc n f).xc = d.xc := rfl
@[simp] theorem Dev.mapMadc_bist (n : Nat) (f : Madc → Madc) : (d.mapMadc n f).bist = d.bist := rfl
@[simp] theorem Dev.mapMadc_jtag (n : Nat) (f : Madc → Madc) : (d.mapMadc n f).jtag = d.jtag := rfl
@[simp] theorem Dev.mapMadc_writes (n : Nat) (f : Madc → Madc) : (d.mapMadc n f).writes = d.writes := rfl
@[simp] theorem Dev.mapMadc_bad (n : Nat) (f : Madc → Madc) : (d.mapMadc n f).bad = d.bad := rfl
@[simp] theorem Dev.rd_mapMadc (n : Nat) (f : Madc → Madc) (g : Fld) (c : Nat) : (d.mapMadc n f).rd g c = d.rd g c := rfl
@[simp] theorem Dev.lane_mapMadc (n : Nat) (f : Madc → Madc) (j : Nat) : (d.mapMadc n f).lane j = d.lane j := rfl

@[simp] theorem Dev.mapLoop_now (k : Nat) (f : Loop → Loop) : (d.mapLoop k f).now = d.now := rfl
@[simp] theorem Dev.mapLoop_free (k : Nat) (f : Loop → Loop) : (d.mapLoop k f).free = d.free := rfl
@[simp] theorem Dev.mapLoop_phase (k : Nat) (f : Loop → Loop) : (d.mapLoop k f).phase = d.phase := rfl
@[simp] theorem Dev.mapLoop_regs (k : Nat) (f : Loop → Loop) : (d.mapLoop k f).regs = d.regs := rfl
@[simp] theorem Dev.mapLoop_fw (k : Nat) (f : Loop → Loop) : (d.mapLoop k f).fw = d.fw := rfl
@[simp] theorem Dev.mapLoop_mgmt (k : Nat) (f : Loop → Loop) : (d.mapLoop k f).mgmt = d.mgmt := rfl
@[simp] theorem Dev.mapLoop_paths (k : Nat) (f : Loop → Loop) : (d.mapLoop k f).paths = d.paths := rfl
@[simp] theorem Dev.mapLoop_fallbacks (k : Nat) (f : Loop → Loop) : (d.mapLoop k f).fallbacks = d.fallbacks := rfl
@[simp] theorem Dev.mapLoop_lanes (k : Nat) (f : Loop → Loop) : (d.mapLoop k f).lanes = d.lanes := rfl
@[simp] theorem Dev.mapLoop_hosts (k : Nat) (f : Loop → Loop) : (d.mapLoop k f).hosts = d.hosts := rfl
@[simp] theorem Dev.mapLoop_ws (k : Nat) (f : Loop → Loop) : (d.mapLoop k f).ws = d.ws := rfl
@[simp] theorem Dev.mapLoop_optics (k : Nat) (f : Loop → Loop) : (d.mapLoop k f).optics = { d.optics with loops := vset d.optics.loops k f } := rfl
@[simp] theorem Dev.mapLoop_tel (k : Nat) (f : Loop → Loop) : (d.mapLoop k f).tel = d.tel := rfl
@[simp] theorem Dev.mapLoop_tally (k : Nat) (f : Loop → Loop) : (d.mapLoop k f).tally = d.tally := rfl
@[simp] theorem Dev.mapLoop_pot (k : Nat) (f : Loop → Loop) : (d.mapLoop k f).pot = d.pot := rfl
@[simp] theorem Dev.mapLoop_vote (k : Nat) (f : Loop → Loop) : (d.mapLoop k f).vote = d.vote := rfl
@[simp] theorem Dev.mapLoop_sec (k : Nat) (f : Loop → Loop) : (d.mapLoop k f).sec = d.sec := rfl
@[simp] theorem Dev.mapLoop_power (k : Nat) (f : Loop → Loop) : (d.mapLoop k f).power = d.power := rfl
@[simp] theorem Dev.mapLoop_pg (k : Nat) (f : Loop → Loop) : (d.mapLoop k f).pg = d.pg := rfl
@[simp] theorem Dev.mapLoop_tu (k : Nat) (f : Loop → Loop) : (d.mapLoop k f).tu = d.tu := rfl
@[simp] theorem Dev.mapLoop_xc (k : Nat) (f : Loop → Loop) : (d.mapLoop k f).xc = d.xc := rfl
@[simp] theorem Dev.mapLoop_bist (k : Nat) (f : Loop → Loop) : (d.mapLoop k f).bist = d.bist := rfl
@[simp] theorem Dev.mapLoop_jtag (k : Nat) (f : Loop → Loop) : (d.mapLoop k f).jtag = d.jtag := rfl
@[simp] theorem Dev.mapLoop_writes (k : Nat) (f : Loop → Loop) : (d.mapLoop k f).writes = d.writes := rfl
@[simp] theorem Dev.mapLoop_bad (k : Nat) (f : Loop → Loop) : (d.mapLoop k f).bad = d.bad := rfl
@[simp] theorem Dev.rd_mapLoop (k : Nat) (f : Loop → Loop) (g : Fld) (c : Nat) : (d.mapLoop k f).rd g c = d.rd g c := rfl
@[simp] theorem Dev.lane_mapLoop (k : Nat) (f : Loop → Loop) (j : Nat) : (d.mapLoop k f).lane j = d.lane j := rfl

@[simp] theorem Dev.mapBank_now (b : Nat) (f : Bank → Bank) : (d.mapBank b f).now = d.now := rfl
@[simp] theorem Dev.mapBank_free (b : Nat) (f : Bank → Bank) : (d.mapBank b f).free = d.free := rfl
@[simp] theorem Dev.mapBank_phase (b : Nat) (f : Bank → Bank) : (d.mapBank b f).phase = d.phase := rfl
@[simp] theorem Dev.mapBank_regs (b : Nat) (f : Bank → Bank) : (d.mapBank b f).regs = d.regs := rfl
@[simp] theorem Dev.mapBank_fw (b : Nat) (f : Bank → Bank) : (d.mapBank b f).fw = d.fw := rfl
@[simp] theorem Dev.mapBank_mgmt (b : Nat) (f : Bank → Bank) : (d.mapBank b f).mgmt = d.mgmt := rfl
@[simp] theorem Dev.mapBank_paths (b : Nat) (f : Bank → Bank) : (d.mapBank b f).paths = d.paths := rfl
@[simp] theorem Dev.mapBank_fallbacks (b : Nat) (f : Bank → Bank) : (d.mapBank b f).fallbacks = d.fallbacks := rfl
@[simp] theorem Dev.mapBank_lanes (b : Nat) (f : Bank → Bank) : (d.mapBank b f).lanes = d.lanes := rfl
@[simp] theorem Dev.mapBank_hosts (b : Nat) (f : Bank → Bank) : (d.mapBank b f).hosts = d.hosts := rfl
@[simp] theorem Dev.mapBank_ws (b : Nat) (f : Bank → Bank) : (d.mapBank b f).ws = { d.ws with banks := vset d.ws.banks b f } := rfl
@[simp] theorem Dev.mapBank_optics (b : Nat) (f : Bank → Bank) : (d.mapBank b f).optics = d.optics := rfl
@[simp] theorem Dev.mapBank_tel (b : Nat) (f : Bank → Bank) : (d.mapBank b f).tel = d.tel := rfl
@[simp] theorem Dev.mapBank_tally (b : Nat) (f : Bank → Bank) : (d.mapBank b f).tally = d.tally := rfl
@[simp] theorem Dev.mapBank_pot (b : Nat) (f : Bank → Bank) : (d.mapBank b f).pot = d.pot := rfl
@[simp] theorem Dev.mapBank_vote (b : Nat) (f : Bank → Bank) : (d.mapBank b f).vote = d.vote := rfl
@[simp] theorem Dev.mapBank_sec (b : Nat) (f : Bank → Bank) : (d.mapBank b f).sec = d.sec := rfl
@[simp] theorem Dev.mapBank_power (b : Nat) (f : Bank → Bank) : (d.mapBank b f).power = d.power := rfl
@[simp] theorem Dev.mapBank_pg (b : Nat) (f : Bank → Bank) : (d.mapBank b f).pg = d.pg := rfl
@[simp] theorem Dev.mapBank_tu (b : Nat) (f : Bank → Bank) : (d.mapBank b f).tu = d.tu := rfl
@[simp] theorem Dev.mapBank_xc (b : Nat) (f : Bank → Bank) : (d.mapBank b f).xc = d.xc := rfl
@[simp] theorem Dev.mapBank_bist (b : Nat) (f : Bank → Bank) : (d.mapBank b f).bist = d.bist := rfl
@[simp] theorem Dev.mapBank_jtag (b : Nat) (f : Bank → Bank) : (d.mapBank b f).jtag = d.jtag := rfl
@[simp] theorem Dev.mapBank_writes (b : Nat) (f : Bank → Bank) : (d.mapBank b f).writes = d.writes := rfl
@[simp] theorem Dev.mapBank_bad (b : Nat) (f : Bank → Bank) : (d.mapBank b f).bad = d.bad := rfl
@[simp] theorem Dev.rd_mapBank (b : Nat) (f : Bank → Bank) (g : Fld) (c : Nat) : (d.mapBank b f).rd g c = d.rd g c := rfl
@[simp] theorem Dev.lane_mapBank (b : Nat) (f : Bank → Bank) (j : Nat) : (d.mapBank b f).lane j = d.lane j := rfl

@[simp] theorem Dev.mapPath_now (p : Nat) (f : Path → Path) : (d.mapPath p f).now = d.now := rfl
@[simp] theorem Dev.mapPath_free (p : Nat) (f : Path → Path) : (d.mapPath p f).free = d.free := rfl
@[simp] theorem Dev.mapPath_phase (p : Nat) (f : Path → Path) : (d.mapPath p f).phase = d.phase := rfl
@[simp] theorem Dev.mapPath_regs (p : Nat) (f : Path → Path) : (d.mapPath p f).regs = d.regs := rfl
@[simp] theorem Dev.mapPath_fw (p : Nat) (f : Path → Path) : (d.mapPath p f).fw = d.fw := rfl
@[simp] theorem Dev.mapPath_mgmt (p : Nat) (f : Path → Path) : (d.mapPath p f).mgmt = d.mgmt := rfl
@[simp] theorem Dev.mapPath_paths (p : Nat) (f : Path → Path) : (d.mapPath p f).paths = d.paths.map fun q => if q.first = p then f q else q := rfl
@[simp] theorem Dev.mapPath_fallbacks (p : Nat) (f : Path → Path) : (d.mapPath p f).fallbacks = d.fallbacks := rfl
@[simp] theorem Dev.mapPath_lanes (p : Nat) (f : Path → Path) : (d.mapPath p f).lanes = d.lanes := rfl
@[simp] theorem Dev.mapPath_hosts (p : Nat) (f : Path → Path) : (d.mapPath p f).hosts = d.hosts := rfl
@[simp] theorem Dev.mapPath_ws (p : Nat) (f : Path → Path) : (d.mapPath p f).ws = d.ws := rfl
@[simp] theorem Dev.mapPath_optics (p : Nat) (f : Path → Path) : (d.mapPath p f).optics = d.optics := rfl
@[simp] theorem Dev.mapPath_tel (p : Nat) (f : Path → Path) : (d.mapPath p f).tel = d.tel := rfl
@[simp] theorem Dev.mapPath_tally (p : Nat) (f : Path → Path) : (d.mapPath p f).tally = d.tally := rfl
@[simp] theorem Dev.mapPath_pot (p : Nat) (f : Path → Path) : (d.mapPath p f).pot = d.pot := rfl
@[simp] theorem Dev.mapPath_vote (p : Nat) (f : Path → Path) : (d.mapPath p f).vote = d.vote := rfl
@[simp] theorem Dev.mapPath_sec (p : Nat) (f : Path → Path) : (d.mapPath p f).sec = d.sec := rfl
@[simp] theorem Dev.mapPath_power (p : Nat) (f : Path → Path) : (d.mapPath p f).power = d.power := rfl
@[simp] theorem Dev.mapPath_pg (p : Nat) (f : Path → Path) : (d.mapPath p f).pg = d.pg := rfl
@[simp] theorem Dev.mapPath_tu (p : Nat) (f : Path → Path) : (d.mapPath p f).tu = d.tu := rfl
@[simp] theorem Dev.mapPath_xc (p : Nat) (f : Path → Path) : (d.mapPath p f).xc = d.xc := rfl
@[simp] theorem Dev.mapPath_bist (p : Nat) (f : Path → Path) : (d.mapPath p f).bist = d.bist := rfl
@[simp] theorem Dev.mapPath_jtag (p : Nat) (f : Path → Path) : (d.mapPath p f).jtag = d.jtag := rfl
@[simp] theorem Dev.mapPath_writes (p : Nat) (f : Path → Path) : (d.mapPath p f).writes = d.writes := rfl
@[simp] theorem Dev.mapPath_bad (p : Nat) (f : Path → Path) : (d.mapPath p f).bad = d.bad := rfl
@[simp] theorem Dev.rd_mapPath (p : Nat) (f : Path → Path) (g : Fld) (c : Nat) : (d.mapPath p f).rd g c = d.rd g c := rfl
@[simp] theorem Dev.lane_mapPath (p : Nat) (f : Path → Path) (j : Nat) : (d.mapPath p f).lane j = d.lane j := rfl

end Sys2Proof.Machine
end

