-- ==== Sys2Proof/Laws/Ops.lean ====
section
/-! SUPPORT. The laws of the stores: a read after a write of a register field or of a memory byte, the canonical form of the
memory under every memory operation, and what the wrappers over a field write come to. -/

namespace Sys2Proof.Machine

/-! ## The field store -/

theorem ffGet_ffPut_same (l : FieldFile) (q v : Nat) : ffGet (ffPut l q v) q = some v := by
  induction l with
  | nil => simp [ffPut, ffGet]
  | cons e t ih =>
    obtain ⟨k, w⟩ := e
    by_cases hk : k = q
    · simp [ffPut, ffGet, hk]
    · by_cases hq : q < k
      · simp [ffPut, ffGet, hk, hq]
      · simp [ffPut, ffGet, hk, hq, ih]

theorem ffGet_ffPut_ne (l : FieldFile) {p q : Nat} (v : Nat) (h : p ≠ q) : ffGet (ffPut l q v) p = ffGet l p := by
  have h' : ¬ q = p := fun e => h e.symm
  induction l with
  | nil => simp [ffPut, ffGet, h']
  | cons e t ih =>
    obtain ⟨k, w⟩ := e
    by_cases hk : k = q
    · subst hk; simp [ffPut, ffGet, h']
    · by_cases hq : q < k
      · simp [ffPut, ffGet, hk, hq, h']
      · simp [ffPut, ffGet, hk, hq, ih]

theorem ffGet_ffDel_same (l : FieldFile) (q : Nat) : ffGet (ffDel l q) q = none := by
  induction l with
  | nil => rfl
  | cons e t ih =>
    obtain ⟨k, w⟩ := e
    by_cases hk : k = q
    · subst hk; simpa [ffDel] using ih
    · simpa [ffDel, ffGet, hk] using ih

theorem ffGet_ffDel_ne (l : FieldFile) {p q : Nat} (h : p ≠ q) : ffGet (ffDel l q) p = ffGet l p := by
  induction l with
  | nil => rfl
  | cons e t ih =>
    obtain ⟨k, w⟩ := e
    by_cases hk : k = q
    · subst hk
      have h' : ¬ k = p := fun e => h e.symm
      simpa [ffDel, ffGet, h'] using ih
    · by_cases hp : k = p
      · subst hp; simp [ffDel, ffGet, hk]
      · simpa [ffDel, ffGet, hk, hp] using ih

theorem putField_same (r : FieldFile) (f : Fld) (ch v : Nat) :
    (ffGet (putField r f ch v) (f.key ch)).getD (resetOf f ch) = v % 2 ^ f.w := by
  unfold putField
  split
  · simp [ffGet_ffDel_same, *]
  · simp [ffGet_ffPut_same]

theorem putField_ne (r : FieldFile) (f : Fld) (ch v : Nat) {q : Nat} (h : q ≠ f.key ch) :
    ffGet (putField r f ch v) q = ffGet r q := by
  unfold putField
  split
  · exact ffGet_ffDel_ne r h
  · exact ffGet_ffPut_ne r _ h

/-- A field reads what was written, modulo its width. -/
theorem rd_wr_same (d : Dev) (f : Fld) (ch v : Nat) : (d.wr f ch v).rd f ch = v % 2 ^ f.w :=
  putField_same d.regs f ch v

/-- A write leaves every other field's copy alone. -/
theorem rd_wr_ne (d : Dev) (f g : Fld) (ch c v : Nat) (h : g.key c ≠ f.key ch) : (d.wr f ch v).rd g c = d.rd g c := by
  simp only [Dev.rd, Dev.wr_regs, putField_ne _ _ _ _ h]

/-- Two fields of the map, or two channels, have different keys. -/
theorem key_ne {f g : Fld} {c c' : Nat} (hf : f.addr * 32 + f.lo < 2 ^ 26) (hg : g.addr * 32 + g.lo < 2 ^ 26)
    (h : c ≠ c' ∨ f.addr * 32 + f.lo ≠ g.addr * 32 + g.lo) : f.key c ≠ g.key c' := by
  unfold Fld.key
  omega

/-- Two different fields of the map, as a check that evaluates. -/
def fldNe (f g : Fld) : Bool :=
  decide (f.addr * 32 + f.lo < 2 ^ 26) && decide (g.addr * 32 + g.lo < 2 ^ 26) && f.addr * 32 + f.lo != g.addr * 32 + g.lo

/-- A write of one field leaves every copy of a different field alone. -/
theorem rd_wr_fld (d : Dev) (f g : Fld) (ch c v : Nat) (h : fldNe g f = true) : (d.wr f ch v).rd g c = d.rd g c := by
  simp only [fldNe, Bool.and_eq_true, decide_eq_true_eq, bne_iff_ne] at h
  exact rd_wr_ne d f g ch c v (key_ne h.1.1 h.1.2 (.inr h.2))

/-- A write of one channel's copy leaves the other channels' copies alone. -/
theorem rd_wr_chan (d : Dev) (f : Fld) {ch c : Nat} (v : Nat) (hf : f.addr * 32 + f.lo < 2 ^ 26) (h : c ≠ ch) :
    (d.wr f ch v).rd f c = d.rd f c :=
  rd_wr_ne d f f ch c v (key_ne hf hf (.inl h))

/-- A field that holds no PW_DON bit. -/
def donFree (f : Fld) : Bool :=
  [F.PW_DON0_LRXA, F.PW_DON0_LADC, F.PW_DON0_LRXD, F.PW_DON0_LTXD, F.PW_DON1_LDAC, F.PW_DON1_HRX, F.PW_DON1_HTXL,
    F.PW_DON2_HTXH, F.PW_DON2_SYS].all fun g => fldNe g f

/-- A write elsewhere powers no domain up or down. -/
theorem domOn_wr (d : Dev) (f : Fld) (ch v i : Nat) (h : donFree f = true) : (d.wr f ch v).domOn i = d.domOn i := by
  simp only [donFree, List.all_cons, List.all_nil, Bool.and_true, Bool.and_eq_true] at h
  obtain ⟨h0, h1, h2, h3, h4, h5, h6, h7, h8⟩ := h
  unfold Dev.domOn donFld
  repeat' split
  all_goals simp only [rd_wr_fld, *]

/-- A field depends on the field store alone. -/
theorem rd_congr {d e : Dev} (h : d.regs = e.regs) (f : Fld) (ch : Nat) : d.rd f ch = e.rd f ch := by
  simp only [Dev.rd, h]

theorem set_eq_wr (d : Dev) (f : Fld) (ch : Nat) : d.set f ch = d.wr f ch 1 := rfl

theorem clr_eq_wr (d : Dev) (f : Fld) (ch : Nat) : d.clr f ch = d.wr f ch 0 := rfl

theorem inc_eq_wr (d : Dev) (f : Fld) (ch n : Nat) : d.inc f ch n = d.wr f ch (d.rd f ch + n) := rfl

/-- An unpinned field takes its background writer's value. -/
theorem bg_of_not_pinned {d : Dev} {f : Fld} {ch : Nat} (h : d.pinned f ch = false) (v : Nat) : d.bg f ch v = d.wr f ch v := by
  simp [Dev.bg, h]

/-- A pinned field keeps its value. -/
theorem bg_of_pinned {d : Dev} {f : Fld} {ch : Nat} (h : d.pinned f ch = true) (v : Nat) : d.bg f ch v = d := by
  simp [Dev.bg, h]

/-! ## Memory -/

theorem memGet_memIns_same (m : Memory) (a : Nat) (v : Byte) : memGet (memIns m a v) a = v := by
  induction m with
  | nil => simp [memIns, memGet]
  | cons e t ih =>
    obtain ⟨k, w⟩ := e
    by_cases hk : k = a
    · simp [memIns, memGet, hk]
    · by_cases hq : a < k
      · simp [memIns, memGet, hk, hq]
      · simp [memIns, memGet, hk, hq, ih]

theorem memGet_memIns_ne (m : Memory) {a b : Nat} (v : Byte) (h : b ≠ a) : memGet (memIns m a v) b = memGet m b := by
  have h' : ¬ a = b := fun e => h e.symm
  induction m with
  | nil => simp [memIns, memGet, h']
  | cons e t ih =>
    obtain ⟨k, w⟩ := e
    by_cases hk : k = a
    · subst hk; simp [memIns, memGet, h']
    · by_cases hq : a < k
      · simp [memIns, memGet, hk, hq, h']
      · simp [memIns, memGet, hk, hq, ih]

theorem memGet_memDel_same (m : Memory) (a : Nat) : memGet (memDel m a) a = 0 := by
  induction m with
  | nil => rfl
  | cons e t ih =>
    obtain ⟨k, w⟩ := e
    by_cases hk : k = a
    · subst hk; simpa [memDel] using ih
    · simpa [memDel, memGet, hk] using ih

theorem memGet_memDel_ne (m : Memory) {a b : Nat} (h : b ≠ a) : memGet (memDel m a) b = memGet m b := by
  induction m with
  | nil => rfl
  | cons e t ih =>
    obtain ⟨k, w⟩ := e
    by_cases hk : k = a
    · subst hk
      have h' : ¬ k = b := fun e => h e.symm
      simpa [memDel, memGet, h'] using ih
    · by_cases hb : k = b
      · subst hb; simp [memDel, memGet, hk]
      · simpa [memDel, memGet, hk, hb] using ih

/-- A byte reads what was written. -/
theorem memGet_memPut_same (m : Memory) (a : Nat) (v : Byte) : memGet (memPut m a v) a = v := by
  unfold memPut
  split
  · rw [memGet_memDel_same]; exact Eq.symm ‹v = 0›
  · exact memGet_memIns_same m a v

/-- A write leaves every other byte alone. -/
theorem memGet_memPut_ne (m : Memory) {a b : Nat} (v : Byte) (h : b ≠ a) : memGet (memPut m a v) b = memGet m b := by
  unfold memPut
  split
  · exact memGet_memDel_ne m h
  · exact memGet_memIns_ne m v h

theorem wfFrom_mono {m : Memory} {lo hi : Nat} (h : lo ≤ hi) (w : Memory.wfFrom hi m = true) : Memory.wfFrom lo m = true := by
  cases m with
  | nil => rfl
  | cons e t =>
    obtain ⟨k, v⟩ := e
    simp only [Memory.wfFrom, Bool.and_eq_true, decide_eq_true_eq] at w ⊢
    exact ⟨⟨Nat.le_trans h w.1.1, w.1.2⟩, w.2⟩

theorem wfFrom_filter (p : Host.Cell → Bool) (m : Memory) (lo : Nat) (w : Memory.wfFrom lo m = true) :
    Memory.wfFrom lo (m.filter p) = true := by
  induction m generalizing lo with
  | nil => rfl
  | cons e t ih =>
    obtain ⟨k, v⟩ := e
    simp only [Memory.wfFrom, Bool.and_eq_true, decide_eq_true_eq] at w
    have ht := ih (k + 1) w.2
    by_cases hp : p (k, v) = true
    · simp [hp, Memory.wfFrom, w.1.1, ht]
      exact bne_iff_ne.mp w.1.2
    · simpa [hp] using wfFrom_mono (by omega : lo ≤ k + 1) ht

theorem wfFrom_memIns (m : Memory) (a lo : Nat) (v : Byte) (hv : v ≠ 0) (hl : lo ≤ a) (w : Memory.wfFrom lo m = true) :
    Memory.wfFrom lo (memIns m a v) = true := by
  have hb : (v != 0) = true := bne_iff_ne.mpr hv
  induction m generalizing lo with
  | nil => simp only [memIns, Memory.wfFrom, hb, hl, decide_true, Bool.and_self]
  | cons e t ih =>
    obtain ⟨k, x⟩ := e
    simp only [Memory.wfFrom, Bool.and_eq_true, decide_eq_true_eq] at w
    by_cases hk : k = a
    · subst hk; simp only [memIns, if_true, Memory.wfFrom, hb, hl, w.2, decide_true, Bool.and_self]
    · by_cases hq : a < k
      · simp only [memIns, hk, hq, if_true, if_false, Memory.wfFrom, hb, hl, w.1.2, w.2, Nat.succ_le_of_lt hq, decide_true,
          Bool.and_self]
      · simp only [memIns, hk, hq, if_false, Memory.wfFrom, w.1.1, w.1.2, ih (k + 1) (by omega) w.2, decide_true, Bool.and_self]

/-- Writing a byte keeps the canonical form. -/
theorem wf_memPut {m : Memory} (a : Nat) (v : Byte) (w : m.wf = true) : (memPut m a v).wf = true := by
  unfold memPut
  split
  · exact wfFrom_filter _ m 0 w
  · exact wfFrom_memIns m a 0 v ‹_› (Nat.zero_le a) w

/-- Clearing a range keeps the canonical form. -/
theorem wf_memClear {m : Memory} (lo hi : Nat) (w : m.wf = true) : (memClear m lo hi).wf = true := wfFrom_filter _ m 0 w

/-- Writing a byte string keeps the canonical form. -/
theorem wf_memPutBytes {m : Memory} (a : Nat) (l : List Byte) (w : m.wf = true) : (memPutBytes m a l).wf = true := by
  induction l generalizing m a with
  | nil => exact w
  | cons b t ih => exact ih (a + 1) (wf_memPut a b w)

/-- Writing a little-endian number keeps the canonical form. -/
theorem wf_memPutLe {m : Memory} (n a v : Nat) (w : m.wf = true) : (memPutLe n m a v).wf = true := by
  induction n generalizing m a v with
  | zero => exact w
  | succ n ih => exact ih (a + 1) (v / 256) (wf_memPut a _ w)

/-- Writing pattern RAM keeps the canonical form. -/
theorem wf_ramWrite (p : Pg) {m : Memory} (off : Nat) (l : List Byte) (w : m.wf = true) : (p.ramWrite m off l).wf = true := by
  induction l generalizing m off with
  | nil => exact w
  | cons b t ih => exact ih (off + 1) (wf_memPut _ _ w)

end Sys2Proof.Machine
end

