-- ==== Sys2Proof/Laws/Kci.lean ====
section
/-! SUPPORT. The one path of every KCI command: what it comes to where the command is admitted, one lemma per answer. -/

namespace Sys2Proof.Machine

/-- An admitted command runs its body. -/
theorem kci_of_admits {d : Dev} {src : Src} {op : Nat} {cls : Cls} {lanes fam : Nat} (body : Dev → Res)
    (h : d.admits src op cls lanes fam = true) :
    d.kci src op cls body lanes fam = (d.arrives op).runBody ((d.arrives op).entry src op cls lanes fam) body := by
  unfold Dev.admits at h
  simp only [Bool.and_eq_true, Bool.not_eq_true', beq_iff_eq, Option.isNone_iff_eq_none] at h
  obtain ⟨⟨⟨⟨hp, ho⟩, hq⟩, hd⟩, ha⟩ := h
  unfold Dev.kci
  simp only [hp, ho, hq, hd, ha, Bool.not_true, Bool.or_false, Bool.false_eq_true, if_false]
  rfl

/-- An admitted command goes on with what is then due. -/
theorem kciThen_of_admits {d : Dev} {src : Src} {op : Nat} {cls : Cls} {lanes fam : Nat} (body : Dev → Res) (next : Dev → Dev)
    (h : d.admits src op cls lanes fam = true) :
    d.kciThen src op cls body lanes fam next =
      next ((d.arrives op).runBody ((d.arrives op).entry src op cls lanes fam) body) := by
  simp only [Dev.kciThen, h, if_true, kci_of_admits body h]

theorem runBody_ok {x y : Dev} {e : Accepted} {body : Dev → Res} {p : List Byte} (h : body x = .ok y p) :
    x.runBody e body = x.completes e y p := by
  simp only [Dev.runBody, h]

theorem runBody_no {x : Dev} {e : Accepted} {body : Dev → Res} {st : Status} (h : body x = .no st) :
    x.runBody e body = x.declines e st := by
  simp only [Dev.runBody, h]

theorem runBody_hold {x y : Dev} {e : Accepted} {body : Dev → Res} {w : Wait} (h : body x = .hold y w) :
    x.runBody e body = y.holds e w := by
  simp only [Dev.runBody, h]

theorem runBody_busy {x : Dev} {e : Accepted} {body : Dev → Res} {r : Nat} (h : body x = .busy r) :
    x.runBody e body = x.respondBusy e.src e.op r := by
  simp only [Dev.runBody, h]

/-- An admitted command whose body answers OK completes. -/
theorem kci_completes {d : Dev} {src : Src} {op : Nat} {cls : Cls} {lanes fam : Nat} {y : Dev}
    {body : Dev → Res} {p : List Byte} (h : d.admits src op cls lanes fam = true) (hb : body (d.arrives op) = .ok y p) :
    d.kci src op cls body lanes fam = (d.arrives op).completes ((d.arrives op).entry src op cls lanes fam) y p := by
  rw [kci_of_admits body h, runBody_ok hb]

/-- An admitted command whose body turns it away has no effect but its response. -/
theorem kci_declines {d : Dev} {src : Src} {op : Nat} {cls : Cls} {lanes fam : Nat}
    {body : Dev → Res} {st : Status} (h : d.admits src op cls lanes fam = true) (hb : body (d.arrives op) = .no st) :
    d.kci src op cls body lanes fam = (d.arrives op).declines ((d.arrives op).entry src op cls lanes fam) st := by
  rw [kci_of_admits body h, runBody_no hb]

/-- An admitted command whose body holds it is listed as outstanding. -/
theorem kci_holds {d : Dev} {src : Src} {op : Nat} {cls : Cls} {lanes fam : Nat} {y : Dev}
    {body : Dev → Res} {w : Wait} (h : d.admits src op cls lanes fam = true) (hb : body (d.arrives op) = .hold y w) :
    d.kci src op cls body lanes fam = y.holds ((d.arrives op).entry src op cls lanes fam) w := by
  rw [kci_of_admits body h, runBody_hold hb]

/-- Arriving touches neither registers nor lanes. -/
@[simp] theorem arrives_regs (d : Dev) (op : Nat) : (d.arrives op).regs = d.regs := by unfold Dev.arrives; split <;> rfl
@[simp] theorem arrives_lanes (d : Dev) (op : Nat) : (d.arrives op).lanes = d.lanes := by unfold Dev.arrives; split <;> rfl
@[simp] theorem arrives_mgmt (d : Dev) (op : Nat) : (d.arrives op).mgmt = d.mgmt := by unfold Dev.arrives; split <;> rfl
@[simp] theorem arrives_phase (d : Dev) (op : Nat) : (d.arrives op).phase = d.phase := by unfold Dev.arrives; split <;> rfl
@[simp] theorem arrives_now (d : Dev) (op : Nat) : (d.arrives op).now = d.now := by unfold Dev.arrives; split <;> rfl
@[simp] theorem arrives_rd (d : Dev) (op : Nat) (f : Fld) (c : Nat) : (d.arrives op).rd f c = d.rd f c := by
  unfold Dev.rd; rw [arrives_regs]

@[simp] theorem arrives_expert (d : Dev) (op : Nat) : (d.arrives op).expert = d.expert := by unfold Dev.arrives; split <;> rfl

/-- What `lift` answers. -/
theorem lift_next (f : Dev → Dev) (s : State) : lift f s = .next { s with dev := f s.dev } := rfl

/-- What `liftMem` answers. -/
theorem liftMem_next (f : Memory → Dev → Memory × Dev) (s : State) :
    liftMem f s = .next { s with mem := (f s.mem s.dev).1, dev := (f s.mem s.dev).2 } := rfl

end Sys2Proof.Machine
end

