-- ==== Sys2Proof/Safety.lean ====
section
/-! DEFINITION. What a safe run is: every step answers a next state, and the memory keeps its canonical form. -/

namespace Sys2Proof.Machine

/-- A step from the state answers a next state. -/
def State.runs (s : State) : Prop := ∃ t, step s = .next t

/-- The form every reachable state has: the memory lists rising addresses and no zero byte. -/
def State.inv (s : State) : Prop := Memory.wf s.mem = true

/-- The machine with another device: the queue and the memory as before. -/
def State.put (s : State) (d : Dev) : State := { s with dev := d }

/-- The source, opcode and class of a KCI command (the KCI tables of every chapter); none for every other command. -/
def kciHead : Instr → Option (Src × Nat × Cls)
  | .appStatGet src => some (src, 0xAC00, .q)
  | .appSelect src _ _ _ _ _ _ _ => some (src, 0xAC01, .d)
  | .appDeact src _ => some (src, 0xAC02, .d)
  | .lineAfeGet src _ => some (src, 0xA130, .q)
  | .lineAfeSet src _ _ _ _ _ _ => some (src, 0xA131, .c)
  | .lineAdcTrimGet src _ _ _ => some (src, 0xA132, .q)
  | .lineAdcTrimSet src _ _ _ _ _ _ => some (src, 0xA133, .c)
  | .lineAdcCapture src _ _ _ _ _ => some (src, 0xA134, .c)
  | .lineAdcRead src _ _ _ _ => some (src, 0xA135, .q)
  | .lineAdcStatGet src _ => some (src, 0xA136, .q)
  | .lineRxStatGet src _ => some (src, 0xA140, .q)
  | .lineRxCfgSet src _ _ _ _ _ _ _ _ _ => some (src, 0xA141, .c)
  | .lineFfeGet src _ => some (src, 0xA142, .q)
  | .lineFfeSet src _ _ _ _ => some (src, 0xA143, .c)
  | .lineDecHistGet src _ => some (src, 0xA144, .q)
  | .lineTxGet src _ => some (src, 0xA150, .q)
  | .lineTxSet src _ _ _ _ _ _ => some (src, 0xA151, .c)
  | .lineTxFfeSet src _ _ _ _ _ => some (src, 0xA152, .c)
  | .lineTxDpdSet src _ _ _ _ _ _ _ _ _ => some (src, 0xA153, .c)
  | .hostStatGet src _ => some (src, 0xA200, .q)
  | .hostEqGet src _ => some (src, 0xA201, .q)
  | .hostEqSet src _ _ _ _ _ _ _ _ _ => some (src, 0xA202, .c)
  | .lineBrupGet src _ => some (src, 0xA110, .q)
  | .lineBrupCfgSet src _ _ _ _ _ _ _ _ _ _ => some (src, 0xA111, .c)
  | .lineFallbackSet src _ _ _ _ => some (src, 0xA112, .c)
  | .lineRetrain src _ => some (src, 0xA113, .d)
  | .linePtnrSend src _ _ _ _ => some (src, 0xA160, .c)
  | .linePtnrRecv src _ _ _ _ => some (src, 0xA161, .q)
  | .linePtnrStatGet src _ => some (src, 0xA162, .q)
  | .sysWsStatGet src => some (src, 0xA040, .q)
  | .sysWsCtl src _ => some (src, 0xA041, .c)
  | .lineCalGet src _ => some (src, 0xA170, .q)
  | .lineCalSet src _ _ _ => some (src, 0xA171, .c)
  | .optBiasGet src _ => some (src, 0xA300, .q)
  | .optBiasSet src _ _ _ _ _ _ _ _ => some (src, 0xA301, .c)
  | .optNcoSet src _ _ _ _ _ _ => some (src, 0xA310, .c)
  | .optMadcRead src _ _ _ _ => some (src, 0xA320, .c)
  | .optMadcCal src _ => some (src, 0xA321, .c)
  | .optLoopGet src _ => some (src, 0xA330, .q)
  | .optLoopSet src _ _ _ _ _ _ _ _ _ _ _ _ _ _ _ _ _ _ => some (src, 0xA331, .c)
  | .optOspiXfer src _ _ _ => some (src, 0xA340, .c)
  | .patSegSet src _ _ _ _ _ => some (src, 0xA400, .c)
  | .patSeqSet src _ _ _ _ _ => some (src, 0xA401, .c)
  | .patRamWrite src _ _ _ _ => some (src, 0xA402, .c)
  | .patRun src _ _ _ => some (src, 0xA403, .c)
  | .patMkSet src _ _ _ _ _ _ => some (src, 0xA404, .c)
  | .patSyncCal src _ _ => some (src, 0xA405, .c)
  | .patStatGet src => some (src, 0xA406, .q)
  | .sysIdGet src => some (src, 0xA000, .q)
  | .sysReset src => some (src, 0xA001, .c)
  | .sysLegacySet src _ => some (src, 0xA010, .c)
  | .sysLegacyCovGet src _ => some (src, 0xA011, .q)
  | .sysAppletLoad src _ _ _ _ _ => some (src, 0xA020, .f)
  | .sysAppletCtl src _ _ => some (src, 0xA021, .c)
  | .sysAppletList src => some (src, 0xA022, .q)
  | .expUnlock src _ => some (src, 0xAA00, .c)
  | .expLock src => some (src, 0xAA01, .c)
  | .expRegRd src _ _ => some (src, 0xAA10, .q)
  | .expRegWr src _ _ _ => some (src, 0xAA11, .c)
  | .expPin src _ _ _ _ _ _ => some (src, 0xAA20, .c)
  | .expPinList src _ => some (src, 0xAA21, .q)
  | .potStatGet src => some (src, 0xA700, .q)
  | .potQuery src _ _ _ _ _ => some (src, 0xA701, .s)
  | .potRead src _ _ _ => some (src, 0xA702, .s)
  | .potSnap src _ _ _ => some (src, 0xA703, .s)
  | .potConfWrite src _ _ _ => some (src, 0xA704, .s)
  | .potConfRead src _ _ _ => some (src, 0xA705, .s)
  | .potExport src _ _ _ => some (src, 0xA706, .c)
  | .telLaneGet src _ _ => some (src, 0xA900, .q)
  | .telColGet src _ _ => some (src, 0xA910, .q)
  | .telTallySet src _ _ _ _ _ _ => some (src, 0xA920, .c)
  | .telTallyGet src _ _ => some (src, 0xA921, .q)
  | .timeTbGet src _ => some (src, 0xA500, .q)
  | .timeTbCfg src _ _ _ _ _ _ => some (src, 0xA501, .c)
  | .timeTbStep src _ _ _ _ _ _ => some (src, 0xA502, .c)
  | .timeOffset src _ _ => some (src, 0xA503, .c)
  | .timePpsSet src _ _ _ _ _ _ => some (src, 0xA504, .c)
  | .timeLinkGet src _ => some (src, 0xA510, .q)
  | .timeLinkSet src _ _ _ _ _ _ _ _ _ => some (src, 0xA511, .c)
  | .timeStampRead src _ => some (src, 0xA520, .q)
  | .twinStatGet src => some (src, 0xA600, .q)
  | .twinCfgSet src _ _ _ _ _ _ _ => some (src, 0xA601, .c)
  | .twinAttach src => some (src, 0xA602, .d)
  | .twinDetach src => some (src, 0xA603, .c)
  | .twinSwap src => some (src, 0xA604, .c)
  | .twinRelay src frame => some (src, 0xA610, (relayCls (fieldAt frame 0 2)).getD .c)
  | .twinUpgrade src _ => some (src, 0xA620, .c)
  | .twinFaultSend src => some (src, 0xA630, .c)
  | .secStatGet src => some (src, 0xA800, .q)
  | .secAttest src _ => some (src, 0xA810, .s)
  | .secAttestRead src _ _ => some (src, 0xA811, .q)
  | .secCertRead src _ _ => some (src, 0xA812, .q)
  | .secChallenge src => some (src, 0xA813, .q)
  | .secLcAdvance src _ => some (src, 0xA820, .s)
  | .secKeygen src => some (src, 0xA821, .c)
  | .secRootSet src _ => some (src, 0xA822, .s)
  | .secTicketLoad src _ _ _ _ _ => some (src, 0xA830, .f)
  | .sysPwrGet src => some (src, 0xA050, .q)
  | .sysPwrSet src _ _ _ => some (src, 0xA051, .c)
  | .bistRun src _ _ _ _ => some (src, 0xAB00, .c)
  | .bistStatGet src => some (src, 0xAB01, .q)
  | .bistResultGet src _ => some (src, 0xAB02, .q)
  | .bistAbort src => some (src, 0xAB03, .c)
  | _ => none

end Sys2Proof.Machine
end

