-- ==== Sys2Proof/Laws/Step.lean ====
section
/-! SUPPORT. What a step is on an empty queue and on a queue with a command in front. -/

namespace Sys2Proof.Machine

/-- On an empty queue a step is one tick. -/
theorem step_of_empty {s : State} (h : s.pending = []) : step s = .next { s with dev := s.dev.tick } := by
  simp only [step, h]

/-- A command just put in front is the one that runs, on the state it was put into. -/
theorem step_push (s : State) (c : Instr) : step (s.push c) = exec c s := rfl

@[simp] theorem State.put_dev (s : State) (d : Dev) : (s.put d).dev = d := rfl
@[simp] theorem State.put_mem (s : State) (d : Dev) : (s.put d).mem = s.mem := rfl
@[simp] theorem State.put_pending (s : State) (d : Dev) : (s.put d).pending = s.pending := rfl

/-- A lifted effect replaces the device and nothing else. -/
theorem lift_put (f : Dev → Dev) (s : State) : lift f s = .next (s.put (f s.dev)) := rfl

/-- Reset memory is in canonical form. -/
theorem reset_inv : State.reset.inv := rfl

end Sys2Proof.Machine
end

