-- ==== Sys2Proof/Certificates/Slice0/Obligations.lean ====
section
/-! DEFINITION. The statements for the provers, family by family. Where a statement speaks of a KCI command that is admitted, it
means `Dev.admits`: the device and the command's path meet the admission of R271 to R280. The command then runs on the device
`Dev.arrives` with the entry `Dev.entry`, and completes, is turned away, or is held. -/

open Sys2Proof Sys2Proof.Machine

/-- For every command c and state s, the step of s with c at the front of its queue is exec of c on s with the queue's rest. With
nothing waiting a step is one tick of the time unit's clock (the model's choice, log entry 1), which advances the time by one and
leaves memory and the queue as they are. -/
def Obligations.StepRunsTheFront : Prop :=
  ∀ s : State,
    (∀ c : Instr, step { s with pending := c :: s.pending } = exec c s) ∧
    (s.pending = [] → step s = .next (s.put s.dev.tick))

/-- Reset has RESET_L low, no command waiting and no byte of memory listed, the memory in canonical form; every field of every
register reads its Reset value (the table's; a value the tables do not give is the model's, as the log names); nothing is outstanding
and the response queue is empty. -/
def Obligations.ResetState : Prop :=
  State.reset.inv ∧ State.reset.pending = [] ∧ State.reset.mem = [] ∧ State.reset.dev.phase = .held ∧
    (∀ (f : Fld) (ch : Nat), State.reset.dev.rd f ch = resetOf f ch) ∧
    State.reset.dev.mgmt.outst = [] ∧ State.reset.dev.mgmt.rspq = [] ∧ (∀ a, memGet State.reset.mem a = 0) ∧
    (∀ i : Nat, i < 80 → State.reset.dev.domOn i = (resetOf (donFld i).1 0).testBit (donFld i).2)

/-- From every state whose memory is in canonical form (rising addresses, no zero byte listed), whatever is waiting: the step answers
a next state, never a fault or a refusal; the front command is gone from the queue and nothing else is; and the memory of the next
state is in canonical form again. -/
def Obligations.EveryStepKeepsMemory : Prop :=
  ∀ s : State, s.inv → ∃ t : State, step s = .next t ∧ t.pending = s.pending.drop 1 ∧ t.inv

/-- A command after which memory differs is one of these: PAT.RAM.WRITE, the memory initialisations (SRAM_INIT_DONE, the wake of
WHET), a self-test step, a store of the Whetstone, its restart, a register write that reaches a memory
window (a write row, REG_WRITE, RDREG and WRREG with their posted writes, WRREG_COMPLETE, an RREQ cell), EXP.REG.WR or EXP.PIN, also where one of
the three KCI commands comes in a frame of KCI_WRITE, of a CDB command ID or of the twin. Every other
command leaves every byte as it was. -/
def Obligations.MemoryFrame : Prop :=
  ∀ (c : Instr) (s t : State), exec c s = .next t → t.mem ≠ s.mem →
    (∃ a b d e f, c = .patRamWrite a b d e f) ∨ c = .sramInitDone ∨ c = .domainWakeDone ⟨dWHET, by decide⟩ ∨ (∃ m, c = .bistStep m) ∨
    c = .wsRestartDone ∨ (∃ w a p r e, c = .st w a p r e) ∨ (∃ a v w, c = .registerWrite a v w) ∨
    (∃ a v w, c = .wsMemoryWindowAccess a v (some w)) ∨ (∃ a l, c = .regWrite a l) ∨ (∃ a i, c = .rdreg a i) ∨ (∃ a i, c = .wrreg a i) ∨
    c = .wrregComplete ∨ (∃ q b, c = .rreqCell q b) ∨
    (∃ a b d e, c = .expRegWr a b d e) ∨ (∃ a b d e f g h, c = .expPin a b d e f g h) ∨
    (∃ fr, c = .kciWrite fr ∧ fieldAt fr 0 2 ∈ [0xA402, 0xAA11, 0xAA20]) ∨
    (∃ i op l k, c = .cdbCommandIdWrite i op l k ∧ op.toNat ∈ [0xA402, 0xAA11, 0xAA20]) ∨
    (∃ q fr, c = .mailboxRelayCell q (.command fr) ∧ fieldAt fr 0 2 ∈ [0xA402, 0xAA11, 0xAA20])

/-- For every command of the KCI tables (`kciHead` names its source, opcode and class): outside
the boot ROM and firmware, or on a path that is closed, it changes nothing at all. On an open path, from the SPI host with 8 responses
waiting it only sets REQDROP. Under the boot ROM any command but SYS.ID.GET is answered NOT_READY. Under firmware an applet or
the twin that may not give the opcode is answered DENIED; a command of class Q, C, S or F whose depth is reached is answered BUSY with RETRY,
and one that neither a depth nor a conflict stands against is admitted (`Dev.admits`, on which every KCI statement rests). -/
def Obligations.KciAdmission : Prop :=
  ∀ (c : Instr) (s : State) (src : Src) (op : Nat) (cls : Cls), kciHead c = some (src, op, cls) →
    (s.dev.phase ≠ .fw ∧ s.dev.phase ≠ .rom ∧ s.dev.phase ≠ .romFailed ∨ s.dev.pathOpen src = false → exec c s = .next s) ∧
    (s.dev.phase = .fw ∨ s.dev.phase = .rom ∨ s.dev.phase = .romFailed → s.dev.pathOpen src = true →
      (srcSpi src = true → 8 ≤ s.dev.mgmt.rspq.length →
        exec c s = .next (s.put (s.dev.mapMgmt fun m => { m with reqdrop := true }))) ∧
      (srcSpi src = false ∨ s.dev.mgmt.rspq.length < 8 →
        (s.dev.phase ≠ .fw → op ≠ 0xA000 → exec c s = .next (s.put (s.dev.respond src op .notReady []))) ∧
        (s.dev.phase = .fw → srcHost src = false → appletDenied op cls = true →
          exec c s = .next (s.put (s.dev.respond src op .denied []))) ∧
        (s.dev.phase = .fw → (srcHost src = true ∨ appletDenied op cls = false) →
          (∀ retry, cls ≠ .d → s.dev.admission src cls 0 0 = some retry →
            exec c s = .next (s.put ((s.dev.arrives op).respondBusy src op retry))) ∧
          (∀ lanes fam, s.dev.admission src cls lanes fam = none → s.dev.admits src op cls lanes fam = true))))

/-- Wherever two of the three flop copies hold the same 16 words, every vote word reads as in those two, whatever the third copy holds;
and VOTE_REVOTE, with AON running, leaves all three copies with those words, counting the repair where the third differed and
changing nothing where it did not. -/
def Obligations.VoteMajority : Prop :=
  ∀ (s : State) (w : List Nat) (i j : Fin 3), i ≠ j → w.length = 16 → s.dev.vote.flops.get i = w → s.dev.vote.flops.get j = w →
    (∀ k, k < 16 → s.dev.voteWord k = w.getD k 0) ∧
    (s.dev.phase ≠ .held → s.dev.phase ≠ .rising → ∃ t : Dev, exec .voteRevote s = .next (s.put t) ∧
      t.vote.flops = Vector.replicate 3 w ∧
      (s.dev.vote.flops = Vector.replicate 3 w → t = s.dev) ∧
      (s.dev.vote.flops ≠ Vector.replicate 3 w → t.rd F.MI_VSTAT_REVOTES = (s.dev.incSat F.MI_VSTAT_REVOTES).rd F.MI_VSTAT_REVOTES))

/-- Take any KCI frame whose length, flags and CRC are right, and invert one bit of its payload. With the port up and room in the
response queue, the device takes no command from it: it answers BADPARAM and counts the CRC error, where the frame as it
was would have been taken. -/
def Obligations.SingleBitErrors : Prop :=
  ∀ (s : State) (fr : List Byte) (i : Nat) (b : Fin 8), s.dev.spiUp = true → s.dev.mgmt.rspq.length < 8 → 8 ≤ fr.length →
    fr.length = 8 + fieldAt fr 4 2 → fieldAt fr 3 1 = 0 → crc16 (fr.take 6 ++ fr.drop 8) = fieldAt fr 6 2 → 8 ≤ i → i < fr.length →
    exec (.kciWrite fr) s = runRequest (.spi (fr.getD 2 0)) (fieldAt fr 0 2) (fr.drop 8) s ∧
    exec (.kciWrite (fr.set i (fr.getD i 0 ^^^ (1 <<< b.val)))) s =
      .next (s.put ((s.dev.respond (.spi (fr.getD 2 0)) (fieldAt fr 0 2) .badParam []).inc F.GLB_KCICNT_CRCERR))

/-- Where PAT.RAM.WRITE is admitted, its operands are right and memory is initialised, byte i of DATA reads back from pattern RAM byte
64·GRANULE + i, and every byte of memory outside those reads as before. -/
def Obligations.PatternRamBytes : Prop :=
  ∀ (s : State) (src : Src) (granule : BitVec 16) (count ready : Byte) (data : List Byte),
    s.dev.admits src 0xA402 .c = true → patRamOk src granule.toNat count.toNat ready.toNat data.length = true →
    s.dev.on F.GLB_STAT_SRAMRDY = true → ∃ t : State, exec (.patRamWrite src granule count ready data) s = .next t ∧
      (∀ i, i < data.length → s.dev.pg.ramByte t.mem (64 * granule.toNat + i) = (data.getD i 0).toNat) ∧
      (∀ a, a < patBase + 64 * granule.toNat ∨ patBase + 64 * granule.toNat + data.length ≤ a → memGet t.mem a = memGet s.mem a)

/-- With expert access open, the core's windows open and the access reaching X or Y memory, or program memory in a life cycle that
lets it be written: after WS_MEMORY_WINDOW_ACCESS writes a value the window word reads that value, a word that was uncorrectable is so no more, and every byte outside the word's
four reads as before. -/
def Obligations.WindowReadsBack : Prop :=
  ∀ (s : State) (acc : Accessor) (addr v : Word32) (a : Nat), s.dev.reachable acc = true → s.dev.expert = true →
    let x := s.dev.busAccess acc addr.toNat 3
    x.wsWindow addr.toNat = some a → x.wsOpen = true → (a < pmBase ∨ x.lc = 0 ∨ x.lc = 1 ∨ x.lc = 4) →
    ∃ m : Memory, exec (.wsMemoryWindowAccess acc addr (some v)) s = .next { s with mem := m, dev := x.mended (winMem a).1 (winMem a).2 } ∧
      x.wsMemRead m addr.toNat = v.toNat ∧ ∀ b, b < a ∨ a + 4 ≤ b → memGet m b = memGet s.mem b

/-- With the port up: a response that becomes ready joins the end of the 8-frame queue, so frames wait in the order in which they
became ready. A KCI_READ clocked out whole drives and removes the oldest, and a response that became ready while the queue was full joins its end
(DEDUCED, log entry 73); one whose CS_L rises early drives it and leaves it in the queue; with the queue empty it drives FF FF and six zero bytes. A KCI_WRITE while the queue holds 8 frames is discarded: no response,
REQDROP set, and nothing else changes, so the request is not accepted. -/
def Obligations.ResponseQueue : Prop :=
  ∀ s : State, s.dev.spiUp = true →
    (∀ seq op st p, s.dev.mgmt.rspq.length < 8 →
      (s.dev.respond (.spi seq) op st p).mgmt.rspq = s.dev.mgmt.rspq ++ [rspFrame op seq st p]) ∧
    (∀ fr t, s.dev.mgmt.rspq = fr :: t →
      exec (.kciRead true) s = .next (s.put (s.dev.mapMgmt fun m =>
        { m with spiOut := fr, rspq := t ++ m.rsphold.take 1, rsphold := m.rsphold.drop 1 })) ∧
      exec (.kciRead false) s = .next (s.put (s.dev.mapMgmt fun m => { m with spiOut := fr }))) ∧
    (∀ w, s.dev.mgmt.rspq = [] → exec (.kciRead w) s =
      .next (s.put (s.dev.mapMgmt fun m => { m with spiOut := [0xFF, 0xFF, 0, 0, 0, 0, 0, 0] }))) ∧
    (∀ fr, s.dev.mgmt.rspq.length = 8 → exec (.kciWrite fr) s = .next (s.put (s.dev.mapMgmt fun m => { m with reqdrop := true })))

/-- Over no bytes the CRC is 0xFFFF, its initial value. A further byte is taken most significant bit first: each bit shifts the
register left, and where the bit shifted out differs from the data bit the polynomial 0x1021 is added; nothing is reflected and
nothing is added at the end. Over the nine ASCII bytes "123456789" it gives 0x29B1. -/
def Obligations.CrcOfR272 : Prop :=
  crc16 [] = 0xFFFF ∧
  (∀ (l : List Byte) (b : Byte), crc16 (l ++ [b]) =
    ([7, 6, 5, 4, 3, 2, 1, 0].foldl (fun (c : Nat) (i : Nat) =>
      if c / 2 ^ 15 % 2 = b.toNat / 2 ^ i % 2 then 2 * c % 2 ^ 16 else (2 * c % 2 ^ 16) ^^^ 0x1021) (crc16 l))) ∧
  crc16 [0x31, 0x32, 0x33, 0x34, 0x35, 0x36, 0x37, 0x38, 0x39] = 0x29B1

/-- A frame of a C mode has 1,088 symbols, whatever its payload; the symbol at position 136k + r, r the frame number modulo 8, has the
level s × P[k], with P the pattern of Table 2-6 and s = +1 for Partner bit 0 and −1 for Partner bit 1 (R58). -/
def Obligations.PilotsOfFrame : Prop :=
  ∀ (fr wq enc : Nat) (payload : List Bool) (partner : Bool),
    (frameSyms fr wq enc payload partner).1.length = 1088 ∧
    ∀ k : Fin 8, levelOf ((frameSyms fr wq enc payload partner).1.getD (136 * k.val + fr % 8) 0) =
      (if partner then -1 else 1) * [3, -3, 3, 3, -3, -3, 3, -3].getD k.val 0

/-- Let the whitener start from q and the encoder from state c. Systematic bit u(i) is payload bit i XOR the i-th whitener output; the
encoder takes the u(i) in order. The coded stream is every u(i), followed by its parity bit where i mod 128 is one of 9, 27, 46, 64, 82,
101 and 119, and by nothing elsewhere; 2,048 payload bits give 2,160 coded bits, 112 of them parity. Whitener and encoder end in the
state after the last bit. -/
def Obligations.PuncturedStream : Prop :=
  ∀ (q c : Nat) (l : List Bool),
    let reg := fun i => iter i (fun _ r => (whitenStep r).2) q
    let u := fun i => l.getD i false != (whitenStep (reg i)).1
    let st := fun i => iter i (fun j r => (encStep r (u j)).1) c
    (encodeBits 0 q c l).1 = ((List.range l.length).flatMap fun i =>
      if i % 128 ∈ [9, 27, 46, 64, 82, 101, 119] then [u i, (encStep (st i) (u i)).2] else [u i]) ∧
    (encodeBits 0 q c l).2 = (reg l.length, st l.length) ∧
    (l.length = 2048 → (encodeBits 0 q c l).1.length = 2160)

/-- APP.STAT.GET answers the entry of Table 1-9 for each lane (a lane of no data path: 0, 0xFF, 0, 0xFF). APP.SELECT with no CMIS
selection waiting, of a selection that is in range, possible now and fits is accepted and waits for the bring-up; out of range or not fitting it is
BADPARAM, outside READY NOT_READY; behind a waiting CMIS selection it is BUSY. APP.DEACT starts the group's deactivation and waits for it; no such group is BADPARAM.
LINE.BRUP.CFG.SET with keep values everywhere changes nothing, with a search time of 1 to 200 it sets SRCHTO, and outside that is BADPARAM; LINE.BRUP.GET of
a lane answers step, outcome and far-end identity; LINE.FALLBACK.SET disarms with FBMODE 0 and arms with 6 to 9; LINE.RETRAIN of an active lane of
a path with bring-up makes the request and waits for the outcome. In each the rest of the machine is as before. -/
def Obligations.PathCommands : Prop :=
  ∀ (s : State) (src : Src),
    (s.dev.admits src 0xAC00 .q = true → let x := s.dev.arrives 0xAC00; let e := x.entry src 0xAC00 .q;
      exec (.appStatGet src) s = .next (s.put (x.completes e x ((List.range 8).flatMap fun k =>
        match x.pathOf k with
        | none => [0, 0xFF, 0, 0xFF]
        | some p => be 1 p.mode ++ be 1 p.first ++ be 1 p.state ++ be 1 p.lrm)))) ∧
    (∀ first mode size lrm outputs pretx prerx,
      let r : AppReq := ⟨first.toNat, mode.toNat, size.toNat, lrm.toNat, outputs.toNat, pretx.toNat, prerx.toNat⟩
      s.dev.admits src 0xAC01 .d (laneMask r.touch) (s.dev.famMask r) = true →
      let x := s.dev.arrives 0xAC01
      let e := x.entry src 0xAC01 .d (laneMask r.touch) (s.dev.famMask r)
      (∀ p, x.mgmt.appselWait = [] → r.path = some p → x.canSelect = true → x.fits p = true →
        exec (.appSelect src first mode size lrm outputs pretx prerx) s = .next (s.put ((x.selectPath p).holds e (.activate p.first)))) ∧
      (∀ p, x.mgmt.appselWait = [] → r.path = some p → x.canSelect = false →
        exec (.appSelect src first mode size lrm outputs pretx prerx) s = .next (s.put (x.declines e .notReady))) ∧
      (∀ p, x.mgmt.appselWait = [] → r.path = some p → x.canSelect = true → x.fits p = false →
        exec (.appSelect src first mode size lrm outputs pretx prerx) s = .next (s.put (x.declines e .badParam))) ∧
      (x.mgmt.appselWait = [] → r.path = none →
        exec (.appSelect src first mode size lrm outputs pretx prerx) s = .next (s.put (x.declines e .badParam))) ∧
      (x.mgmt.appselWait ≠ [] →
        exec (.appSelect src first mode size lrm outputs pretx prerx) s = .next (s.put (x.respondBusy src 0xAC01 x.appselRetry)))) ∧
    (∀ first p, (s.dev.paths.find? fun q => q.first == first.toNat && q.state != 3) = some p →
      s.dev.admits src 0xAC02 .d (laneMask p.lanes) 0 = true → let x := s.dev.arrives 0xAC02; let e := x.entry src 0xAC02 .d (laneMask p.lanes) 0;
      exec (.appDeact src first) s = .next (s.put (((x.startDeact p.first).holds e (.deact (laneMask p.lanes))).pathsGone))) ∧
    (∀ first, (s.dev.paths.find? fun q => q.first == first.toNat && q.state != 3) = none →
      s.dev.admits src 0xAC02 .d 0 0 = true → let x := s.dev.arrives 0xAC02; let e := x.entry src 0xAC02 .d 0 0;
      exec (.appDeact src first) s = .next (s.put ((x.declines e .badParam).pathsGone))) ∧
    (s.dev.admits src 0xA110 .q = true → let x := s.dev.arrives 0xA110; let e := x.entry src 0xA110 .q; ∀ lane : Byte,
      (lane.toNat ≤ 7 → ∃ us, exec (.lineBrupGet src lane) s = .next (s.put (let r := fun f => if x.domOn (dLRXD lane.toNat) then x.rd f lane.toNat else 0
        x.completes e x (be 1 (r F.LN_STAT_STEP) ++ be 1 ((x.lane lane.toNat).outcome.getD 0xFF) ++
          be 2 (if x.domOn (dLRXD lane.toNat) then x.regWord 0x10004 lane.toNat else 0) ++ be 2 (r F.LN_RTCNT_RETRAINS) ++
          be 2 (r F.LN_RTCNT_SYNCFAIL) ++ be 2 (r F.LN_FEID_PART) ++ be 1 (r F.LN_FEID_LANE) ++ be 1 (r F.LN_FEID_MODE) ++
          be 4 (x.lane lane.toNat).rx.feFwver ++ be 4 (x.lane lane.toNat).rx.feDevid ++ be 4 us)))) ∧
      (7 < lane.toNat → exec (.lineBrupGet src lane) s = .next (s.put (x.declines e .badParam)))) ∧
    (s.dev.admits src 0xA111 .c = true → let x := s.dev.arrives 0xA111; let e := x.entry src 0xA111 .c; ∀ lane : Byte, lane.toNat ≤ 7 →
      exec (.lineBrupCfgSet src lane 0xFF 0xFFFF 0xFF 0xFF 0xFF 0xFF 0xFF 0xFF 0xFF) s = .next (s.put (x.completes e x [])) ∧
      (∀ srchto : Byte, 1 ≤ srchto.toNat → srchto.toNat ≤ 200 → x.domOn (dLRXD lane.toNat) = true →
        exec (.lineBrupCfgSet src lane srchto 0xFFFF 0xFF 0xFF 0xFF 0xFF 0xFF 0xFF 0xFF) s = .next (s.put (x.completes e ((x.fwPut F.LN_BRCFG_SRCHTO lane.toNat srchto.toNat).wr F.LN_BRCFG_SRCHTO lane.toNat srchto.toNat) []))) ∧
      (∀ srchto trnto rtdly actmarg autort urxinv lead ptflags pcth, srchto.toNat = 0 ∨ (200 < srchto.toNat ∧ srchto.toNat < 255) →
        exec (.lineBrupCfgSet src lane srchto trnto rtdly actmarg autort urxinv lead ptflags pcth) s =
          .next (s.put (x.declines e .badParam)))) ∧
    (s.dev.admits src 0xA112 .c = true → let x := s.dev.arrives 0xA112; let e := x.entry src 0xA112 .c; ∀ (lane : Byte) p,
      (x.paths.find? fun q => q.first == lane.toNat && q.lrm < 2) = some p → lane.toNat ≤ 7 →
      exec (.lineFallbackSet src lane 0 0 0) s = .next (s.put (x.completes e { x with fallbacks := x.fallbacks.filter fun f => f.first != p.first } [])) ∧
      (∀ m pretx prerx : Byte, m.toNat = 7 ∨ m.toNat = 9 ∨ ((m.toNat = 6 ∨ m.toNat = 8) ∧ p.size = 8) → pretx.toNat ≤ 1 → prerx.toNat ≤ 1 →
        exec (.lineFallbackSet src lane m pretx prerx) s = .next (s.put (x.completes e (Dev.tryFallback { x with fallbacks :=
          (x.fallbacks.filter fun f => f.first != p.first) ++ [⟨p.first, m.toNat, pretx.toNat == 1, prerx.toNat == 1⟩] } p) [])))) ∧
    (∀ (lane : Byte) p, s.dev.pathOf lane.toNat = some p → s.dev.admits src 0xA113 .d (laneMask p.lanes) 0 = true → let x := s.dev.arrives 0xA113; let e := x.entry src 0xA113 .d (laneMask p.lanes) 0;
      lane.toNat ≤ 7 → x.isReady = true → (x.lane lane.toNat).active = true → p.bringup = true →
      exec (.lineRetrain src lane) s =
        .next (s.put ((((x.retrainRequest lane.toNat).fallback lane.toNat).holds e (.retrain lane.toNat)).settlePaths)))

/-- ACTIVATION_START takes a prepared lane of a data path with bring-up from OFF to ALIGN: step 1, TRAINING set and the
latency registers 0; under far-end line loopback alone in a C mode on to SEARCH with the beacon pending; without bring-up the lane is active and the
path's activation is looked at. HOST_CDR_LOCK in ALIGN sets SIGDET and CDRLOCK of every host lane the lane uses; a C mode goes on to SEARCH (step 2)
with the beacon pending at the transmitter.
UTRAIN_START in ALIGN of a U mode with its host lanes aligned enters UTRAIN (step 8) with SA_LSTAT.ALIGNED set. FRAME0_START at
block SWITCH puts the output in DATA and records that its own frame 0 has passed. RX_FRAME0 in AGREED starts the receiver; in UTRAIN it starts the host outputs.
BEACON_BLOCK_TX in BEACON in SEARCH to AGREED sends the next block number and starts the search timer of a lane with no outcome; in AGREED its first
block announces SWITCH 1,024 blocks ahead; a pending beacon starts from SQUELCH.
BEACON_LOSS before a nonzero far SWITCH, once a block has been heard, restarts at SEARCH, counted in SYNCFAIL. An invalid BEACON_BLOCK_RX in SEARCH
breaks the run and counts on the expected number; a valid one leaves the far end's identity and makes the step of R163 to R166. SIGDET_UPDATE sets
SIGDET by the 16-code bound. Memory and the queue stay. -/
def Obligations.BringupEvents : Prop :=
  ∀ (s : State) (k : Fin 8),
    (∀ p, s.dev.pathOf k = some p → p.state = 1 → (s.dev.lane k).active = false →
      (s.dev.lane k).prepared = true → s.dev.committed k = true → (laneSet p.lrm k).all s.dev.domOn = true →
      (p.bringup = true → (p.far = false ∨ 2 ≤ p.lrm) →
        ∃ t, exec (.activationStart k) s = .next (s.put t) ∧ t.stepOf k = 1 ∧ t.rd F.LN_STAT_TRAINING k = 1 ∧
          t.rd F.LN_LATTX_LAT k = 0 ∧ t.rd F.LN_LATRX_LAT k = 0) ∧
      (p.bringup = true → p.far = true → p.lrm < 2 →
        ∃ t, exec (.activationStart k) s = .next (s.put t) ∧ t.stepOf k = 2 ∧ (t.lane k).tx.pend = some 1) ∧
      (p.bringup = false → ∃ t : Dev, exec (.activationStart k) s = .next (s.put (t.plainActive p)) ∧ (t.lane k).active = true)) ∧
    (∀ p a b, s.dev.pathOf k = some p → p.bringup = true → p.far = false → (s.dev.lane k).active = true →
      s.dev.stepOf k = 1 →
      ∃ t, exec (.hostCdrLock k a b) s = .next (s.put t) ∧
        (∀ n ∈ hostsOfLane p.lrm k, t.rd F.HL_STAT_SIGDET n = 1 ∧ t.rd F.HL_STAT_CDRLOCK n = 1) ∧
        (p.lrm < 2 → t.stepOf k = 2 ∧ (t.lane k).tx.pend = some 1 ∧ t.rd F.LN_CTL_RETRAIN k = 0)) ∧
    (∀ p, s.dev.pathOf k = some p → p.bringup = true → 2 ≤ p.lrm → s.dev.stepOf k = 1 →
      (p.far = true ∨ ((hostsOfLane p.lrm k).all fun n => s.dev.on F.HL_STAT_ALIGNED n) = true) →
      ∃ t, exec (.utrainStart k) s = .next (s.put t) ∧ t.stepOf k = 8 ∧ t.on F.SA_LSTAT_ALIGNED k = true ∧
        (t.lane k).trn = true) ∧
    (s.dev.stepOf k = 4 → s.dev.rd F.TX_STAT_STATE k = 1 → (s.dev.lane k).tx.switch ≠ 0 →
      (s.dev.lane k).tx.switch = (s.dev.lane k).tx.blk →
      exec (.frame0Start k) s = .next (s.put ((((s.dev.txPend k 2).txState k (s.dev.txCfg k)).mapTx k fun x => { x with switched := true }).tryTrain k))) ∧
    (s.dev.isC k = true → s.dev.stepOf k = 4 → (s.dev.lane k).rx.farSwitch ≠ 0 → (s.dev.lane k).rx.started = false →
      exec (.rxFrame0 k) s = .next (s.put (((s.dev.rxBegin k 1).fixHosts k).tryTrain k))) ∧
    (s.dev.isC k = false → s.dev.stepOf k = 8 → (s.dev.lane k).rx.started = true →
      exec (.rxFrame0 k) s = .next (s.put (s.dev.fixHosts k))) ∧
    (∀ p, s.dev.pathOf k = some p → s.dev.domOn (dLTXD k) = true → s.dev.rd F.TX_STAT_STATE k = 1 →
      (s.dev.lane k).tx.pend = none → 2 ≤ s.dev.stepOf k → s.dev.stepOf k ≤ 4 →
      ((s.dev.lane k).tx.switch = 0 ∨ (s.dev.lane k).tx.switch ≠ (s.dev.lane k).tx.blk) →
      let sw := if s.dev.stepOf k = 4 ∧ (s.dev.lane k).tx.switch = 0 then ((s.dev.lane k).tx.blk + 1024) % 2 ^ 32 else (s.dev.lane k).tx.switch
      ∃ t, exec (.beaconBlockTx k) s = .next (s.put t) ∧
        (t.lane k).tx.blk = ((s.dev.lane k).tx.blk + 1) % 2 ^ 32 ∧ (t.lane k).tx.switch = sw ∧
        ((s.dev.lane k).outcome = none → (t.lane k).srch = true) ∧
        (t.lane k).tx.lastBlock = bitsNat (beaconBits (s.dev.beaconOut k p sw))) ∧
    ((s.dev.lane k).rx.farSwitch = 0 → 2 ≤ s.dev.stepOf k → s.dev.stepOf k ≤ 4 → (s.dev.stepOf k ≠ 2 ∨ (s.dev.lane k).rx.lastBlk ≠ none) →
      exec (.beaconLoss k) s = .next (s.put ((s.dev.restartSearch k).fallback k))) ∧
    ((s.dev.lane k).rx.farSwitch = 0 → s.dev.stepOf k = 2 → (s.dev.lane k).rx.lastBlk = none → exec (.beaconLoss k) s = .next s) ∧
    (∀ p b start grid, s.dev.pathOf k = some p → 2 ≤ s.dev.stepOf k → s.dev.stepOf k ≤ 4 → readBeacon (beaconDecide p.lrm b start) = none →
      exec (.beaconBlockRx k b start grid) s = .next (s.put (s.dev.mapRx k fun r => { r with lastBlk := r.lastBlk.map fun b => (b + 1) % 2 ^ 32, runValid := 0, runMatch := 0 }))) ∧
    (∀ p b start grid inv c, s.dev.pathOf k = some p → 2 ≤ s.dev.stepOf k → s.dev.stepOf k ≤ 4 → p.lrm < 2 →
      readBeacon (beaconDecide p.lrm b start) = some (inv, c) →
      exec (.beaconBlockRx k b start grid) s = .next (s.put (((s.dev.beaconSeen k inv c).beaconStep k p grid c).fallback k))) ∧
    (∀ rms, s.dev.domOn (dLADC k) = true → s.dev.domOn (dLRXD k) = true →
      exec (.sigdetUpdate k rms) s = .next (s.put (s.dev.wr F.LN_STAT_SIGDET k (if 16 < rms then 1 else 0))))

/-- SRCHTO_EXPIRY in SEARCH to AGREED gives the lane, with SIGDET clear, NOSIG (2); with MISMATCH, MISMATCH (3); with
HEARD reached, NOAGREE (7) and a restart at SEARCH; else FOREIGN (1), on which an armed fallback is looked at: the outcome is recorded and waiting
commands complete. TRNTO_EXPIRY in
TRAIN or READY sets TRAINTO, gives outcome 4 and restarts at SEARCH; in UTRAIN it restarts UTRAIN with the taps of R104.
RETRAIN_DELAY_EXPIRY with LOCK still clear and AUTORT = 1 retrains the lane; with AUTORT = 0 it changes nothing.
DATAPATH_ACTIVATED of a path whose lanes are all ACTIVE writes the latencies, reports the path, sends CAP unless it was sent or
queued, and completes what waits. DATAPATH_STOP of a lane of a deactivating path leaves the lane in OFF (step 0) before the
path's own end is looked at. -/
def Obligations.BringupEnds : Prop :=
  ∀ (s : State) (k : Fin 8),
    ((s.dev.lane k).srch = true → (s.dev.stepOf k = 2 ∨ s.dev.stepOf k = 3 ∨ s.dev.stepOf k = 4) →
      let d := s.dev.mapLane k fun l => { l with srch := false }
      (s.dev.on F.LN_STAT_SIGDET k = false →
        exec (.srchtoExpiry k) s = .next (s.put ((d.putOutcome k (some 2)).fallback k).settlePaths)) ∧
      (s.dev.on F.LN_STAT_SIGDET k = true → s.dev.on F.LN_STAT_MISMATCH k = true →
        exec (.srchtoExpiry k) s = .next (s.put ((d.putOutcome k (some 3)).fallback k).settlePaths)) ∧
      (s.dev.on F.LN_STAT_SIGDET k = true → s.dev.on F.LN_STAT_MISMATCH k = false → (s.dev.lane k).heard = true →
        exec (.srchtoExpiry k) s = .next (s.put (((d.putOutcome k (some 7)).toSearch k).fallback k).settlePaths)) ∧
      (s.dev.on F.LN_STAT_SIGDET k = true → s.dev.on F.LN_STAT_MISMATCH k = false → (s.dev.lane k).heard = false →
        exec (.srchtoExpiry k) s = .next (s.put ((d.putOutcome k (some 1)).fallback k).settlePaths))) ∧
    ((s.dev.lane k).trn = true → (s.dev.stepOf k = 5 ∨ s.dev.stepOf k = 6) →
      exec (.trntoExpiry k) s =
        .next (s.put ((((s.dev.set F.LN_STAT_TRAINTO k).putOutcome k (some 4)).toSearch k).settlePaths))) ∧
    ((s.dev.lane k).trn = true → s.dev.stepOf k = 8 →
      exec (.trntoExpiry k) s =
        .next (s.put (((((s.dev.set F.LN_STAT_TRAINTO k).putOutcome k (some 4)).writeTaps k).restartUtrain k).settlePaths))) ∧
    ((s.dev.lane k).lolTimer = true → s.dev.on F.LN_TRSTAT_LOCK k = false → 5 ≤ s.dev.stepOf k → s.dev.stepOf k ≤ 7 →
      (s.dev.on F.LN_CTL_AUTORT k = true → exec (.retrainDelayExpiry k) s = .next (s.put (s.dev.retrain k))) ∧
      (s.dev.on F.LN_CTL_AUTORT k = false → exec (.retrainDelayExpiry k) s = .next s)) ∧
    (∀ p lats, (s.dev.paths.find? fun q => q.first == k.val) = some p → p.bringup = true → p.reported = false → p.state ≠ 3 →
      (p.lanes.all fun j => s.dev.stepOf j == 7) = true →
      (p.lanes.all fun j => lats.any fun r : LatReport => r.lane.val == j) = true →
      let d1 := lats.foldl (fun e r => if p.lanes.contains r.lane.val then e.putLat r.lane.val p.lrm r else e) s.dev
      let d2 := d1.mapPath p.first fun q => { q with state := 2, reported := true }
      exec (.datapathActivated k lats) s = .next (s.put (if s.dev.capOut p then d2 else d2.sendCap p).settlePaths)) ∧
    (∀ p, s.dev.pathOf k = some p → p.state = 3 → (s.dev.lane k).active = true →
      ∃ t : Dev, exec (.datapathStop k) s = .next (s.put ((t.tbEnd k false).pathStopped p.first)) ∧ t.rd F.LN_STAT_STEP k = 0 ∧
        t.rd F.LN_LATTX_LAT k = 0 ∧ t.rd F.LN_LATRX_LAT k = 0 ∧ t.rd F.LN_TRSTAT_LOCK k = 0 ∧ t.rd F.SA_LSTAT_ALIGNED k = 0)

/-- A retrain of a lane: LN_RTCNT.RETRAINS goes up by one (wrapping at its width), RTEV is set, LN_CTL.RETRAIN is clear, LOCK is
clear, and the step is SEARCH (2) in a C mode, UTRAIN (8) in a U mode. LN_RTCNT.SYNCFAIL stays. For every state of the device. -/
def Obligations.RetrainEffect : Prop :=
  ∀ (d : Dev) (k : Fin 8),
    (d.retrain k).rd F.LN_RTCNT_RETRAINS k = (d.rd F.LN_RTCNT_RETRAINS k + 1) % 2 ^ F.LN_RTCNT_RETRAINS.w ∧
    (d.retrain k).rd F.LN_RTCNT_SYNCFAIL k = d.rd F.LN_RTCNT_SYNCFAIL k ∧
    (d.retrain k).rd F.LN_STAT_RTEV k = 1 ∧ (d.retrain k).rd F.LN_CTL_RETRAIN k = 0 ∧ (d.retrain k).rd F.LN_TRSTAT_LOCK k = 0 ∧
    (d.retrain k).stepOf k = (if d.isC k then 2 else 8)

/-- TX_COMMIT_BOUNDARY of a powered lane: with a commit requested the active levels, taps and coefficient copies become the staged
ones, CMTREQ clears and CMTCNT counts one; without, the active copies and CMTCNT stay; then the path's activation is looked at and the commands that wait
for the boundary complete. Of a lane without stream and pending state, SQACT is SQ outside SQUELCH. OBS_SLICE_DONE of a slice that has its entries, or
whose stream has stopped: DONE set, BUSY and START clear, COUNT the entries. DPD_PASS with the core running starts the pass that is due: OBSCTL.INPUT and
the Whetstone's GLB_CHSEL select the lane; and it takes a finished slice of the pass under way. LINE.TX.GET of a powered lane answers without changing
anything; LINE.TX.SET, LINE.TX.FFE.SET and LINE.TX.DPD.SET stage or set their fields and wait for the boundary where Table 5-10 to 5-12 say so. -/
def Obligations.TransmitPath : Prop :=
  ∀ (s : State) (src : Src) (k : Fin 8) (lane : Byte),
    (∀ even odd, s.dev.domOn (dLTXD k) = true →
      ∃ y : Dev, exec (.txCommitBoundary k even odd) s = .next (s.put
          ((match y.pathOf k with | some p => y.plainActive p | none => y).settleWait (.txCommit k) .ok [])) ∧
        (s.dev.on F.TX_CTL_CMTREQ k = true →
          y.rd F.TX_LEVEL_V1ACT k = s.dev.rd F.TX_LEVEL_V1STG k ∧ y.rd F.TX_LEVEL_V3ACT k = s.dev.rd F.TX_LEVEL_V3STG k ∧
          (∀ i, i < 9 → y.rd (F.TX_FFETAP_ACT.at i) k = s.dev.rd (F.TX_FFETAP_STG.at i) k) ∧
          (∀ m, m < 5 → y.rd (F.TX_DPDH1_ACT.at m) k = s.dev.rd (F.TX_DPDH1_STG.at m) k ∧
            y.rd (F.TX_DPDH3_ACT.at m) k = s.dev.rd (F.TX_DPDH3_STG.at m) k) ∧
          y.rd F.TX_CTL_CMTREQ k = 0 ∧ y.rd F.TX_CMTCNT_COUNT k = (s.dev.rd F.TX_CMTCNT_COUNT k + 1) % 2 ^ 32) ∧
        (s.dev.on F.TX_CTL_CMTREQ k = false →
          y.rd F.TX_LEVEL_V1ACT k = s.dev.rd F.TX_LEVEL_V1ACT k ∧ y.rd F.TX_LEVEL_V3ACT k = s.dev.rd F.TX_LEVEL_V3ACT k ∧
          y.rd F.TX_CMTCNT_COUNT k = s.dev.rd F.TX_CMTCNT_COUNT k) ∧
        ((s.dev.lane k).tx.streaming = false → (s.dev.lane k).tx.pend = none →
          y.rd F.TX_STAT_SQACT k = b2n (s.dev.on F.TX_CTL_SQ k && s.dev.rd F.TX_STAT_STATE k != 0))) ∧
    (∀ l : List Int, s.dev.on F.TX_OBSSTAT_BUSY = true →
      (4096 ≤ s.dev.ws.obs.ents.length ∨ (s.dev.lane s.dev.ws.obs.lane).tx.streaming = false) →
      s.dev.ws.obs.ents.length ≤ l.length → s.dev.ws.obs.ents.length ≤ 4096 →
      ∃ t : Dev, exec (.obsSliceDone l) s = .next (s.put t) ∧ t.rd F.TX_OBSSTAT_DONE = 1 ∧ t.rd F.TX_OBSSTAT_BUSY = 0 ∧
        t.rd F.TX_OBSCTL_START = 0 ∧ t.rd F.TX_OBSSTAT_COUNT = s.dev.ws.obs.ents.length % 2 ^ F.TX_OBSSTAT_COUNT.w) ∧
    (s.dev.domOn dWHET = true → s.dev.rd F.WS_STAT_STATE = 1 → s.dev.on F.TX_OBSSTAT_BUSY = false → s.dev.ws.dpd = none →
      s.dev.dpdNext = some k.val →
      ∃ t : Dev, exec (.dpdPass k) s = .next (s.put t) ∧ t.rd F.TX_OBSCTL_INPUT = k.val ∧
        t.rd F.GLB_CHSEL_UNIT (Accessor.idx .ws) = 0 ∧ t.rd F.GLB_CHSEL_INDEX (Accessor.idx .ws) = k.val ∧
        t.ws.dpd.map DpdPass.lane = some k.val) ∧
    (∀ p, s.dev.domOn dWHET = true → s.dev.rd F.WS_STAT_STATE = 1 → s.dev.on F.TX_OBSSTAT_BUSY = false → s.dev.ws.dpd = some p →
      p.lane = k.val → s.dev.ws.obs.lane = k.val →
      (s.dev.dpdLane k = true → exec (.dpdPass k) s = .next (s.put (s.dev.dpdTake p))) ∧
      (s.dev.dpdLane k = false → exec (.dpdPass k) s = .next (s.put (s.dev.mapWs fun w => { w with dpd := none })))) ∧
    (s.dev.admits src 0xA150 .q = true → let x := s.dev.arrives 0xA150; let e := x.entry src 0xA150 .q;
      lane.toNat ≤ 7 → x.domOn (dLTXD lane.toNat) = true →
      ∃ p, exec (.lineTxGet src lane) s = .next (s.put (x.completes e x p)) ∧ p.length = 60 ∧
        p.take 1 = be 1 (x.rd F.TX_STAT_STATE lane.toNat)) ∧
    (s.dev.admits src 0xA151 .c = true → let x := s.dev.arrives 0xA151; let e := x.entry src 0xA151 .c;
      lane.toNat ≤ 7 → x.domOn (dLTXD lane.toNat) = true →
      (∀ v1 v3 : Byte, v1.toNat ≤ v3.toNat → v3.toNat ≤ 127 →
        exec (.lineTxSet src lane 0xFF 0xFF 0xFF v1 v3) s = .next (s.put
          ((((x.wr F.TX_LEVEL_V1STG lane.toNat v1.toNat).wr F.TX_LEVEL_V3STG lane.toNat v3.toNat).txCmtReq lane.toNat).holds e
            (.txCommit lane.toNat)))) ∧
      (∀ v1 v3 : Byte, v3.toNat < v1.toNat → v1.toNat ≤ 127 →
        exec (.lineTxSet src lane 0xFF 0xFF 0xFF v1 v3) s = .next (s.put (x.declines e .badParam)))) ∧
    (s.dev.admits src 0xA152 .c = true → let x := s.dev.arrives 0xA152; let e := x.entry src 0xA152 .c;
      lane.toNat ≤ 7 → x.domOn (dLTXD lane.toNat) = true →
      ∀ (first count : Byte) (taps : List (BitVec 16)), first.toNat ≤ 8 → first.toNat + count.toNat ≤ 9 → 0 < count.toNat →
        taps.length = count.toNat → (∀ t ∈ taps, -512 ≤ t.toInt ∧ t.toInt ≤ 511) →
        exec (.lineTxFfeSet src lane 0xFF first count taps) s = .next (s.put
          (((iter count.toNat (fun j y => y.wrS (F.TX_FFETAP_STG.at (first.toNat + j)) lane.toNat (taps.getD j 0).toInt) x).txCmtReq
            lane.toNat).holds e (.txCommit lane.toNat)))) ∧
    (s.dev.admits src 0xA153 .c = true → let x := s.dev.arrives 0xA153; let e := x.entry src 0xA153 .c;
      lane.toNat ≤ 7 → x.domOn (dLTXD lane.toNat) = true →
      ∀ h1 h3 : List (BitVec 16), h1.length = 5 → h3.length = 5 →
        exec (.lineTxDpdSet src lane 0xFF 0xFF 0xFF 0xFF 0xFF 1 h1 h3) s = .next (s.put
          (((iter 5 (fun m y => (y.wr (F.TX_DPDH1_STG.at m) lane.toNat (h1.getD m 0).toNat).wr (F.TX_DPDH3_STG.at m) lane.toNat
            (h3.getD m 0).toNat) x).txCmtReq lane.toNat).holds e (.txCommit lane.toNat))) ∧
        exec (.lineTxDpdSet src lane 0xFF 0xFF 0xFF 0xFF 0xFF 0 h1 h3) s = .next (s.put (x.completes e x [])))

/-- OVERRANGE_SAMPLE of a powered lane, of a sample that converts over-range or exceeds full scale: OVRCNT counts one, OVR sets, the window of Table 3-3 opens
or restarts, hard-overdrive's for a hard sample (inside a hard window it stays so: the model's choice, log entry 84), and outside a window RECCNT counts the episode. REC_WINDOW_END of a lane that no
data path or capture watches closes the window. AGC_STEP with AGCEN and no active data path moves an unpinned GAIN by one code towards the target,
and at its limit sets AGCLIM. AFE_SETTLE_END clears SETTLING and completes LINE.AFE.SET.
SA_COMMIT_BOUNDARY of a powered lane counts the boundary; with a request every active trim takes its staged value, in an active data path limited to
its step, and CMTCNT counts one; without, the active trims stay. TB_GRANT gives the free buffer to the oldest
request, TB_TRIGGER marks the awaited trigger, TB_TRIG_TIMEOUT and TB_DONE complete the capture, TB_HOLD_TIMEOUT frees a
completed one. CAL_VISIT_START with no visit under way, the gap passed and an eligible lane begins one; CAL_VISIT_END of a void visit or a lane no longer
eligible releases the buffer and ends the visit; with the capture done it also advances NEXTPH, and counts the visit or THIN. -/
def Obligations.FrontEndEvents : Prop :=
  ∀ (s : State) (k : Fin 8),
    (∀ sample : RxSample, s.dev.domOn (dLADC k) = true → (s.dev.lane k).rx.part.length < 136 →
      let x := (s.dev.lane k).rx
      let c := (s.dev.adc k (64 * k + x.ph % 64)).convert sample
      let long : Bool := c.hard || (x.window != 0 && x.hardWin)
      c.ovr = true ∨ c.hard = true →
      ∃ t : Dev, exec (.overrangeSample k sample) s = .next (s.put t) ∧ t.rd F.SA_LSTAT_OVR k = 1 ∧
        t.rd F.SA_OVRCNT_COUNT k = (s.dev.rd F.SA_OVRCNT_COUNT k + 1) % 2 ^ 32 ∧
        t.rd F.SA_RECCNT_COUNT k = (s.dev.rd F.SA_RECCNT_COUNT k + (if x.window = 0 then 1 else 0)) % 2 ^ 32 ∧
        (t.lane k).rx.window = windowUis (s.dev.lrm k) long ∧ (t.lane k).rx.hardWin = long) ∧
    ((s.dev.lane k).rx.watched = false →
      exec (.recWindowEnd k) s = .next (s.put (s.dev.mapRx k fun r =>
        { r with window := 0, hardWin := false, hardEp := false, ph := (r.ph + r.window) % 64 }))) ∧
    (∀ outer, s.dev.domOn (dLADC k) = true → s.dev.on F.SA_AFE_AGCEN k = true → (s.dev.lane k).active = false →
      (outer < agcTarget (s.dev.rd F.SA_AFE_AGCTGT k) →
        (s.dev.rd F.SA_VGA_GAIN k < 96 → s.dev.pinned F.SA_VGA_GAIN k = false →
          exec (.agcStep k outer) s = .next (s.put (s.dev.wr F.SA_VGA_GAIN k (s.dev.rd F.SA_VGA_GAIN k + 1)))) ∧
        (96 ≤ s.dev.rd F.SA_VGA_GAIN k →
          exec (.agcStep k outer) s = .next (s.put (s.dev.wr F.SA_LSTAT_AGCLIM k 1)))) ∧
      (agcTarget (s.dev.rd F.SA_AFE_AGCTGT k) < outer →
        (0 < s.dev.rd F.SA_VGA_GAIN k → s.dev.pinned F.SA_VGA_GAIN k = false →
          exec (.agcStep k outer) s = .next (s.put (s.dev.wr F.SA_VGA_GAIN k (s.dev.rd F.SA_VGA_GAIN k - 1)))) ∧
        (s.dev.rd F.SA_VGA_GAIN k = 0 →
          exec (.agcStep k outer) s = .next (s.put (s.dev.wr F.SA_LSTAT_AGCLIM k 1)))) ∧
      (outer = agcTarget (s.dev.rd F.SA_AFE_AGCTGT k) → exec (.agcStep k outer) s = .next s)) ∧
    exec (.afeSettleEnd k) s = .next (s.put ((s.dev.wr F.SA_LSTAT_SETTLING k 0).settleWait (.afe k) .ok [])) ∧
    (s.dev.domOn (dLADC k) = true →
      ∃ t : Dev, exec (.saCommitBoundary k) s = .next (s.put t) ∧ (t.lane k).rx.freeBlocks = (s.dev.lane k).rx.freeBlocks + 1 ∧
        (s.dev.on F.SA_LCTL_CMTREQ k = true →
          t.rd F.SA_CMTCNT_COUNT k = (s.dev.rd F.SA_CMTCNT_COUNT k + 1) % 2 ^ 32 ∧
          ∀ p, p < 64 → ∀ f ∈ trimFields, t.rdS f.2.1 (64 * k + p) =
            (if (s.dev.lane k).active then s.dev.rdS f.2.1 (64 * k + p) +
                clampI (-f.2.2) f.2.2 (s.dev.rdS f.1 (64 * k + p) - s.dev.rdS f.2.1 (64 * k + p))
             else s.dev.rdS f.1 (64 * k + p))) ∧
        (s.dev.on F.SA_LCTL_CMTREQ k = false → t.rd F.SA_CMTCNT_COUNT k = s.dev.rd F.SA_CMTCNT_COUNT k ∧
          ∀ p, p < 64 → ∀ f ∈ trimFields, t.rdS f.2.1 (64 * k + p) = s.dev.rdS f.2.1 (64 * k + p))) ∧
    (s.dev.domOn (dLADC k) = true → s.dev.domOn (dLRXD k) = false → s.dev.on F.SA_LCTL_CMTREQ k = false →
      (s.dev.lane k).rx.started = false → s.dev.calWaiting k = false → s.dev.trimWaiting k = false →
      exec (.saCommitBoundary k) s = .next (s.put (s.dev.mapRx k fun r => { r with freeBlocks := r.freeBlocks + 1 }))) ∧
    (∀ a rest, (s.dev.lane k).rx.tb = none → (s.dev.lane k).rx.tbq = a :: rest → s.dev.domOn (dLADC k) = true →
      (s.dev.isC k = true ∨ s.dev.rd F.SA_TBCTL_MODE (tbCh a k) % 3 ≠ 2 ∧ s.dev.rd F.SA_TBCTL_TRIG (tbCh a k) % 3 ≠ 2) →
      ∃ t : Dev, exec (.tbGrant k) s = .next (s.put t) ∧ (t.lane k).rx.tbq = rest ∧
        (t.lane k).rx.tb.map Capture.owner = some a ∧ t.rd F.SA_TBSTAT_OWNER k = Accessor.idx a + 1 ∧
        t.rd F.SA_TBSTAT_DONE k = 0 ∧ t.rd F.SA_TBSTAT_COUNT k = 0) ∧
    (∀ c cycle, (s.dev.lane k).rx.tb = some c → c.done = false → c.triggered = false → c.hit = true → c.trig = (if cycle then 2 else 1) →
      exec (.tbTrigger k cycle) s = .next (s.put ((s.dev.wr F.SA_TBSTAT_TRIGGERED k 1).mapRx k fun r =>
        { r with tb := some { c with triggered := true } }))) ∧
    (∀ c, (s.dev.lane k).rx.tb = some c → c.done = false →
      (c.full = true → exec (.tbDone k) s = .next (s.put (s.dev.tbComplete k c))) ∧
      (c.hit = false → (c.mode = 2 ∨ 4096 ≤ c.ents.length) → exec (.tbTrigTimeout k) s = .next (s.put (s.dev.tbComplete k c)))) ∧
    (∀ c, (s.dev.lane k).rx.tb = some c → c.done = true →
      exec (.tbHoldTimeout k) s = .next (s.put ((s.dev.mapRx k fun r => { r with tb := none }).wr F.SA_TBSTAT_OWNER k 0))) ∧
    (s.dev.domOn dWHET = true → s.dev.rd F.WS_STAT_STATE = 1 → s.dev.ws.visit = none →
      (∀ t, s.dev.ws.lastVisit = some t → t * 2 + max 20 (s.dev.rd F.WS_CALCFG_GAP) * 3125 ≤ s.dev.now * 2) →
      s.dev.calLane s.dev.ws.turn = some k.val →
      ∃ t : Dev, exec .calVisitStart s = .next (s.put t) ∧
        t.ws.visit = some { lane := k, phase := s.dev.rd F.WS_CALLANE_NEXTPH k, since := s.dev.now } ∧ t.ws.turn = (k + 1) % 8) ∧
    (∀ v, s.dev.ws.visit = some v → s.dev.rd F.WS_STAT_STATE = 1 → (v.void = true ∨ s.dev.calEligible v.lane = false) →
      exec .calVisitEnd s =
        .next (s.put ((s.dev.tbRelease .ws v.lane).mapWs fun w => { w with visit := none }))) ∧
    (∀ v c, s.dev.ws.visit = some v → s.dev.rd F.WS_STAT_STATE = 1 → v.void = false → s.dev.calEligible v.lane = true →
      (s.dev.lane v.lane).rx.tb = some c → c.owner = .ws → c.done = true →
      ∃ t : Dev, exec .calVisitEnd s = .next (s.put t) ∧ t.ws.visit = none ∧
        t.rd F.WS_CALLANE_NEXTPH v.lane = (v.phase + 1) % 64 ∧
        (1024 ≤ (c.ents.filter fun e => e.conv.clean).length →
          t.rd F.WS_CALLANE_VISITS v.lane = (s.dev.rd F.WS_CALLANE_VISITS v.lane + 1) % 2 ^ 16) ∧
        ((c.ents.filter fun e => e.conv.clean).length < 1024 →
          t.rd F.WS_CALSTAT2_THIN = (s.dev.rd F.WS_CALSTAT2_THIN + 1) % 2 ^ 16))

/-- LINE.AFE.GET answers the AFE fields and SA_LSTAT[7:0], from firmware's copies with 0 while LADC is off. LINE.AFE.SET of a new target sets AGCTGT and
completes while no settling is under way, and of a new RANGE outside an active data path sets RANGE; a target outside 64 to 120 is BADPARAM. LINE.ADC.TRIM.GET answers one entry per phase
asked for. LINE.ADC.TRIM.SET that selects no trim is complete at once with 0 commits used; one that selects a gain not yet active stages it, requests a commit and waits; one out of range is BADPARAM.
LINE.ADC.CAPTURE waits for its capture; LINE.ADC.READ answers the words of firmware's copy with the same SEQ, another
SEQ is BADPARAM; LINE.ADC.STAT.GET answers the counters. A lane whose LADC is off answers NOT_READY to the ADC commands. -/
def Obligations.FrontEndCommands : Prop :=
  ∀ (s : State) (src : Src) (lane : Byte), lane.toNat ≤ 7 →
    (s.dev.admits src 0xA130 .q = true → let x := s.dev.arrives 0xA130; let e := x.entry src 0xA130 .q
      (x.domOn (dLADC lane.toNat) = true →
        exec (.lineAfeGet src lane) s = .next (s.put (x.completes e x
          (be 1 (x.rd F.SA_AFE_RANGE lane.toNat) ++ be 1 (x.rd F.SA_AFE_PEAK lane.toNat) ++ be 1 (x.rd F.SA_AFE_AGCEN lane.toNat) ++
            be 1 (x.rd F.SA_AFE_AGCTGT lane.toNat) ++ be 1 (x.rd F.SA_VGA_GAIN lane.toNat) ++ be 1 (x.lstat lane.toNat))))) ∧
      (x.domOn (dLADC lane.toNat) = false →
        exec (.lineAfeGet src lane) s = .next (s.put (x.completes e x
          (be 1 (x.fwGet F.SA_AFE_RANGE lane.toNat) ++ be 1 (x.fwGet F.SA_AFE_PEAK lane.toNat) ++ be 1 (x.fwGet F.SA_AFE_AGCEN lane.toNat) ++
            be 1 (x.fwGet F.SA_AFE_AGCTGT lane.toNat) ++ be 1 (x.fwGet F.SA_VGA_GAIN lane.toNat) ++ be 1 0))))) ∧
    (s.dev.admits src 0xA131 .c = true → let x := s.dev.arrives 0xA131; let e := x.entry src 0xA131 .c; ∀ t : Byte,
      (64 ≤ t.toNat → t.toNat ≤ 120 → x.domOn (dLADC lane.toNat) = true → x.on F.SA_LSTAT_SETTLING lane.toNat = false →
        ∃ y, exec (.lineAfeSet src lane 0xFF 0xFF 0xFF t 0xFF) s = .next (s.put (x.completes e y [])) ∧
          y = (x.fwPut F.SA_AFE_AGCTGT lane.toNat t.toNat).wr F.SA_AFE_AGCTGT lane.toNat t.toNat) ∧
      (t.toNat ≤ 3 → x.domOn (dLADC lane.toNat) = true → (x.lane lane.toNat).active = false → x.on F.SA_LSTAT_SETTLING lane.toNat = false →
        exec (.lineAfeSet src lane t 0xFF 0xFF 0xFF 0xFF) s = .next (s.put (x.completes e
          ((x.fwPut F.SA_AFE_RANGE lane.toNat t.toNat).wr F.SA_AFE_RANGE lane.toNat t.toNat) []))) ∧
      (t.toNat < 64 ∨ (120 < t.toNat ∧ t.toNat < 255) → ∀ a b c d,
        exec (.lineAfeSet src lane a b c t d) s = .next (s.put (x.declines e .badParam)))) ∧
    (s.dev.admits src 0xA132 .q = true → let x := s.dev.arrives 0xA132; let e := x.entry src 0xA132 .q; ∀ first count : Byte, 0 < count.toNat →
      count.toNat ≤ (if srcRoom src = 118 then 14 else 64) → first.toNat + count.toNat ≤ 64 →
      (x.domOn (dLADC lane.toNat) = true → exec (.lineAdcTrimGet src lane first count) s = .next (s.put (x.completes e x
        ((List.range count.toNat).flatMap fun i => x.trimEntry (64 * lane.toNat + first.toNat + i))))) ∧
      (x.domOn (dLADC lane.toNat) = false →
        exec (.lineAdcTrimGet src lane first count) s = .next (s.put (x.declines e .notReady)))) ∧
    (s.dev.admits src 0xA133 .c = true → let x := s.dev.arrives 0xA133; let e := x.entry src 0xA133 .c; ∀ (phase : Byte) (g o w : BitVec 16),
      phase.toNat ≤ 63 → x.domOn (dLADC lane.toNat) = true →
      exec (.lineAdcTrimSet src lane phase 0 g o w) s =
        .next (s.put (x.completes e x (x.trimReply (64 * lane.toNat + phase.toNat) 0))) ∧
      (-2048 ≤ g.toInt → g.toInt ≤ 2047 → x.rdS F.SA_GAIN_ACT (64 * lane.toNat + phase.toNat) ≠ g.toInt →
        exec (.lineAdcTrimSet src lane phase 1 g o w) s = .next (s.put
          ((((x.wrS F.SA_GAIN_STG (64 * lane.toNat + phase.toNat) g.toInt).set F.SA_LCTL_CMTREQ lane.toNat).holds e
            (.trim lane.toNat phase.toNat g.toNat 65536 65536 0)))))) ∧
    (s.dev.admits src 0xA133 .c = true → let x := s.dev.arrives 0xA133; let e := x.entry src 0xA133 .c; ∀ phase which g o w, 63 < phase.toNat →
      exec (.lineAdcTrimSet src lane phase which g o w) s = .next (s.put (x.declines e .badParam))) ∧
    (s.dev.admits src 0xA134 .c = true → let x := s.dev.arrives 0xA134; let e := x.entry src 0xA134 .c; ∀ (mode phase trig : Byte) (pos : BitVec 16),
      mode.toNat ≤ 2 → phase.toNat ≤ 63 → trig.toNat ≤ 2 → pos.toNat ≤ 4095 → (x.isC lane.toNat = true ∨ mode.toNat ≠ 2 ∧ trig.toNat ≠ 2) →
      x.domOn (dLADC lane.toNat) = true →
      exec (.lineAdcCapture src lane mode phase trig pos) s =
        .next (s.put ((x.holds e (.capture lane.toNat mode.toNat phase.toNat trig.toNat pos.toNat)).fwNext lane.toNat))) ∧
    (s.dev.admits src 0xA135 .q = true → let x := s.dev.arrives 0xA135; let e := x.entry src 0xA135 .q; ∀ c seq (first count : BitVec 16), (x.lane lane.toNat).rx.copy = some c →
      0 < count.toNat → count.toNat ≤ (if srcRoom src = 118 then 29 else 128) → first.toNat + count.toNat ≤ 4096 →
      (c.seq = seq.toNat → exec (.lineAdcRead src lane seq first count) s = .next (s.put (x.completes e x
        (((c.entries.drop first.toNat).take count.toNat).flatMap fun w => be 4 w.toNat)))) ∧
      (c.seq ≠ seq.toNat → exec (.lineAdcRead src lane seq first count) s = .next (s.put (x.declines e .badParam)))) ∧
    (s.dev.admits src 0xA136 .q = true → let x := s.dev.arrives 0xA136; let e := x.entry src 0xA136 .q; x.domOn (dLADC lane.toNat) = true →
      exec (.lineAdcStatGet src lane) s = .next (s.put (x.completes e x
        (be 4 (x.rd F.SA_OVRCNT_COUNT lane.toNat) ++ be 4 (x.rd F.SA_RECCNT_COUNT lane.toNat) ++ be 4 (x.rd F.SA_HARDCNT_COUNT lane.toNat) ++
          be 4 (x.rd F.SA_CMTCNT_COUNT lane.toNat) ++ be 4 (x.rd F.SA_CLAMPCNT_COUNT lane.toNat) ++ be 1 (x.lstat lane.toNat)))))

/-- RX_DATAPATH_CLOCK of a powered lane, with 136 samples: before the start of its data path at most 272 samples are kept and no word counts; from the
start on the word counts and the samples that came one by one belong to it. FRAME_SIGN_DECIDE with the frame's outputs there counts the frame and adds
its sign, +1 unless the correlation over the unflagged pilots is negative. WINDOW_DECODE with the sign known and the overlap there advances one window
and drops the sign after its fourth. LQF_BLOCK_END sets the SNR figures and LQF with VALID. TR_FREQ_LIMIT of an active lane whose
integrator is not held sets FLIM and FREQ to ±250 ppm; with LOCK it clears LOCK, sets LOL, counts LOLCNT, puts FREQ back to its last value inside ±200 ppm and
starts the retrain delay. Reads of a powered lane answer without effect; a lane above 7 is BADPARAM and a lane whose LRXD is off NOT_READY.
LINE.RX.CFG.SET with keep values changes nothing, and writes each given field; LINE.FFE.SET writes its taps, clearing their accumulators;
LINE.DEC.HIST.GET answers the latest snapshot, or 72 bytes of 0 where there is none. -/
def Obligations.ReceivePath : Prop :=
  ∀ (s : State) (src : Src) (k : Fin 8) (lane : Byte),
    (∀ l : List RxSample, s.dev.domOn (dLADC k) = true → s.dev.domOn (dLRXD k) = true → l.length = 136 →
      ((s.dev.lane k).rx.started = false →
        ∃ t : Dev, exec (.rxDatapathClock k l) s = .next (s.put t) ∧ (t.lane k).rx.xs.length ≤ 272 ∧
          (t.lane k).rx.words = (s.dev.lane k).rx.words ∧ (t.lane k).rx.part = []) ∧
      ((s.dev.lane k).rx.started = true →
        ∃ t : Dev, exec (.rxDatapathClock k l) s = .next (s.put t) ∧
          (t.lane k).rx.words = (s.dev.lane k).rx.words + 1 ∧ (t.lane k).rx.part = [])) ∧
    (s.dev.isC k = true → (s.dev.lane k).rx.started = true →
      1088 * ((s.dev.lane k).rx.frame + 1) ≤ (s.dev.lane k).rx.outs →
      let x := (s.dev.lane k).rx
      let lam := sumI ((List.range 8).map fun i =>
        let o := x.out (1088 * x.frame + 136 * i + x.frame % 8)
        if o.own then 0 else pilotSign i * o.y)
      ∃ t : Dev, exec (.frameSignDecide k) s = .next (s.put t) ∧
        (t.lane k).rx.frame = x.frame + 1 ∧
        t.rd F.DEC_FRMCNT_COUNT k = (s.dev.rd F.DEC_FRMCNT_COUNT k + 1) % 2 ^ 32 ∧
        (t.lane k).rx.signs = x.signs ++ [if lam < 0 then -1 else 1]) ∧
    (∀ sg rest, s.dev.isC k = true → (s.dev.lane k).rx.started = true → (s.dev.lane k).rx.signs = sg :: rest →
      272 * (s.dev.lane k).rx.window0 + 304 ≤ (s.dev.lane k).rx.outs →
      ∃ t : Dev, exec (.windowDecode k) s = .next (s.put t) ∧
        (t.lane k).rx.window0 = (s.dev.lane k).rx.window0 + 1 ∧
        (t.lane k).rx.signs = (if (s.dev.lane k).rx.window0 % 4 = 3 then rest else sg :: rest)) ∧
    (s.dev.domOn (dLRXD k) = true → (s.dev.lane k).rx.started = true → s.dev.isC k = true →
      ∃ t : Dev, exec (.lqfBlockEnd k) s = .next (s.put t) ∧
        t.rd F.LN_SNR_PILOT k = snrFigure (s.dev.lane k).rx.sumP (s.dev.lane k).rx.cntP % 2 ^ F.LN_SNR_PILOT.w ∧
        t.rd F.LN_SNR_FFE k = snrFigure (s.dev.lane k).rx.sumF (s.dev.lane k).rx.cntF % 2 ^ F.LN_SNR_FFE.w ∧
        t.rd F.LN_LQF_LQF k = snrFigure (s.dev.lane k).rx.sumP (s.dev.lane k).rx.cntP % 2 ^ F.LN_LQF_LQF.w ∧
        t.rd F.LN_LQF_VALID k = 1) ∧
    (∀ pos, s.dev.domOn (dLRXD k) = true → (s.dev.lane k).active = true → (s.dev.lane k).rx.started = true →
      (s.dev.lane k).lolTimer = false → (s.dev.lane k).rx.trfrz = false →
      (s.dev.on F.LN_TRSTAT_LOCK k = true →
        ∃ t : Dev, exec (.trFreqLimit k pos) s = .next (s.put t) ∧
          t.rd F.LN_TRFREQ_FREQ k = tc F.LN_TRFREQ_FREQ.w (s.dev.lane k).rx.freqIn % 2 ^ F.LN_TRFREQ_FREQ.w ∧
          t.rd F.LN_TRSTAT_FLIM k = 1 ∧ t.rd F.LN_TRSTAT_LOL k = 1 ∧ t.rd F.LN_TRSTAT_LOCK k = 0 ∧
          t.rd F.LN_TRSTAT_LOLCNT k = (s.dev.rd F.LN_TRSTAT_LOLCNT k + 1) % 2 ^ F.LN_TRSTAT_LOLCNT.w ∧ (t.lane k).lolTimer = true) ∧
      (s.dev.on F.LN_TRSTAT_LOCK k = false →
        exec (.trFreqLimit k pos) s =
          .next (s.put ((s.dev.wrS F.LN_TRFREQ_FREQ k (if pos then 250000 else -250000)).wr F.LN_TRSTAT_FLIM k 1)))) ∧
    (s.dev.admits src 0xA140 .q = true → let x := s.dev.arrives 0xA140; let e := x.entry src 0xA140 .q;
      (lane.toNat ≤ 7 → x.domOn (dLRXD lane.toNat) = true → exec (.lineRxStatGet src lane) s = .next (s.put (x.completes e x
        (be 1 (x.regWord 0x10104 lane.toNat) ++ be 1 (x.rd F.DEC_STAT_MODE lane.toNat) ++ be 2 (x.rd F.LN_TRSTAT_LOLCNT lane.toNat) ++
        be 4 (tc 32 (x.rdS F.LN_TRFREQ_FREQ lane.toNat)) ++
        be 2 (if x.on F.LN_LQF_VALID lane.toNat then x.rd F.LN_LQF_LQF lane.toNat else 0) ++
        be 2 (x.rd F.LN_SNR_PILOT lane.toNat) ++ be 2 (x.rd F.LN_SNR_FFE lane.toNat) ++ zeros 2 ++ be 4 (x.rd F.LN_LATRX_LAT lane.toNat) ++
        be 4 (x.rd F.DEC_TAINTCNT_COUNT lane.toNat) ++ be 4 (x.rd F.DEC_LOWMCNT_COUNT lane.toNat) ++
        be 4 (x.rd F.DEC_ERASCNT_COUNT lane.toNat))))) ∧
      (lane.toNat ≤ 7 → x.domOn (dLRXD lane.toNat) = false →
        exec (.lineRxStatGet src lane) s = .next (s.put (x.declines e .notReady))) ∧
      (7 < lane.toNat → exec (.lineRxStatGet src lane) s = .next (s.put (x.declines e .badParam)))) ∧
    (s.dev.admits src 0xA141 .c = true → let x := s.dev.arrives 0xA141; let e := x.entry src 0xA141 .c; lane.toNat ≤ 7 →
      exec (.lineRxCfgSet src lane 0xFF 0xFF 0xFF 0xFF 0xFF 0xFF 0xFF 0xFF) s = .next (s.put (x.completes e x [])) ∧
      (∀ bw trfrz mu ffefrz cursor alpha twt mth : Byte, bw.toNat ≤ 3 → trfrz.toNat ≤ 1 → mu.toNat ≤ 7 → ffefrz.toNat ≤ 1 →
        4 ≤ cursor.toNat → cursor.toNat ≤ 15 → alpha.toNat ≤ 192 → twt.toNat ≤ 3 → mth.toNat ≤ 127 →
        let j := lane.toNat
        let dom := dLRXD j
        exec (.lineRxCfgSet src lane bw trfrz mu ffefrz cursor alpha twt mth) s = .next (s.put (x.completes e
          ((((((((x.cfg dom F.LN_TRCTL_BW j bw.toNat).cfg dom F.LN_TRCTL_FREEZE j trfrz.toNat).cfg dom F.LN_FFECTL_MU j mu.toNat).cfg dom
            F.LN_FFECTL_FREEZE j ffefrz.toNat).cfg dom F.LN_FFECTL_CURSOR j cursor.toNat).cfg dom F.LN_TGT_ALPHA j alpha.toNat).cfg dom
            F.DEC_CTL_TWT j twt.toNat).cfg dom F.DEC_CTL_MTH j mth.toNat) []))) ∧
      (∀ bw trfrz mu ffefrz cursor alpha twt mth : Byte, cursor.toNat < 4 ∨ (15 < cursor.toNat ∧ cursor.toNat < 255) →
        exec (.lineRxCfgSet src lane bw trfrz mu ffefrz cursor alpha twt mth) s = .next (s.put (x.declines e .badParam)))) ∧
    (s.dev.admits src 0xA142 .q = true → let x := s.dev.arrives 0xA142; let e := x.entry src 0xA142 .q; lane.toNat ≤ 7 → x.domOn (dLRXD lane.toNat) = true →
      exec (.lineFfeGet src lane) s = .next (s.put (x.completes e x
        (be 1 (x.lane lane.toNat).rx.cursor ++ be 1 (x.lane lane.toNat).rx.alpha ++ be 1 (x.rd F.LN_FFECTL_FREEZE lane.toNat +
          2 * b2n ((List.range 48).any fun i => x.pinned ((F.LN_FFETAP_VAL).at i) lane.toNat)) ++ be 1 0 ++
        (x.ffeTaps lane.toNat).flatMap fun t => be 2 (tc 16 t))))) ∧
    (s.dev.admits src 0xA143 .c = true → let x := s.dev.arrives 0xA143; let e := x.entry src 0xA143 .c; lane.toNat ≤ 7 → x.domOn (dLRXD lane.toNat) = true →
      ∀ (first count : Byte) (taps : List (BitVec 16)), first.toNat ≤ 47 → first.toNat + count.toNat ≤ 48 → 0 < count.toNat →
        taps.length = count.toNat → (∀ v ∈ taps, -2048 ≤ v.toInt ∧ v.toInt ≤ 2047) →
        exec (.lineFfeSet src lane first count taps) s = .next (s.put (x.completes e
          (iter count.toNat (fun j y => (y.wrS ((F.LN_FFETAP_VAL).at (first.toNat + j)) lane.toNat (taps.getD j 0).toInt).tapWritten
            lane.toNat (first.toNat + j)) x) []))) ∧
    (s.dev.admits src 0xA144 .q = true → let x := s.dev.arrives 0xA144; let e := x.entry src 0xA144 .q; lane.toNat ≤ 7 →
      (x.domOn (dLRXD lane.toNat) = false ∨ (x.lane lane.toNat).rx.snapped = false →
        exec (.lineDecHistGet src lane) s = .next (s.put (x.completes e x (zeros 72)))) ∧
      (x.domOn (dLRXD lane.toNat) = true → (x.lane lane.toNat).rx.snapped = true →
        exec (.lineDecHistGet src lane) s = .next (s.put (x.completes e x
          (be 1 (x.tel.getD lane.toNat {}).hseq ++ zeros 3 ++ be 4 (x.tel.getD lane.toNat {}).hfrm ++
            (List.range 16).flatMap fun b => be 4 ((x.tel.getD lane.toNat {}).bins.getD b 0))))))

/-- HOST_CDR_LOSS of a host lane in use clears CDRLOCK and TXLOCK, sets LOSS and counts it. HOST_CDR_RETURN of a lost lane sets
CDRLOCK and SIGDET, and TXLOCK where the host lane drives the transmit rotator. HOST_SLIP of an aligned lane sets SLIP, counts it, clears ALIGNED and its latency. HOST_REALIGN_DONE sets PHASE,
PAD = W − 1 − PHASE and ALIGNED. HOST.STAT.GET and HOST.EQ.GET answer without effect; a host lane above 15 is BADPARAM.
HOST.EQ.SET of AMP alone on a used host lane keeps every other field; a tap sum above 40 is BADPARAM; unused, NOT_READY. -/
def Obligations.HostLanes : Prop :=
  ∀ (s : State) (src : Src) (n : Fin 16) (hlane : Byte),
    (∀ p, s.dev.hostPath n = some p → s.dev.on F.HL_STAT_CDRLOCK n = true →
      ∃ t : Dev, exec (.hostCdrLoss n) s = .next (s.put t) ∧ t.rd F.HL_STAT_CDRLOCK n = 0 ∧ t.rd F.HL_STAT_TXLOCK n = 0 ∧
        t.rd F.HL_STAT_LOSS n = 1 ∧
        t.rd F.HL_SLIPCNT_LOSSCNT n = (s.dev.rd F.HL_SLIPCNT_LOSSCNT n + 1) % 2 ^ F.HL_SLIPCNT_LOSSCNT.w ∧
        (t.host n).lost = true ∧ t.lanes = s.dev.lanes) ∧
    (∀ p, s.dev.hostPath n = some p → (s.dev.host n).lost = true →
      ∃ t : Dev, exec (.hostCdrReturn n) s = .next (s.put t) ∧ t.rd F.HL_STAT_CDRLOCK n = 1 ∧ t.rd F.HL_STAT_SIGDET n = 1 ∧
        t.rd F.HL_STAT_TXLOCK n = (if s.dev.rotates n then 1 else s.dev.rd F.HL_STAT_TXLOCK n) ∧
        t.rd F.HL_STAT_LOSS n = s.dev.rd F.HL_STAT_LOSS n ∧ (t.host n).lost = false ∧ t.lanes = s.dev.lanes) ∧
    (∀ p, s.dev.hostPath n = some p → s.dev.on F.HL_STAT_ALIGNED n = true →
      ∃ t : Dev, exec (.hostSlip n) s = .next (s.put t) ∧ t.rd F.HL_STAT_SLIP n = 1 ∧ t.rd F.HL_STAT_ALIGNED n = 0 ∧
        t.rd F.HL_SLIPCNT_SLIPCNT n = (s.dev.rd F.HL_SLIPCNT_SLIPCNT n + 1) % 2 ^ F.HL_SLIPCNT_SLIPCNT.w ∧
        t.rd F.HL_LATTX_LAT n = 0 ∧ (t.host n).realign = true ∧ t.lanes = s.dev.lanes) ∧
    (∀ p phi lat, s.dev.hostPath n = some p → (s.dev.host n).realign = true → s.dev.on F.HL_STAT_CDRLOCK n = true →
      ∃ t : Dev, exec (.hostRealignDone n phi lat) s = .next (s.put t) ∧ t.rd F.HL_STAT_ALIGNED n = 1 ∧
        t.rd F.HL_ALIGN_PHASE n = phi % wordUis p.lrm ∧ t.rd F.HL_ALIGN_PAD n = wordUis p.lrm - 1 - phi % wordUis p.lrm ∧
        (t.host n).realign = false ∧
        (n.val % 2 = 0 → t.on F.LN_STAT_TRAINING (n / 2) = false → t.farLoop (n / 2) = false →
          t.rd F.HL_LATTX_LAT n = latTx p.lrm lat ∧ t.rd F.LN_LATTX_LAT (n / 2) = latTx p.lrm lat)) ∧
    (s.dev.admits src 0xA200 .q = true → let x := s.dev.arrives 0xA200; let e := x.entry src 0xA200 .q;
      (hlane.toNat ≤ 15 → exec (.hostStatGet src hlane) s = .next (s.put (x.completes e x
        (be 2 (x.regWord 0x30004 hlane.toNat) ++ be 1 (x.rd F.HL_STAT_RATE hlane.toNat) ++ be 1 (x.host hlane.toNat).state ++
        be 1 (x.rd F.HL_ALIGN_PHASE hlane.toNat) ++ be 1 (x.rd F.HL_ALIGN_PAD hlane.toNat) ++
        be 2 (x.rd F.HL_SLIPCNT_SLIPCNT hlane.toNat) ++ be 2 (x.rd F.HL_SLIPCNT_LOSSCNT hlane.toNat) ++ zeros 2 ++
        be 4 (x.rd F.HL_LATTX_LAT hlane.toNat))))) ∧
      (15 < hlane.toNat → exec (.hostStatGet src hlane) s = .next (s.put (x.declines e .badParam)))) ∧
    (s.dev.admits src 0xA201 .q = true → let x := s.dev.arrives 0xA201; let e := x.entry src 0xA201 .q;
      (hlane.toNat ≤ 15 → ∃ p, exec (.hostEqGet src hlane) s = .next (s.put (x.completes e x p)) ∧ p.length = 12 ∧
        p.take 1 = be 1 (x.hostCfg (dHTX hlane.toNat) F.HL_TXEQ_PRE2 hlane.toNat)) ∧
      (15 < hlane.toNat → exec (.hostEqGet src hlane) s = .next (s.put (x.declines e .badParam)))) ∧
    (s.dev.admits src 0xA202 .c = true → let x := s.dev.arrives 0xA202; let e := x.entry src 0xA202 .c; hlane.toNat ≤ 15 →
      (∀ amp : Byte, amp.toNat ≤ 3 → x.hostUsed hlane.toNat = true →
        x.hostCfg (dHTX hlane.toNat) F.HL_TXEQ_PRE2 hlane.toNat + x.hostCfg (dHTX hlane.toNat) F.HL_TXEQ_PRE1 hlane.toNat +
          x.hostCfg (dHTX hlane.toNat) F.HL_TXEQ_POST1 hlane.toNat ≤ 40 →
        exec (.hostEqSet src hlane 0xFF 0xFF 0xFF amp 0xFF 0xFF 0xFF 0xFF) s = .next (s.put (x.completes e
          ((x.cfg (dHTX hlane.toNat) F.HL_TXEQ_AMP hlane.toNat amp.toNat).hostApply hlane.toNat) []))) ∧
      (∀ amp : Byte, amp.toNat ≤ 3 → x.hostUsed hlane.toNat = false →
        exec (.hostEqSet src hlane 0 0 0 amp 0xFF 0xFF 0xFF 0xFF) s = .next (s.put (x.declines e .notReady))) ∧
      (∀ amp ctle vga dfe1 adapt pre2 pre1 post1 : Byte, pre2.toNat ≠ 255 → pre1.toNat ≠ 255 → post1.toNat ≠ 255 →
        40 < pre2.toNat + pre1.toNat + post1.toNat →
        exec (.hostEqSet src hlane pre2 pre1 post1 amp ctle vga dfe1 adapt) s = .next (s.put (x.declines e .badParam))))

/-- PTNR_PACKET_TX_START on a lane that sends frames with none in progress starts the first booked packet when its frame has
come; before that frame it waits. PTNR_RETRY_TIMER presents each refused packet again where its type goes now. EQHINT_TIMER, LVLHINT_TIMER,
TELEM_TIMER and TTSTAMP_SEND present their packet (types 3, 4, 9, 0x10) where the feature bits, the control bits and the ACTIVE
state let them, and change nothing with HINTTX = 0 or EN = 0. ALARM_TIMER with any alarm bit presents the ALARM.
HINT_STEP_COMMIT, with no commit in the last 8,704 UI and a tap that owes, stages each tap's part, at most 8 units of an unpinned one, and requests a
commit. -/
def Obligations.PartnerSend : Prop :=
  ∀ (s : State) (k : Fin 8),
    (∀ b r, (s.dev.lane k).tx.calendar = b :: r → s.dev.frames k = true → (s.dev.lane k).tx.cur = none →
      (b.start ≤ (s.dev.lane k).tx.frame → exec (.ptnrPacketTxStart k) s = .next (s.put (s.dev.mapTx k fun x =>
        { x with calendar := r, cur := some b, raw := ptnrRaw b.type b.seq b.payload }))) ∧
      ((s.dev.lane k).tx.frame < b.start → exec (.ptnrPacketTxStart k) s = .next s)) ∧
    (let y := s.dev.mapTx k fun x => { x with retry := [] }
     exec (.ptnrRetryTimer k) s = .next (s.put ((s.dev.lane k).tx.retry.foldl (fun e r => e.presentAgain k r) y)) ∧
      ∀ r : Nat × List Byte, (s.dev.lane k).tx.retry = [r] →
        (r.1 = 1 → s.dev.stepOf k = 6 → exec (.ptnrRetryTimer k) s = .next (s.put (y.present k 1 r.2))) ∧
        (r.1 = 8 → s.dev.frames (r.2.getD 2 0).toNat = true →
          exec (.ptnrRetryTimer k) s = .next (s.put (y.present (r.2.getD 2 0).toNat 8 r.2))) ∧
        (∀ p j, r.1 = 2 → s.dev.pathOf k = some p → s.dev.mgmtLane p = some j →
          exec (.ptnrRetryTimer k) s = .next (s.put (y.present j 2 r.2)))) ∧
    (∀ deltas : List (BitVec 8), deltas.length = 9 →
      (s.dev.stepOf k = 7 → s.dev.on F.LN_PTCTL_HINTTX k = true → s.dev.farFeature k 1 = true →
        exec (.eqhintTimer k deltas) s = .next (s.put (s.dev.present k 3
          (deltas ++ be 1 (s.dev.lane k).tx.main ++ zeros 2)))) ∧
      (s.dev.on F.LN_PTCTL_HINTTX k = false → exec (.eqhintTimer k deltas) s = .next s)) ∧
    (s.dev.stepOf k = 7 → s.dev.on F.LN_PTCTL_HINTTX k = true → s.dev.feature k 2 = true →
      exec (.lvlhintTimer k) s = .next (s.put (s.dev.present k 4 (be 4 (s.dev.levelWord k) ++ zeros 4)))) ∧
    (s.dev.on F.LN_PTCTL_HINTTX k = false → exec (.lvlhintTimer k) s = .next s) ∧
    (s.dev.isC k = true → (s.dev.lane k).active = true → s.dev.alarmBits k ≠ 0 →
      exec (.alarmTimer k) s = .next (s.put (s.dev.sendAlarm k))) ∧
    (s.dev.alarmBits k = 0 → exec (.alarmTimer k) s = .next s) ∧
    (∀ p j, (s.dev.paths.find? fun p => p.first == k.val) = some p → s.dev.mgmtLane p = some j → p.lrm < 2 →
      (s.dev.on F.LN_PTCTL_TELEM p.first = true → s.dev.feature j 4 = true →
        ∃ pay, exec (.telemTimer k) s = .next (s.put (s.dev.present j 9 pay)) ∧ pay.length = 40) ∧
      (s.dev.on F.LN_PTCTL_TELEM p.first = false → exec (.telemTimer k) s = .next s)) ∧
    (∀ a b, s.dev.on F.TU_TTCTL_EN k = true → s.dev.stepOf k = 7 → s.dev.isC k = true → (s.dev.tt k).barred = false →
      1 ≤ s.dev.rd F.TU_TTCTL_PER k → s.dev.rd F.TU_TTCTL_PER k ≤ (s.dev.tt k).since → (s.dev.tt k).newest = some (a, b) →
      exec (.ttstampSend k) s = .next (s.put ((s.dev.present k 0x10 (s.dev.ttPayload k a b)).mapTt k fun x => { x with since := 0 }))) ∧
    (s.dev.on F.TU_TTCTL_EN k = false → exec (.ttstampSend k) s = .next s) ∧
    (s.dev.domOn (dLTXD k) = true → (s.dev.lane k).active = true → s.dev.txSpaced k = true → (∃ i, i < 9 ∧ s.dev.hintTap k i ≠ 0) →
      ∃ t : Dev, exec (.hintStepCommit k) s = .next (s.put t) ∧
        (t.lane k).tx.hint = ((List.range 9).map fun i => (s.dev.lane k).tx.hint.getD i 0 - s.dev.hintTap k i) ∧
        t.rd F.TX_CTL_CMTREQ k = 1 ∧
        ∀ i, i < 9 → t.rdS ((F.TX_FFETAP_STG).at i) k = (if s.dev.hintTap k i = 0 then s.dev.rdS ((F.TX_FFETAP_STG).at i) k
          else clampI (-512) 511 (s.dev.rdS ((F.TX_FFETAP_STG).at i) k + s.dev.hintTap k i))) ∧
    (s.dev.txSpaced k = false → exec (.hintStepCommit k) s = .next s)

/-- PREAMBLE_MATCH with at least as many of the last 64 raw bits agreeing as the threshold asks starts a reception, counting an
abort of one in progress; with fewer it changes nothing. PTNR_BAD_PACKET with a failed header counts PFALSE, with a failed
packet CRC or a LEN above 256 PCRCERR, and drops the reception. A received packet of its type leaves the reception, counts PRXCNT, and: READY (1)
before the lane's own READY sets farReady, and in READY the lane enters ACTIVE; CAP (2) is held by the group's lanes; EQHINT (3) with HINTRX joins
the owed deltas; LVLHINT (4) with HINTRX moves V1STG by 1 LSB towards a ratio of 1/3 and requests a commit; TTSTAMP (0x10) is stamped and completes or
discards its exchange, and a slave reports; with its control bit 0 a message goes no further; ALARM (8) sets LIVE and joins LATCH; TELEM (9) and 0x11 to 0x13
reach firmware; a HOST type (0x40 to 0x7F) joins the 8-entry FIFO, or counts RXOVF when that is full or HOSTRX is 0; any other type counts
BADTYPE. -/
def Obligations.PartnerReceive : Prop :=
  ∀ (s : State) (k : Fin 8),
    (s.dev.frames k = true → (s.dev.lane k).rx.corr.length = 64 →
      (pcth (s.dev.rd F.DEC_PCTH_PCTH k) ≤ agreement (s.dev.lane k).rx.corr →
        exec (.preambleMatch k) s = .next (s.put ((if (s.dev.lane k).rx.soft.isSome then s.dev.inc F.DEC_PABORT_COUNT k else s.dev).mapRx
          k fun r => { r with soft := some [] }))) ∧
      (agreement (s.dev.lane k).rx.corr < pcth (s.dev.rd F.DEC_PCTH_PCTH k) → exec (.preambleMatch k) s = .next s)) ∧
    (∀ l, (s.dev.lane k).rx.soft = some l →
      (rxPacket l = .badHeader → exec (.ptnrBadPacket k) s =
        .next (s.put ((s.dev.mapRx k fun r => { r with soft := none }).inc F.DEC_PFALSE_COUNT k))) ∧
      (rxPacket l = .badLen → exec (.ptnrBadPacket k) s =
        .next (s.put ((s.dev.mapRx k fun r => { r with soft := none }).inc F.DEC_PCRCERR_COUNT k))) ∧
      (rxPacket l = .badCrc → exec (.ptnrBadPacket k) s =
        .next (s.put ((s.dev.mapRx k fun r => { r with soft := none }).inc F.DEC_PCRCERR_COUNT k)))) ∧
    (∀ l type seq c raw, (s.dev.lane k).rx.soft = some l → rxPacket l = .packet type seq c raw → s.dev.frames k = true →
      let got := (s.dev.mapRx k fun r => { r with soft := none }).inc F.DEC_PRXCNT_COUNT k
      (type = 1 → s.dev.stepOf k = 5 →
        exec (.ptnrReadyRx k) s = .next (s.put (got.mapRx k fun r => { r with farReady := true }))) ∧
      (type = 1 → s.dev.stepOf k = 6 →
        exec (.ptnrReadyRx k) s = .next (s.put ((got.mapRx k fun r => { r with farReady := true }).enterActive k))) ∧
      (∀ p, type = 2 → s.dev.pathOf k = some p →
        exec (.ptnrCapRx k) s = .next (s.put (p.lanes.foldl (fun x j => (x.mapRx j fun r => { r with farCap := c }).mapTt j fun t =>
          { t with barred := !(capFeat c).testBit 3 }) got))) ∧
      (type = 3 → got.on F.LN_PTCTL_HINTRX k = true → got.farFeature k 0 = true →
        exec (.ptnrEqhintRx k) s = .next (s.put (got.mapTx k fun x =>
          { x with hint := addDeltas x.hint ((List.range 9).map fun i => (c.getD i 0).toInt) }))) ∧
      (type = 4 → got.on F.LN_PTCTL_HINTRX k = false → exec (.ptnrLvlhintRx k) s = .next (s.put got)) ∧
      (let v := got.rd F.TX_LEVEL_V1STG k
       let inner := 3 * (fieldAt c 2 1 + fieldAt c 1 1)
       let outer := fieldAt c 3 1 + fieldAt c 0 1
       let w := if inner < outer then satN (min 127 (got.rd F.TX_LEVEL_V3STG k)) (v + 1) else if outer < inner then v - 1 else v
       type = 4 → got.on F.LN_PTCTL_HINTRX k = true → got.feature k 2 = true → got.pinned F.TX_LEVEL_V1STG k = false →
        (w ≠ v → exec (.ptnrLvlhintRx k) s = .next (s.put ((got.wr F.TX_LEVEL_V1STG k w).txCmtReq k))) ∧
        (w = v → exec (.ptnrLvlhintRx k) s = .next (s.put got))) ∧
      (type = 8 → got.pathOf k = none → exec (.ptnrAlarmRx k) s =
        .next (s.put ((got.wr F.LN_FEALM_LIVE k (fieldAt c 0 1)).wr F.LN_FEALM_LATCH k (got.rd F.LN_FEALM_LATCH k ||| fieldAt c 0 1)))) ∧
      (∀ p, type = 8 → got.pathOf k = some p → (p.lanes.find? fun j => got.rd F.LN_FEID_LANE j == fieldAt c 2 1) = some k.val →
        exec (.ptnrAlarmRx k) s = .next (s.put ((got.wr F.LN_FEALM_LIVE k (fieldAt c 0 1)).wr F.LN_FEALM_LATCH k
          (got.rd F.LN_FEALM_LATCH k ||| fieldAt c 0 1)))) ∧
      (type = 9 → exec (.ptnrTelemRx k) s = .next (s.put got)) ∧
      (type = 0x10 → got.domOn dTIME = true → got.on F.TU_TTCTL_EN k = false →
        exec (.ptnrTtstampRx k) s = .next (s.put (got.fifoPush 3 k (got.rd F.TU_TTCTL_TB k) seq))) ∧
      (type = 0x10 → got.domOn dTIME = true → got.on F.TU_TTCTL_EN k = true →
        let y := (got.fifoPush 3 k (got.rd F.TU_TTCTL_TB k) seq).ttReceive k c
        exec (.ptnrTtstampRx k) s = .next (s.put (if y.1 && y.2.rd F.TU_TTCTL_ROLE k = 2 && !(y.2.tt k).barred && y.2.stepOf k = 7 then
          y.2.present k 0x11 (y.2.ttReport k) else y.2))) ∧
      (type = 0x11 ∨ type = 0x12 ∨ type = 0x13 → exec (.ptnrTtrptRx k) s = .next (s.put got)) ∧
      (0x40 ≤ type → type ≤ 0x7F → got.on F.LN_PTCTL_HOSTRX k = true →
        exec (.ptnrHostRx k) s = .next (s.put (got.mapRx k fun r =>
          if 8 ≤ r.fifo.length then { r with rxovf := (r.rxovf + 1) % 2 ^ 32 }
          else { r with fifo := r.fifo ++ [{ type := type, seq := seq, payload := c,
                                             frame := ((s.dev.lane k).rx.frame - 1 - (l.length - raw)) % 2 ^ 32 }] }))) ∧
      (0x40 ≤ type → type ≤ 0x7F → got.on F.LN_PTCTL_HOSTRX k = false →
        exec (.ptnrHostRx k) s = .next (s.put (got.mapRx k fun r => { r with rxovf := (r.rxovf + 1) % 2 ^ 32 }))) ∧
      (reservedType type = true →
        exec (.ptnrReservedRx k) s = .next (s.put (got.mapRx k fun r => { r with badtype := (r.badtype + 1) % 2 ^ 32 }))))

/-- LINE.PTNR.SEND of a HOST type on an ACTIVE C-mode lane with feature bit 5 books the packet within 30 µs and answers its SEQ
and START; where the calendar has no room the command is BUSY and the refusal counted; another type is BADPARAM, another state
NOT_READY. LINE.PTNR.RECV of an empty FIFO from offset 0 answers 12 zero bytes; of an entry it answers the payload from OFFSET, at most MAX bytes (0: all; over CDB
1 to 106), and a read without KEEP that reaches the end removes the entry. LINE.PTNR.STAT.GET answers 44 bytes beginning with the packets sent. -/
def Obligations.PartnerCommands : Prop :=
  ∀ (s : State) (src : Src) (lane : Byte), lane.toNat ≤ 7 →
    (∀ (type : Byte) (len : BitVec 16) (pay : List Byte), s.dev.admits src 0xA160 .c = true → let x := s.dev.arrives 0xA160; let e := x.entry src 0xA160 .c;
      len.toNat ≤ 256 → pay.length = len.toNat →
      (hostType type.toNat = true → x.stepOf lane.toNat = 7 → x.isC lane.toNat = true → x.feature lane.toNat 5 = true →
        ptnrFrames len.toNat * frameNum (x.lrm lane.toNat) ≤ 30000 * 425 →
        exec (.linePtnrSend src lane type len pay) s = .next (s.put (match x.book lane.toNat type.toNat pay 30000 with
          | (some (seq, ns), y) => x.completes e y (be 1 seq ++ be 1 0 ++ be 2 ns)
          | (none, y) => y.respondBusy e.src e.op 1))) ∧
      (hostType type.toNat = true → x.stepOf lane.toNat ≠ 7 →
        exec (.linePtnrSend src lane type len pay) s = .next (s.put (x.declines e .notReady))) ∧
      (hostType type.toNat = false → exec (.linePtnrSend src lane type len pay) s = .next (s.put (x.declines e .badParam)))) ∧
    (s.dev.admits src 0xA161 .q = true → let x := s.dev.arrives 0xA161; let e := x.entry src 0xA161 .q;
      ∀ (flags : Byte) (offset max : BitVec 16), (srcRoom src = 118 → 0 < max.toNat ∧ max.toNat ≤ 106) →
        ((x.lane lane.toNat).rx.fifo = [] → offset.toNat = 0 →
          exec (.linePtnrRecv src lane flags offset max) s = .next (s.put (x.completes e x (zeros 12)))) ∧
        (∀ h r, (x.lane lane.toNat).rx.fifo = h :: r → offset.toNat ≤ h.payload.length →
          let n := if max.toNat = 0 then h.payload.length - offset.toNat else min max.toNat (h.payload.length - offset.toNat)
          let left := if flags.toNat.testBit 0 = false ∧ offset.toNat + n = h.payload.length then r else h :: r
          exec (.linePtnrRecv src lane flags offset max) s =
            .next (s.put (x.completes e (x.mapRx lane.toNat fun y => { y with fifo := left })
              (be 1 left.length ++ be 1 h.type ++ be 2 h.payload.length ++ be 1 h.seq ++ be 1 0 ++ be 2 n ++ be 4 h.frame ++
                bytesAt h.payload offset.toNat n))))) ∧
    (s.dev.admits src 0xA162 .q = true → let x := s.dev.arrives 0xA162; let e := x.entry src 0xA162 .q;
      ∃ p, exec (.linePtnrStatGet src lane) s = .next (s.put (x.completes e x p)) ∧ p.length = 44 ∧
        p.take 12 = be 4 (x.lane lane.toNat).tx.txpkt ++ be 4 (x.lane lane.toNat).tx.txdrop ++ be 4 (x.lane lane.toNat).tx.refused)

/-- VOTE_PAGE_PROGRAMMED that failed is tried again, three times, and after the fourth failure the block is retired; one read back right stores the copy
and goes on to the next, after the third copy the flops hold the words, what the update was for follows, and the next one begins. TOKEN_DUE below 64 at its time adds a token, and the next is due 480 s later unless the bucket is full; in a state without a bucket it changes nothing. KEYGEN_DONE that failed sets KEYERR. The SEC commands answer their
payload, wait for their vote-word update, or are turned away as chapter 16 says: SEC.ATTEST in BLANK or SCRAPPED DENIED, without
SIGOK FAULT after acceptance; SEC.LC.ADVANCE outside Table 16-1 DENIED, beyond 5 BADPARAM; SEC.KEYGEN outside its state
DENIED; SEC.ROOT.SET once; reads out of range BADPARAM; SEC.TICKET.LOAD joins a block
to what has come before it, and the last block applies the object, or discards it with DENIED. -/
def Obligations.SecurityCommands : Prop :=
  ∀ (s : State) (src : Src),
    (∀ j rest, s.dev.vote.jobs = j :: rest → s.dev.fwRun = true → s.dev.domOn dSTOCK = true →
      (j.fails < 3 → exec (.votePageProgrammed false) s =
        .next (s.put { s.dev with vote := { s.dev.vote with jobs := { j with fails := j.fails + 1 } :: rest } })) ∧
      (3 ≤ j.fails → exec (.votePageProgrammed false) s =
        .next (s.put { s.dev with vote := { s.dev.vote with jobs := { j with fails := 0 } :: rest } }.retire)) ∧
      (j.stage < 2 → exec (.votePageProgrammed true) s =
        .next (s.put { s.dev with vote := { s.dev.vote with
          copies := vset s.dev.vote.copies j.stage fun _ => { gen := s.dev.vote.gen + 1, words := s.dev.pageWords j, valid := true }
          jobs := { j with stage := j.stage + 1, fails := 0 } :: rest } })) ∧
      (j.stage = 2 →
        let v := { s.dev.vote with
          copies := vset s.dev.vote.copies j.stage fun _ => { gen := s.dev.vote.gen + 1, words := s.dev.pageWords j, valid := true }
          gen := s.dev.vote.gen + 1, flops := Vector.replicate 3 (s.dev.pageWords j), jobs := rest }
        exec (.votePageProgrammed true) s =
          .next (s.put ((({ s.dev with vote := v }.wr F.MI_VSTAT_GENLO 0 v.gen).voteAfter j).jobBegin))) ∧
      (j.stage = 2 → rest = [] → j.after = .nothing →
        ∃ t : Dev, exec (.votePageProgrammed true) s = .next (s.put t) ∧ t.vote.jobs = [] ∧ t.vote.gen = s.dev.vote.gen + 1 ∧
          t.vote.flops = Vector.replicate 3 (s.dev.pageWords j) ∧ t.rd F.MI_VSTAT_GENLO = (s.dev.vote.gen + 1) % 2 ^ 32)) ∧
    (∀ due, s.dev.sec.nextDue = some due → s.dev.fwRun = true → s.dev.pot.mounted = true →
      (s.dev.bucketed = true → s.dev.rd F.SEC_ATT_TOKENS < 64 → due ≤ (s.dev.stamp 3).sec →
        exec .tokenDue s = .next (s.put (s.dev.setBucket (s.dev.rd F.SEC_ATT_TOKENS + 1)
          (if s.dev.rd F.SEC_ATT_TOKENS = 63 then none else some (due + 480))))) ∧
      (s.dev.bucketed = false → exec .tokenDue s = .next s)) ∧
    (s.dev.on F.SEC_LC_KEYGEN = true →
      exec (.keygenDone false) s = .next (s.put ((s.dev.clr F.SEC_LC_KEYGEN).wr F.SEC_LC_KEYERR 0 1)) ∧
      exec (.keygenDone true) s = .next (s.put (((s.dev.clr F.SEC_LC_KEYGEN).wr F.SEC_LC_KEYERR 0 0).keyStored.enqueue [(1, 0), (5, 1047552)] .nothing))) ∧
    (s.dev.admits src 0xA800 .q = true → let x := s.dev.arrives 0xA800; let e := x.entry src 0xA800 .q;
      exec (.secStatGet src) s = .next (s.put (x.completes e x (be 4 x.secLc ++ be 4 x.secBoot ++ be 4 x.secAtt ++ be 4 x.secRma ++
        be 4 (match x.sec.nextDue with | none => 0 | some due => due - (x.stamp 3).sec))))) ∧
    (∀ nonce : BitVec 256, s.dev.admits src 0xA810 .s = true → let x := s.dev.arrives 0xA810; let e := x.entry src 0xA810 .s;
      (x.lc = 0 ∨ x.lc = 5 → exec (.secAttest src nonce) s = .next (s.put (x.declines e .denied))) ∧
      (x.lc ≠ 0 → x.lc ≠ 5 → x.pot.mounted = false → exec (.secAttest src nonce) s = .next (s.put (x.declines e .notReady))) ∧
      (x.lc ≠ 0 → x.lc ≠ 5 → x.pot.mounted = true → x.on F.SEC_ATT_SIGOK = true → x.sec.keyOk = true →
        (x.bucketed = true → x.signQueue < x.rd F.SEC_ATT_TOKENS) → x.leafNow + x.signQueue < x.leafEnd →
        exec (.secAttest src nonce) s = .next (s.put ((x.enqueue [] (.sign (some src) (be 32 nonce.toNat))).holds e .vote)))) ∧
    (∀ off cnt : BitVec 16, s.dev.admits src 0xA811 .q = true → let x := s.dev.arrives 0xA811; let e := x.entry src 0xA811 .q;
      (0 < cnt.toNat → cnt.toNat ≤ srcRoom src → off.toNat + cnt.toNat ≤ x.sec.signed.length →
        exec (.secAttestRead src off cnt) s = .next (s.put (x.completes e x (bytesAt x.sec.signed off.toNat cnt.toNat)))) ∧
      (x.sec.signed.length < off.toNat + cnt.toNat →
        exec (.secAttestRead src off cnt) s = .next (s.put (x.declines e .badParam)))) ∧
    (∀ off cnt : BitVec 16, s.dev.admits src 0xA812 .q = true → let x := s.dev.arrives 0xA812; let e := x.entry src 0xA812 .q;
      (x.sec.cert = [] → exec (.secCertRead src off cnt) s = .next (s.put (x.declines e .notReady))) ∧
      (x.sec.cert ≠ [] → 0 < cnt.toNat → cnt.toNat ≤ srcRoom src → off.toNat + cnt.toNat ≤ x.sec.cert.length →
        exec (.secCertRead src off cnt) s = .next (s.put (x.completes e x (bytesAt x.sec.cert off.toNat cnt.toNat))))) ∧
    (s.dev.admits src 0xA813 .q = true → let x := s.dev.arrives 0xA813; let e := x.entry src 0xA813 .q;
      exec (.secChallenge src) s = .next (s.put (x.completes e x x.sec.challenge))) ∧
    (∀ target : Byte, s.dev.admits src 0xA820 .s = true → let x := s.dev.arrives 0xA820; let e := x.entry src 0xA820 .s;
      (5 < target.toNat → exec (.secLcAdvance src target) s = .next (s.put (x.declines e .badParam))) ∧
      (target.toNat ≤ 5 → x.lcAllowed target.toNat = false → exec (.secLcAdvance src target) s = .next (s.put (x.declines e .denied))) ∧
      (target.toNat ≤ 5 → x.lcAllowed target.toNat = true → exec (.secLcAdvance src target) s =
        .next (s.put ((x.enqueue [(0, x.voteWord 0 / 8 * 8 + target.toNat)] (.advance src target.toNat)).holds e .vote)))) ∧
    (s.dev.admits src 0xA821 .c = true → let x := s.dev.arrives 0xA821; let e := x.entry src 0xA821 .c;
      (x.lc ≠ 1 → exec (.secKeygen src) s = .next (s.put (x.declines e .denied))) ∧
      (x.lc = 1 → ∃ t : Dev, exec (.secKeygen src) s = .next (s.put (x.completes e t [])) ∧ t.sec.keyOk = false ∧
        t.sec.key.length = 64 ∧ t.sec.pub.length = 32 ∧ t.rd F.SEC_LC_KEYGEN = 1 ∧ t.rd F.SEC_ATT_SIGOK = 0)) ∧
    (∀ root : BitVec 256, s.dev.admits src 0xA822 .s = true → let x := s.dev.arrives 0xA822; let e := x.entry src 0xA822 .s;
      (x.lc = 2 → x.sec.root = [] → exec (.secRootSet src root) s =
        .next (s.put (x.completes e (x.mapSec fun y => { y with root := be 32 root.toNat }) []))) ∧
      (x.lc ≠ 2 ∨ x.sec.root ≠ [] → exec (.secRootSet src root) s = .next (s.put (x.declines e .denied)))) ∧
    (∀ (size : BitVec 16) (data : List Byte), s.dev.admits src 0xA830 .f = true → let x := s.dev.arrives 0xA830; let e := x.entry src 0xA830 .f;
      0 < size.toNat → size.toNat ≤ 960 → (∀ i, src = .cdb i → size.toNat ≤ 112) → data.length = size.toNat →
      (∀ (kind : Byte) (offset : Word32) (h : List Byte), kind.toNat = 1 ∨ kind.toNat = 2 → (kind.toNat = 1 → x.lc = 1) →
        (offset.toNat = 0 ∧ h = []) ∨ (offset.toNat ≠ 0 ∧ x.sec.ticket = some ⟨kind.toNat, h⟩ ∧ h.length = offset.toNat) →
        h.length + size.toNat ≤ 16384 →
        let y := (x.mapSec fun z => { z with ticket := none }).ticketApply kind.toNat (h ++ data)
        exec (.secTicketLoad src kind 0 size offset data) s =
          .next (s.put (x.completes e (x.mapSec fun z => { z with ticket := some ⟨kind.toNat, h ++ data⟩ }) [])) ∧
        exec (.secTicketLoad src kind 1 size offset data) s =
          .next (s.put (if y.2 = true then x.completes e y.1 [] else y.1.respond src 0xA830 .denied []))) ∧
      (x.lc ≠ 1 → exec (.secTicketLoad src 1 0 size 0 data) s = .next (s.put (x.declines e .denied))) ∧
      exec (.secTicketLoad src 3 0 size 0 data) s = .next (s.put (x.declines e .badParam)))

/-- COLANDER_CODEWORD of a counting host lane: with lock a codeword without a marker is counted under its locator degree; without lock a first or second marker
match is counted towards the lock, a third sets it, and a miss starts the count anew; an asked snapshot is taken at the codeword boundary. TELEMETRY_REFRESH under firmware reads each lane whose LRXD is on (not stale, its LQF) and marks the others
stale, and takes the hottest temperature. TALLY_RECORD before the mount with 512 records held is dropped and counted; otherwise
the record is written and the host lanes' next deltas start here. TEL.LANE.GET answers 72 or 100 bytes, TEL.COL.GET TM_CLSTAT and its eight or nine
totals, BADPARAM out of range. TEL.TALLY.SET sets the configuration, the user enable and the counter as asked; TEL.TALLY.GET answers the counters asked for. -/
def Obligations.Telemetry : Prop :=
  ∀ (s : State) (src : Src) (n : Fin 16),
    (∀ cw, s.dev.domOn (dHTX n) = true → (s.dev.host n).state = 2 → s.dev.on F.TM_CLCTL_EN n = true →
      (s.dev.on F.TM_CLCTL_SNAP n = false → s.dev.on F.TM_CLSTAT_LOCK n = false →
        ((s.dev.host n).mkGood < 2 → exec (.colanderCodeword n (some true) cw) s =
          .next (s.put (s.dev.mapHost n fun h => { h with mkGood := h.mkGood + 1 }))) ∧
        (2 ≤ (s.dev.host n).mkGood → exec (.colanderCodeword n (some true) cw) s =
          .next (s.put ((s.dev.wr F.TM_CLSTAT_LOCK n 1).mapHost n fun h => { h with mkGood := 0, mkBad := 0 }))) ∧
        exec (.colanderCodeword n (some false) cw) s = .next (s.put (s.dev.mapHost n fun h => { h with mkGood := 0 }))) ∧
      (s.dev.on F.TM_CLCTL_SNAP n = false → s.dev.on F.TM_CLSTAT_LOCK n = true → cw.length = 544 →
        exec (.colanderCodeword n none cw) s = .next (s.put (s.dev.clCount n (locatorDegree cw)))) ∧
      (s.dev.on F.TM_CLCTL_SNAP n = true → ∃ t : Dev, exec (.colanderCodeword n none cw) s = .next (s.put t) ∧
        t.rd F.TM_CLCTL_SNAP n = 0 ∧ t.rd F.TM_CLUNC_COUNT n = (s.dev.host n).live.getD 16 0 % 2 ^ 32 ∧
        (∀ b, b < 16 → t.rd (F.TM_CLBIN_COUNT.at b) n = (s.dev.host n).live.getD b 0 % 2 ^ 32))) ∧
    (s.dev.fwRun = true →
      ∃ t : Dev, exec .telemetryRefresh s = .next (s.put t) ∧
        t.optics.dieTemp = s.dev.optics.temps.toList.foldl (fun a v => max a (v.getD 0)) 0 ∧
        ∀ k : Fin 8, (s.dev.domOn (dLRXD k) = false → (t.tel.getD k {}).stale = true) ∧
          (s.dev.domOn (dLRXD k) = true → (t.tel.getD k {}).stale = false ∧ (t.tel.getD k {}).lqf = s.dev.rd F.LN_LQF_LQF k ∧
            (t.tel.getD k {}).since = s.dev.now)) ∧
    (s.dev.fwRun = true →
      (s.dev.pot.mounted = false → 512 ≤ s.dev.pot.buf.length → exec .tallyRecord s =
        .next (s.put { s.dev with pot := { s.dev.pot with dropped := (s.dev.pot.dropped + 1) % 2 ^ 32 } })) ∧
      (s.dev.pot.mounted = true ∨ s.dev.pot.buf.length < 512 → ∃ t : Dev, exec .tallyRecord s = .next (s.put t) ∧
        t.pot.buf.length = s.dev.pot.buf.length + 1 ∧ (t.host n).prev = (s.dev.host n).totals)) ∧
    (∀ lane what : Byte, s.dev.admits src 0xA900 .q = true → let x := s.dev.arrives 0xA900; let e := x.entry src 0xA900 .q;
      (lane.toNat ≤ 7 → what.toNat ≤ 1 → ∃ p, exec (.telLaneGet src lane what) s = .next (s.put (x.completes e x p)) ∧
        p.length = (if what.toNat = 0 then 72 else 100) ∧
        ((x.tel.getD lane.toNat {}).stale = true → p.take 2 = [0xFF, 0xFF])) ∧
      (7 < lane.toNat ∨ 1 < what.toNat → exec (.telLaneGet src lane what) s = .next (s.put (x.declines e .badParam)))) ∧
    (∀ hlane part : Byte, s.dev.admits src 0xA910 .q = true → let x := s.dev.arrives 0xA910; let e := x.entry src 0xA910 .q;
      (hlane.toNat ≤ 15 → part.toNat ≤ 1 →
        exec (.telColGet src hlane part) s = .next (s.put (x.completes e x (be 4 (if x.domOn (dHTX hlane.toNat) then x.regWord 0xF0004 hlane.toNat else 0) ++
          (List.range (8 + part.toNat)).flatMap fun j => be 8 ((x.host hlane.toNat).totals.getD (8 * part.toNat + j) 0))))) ∧
      (15 < hlane.toNat ∨ 1 < part.toNat → exec (.telColGet src hlane part) s = .next (s.put (x.declines e .badParam)))) ∧
    (∀ cnt : Byte, s.dev.admits src 0xA920 .c = true → let x := s.dev.arrives 0xA920; let e := x.entry src 0xA920 .c; srcHost src = true →
      (cnt.toNat ≤ 31 → exec (.telTallySet src cnt 0xFF 1 0xFFFFFFFF 0 0) s = .next (s.put (x.completes e
        { x with tally := { x.tally with count := vset x.tally.count cnt.toNat fun _ => 0 } } []))) ∧
      (∀ (uen load : Byte) (cfg base limit : Word32), cnt.toNat ≤ 31 → uen.toNat ≤ 1 ∨ uen.toNat = 255 → load.toNat ≤ 1 →
        let c := cnt.toNat
        ∃ t : Dev, exec (.telTallySet src cnt uen load cfg base limit) s = .next (s.put (x.completes e t [])) ∧
          (cfg.toNat = 0xFFFFFFFF → t.rd F.TL_BASE_ADDR c = x.rd F.TL_BASE_ADDR c ∧ t.rd F.TL_LIMIT_ADDR c = x.rd F.TL_LIMIT_ADDR c ∧
            t.rd F.TL_CFG_EN c = x.rd F.TL_CFG_EN c) ∧
          (cfg.toNat ≠ 0xFFFFFFFF → t.rd F.TL_BASE_ADDR c = base.toNat ∧ t.rd F.TL_LIMIT_ADDR c = limit.toNat ∧
            t.rd F.TL_CFG_EN c = cfg.toNat / 2 ^ 31 ∧ t.rd F.TL_CFG_EVENT c = cfg.toNat % 16) ∧
          (uen.toNat = 255 → t.rd F.TL_UEN_UEN = x.rd F.TL_UEN_UEN) ∧
          (uen.toNat ≤ 1 → (t.rd F.TL_UEN_UEN).testBit c = decide (uen.toNat = 1)) ∧
          t.tally.count = (if load.toNat = 1 then vset x.tally.count c fun _ => 0 else x.tally.count)) ∧
      (31 < cnt.toNat → exec (.telTallySet src cnt 0xFF 1 0xFFFFFFFF 0 0) s = .next (s.put (x.declines e .badParam)))) ∧
    (∀ first cnt : Byte, s.dev.admits src 0xA921 .q = true → let x := s.dev.arrives 0xA921; let e := x.entry src 0xA921 .q;
      (srcHost src = true ∨ (∀ j, j < cnt.toNat → x.userSees (first.toNat + j) true = true)) →
      (0 < cnt.toNat → cnt.toNat ≤ 8 → first.toNat + cnt.toNat ≤ 32 →
        exec (.telTallyGet src first cnt) s = .next (s.put (x.completes e x ((List.range cnt.toNat).flatMap fun j =>
          be 6 (x.tally.count.getD (first.toNat + j) 0) ++ be 2 (x.rd F.TL_STAT_OVF (first.toNat + j)))))) ∧
      (cnt.toNat = 0 ∨ 8 < cnt.toNat ∨ 32 < first.toNat + cnt.toNat →
        exec (.telTallyGet src first cnt) s = .next (s.put (x.declines e .badParam))))

/-- BIST_STEP with no run changes nothing. A running test that does not abort goes on with the worst value of its steps. With a device-level test of ID 7 as the last one, its last step's measurement adds the
entry PASS (0) or FAIL (1) with the value and closes the run COMPLETE (2); a MEM test that ends leaves the pattern RAM cleared. A
run asked to end, or whose device has left READY, ends. BIST.RUN from an applet is DENIED, with SET above 1 BADPARAM; where it may start it answers the next RUNID.
BIST.STAT.GET answers 12 bytes; BIST.RESULT.GET at most 8 entries from the first asked for; BIST.ABORT of a run marks it to end
and waits, without a run NOT_READY. JTAG_EXTEST, BYPASS, IDCODE and SAMPLE_PRELOAD set the instruction register and change
nothing but the test access port; IDCODE captures 0xB340072B. -/
def Obligations.SelfTest : Prop :=
  ∀ (s : State) (src : Src),
    (∀ meas, (s.dev.bist.state ≠ 1 → exec (.bistStep meas) s = .next s) ∧
      (s.dev.bist.state = 1 → s.dev.bist.ending = true ∨ s.dev.isReady = false → exec (.bistStep meas) s = .next (s.put s.dev.bistEnd))) ∧
    (∀ (t : BistTest) (m : StepMeas), s.dev.bist.state = 1 → s.dev.bist.ending = false → s.dev.isReady = true →
      s.dev.bist.running = [t] → s.dev.bist.todo = [] → m.test = t.test → m.unit = t.unit → m.last = true → t.started = false →
      t.failed = false →
      (t.test = 7 → exec (.bistStep [m]) s = .next (s.put ((s.dev.mapBist fun b =>
        ({ b with running := [] } : Bist).add 7 t.unit (b2n (!stepOk m)) (stepValue m)).bistClose 2))) ∧
      (t.test = 8 → ∃ d : Dev, exec (.bistStep [m]) s =
        .next { s with mem := memClear s.mem patBase (patBase + 0x100000), dev := d })) ∧
    (∀ (t : BistTest) (m : StepMeas), s.dev.bist.state = 1 → s.dev.bist.ending = false → s.dev.isReady = true →
      s.dev.bist.running = [t] → s.dev.bist.todo = [] → m.test = t.test → m.unit = t.unit → m.last = false → s.dev.bistAborts t = false →
      exec (.bistStep [m]) s = .next (s.put (s.dev.mapBist fun b => { b with running :=
        [{ t with value := if t.started then worse t.test t.value (stepValue m) else stepValue m, started := true,
                  failed := t.failed || !stepOk m }] }))) ∧
    (∀ (lanes flags : Byte) (tests : BitVec 16) (set : Byte), s.dev.admits src 0xAB00 .c = true → let x := s.dev.arrives 0xAB00; let e := x.entry src 0xAB00 .c;
      (srcApplet src = true → exec (.bistRun src set lanes tests flags) s = .next (s.put (x.declines e .denied))) ∧
      (srcApplet src = false → 1 < set.toNat → exec (.bistRun src set lanes tests flags) s = .next (s.put (x.declines e .badParam))) ∧
      (let full := decide (set.toNat = 1)
       let sel := if tests = 0 then setTests full else (setTests full).filter fun i => tests.getLsbD i
       srcApplet src = false → set.toNat ≤ 1 → flags.toNat ≤ 1 → (∀ i, i < 16 → tests.getLsbD i = true → i ∈ setTests full) →
        (full = true → x.lc = 0 ∨ x.lc = 1 ∨ x.lc = 4) → x.bistFree full sel lanes.toNat = true →
        ∃ t : Dev, ∃ p, exec (.bistRun src set lanes tests flags) s = .next (s.put (x.completes e t p)) ∧
          p.take 2 = be 2 ((x.bist.runid + 1) % 65536) ∧ p.length = 8 ∧ t.bist.runid = (x.bist.runid + 1) % 65536 ∧ t.bist.state = 1)) ∧
    (s.dev.admits src 0xAB01 .q = true → let x := s.dev.arrives 0xAB01; let e := x.entry src 0xAB01 .q;
      ∃ p, exec (.bistStatGet src) s = .next (s.put (x.completes e x p)) ∧ p.length = 12 ∧ p.take 2 = be 2 x.bist.runid) ∧
    (∀ first : Byte, s.dev.admits src 0xAB02 .q = true → let x := s.dev.arrives 0xAB02; let e := x.entry src 0xAB02 .q;
      (first.toNat ≤ 63 → exec (.bistResultGet src first) s = .next (s.put (x.completes e x
        ([BitVec.ofNat 8 ((x.bist.entries.drop first.toNat).take 8).length, 0, 0, 0] ++
          ((x.bist.entries.drop first.toNat).take 8).flatMap fun r => [BitVec.ofNat 8 r.test, BitVec.ofNat 8 r.unit,
            BitVec.ofNat 8 r.result, 0] ++ be 4 (tc 32 r.value) ++ be 4 r.limit)))) ∧
      (63 < first.toNat → exec (.bistResultGet src first) s = .next (s.put (x.declines e .badParam)))) ∧
    (s.dev.admits src 0xAB03 .c = true → let x := s.dev.arrives 0xAB03; let e := x.entry src 0xAB03 .c; srcApplet src = false →
      (x.bist.state = 1 → exec (.bistAbort src) s = .next (s.put ((x.mapBist fun b => { b with ending := true }).holds e .bistEnd))) ∧
      (x.bist.state ≠ 1 → exec (.bistAbort src) s = .next (s.put (x.declines e .notReady)))) ∧
    (∀ drive, exec (.jtagExtest drive) s = .next (s.put { s.dev with jtag := { s.dev.jtag with ir := .extest, boundary := drive } })) ∧
    (∀ tdi, exec (.jtagBypass tdi) s = .next (s.put { s.dev with jtag := { s.dev.jtag with ir := .bypass, bypass := tdi } })) ∧
    exec .jtagIdcode s = .next (s.put { s.dev with jtag := { s.dev.jtag with ir := .idcode, captured := 0xB340072B } }) ∧
    (∀ pins pre, exec (.jtagSamplePreload pins pre) s =
      .next (s.put { s.dev with jtag := { s.dev.jtag with ir := .sample, captured := pins.toNat, boundary := pre } }))

/-- SCRUB_READ of a clean word moves to the next word, and after the last word of its pass the pass ends; of a collided word nothing changes; a correctable
or dropped one is an ECC event, an uncorrectable one also enters the log. VOTE_REVOTE with a copy that disagrees rewrites all three with the majority and
counts it; without one it changes nothing. REFRESH_WALKER rewrites the block, and retires it if the program fails or the read needed more than the correction
threshold. RECORD_FLUSH empties the buffer into LOG, the sequence numbers staying; a block on which the program fails is retired. LOG_MOUNT mounts.
EVENT_SUMMARY writes the second's summaries and forgets the pairs. CONF_COPY_HOURLY copies what firmware keeps. -/
def Obligations.StorageEvents : Prop :=
  ∀ (s : State) (m : MemId),
    (let n := s.dev.pot.scrub.getD (memIdx m) 0
     let addr := n * (memWords m).2
     let on := fun (e : Dev) => e.mapPot fun p => { p with scrub := vset p.scrub (memIdx m) fun _ => n + 1 }
     s.dev.scrubs m = true → n ≠ (memWords m).1 →
      (s.dev.isBad m addr = false →
        exec (.scrubRead m .clean) s = .next (s.put ((on s.dev).scrubPass m)) ∧
        exec (.scrubRead m .correctable) s = .next (s.put ((on (s.dev.eccEvent m false 13 3 addr)).scrubPass m)) ∧
        exec (.scrubRead m .dropped) s = .next (s.put ((on (s.dev.eccEvent m false 13 3 addr)).scrubPass m))) ∧
      (let y := (s.dev.eccEvent m true 13 3 addr).scrubLog m n
       exec (.scrubRead m .uncorrectable) s = .next (s.put ((on (if y.fwRun then y.event evEcc 0x900 (be 1 (memIdx m + 1) ++ be 4 n) else y)).scrubPass m))) ∧
      exec (.scrubRead m .collide) s = .next s) ∧
    (s.dev.scrubs m = false → ∀ r, exec (.scrubRead m r) s = .next s) ∧
    (s.dev.phase = .fw →
      ((s.dev.vote.flops.all fun l => l == (List.range 16).map s.dev.vote.word) = true → exec .voteRevote s = .next s) ∧
      ((s.dev.vote.flops.all fun l => l == (List.range 16).map s.dev.vote.word) = false →
        ∃ t : Dev, exec .voteRevote s = .next (s.put t) ∧ t.vote.flops = Vector.replicate 3 ((List.range 16).map s.dev.vote.word) ∧
          t.rd F.MI_VSTAT_REVOTES = satN (2 ^ F.MI_VSTAT_REVOTES.w - 1) (s.dev.rd F.MI_VSTAT_REVOTES + 1) ∧
          t.vote.copies = s.dev.vote.copies)) ∧
    (s.dev.fwRun = true → s.dev.domOn dSTOCK = true →
      (∀ b, exec (.refreshWalker b .good false) s = .next (s.put (s.dev.rewriteBlock b)) ∧
        (∀ read, exec (.refreshWalker b read true) s = .next (s.put ((s.dev.pageLost read).rewriteBlock b).retire)) ∧
        (∀ read fails, read ≠ .good → exec (.refreshWalker b read fails) s = .next (s.put ((s.dev.pageLost read).rewriteBlock b).retire))) ∧
      (∀ b, s.dev.pot.mounted = true → s.dev.pot.buf ≠ [] →
        exec (.recordFlush b true) s = .next (s.put (if s.dev.pot.blocks.any fun x => x.id == b then s.dev.flush
          else s.dev.flush.rewriteBlock b).retire) ∧
        ∃ t : Dev, exec (.recordFlush b false) s = .next (s.put t) ∧ t.pot.buf = [] ∧ t.pot.nextSeq = s.dev.pot.nextSeq ∧
          t.pot.log = ringFit (s.dev.pot.logCap * 2 ^ 20) (s.dev.pot.buf.length + 1) (s.dev.pot.log ++ s.dev.pot.buf) ∧
          t.regs = s.dev.regs) ∧
      (s.dev.pot.mounted = false → ∃ t : Dev, exec .logMount s = .next (s.put t) ∧ t.pot.mounted = true ∧
        t.pot.nextSeq = s.dev.pot.nextSeq) ∧
      (s.dev.pot.mounted = true → exec .logMount s = .next s) ∧
      exec .confCopyHourly s = .next (s.put s.dev.confCopy)) ∧
    (s.dev.fwRun = true → (s.dev.pot.mounted = true ∨ s.dev.pot.buf.length + (summaries s.dev.pot.folded).length ≤ 512) →
      exec .eventSummary s = .next (s.put ((summaries s.dev.pot.folded).foldl Dev.summary (s.dev.mapPot fun p => { p with folded := [] })))) ∧
    (∀ c, s.dev.fwRun = true → s.dev.pot.mounted = true → s.dev.pot.folded = [c] →
      ∃ t : Dev, exec .eventSummary s = .next (s.put t) ∧ t.pot.folded = [] ∧ t.pot.buf.length = s.dev.pot.buf.length + 1 ∧
        t.pot.nextSeq = s.dev.pot.nextSeq + 1)

/-- Before the mount, or with STOCK off, every POT command but POT.STAT.GET is NOT_READY, and POT.STAT.GET answers 44 bytes whenever
STOCK is on. Once mounted: POT.QUERY answers the matching records, at most 16 (over CDB 6), and NEXT; POT.READ the bytes of a
record, BADPARAM beyond its end; POT.SNAP of kind 1 writes a SNAP record and answers its SEQ, of kind 0 waits for a capture;
POT.CONF.WRITE of a final part makes the record current and another part waits, a key 0x07xx is DENIED; POT.CONF.READ answers its length and bytes;
POT.EXPORT opens the one session and closes it. -/
def Obligations.PotCommands : Prop :=
  ∀ (s : State) (src : Src),
    (s.dev.admits src 0xA700 .q = true → let x := s.dev.arrives 0xA700; let e := x.entry src 0xA700 .q;
      (x.domOn dSTOCK = true → ∃ t p, exec (.potStatGet src) s = .next (s.put (x.completes e t p)) ∧ p.length = 44 ∧
        t.pot = x.pot ∧ t.regs = x.regs) ∧
      (x.domOn dSTOCK = false → exec (.potStatGet src) s = .next (s.put (x.declines e .notReady)))) ∧
    (∀ (tmask : Byte) (rsrc : BitVec 16) (start : BitVec 64) (t1 t2 : BitVec 48), s.dev.admits src 0xA701 .s = true →
      let x := s.dev.arrives 0xA701; let e := x.entry src 0xA701 .s;
      let hits := x.pot.records.filter fun r => start.toNat ≤ r.seq && tmask.toNat.testBit r.type &&
        (rsrc.toNat == 0xFFFF || r.src == rsrc.toNat) && t1.toNat ≤ r.tsec && r.tsec ≤ t2.toNat
      let n := match src with | .cdb _ => 6 | _ => 16
      (x.potReady = false → exec (.potQuery src tmask rsrc start t1 t2) s = .next (s.put (x.declines e .notReady))) ∧
      (x.potReady = true →
        exec (.potQuery src tmask rsrc start t1 t2) s = .next (s.put (x.completes e x (be 1 (hits.take n).length ++
          be 8 (match (hits.drop n).head? with | some r => r.seq | none => x.pot.nextSeq) ++ zeros 3 ++
          (hits.take n).flatMap fun r => be 8 r.seq ++ be 1 r.type ++ be 1 r.flags ++ be 2 r.payload.length ++ be 4 r.tsec))))) ∧
    (∀ seq off cnt, s.dev.admits src 0xA702 .s = true → let x := s.dev.arrives 0xA702; let e := x.entry src 0xA702 .s;
      (x.potReady = false → exec (.potRead src seq off cnt) s = .next (s.put (x.declines e .notReady))) ∧
      (∀ r, x.potReady = true → 0 < cnt.toNat → cnt.toNat ≤ 1016 → cnt.toNat ≤ srcRoom src →
        (x.pot.all.find? fun r => r.seq == seq.toNat) = some r → x.pot.unread.contains r.seq = false →
        (off.toNat + cnt.toNat ≤ r.size → exec (.potRead src seq off cnt) s =
          .next (s.put (x.completes e x (bytesAt r.bytes off.toNat cnt.toNat)))) ∧
        (r.size < off.toNat + cnt.toNat → exec (.potRead src seq off cnt) s = .next (s.put (x.declines e .badParam))))) ∧
    (∀ ch : Byte, s.dev.admits src 0xA703 .s = true → let x := s.dev.arrives 0xA703; let e := x.entry src 0xA703 .s;
      (ch.toNat ≤ 15 → x.potReady = true → x.domOn (dHTX ch.toNat) = true → exec (.potSnap src 1 ch 0) s = .next (s.put
        (x.completes e ((x.record 3 0 (0x400 + ch.toNat) (x.colanderSnap ch.toNat)).dma 2080) (be 8 x.pot.nextSeq)))) ∧
      (∀ mode : Byte, ch.toNat ≤ 7 → mode.toNat ≤ 2 → (mode.toNat = 2 → x.isC ch.toNat = true) → x.potReady = true → x.domOn (dLADC ch.toNat) = true →
        exec (.potSnap src 0 ch mode) s = .next (s.put ((x.holds e (.snap ch.toNat mode.toNat)).fwNext ch.toNat))) ∧
      exec (.potSnap src 2 ch 0) s = .next (s.put (x.declines e .badParam))) ∧
    (∀ (key len : BitVec 16) (data : List Byte), s.dev.admits src 0xA704 .s = true → let x := s.dev.arrives 0xA704; let e := x.entry src 0xA704 .s;
      (x.potReady = false → exec (.potConfWrite src key len data) s = .next (s.put (x.declines e .notReady))) ∧
      (x.potReady = true → key.toNat / 256 = 7 → exec (.potConfWrite src key len data) s = .next (s.put (x.declines e .denied))) ∧
      (∀ h : List Byte, x.potReady = true → key.toNat / 256 ≠ 7 → confKey key.toNat = true →
        (x.pot.parts = some (key.toNat, h) ∨ (h = [] ∧ ∀ l, x.pot.parts ≠ some (key.toNat, l))) →
        0 < len.toNat % 2 ^ 15 → len.toNat % 2 ^ 15 ≤ 1016 → (∀ i, src = .cdb i → len.toNat % 2 ^ 15 ≤ 116) →
        data.length = len.toNat % 2 ^ 15 → h.length + len.toNat % 2 ^ 15 ≤ 4064 →
        (len.toNat.testBit 15 = true → exec (.potConfWrite src key len data) s =
          .next (s.put (x.completes e (x.mapPot fun p => { p with parts := some (key.toNat, h ++ data) }) []))) ∧
        (len.toNat.testBit 15 = false → exec (.potConfWrite src key len data) s =
          .next (s.put (x.completes e ((x.mapPot fun p => { p with parts := none }).confWrite key.toNat (h ++ data)) []))))) ∧
    (∀ key off cnt, s.dev.admits src 0xA705 .s = true → let x := s.dev.arrives 0xA705; let e := x.entry src 0xA705 .s; 0 < cnt.toNat → cnt.toNat ≤ 1016 → (∀ i, src = .cdb i → cnt.toNat ≤ 116) →
      (∀ l, x.potReady = true → x.conf key.toNat = some l →
        (off.toNat + cnt.toNat ≤ l.length → exec (.potConfRead src key off cnt) s =
          .next (s.put (x.completes e x (be 2 l.length ++ bytesAt l off.toNat cnt.toNat)))) ∧
        (l.length < off.toNat + cnt.toNat → exec (.potConfRead src key off cnt) s = .next (s.put (x.declines e .badParam)))) ∧
      (x.potReady = true → x.conf key.toNat = none → exec (.potConfRead src key off cnt) s = .next (s.put (x.declines e .badParam)))) ∧
    (∀ first, s.dev.admits src 0xA706 .c = true → let x := s.dev.arrives 0xA706; let e := x.entry src 0xA706 .c; x.potReady = true →
      (x.pot.session = none → exec (.potExport src 1 0 first) s = .next (s.put (x.completes e (x.mapPot fun p =>
        { p with session := some { mode := 0, next := first.toNat, last := p.nextSeq, chunk := 0, again := none } }) []))) ∧
      (x.pot.session = none → x.lc = 1 ∨ x.lc = 4 ∨ x.expert = true →
        exec (.potExport src 1 1 first) s = .next (s.put (x.completes e (x.mapPot fun p =>
          { p with session := some { mode := 1, next := 0, last := p.nextSeq, chunk := 0, again := none } }) []))) ∧
      (x.pot.session.isSome = true →
        exec (.potExport src 2 0 first) s = .next (s.put (x.completes e (x.mapPot fun p => { p with session := none }) [])) ∧
        exec (.potExport src 1 0 first) s = .next (s.put (x.declines e .badParam))))

/-- SYS.APPLET.LOAD joins a block that is not the last to what has come before it; a last block whose image passes R376 installs it, one whose image fails
discards it and is DENIED.
SYS.APPLET.CTL: action 2 stops, action 3 erases, action 1 outside DEPLOYED is NOT_READY and of a checked applet runs it.
SYS.APPLET.LIST answers 32 bytes. APPLET_FAULT stops a running applet, due to restart unless it is the third stop in an hour;
APPLET_RESTART of a stopped checked applet runs it in DEPLOYED; APPLET_PREEMPT holds it for its window. EXP.UNLOCK in
PROVISION or DEPLOYED with the device's token opens expert access, in BLANK, TEST and RMA it is OK without effect, in SCRAPPED DENIED;
EXP.LOCK and the timeout close it; the lockout's end forgets the wrong tokens. -/
def Obligations.AppletsExpert : Prop :=
  ∀ (s : State) (src : Src) (k : Fin 4),
    (∀ (slot : Byte) (size : BitVec 16) (offset : Word32) (data h : List Byte), s.dev.admits src 0xA020 .f = true → let x := s.dev.arrives 0xA020;
      let e := x.entry src 0xA020 .f; slot.toNat ≤ 3 → 0 < size.toNat → size.toNat ≤ 960 → (∀ i, src = .cdb i → size.toNat ≤ 112) → data.length = size.toNat →
      (offset.toNat = 0 ∧ h = []) ∨ (offset.toNat ≠ 0 ∧ x.mgmt.upload = some ⟨slot.toNat, h⟩ ∧ h.length = offset.toNat) →
      h.length + size.toNat ≤ 262144 →
      exec (.sysAppletLoad src slot 0 size offset data) s =
        .next (s.put (x.completes e (x.mapMgmt fun m => { m with upload := some ⟨slot.toNat, h ++ data⟩ }) [])) ∧
      (let y := x.mapMgmt fun m => { m with upload := none }
       exec (.sysAppletLoad src slot 1 size offset data) s = .next (s.put
        (if x.appletOk (h ++ data) = true then x.completes e (y.appletInstall slot.toNat (h ++ data)) []
         else y.respond src 0xA020 .denied [])))) ∧
    (∀ slot : Byte, s.dev.admits src 0xA021 .c = true → let x := s.dev.arrives 0xA021; let e := x.entry src 0xA021 .c;
      (slot.toNat ≤ 3 → (x.applet slot.toNat).state ≠ 0 →
        exec (.sysAppletCtl src slot 2) s =
          .next (s.put (x.completes e (x.mapApplet slot.toNat fun a => { a with state := 1, restart := false }) [])) ∧
        exec (.sysAppletCtl src slot 3) s = .next (s.put (x.completes e ((x.mapApplet slot.toNat fun _ => {}).mapPot fun p =>
          { p with conf := p.conf.filter fun e => e.src != 0x700 + slot.toNat, prior := p.prior.filter fun e => e.src != 0x700 + slot.toNat }) [])) ∧
        (x.lc ≠ 3 → exec (.sysAppletCtl src slot 1) s = .next (s.put (x.declines e .notReady))) ∧
        (x.lc = 3 → (x.applet slot.toNat).state ≠ 2 → (x.applet slot.toNat).checked = true ∨ x.appletOk (x.applet slot.toNat).image = true →
          exec (.sysAppletCtl src slot 1) s = .next (s.put (x.completes e (x.mapApplet slot.toNat fun a =>
            { a with state := 2, checked := true, restart := false, window := none }) [])))) ∧
      (3 < slot.toNat → exec (.sysAppletCtl src slot 2) s = .next (s.put (x.declines e .badParam)))) ∧
    (s.dev.admits src 0xA022 .q = true → let x := s.dev.arrives 0xA022; let e := x.entry src 0xA022 .q;
      ∃ p, exec (.sysAppletList src) s = .next (s.put (x.completes e x p)) ∧ p.length = 32 ∧
        p.take 1 = be 1 (x.applet 0).state) ∧
    (s.dev.fwRun = true → (s.dev.applet k).state = 2 →
      exec (.appletFault k) s = .next (s.put ((s.dev.mapApplet k fun a => { a with
        stops := s.dev.now :: s.dev.appletStops k, restart := decide ((s.dev.appletStops k).length < 2) }).appletStopped k))) ∧
    (s.dev.fwRun = true → (s.dev.applet k).state = 3 → (s.dev.applet k).restart = true → (s.dev.applet k).checked = true →
      (s.dev.lc = 3 → exec (.appletRestart k) s = .next (s.put (s.dev.mapApplet k fun a =>
        { a with state := 2, checked := true, restart := false, window := none }))) ∧
      (s.dev.lc ≠ 3 → exec (.appletRestart k) s = .next s)) ∧
    ((s.dev.applet k).state = 2 → exec (.appletPreempt k) s =
      .next (s.put (s.dev.mapApplet k fun a => { a with window := some (s.dev.now / (20 * tickMs)) }))) ∧
    (∀ token, s.dev.admits src 0xAA00 .c = true → let x := s.dev.arrives 0xAA00; let e := x.entry src 0xAA00 .c;
      (x.lc = 0 ∨ x.lc = 1 ∨ x.lc = 4 → exec (.expUnlock src token) s = .next (s.put (x.completes e x []))) ∧
      (x.lc = 5 → exec (.expUnlock src token) s = .next (s.put (x.declines e .denied))) ∧
      (x.lc = 2 ∨ x.lc = 3 → x.mgmt.lockout = true → exec (.expUnlock src token) s = .next (s.put (x.declines e .denied))) ∧
      (x.lc = 2 ∨ x.lc = 3 → x.mgmt.lockout = false → token.toNat = x.token → exec (.expUnlock src token) s =
        .next (s.put (x.completes e ((x.set F.GLB_STAT_EXPERT).mapMgmt fun m => { m with wrongTokens := 0 }) [])))) ∧
    (s.dev.admits src 0xAA01 .c = true → let x := s.dev.arrives 0xAA01; let e := x.entry src 0xAA01 .c;
      exec (.expLock src) s = .next (s.put (x.completes e (x.clr F.GLB_STAT_EXPERT) []))) ∧
    exec .expertAccessTimeout s = .next (s.put (s.dev.clr F.GLB_STAT_EXPERT)) ∧
    (s.dev.mgmt.lockout = true → exec .unlockLockoutEnd s =
      .next (s.put (s.dev.mapMgmt fun m => { m with lockout := false, wrongTokens := 0 })))

/-- PG_GRANULE_START while playing starts one granule: the position goes up by 256 symbols and the granule index by one; an
uncorrectable RAM word sets ECCU and plays as stored; a marker of the entry whose OFS lies in the granule falls due. PG_PLAY_END before the last granule has
started changes nothing; with a STOP asked for the stream stops (STATE 0, STOP clear), the play being counted; an entry with loops left begins again,
after its last loop the next entry begins or the stream stops; a stall goes on. MARKER_PULSE of a due marker raises it and stamps the edge; while it is
high it sets MKMERGE and extends the pulse. MARKER_PULSE_END lowers it once its end has been made. SYNC_CAL_EDGE counts one of the owed edges; with none
owed it changes nothing. -/
def Obligations.PatternEvents : Prop :=
  ∀ (s : State) (m : Fin 4),
    (∀ ecc word, 2 ≤ s.dev.rd F.PG_STAT_STATE → s.dev.pg.gran < s.dev.pg.length →
      let ram : Bool := !s.dev.pg.idle && s.dev.pg.play.type == 0
      let addr := 64 * (s.dev.pg.play.start + s.dev.pg.play.len * (s.dev.pg.play.half.getD 0) + s.dev.pg.gran)
      ∃ t : Dev, exec (.pgGranuleStart ecc word) s = .next (s.put t) ∧ t.pg.gran = s.dev.pg.gran + 1 ∧ t.pg.pos = s.dev.pg.pos + 256 ∧
        (ecc = .ue → ram = true → t.rd F.PG_STAT_ECCU = 1) ∧
        (ram = false ∨ (ecc ≠ .ue ∧ ∀ j, j < 16 → s.dev.isBad .pattern (addr + 4 * j) = false) →
          t.rd F.PG_STAT_ECCU = s.dev.rd F.PG_STAT_ECCU) ∧
        (s.dev.pg.idle = false → s.dev.on ((F.PG_MKCFG_EN).at m 8) = true → s.dev.pg.play.mark.testBit m = true →
          s.dev.rd ((F.PG_MKOFS_OFS).at m 8) / 256 = s.dev.pg.gran → t.pg.due.getD m false = true)) ∧
    (s.dev.pg.gran < s.dev.pg.length → exec .pgPlayEnd s = .next s) ∧
    (let n := satN (2 ^ 32 - 1) (s.dev.rd F.PG_PLAY_COUNT + 1)
     let p := s.dev.pg.play
     let y := (s.dev.pgHalfDone p).wr F.PG_PLAY_COUNT 0 n
     2 ≤ s.dev.rd F.PG_STAT_STATE → s.dev.pg.length ≤ s.dev.pg.gran →
      (s.dev.pg.idle = true → s.dev.pg.stopReq = false → s.dev.pg.jump = none →
        exec .pgPlayEnd s = .next (s.put (s.dev.pgBegin p.entry false true))) ∧
      (s.dev.pg.idle = false →
        (s.dev.pg.stopReq = true → exec .pgPlayEnd s = .next (s.put y.pgStop) ∧ y.pgStop.rd F.PG_STAT_STATE = 0 ∧
          y.pgStop.rd F.PG_CTL_STOP = 0 ∧ y.pgStop.rd F.PG_JMP_REQ = 0 ∧ y.pgStop.rd F.PG_PLAY_COUNT = n % 2 ^ F.PG_PLAY_COUNT.w ∧
          y.pgStop.pg.jump = none) ∧
        (s.dev.pg.stopReq = false → s.dev.pg.jump = none →
          (p.loop = 0 ∨ n < p.loop → exec .pgPlayEnd s = .next (s.put (y.pgBegin p.entry false false))) ∧
          (p.loop ≠ 0 → p.loop ≤ n → p.stop = false → exec .pgPlayEnd s = .next (s.put (y.pgBegin p.next true false))) ∧
          (p.loop ≠ 0 → p.loop ≤ n → p.stop = true → exec .pgPlayEnd s = .next (s.put y.pgStop))) ∧
        (∀ i, s.dev.pg.stopReq = false → s.dev.pg.jump = some (0, i) →
          exec .pgPlayEnd s = .next (s.put (((y.clr F.PG_JMP_REQ).mapPg fun g => { g with jump := none }).pgBegin i true false))))) ∧
    (let raised := s.dev.mapPg fun g => { g with due := vset g.due m (fun _ => false), high := vset g.high m (fun _ => true),
                                                 mkEnd := vset g.mkEnd m fun _ => g.mkSym.getD m 0 + (s.dev.markSpan m).1 + (s.dev.markSpan m).2 }
     (s.dev.pg.due.getD m false = true → s.dev.pg.high.getD m false = false →
        exec (.markerPulse m) s = .next (s.put (raised.fifoPush 4 m (s.dev.rd F.TU_FIFOCTL_TB) 0))) ∧
      (s.dev.pg.due.getD m false = true → s.dev.pg.high.getD m false = true → exec (.markerPulse m) s = .next (s.put (raised.set F.PG_STAT_MKMERGE))) ∧
      (s.dev.pg.due.getD m false = false → exec (.markerPulse m) s = .next s)) ∧
    (s.dev.rd F.PG_STAT_STATE < 2 ∨ s.dev.pg.mkEnd.getD m 0 ≤ s.dev.pg.pos →
      exec (.markerPulseEnd m) s = .next (s.put (s.dev.mapPg fun g => { g with high := vset g.high m fun _ => false }))) ∧
    (∀ rt : BitVec 16, (s.dev.pg.calLeft = 0 → exec (.syncCalEdge rt) s = .next s) ∧
      (1 < s.dev.pg.calLeft → exec (.syncCalEdge rt) s = .next (s.put ((s.dev.arrival ((s.dev.rd F.PG_SYNCCTL_LAUNCH + rt.toNat) % 64)).mapPg
        fun g => { g with calLeft := s.dev.pg.calLeft - 1, edges := g.edges + 1, trips := s.dev.pg.trips ++ [rt.toNat] }))) ∧
      (s.dev.pg.calLeft = 1 → ∃ t : Dev, exec (.syncCalEdge rt) s = .next (s.put t) ∧ t.pg.calLeft = 0 ∧
        t.rd F.PG_SYNCSTAT_CALDONE = 1 ∧ t.rd F.PG_SYNCCTL_CAL = 0))

/-- PAT.SEG.SET and PAT.SEQ.SET set the segment and the entry; a length below 16 or a segment beyond the RAM, and an entry
with flags above 31, are BADPARAM. PAT.RAM.WRITE with memory initialised writes 64·COUNT bytes at granule·64 and marks READY's
half; before that it is NOT_READY and memory stays; a COUNT of 0 is BADPARAM. PAT.RUN without an A11 group is NOT_READY; action 2
asks for the stop, action 3 posts the jump, action 1 of a valid segment starts. PAT.MK.SET sets the marker. PAT.SYNC.CAL of a
slave answers at once, of a master waits for the 16 edges. PAT.STAT.GET answers its four words. -/
def Obligations.PatternCommands : Prop :=
  ∀ (s : State) (src : Src),
    (∀ (seg type stream : Byte) (start len : BitVec 16), s.dev.admits src 0xA400 .c = true → let x := s.dev.arrives 0xA400; let e := x.entry src 0xA400 .c;
      (seg.toNat ≤ 63 → type.toNat ≤ 7 → stream.toNat ≤ 1 → 16 ≤ len.toNat → start.toNat ≤ 16383 →
        start.toNat + (stream.toNat + 1) * len.toNat ≤ 16384 →
        exec (.patSegSet src seg type stream start len) s = .next (s.put (x.completes e ((((x.cfg dMGMT F.PG_SEGBASE_START seg.toNat
          start.toNat).cfg dMGMT F.PG_SEGBASE_TYPE seg.toNat type.toNat).cfg dMGMT F.PG_SEGBASE_STREAM seg.toNat stream.toNat).cfg
          dMGMT F.PG_SEGLEN_LEN seg.toNat len.toNat) []))) ∧
      (len.toNat < 16 → exec (.patSegSet src seg type stream start len) s = .next (s.put (x.declines e .badParam))) ∧
      (type.toNat = 0 → 16384 < start.toNat + (stream.toNat + 1) * len.toNat →
        exec (.patSegSet src seg type stream start len) s = .next (s.put (x.declines e .badParam)))) ∧
    (∀ (entry seg next flags : Byte) (loop : Word32), s.dev.admits src 0xA401 .c = true → let x := s.dev.arrives 0xA401; let e := x.entry src 0xA401 .c;
      (seg.toNat ≤ 63 → flags.toNat ≤ 31 → loop.toNat < 2 ^ 24 →
        exec (.patSeqSet src entry seg next flags loop) s = .next (s.put (x.completes e (((((x.cfg dMGMT ((F.PG_SEQA_SEG).at
          entry.toNat 8) 0 seg.toNat).cfg dMGMT ((F.PG_SEQA_MARK).at entry.toNat 8) 0 flags.toNat).cfg dMGMT ((F.PG_SEQA_END).at
          entry.toNat 8) 0 (flags.toNat / 16)).cfg dMGMT ((F.PG_SEQA_NEXT).at entry.toNat 8) 0 next.toNat).cfg dMGMT
          ((F.PG_SEQB_LOOP).at entry.toNat 8) 0 loop.toNat) []))) ∧
      (31 < flags.toNat → exec (.patSeqSet src entry seg next flags loop) s = .next (s.put (x.declines e .badParam)))) ∧
    (∀ (granule : BitVec 16) (count ready : Byte) (data : List Byte), s.dev.admits src 0xA402 .c = true → let x := s.dev.arrives 0xA402; let e := x.entry src 0xA402 .c;
      (patRamOk src granule.toNat count.toNat ready.toNat data.length = true → x.on F.GLB_STAT_SRAMRDY = true →
        exec (.patRamWrite src granule count ready data) s = .next { s with
          mem := s.dev.pg.ramWrite s.mem (64 * granule.toNat) data
          dev :=
            let y := iter (16 * count.toNat) (fun j z => z.mended .pattern (64 * granule.toNat + 4 * j)) x
            x.completes e (if ready.toNat = 0 then y else y.set (rdyFld ((ready.toNat - 1) % 2)) ((ready.toNat - 1) / 2)) [] }) ∧
      (patRamOk src granule.toNat count.toNat ready.toNat data.length = true → x.on F.GLB_STAT_SRAMRDY = false →
        exec (.patRamWrite src granule count ready data) s = .next (s.put (x.declines e .notReady))) ∧
      (patRamOk src granule.toNat count.toNat ready.toNat data.length = false →
        exec (.patRamWrite src granule count ready data) s = .next (s.put (x.declines e .badParam)))) ∧
    (∀ entry : Byte, s.dev.admits src 0xA403 .c = true → let x := s.dev.arrives 0xA403; let e := x.entry src 0xA403 .c;
      (x.a11 = none → exec (.patRun src 2 entry 0) s = .next (s.put (x.declines e .notReady))) ∧
      (x.a11.isSome = true →
        exec (.patRun src 2 entry 0) s = .next (s.put (x.completes e x.pgCtlStop [])) ∧
        exec (.patRun src 3 entry 0) s = .next (s.put (x.completes e ((x.wr F.PG_JMP_TARGET 0 entry.toNat).pgJump) [])) ∧
        (∀ sync : Byte, sync.toNat ≤ 1 → x.segValid (x.rd ((F.PG_SEQA_SEG).at entry.toNat 8)) = true → exec (.patRun src 1 entry sync) s =
          .next (s.put (x.completes e (((x.wr F.PG_CTL_ENTRY 0 entry.toNat).wr F.PG_CTL_SYNCARM 0 sync.toNat).pgCtlStart) [])))) ∧
      exec (.patRun src 4 entry 0) s = .next (s.put (x.declines e .badParam))) ∧
    (∀ (mk width : Byte) (ofs : Word32), s.dev.admits src 0xA404 .c = true → let x := s.dev.arrives 0xA404; let e := x.entry src 0xA404 .c; mk.toNat ≤ 3 → ofs.toNat < 2 ^ 22 →
      (∀ (en ref : Byte) (adj : BitVec 16), 0 < width.toNat → en.toNat ≤ 1 → (ref.toNat / 16 = 8 ∨ ref.toNat ≤ 7) → -2000 ≤ adj.toInt → adj.toInt ≤ 2000 →
        exec (.patMkSet src mk en ref width ofs adj) s = .next (s.put (x.completes e ((((((x.cfg dMGMT ((F.PG_MKCFG_EN).at
        mk.toNat 8) 0 en.toNat).cfg dMGMT ((F.PG_MKCFG_REF).at mk.toNat 8) 0 (ref.toNat / 128)).cfg dMGMT ((F.PG_MKCFG_REFIDX).at mk.toNat 8) 0
        (ref.toNat % 16)).cfg dMGMT ((F.PG_MKCFG_WIDTH).at mk.toNat 8) 0 width.toNat).cfg dMGMT ((F.PG_MKOFS_OFS).at mk.toNat 8) 0 ofs.toNat).cfg dMGMT
        ((F.PG_MKCFG_ADJ).at mk.toNat 8) 0 adj.toNat) []))) ∧
      (width.toNat = 0 → exec (.patMkSet src mk 1 0 width ofs 0) s = .next (s.put (x.declines e .badParam)))) ∧
    (∀ delay : Byte, s.dev.admits src 0xA405 .c = true → let x := s.dev.arrives 0xA405; let e := x.entry src 0xA405 .c;
      (x.a11 = none → exec (.patSyncCal src 1 delay) s = .next (s.put (x.declines e .notReady))) ∧
      (x.a11.isSome = true →
        exec (.patSyncCal src 2 delay) s = .next (s.put (x.completes e ((x.wr F.PG_SYNCCTL_ROLE 0 2).wr F.PG_SYNCCTL_DELAY 0 delay.toNat)
          (be 2 (x.rd F.PG_SYNCSTAT_RT) ++ be 1 (x.rd F.PG_SYNCSTAT_ARRPH)))) ∧
        exec (.patSyncCal src 1 delay) s = .next (s.put ((((x.wr F.PG_SYNCCTL_ROLE 0 1).wr F.PG_SYNCCTL_DELAY 0 delay.toNat).pgCal).holds
          e .patCal)))) ∧
    (s.dev.admits src 0xA406 .q = true → let x := s.dev.arrives 0xA406; let e := x.entry src 0xA406 .q;
      exec (.patStatGet src) s = .next (s.put (x.completes e x (be 4 x.pgStatWord ++ be 4 (x.rd F.PG_PLAY_COUNT) ++
        be 4 (x.rd F.PG_UNDCNT_COUNT) ++ be 4 (x.rd F.PG_SYNCSTAT_ARRPH + 2 ^ 8 * x.rd F.PG_SYNCSTAT_SKEWWARN +
          2 ^ 9 * x.rd F.PG_SYNCSTAT_CALDONE + 2 ^ 16 * x.rd F.PG_SYNCSTAT_RT)))))

/-- SERVO_OFFSET_APPLY takes the oldest accepted offset, at most one in a tick: beyond STEPMAX it is refused, otherwise applied, and its command
completes; a PPS or link offset stamped before a step is discarded; with none waiting nothing changes. TB_STEP_APPLY takes the
oldest set or step and answers its command with the time at the tick; a set of a time base not VALID makes it VALID and is no step. FIFO_DRAIN moves the
oldest entry to firmware while a lane has TU_TTCTL.EN = 1, else nothing. PPS_IN_EDGE of the polarity not selected changes nothing; a PPS edge less than
half a second after the last used one, or with no time base that listens, is only stamped; any other offers an offset to each time base with SRC 2.
PPS_OUT_PULSE raises the output when its second is new and the tick has passed NS 0; PPS_WIDTH_EXPIRY lowers it when its width has passed. -/
def Obligations.TimeEvents : Prop :=
  ∀ (s : State) (i : Fin 4) (n : Fin 2),
    ((s.dev.tb i).offs = [] → exec (.servoOffsetApply i) s = .next s) ∧
    ((s.dev.tb i).applied = some s.dev.now → exec (.servoOffsetApply i) s = .next s) ∧
    (∀ o rest, (s.dev.tb i).offs = o :: rest → (s.dev.tb i).applied ≠ some s.dev.now →
      let y := s.dev.mapTb i fun t => { t with offs := rest, applied := some s.dev.now }
      (o.source = 2 ∨ o.source = 3 → o.epoch ≠ (s.dev.tb i).steps → exec (.servoOffsetApply i) s = .next (s.put y)) ∧
      ((o.source ≠ 2 ∧ o.source ≠ 3) ∨ o.epoch = (s.dev.tb i).steps →
        (s.dev.stepMax i < o.theta.natAbs →
          exec (.servoOffsetApply i) s = .next (s.put ((y.refuseOffset i o.theta).offsetResult o i 1))) ∧
        ((o.theta.natAbs : Int) ≤ s.dev.stepMax i →
          exec (.servoOffsetApply i) s = .next (s.put ((y.applyOffset i o.theta).offsetResult o i 0))))) ∧
    (∀ m src rest, (s.dev.tb i).moves = (m, src) :: rest → (s.dev.tb i).applied ≠ some s.dev.now →
      let x := s.dev.mapTb i fun t => { t with moves := rest }
      let y := x.applyMove i m
      exec (.tbStepApply i) s = .next (s.put (y.settle fun a =>
        if a.src == src && a.wait == .timeStep i then some (.ok, stampBytes (y.stamp i)) else none)) ∧
      (∀ sec ns frac, m = .set sec ns frac → s.dev.on F.TU_TBSTAT_VALID i = false →
        y = ((x.mapTb i fun t => t.setTotal (((sec * 1000000000 + ns) * 65536 + frac : Nat) * (25 * 2 ^ 32))).wr F.TU_TBSTAT_VALID i 1).mapTb i
          fun t => { t with passed := false })) ∧
    ((s.dev.tb i).moves = [] → exec (.tbStepApply i) s = .next s) ∧
    (∀ e rest, s.dev.tu.fifo = e :: rest →
      (s.dev.fwRun = true → s.dev.fifoFw = true → exec .fifoDrain s = .next (s.put (s.dev.fifoPop.fwEntry e))) ∧
      (s.dev.fifoFw = false → exec .fifoDrain s = .next s)) ∧
    (∀ falling, s.dev.on F.TU_PPSCFG_EDGE ≠ falling → exec (.ppsInEdge falling) s = .next s) ∧
    (∀ falling, s.dev.pinsLive = true → s.dev.domOn dTIME = true → s.dev.on F.TU_PPSCFG_EN = true →
      s.dev.on F.TU_PPSCFG_EDGE = falling →
      let x := s.dev.fifoPush 0 0 (s.dev.rd F.TU_PPSCFG_TB) 0
      let y := iter 3 (fun j z => if z.tbSrc j = 2 then (z.offer j 2 (ppsTheta (s.dev.stamp j) (s.dev.rdS F.TU_PPSCFG_COMP)) none).2 else z) x
      (∀ t0, s.dev.tu.lastEdge = some t0 → s.dev.now < t0 + tickS / 2 → exec (.ppsInEdge falling) s = .next (s.put x)) ∧
      ((∀ j, j < 3 → s.dev.tbSrc j ≠ 2) → exec (.ppsInEdge falling) s = .next (s.put x)) ∧
      (∀ j, j < 3 → s.dev.tbSrc j = 2 → (∀ t0, s.dev.tu.lastEdge = some t0 → t0 + tickS / 2 ≤ s.dev.now) →
        exec (.ppsInEdge falling) s = .next (s.put { y with tu := { y.tu with lastEdge := some s.dev.now } }))) ∧
    (let b := s.dev.tb (s.dev.rd ((F.TU_PPSOUT_TB).at n))
     (s.dev.domOn dTIME = true → s.dev.on ((F.TU_PPSOUT_EN).at n) = true →
        s.dev.on F.TU_TBSTAT_VALID (s.dev.rd ((F.TU_PPSOUT_TB).at n)) = true → s.dev.tu.ppsSec.getD n 0 < b.sec → b.passed = true →
        exec (.ppsOutPulse n) s = .next (s.put { s.dev with tu := { s.dev.tu with
          ppsSec := vset s.dev.tu.ppsSec n fun _ => b.sec
          ppsHigh := vset s.dev.tu.ppsHigh n fun _ => true
          ppsAt := vset s.dev.tu.ppsAt n fun _ => s.dev.now } })) ∧
      (b.passed = false → exec (.ppsOutPulse n) s = .next s)) ∧
    (2 * s.dev.tu.ppsAt.getD n 0 + 3125 * max 1 (s.dev.rd ((F.TU_PPSOUT_WIDTH).at n)) ≤ 2 * s.dev.now →
      exec (.ppsWidthExpiry n) s = .next (s.put { s.dev with tu := { s.dev.tu with ppsHigh := vset s.dev.tu.ppsHigh n fun _ => false } }))

/-- TIME.TB.GET answers 36 bytes; a time base above 3 is BADPARAM. TIME.TB.CFG sets what it is given and keeps the rest, a source other than 0
on TB3 is DENIED. TIME.TB.STEP that sets a time base not VALID, or with expert access, posts the move and waits; a step without expert access is DENIED.
TIME.OFFSET to a time base with source 1 and VALID queues the offset and waits; with another source it answers 2 and sets SRCERR;
not VALID it answers 3. TIME.PPS.SET sets the input's or an output's fields. TIME.LINK.GET answers 36 bytes;
TIME.LINK.SET sets the lane's fields, with EN 0 stops the transfer, with EN 1 in a U mode it is NOT_READY. TIME.STAMP.READ takes at most MAX entries out of
the FIFO or firmware's copy. -/
def Obligations.TimeCommands : Prop :=
  ∀ (s : State) (src : Src),
    (∀ tb : Byte, s.dev.admits src 0xA500 .q = true → let x := s.dev.arrives 0xA500; let e := x.entry src 0xA500 .q;
      (tb.toNat ≤ 3 → ∃ p, exec (.timeTbGet src tb) s = .next (s.put (x.completes e x p)) ∧ p.length = 36 ∧
        (p.drop 4).take 12 = stampBytes (x.stamp tb.toNat)) ∧
      (3 < tb.toNat → exec (.timeTbGet src tb) s = .next (s.put (x.declines e .badParam)))) ∧
    (∀ tb : Byte, s.dev.admits src 0xA501 .c = true → let x := s.dev.arrives 0xA501; let e := x.entry src 0xA501 .c;
      (tb.toNat ≤ 3 → exec (.timeTbCfg src tb 0xFF 0xFF 0xFFFF 0xFFFF 0xFFFFFFFF) s = .next (s.put (x.completes e x [])) ∧
        ∀ (source lane : Byte) (kp ki : BitVec 16) (stepmax : Word32), source.toNat ≤ 3 → (tb.toNat = 3 → source.toNat = 0) → lane.toNat ≤ 7 →
          kp.toNat ≠ 0xFFFF → ki.toNat ≠ 0xFFFF → 1 ≤ stepmax.toNat → stepmax.toNat ≤ 1000000 →
          exec (.timeTbCfg src tb source lane kp ki stepmax) s =
            .next (s.put (x.completes e (((((x.cfg dTIME F.TU_TBCTL_SRC tb.toNat source.toNat).cfg dTIME F.TU_TBCTL_LANE tb.toNat lane.toNat).cfg dTIME
              F.TU_SRVGAIN_KP tb.toNat kp.toNat).cfg dTIME F.TU_SRVGAIN_KI tb.toNat ki.toNat).cfg dTIME F.TU_STEPMAX_NS tb.toNat stepmax.toNat) []))) ∧
      (∀ source : Byte, tb.toNat = 3 → 1 ≤ source.toNat → source.toNat ≤ 3 →
        exec (.timeTbCfg src tb source 0xFF 0xFFFF 0xFFFF 0xFFFFFFFF) s = .next (s.put (x.declines e .denied))) ∧
      (∀ stepmax : Word32, 1000000 < stepmax.toNat → stepmax.toNat ≠ 0xFFFFFFFF →
        exec (.timeTbCfg src tb 0xFF 0xFF 0xFFFF 0xFFFF stepmax) s = .next (s.put (x.declines e .badParam)))) ∧
    (∀ (tb : Byte) sec ns frac delta, s.dev.admits src 0xA502 .c = true → let x := s.dev.arrives 0xA502; let e := x.entry src 0xA502 .c; tb.toNat ≤ 3 →
      (BitVec.toNat ns < 1000000000 → x.on F.TU_TBSTAT_VALID tb.toNat = false ∨ (tb.toNat ≠ 3 ∧ x.expert = true) →
        exec (.timeTbStep src tb 1 sec ns frac delta) s = .next (s.put ((x.mapTb tb.toNat fun t =>
          { t with moves := t.moves ++ [(TbMove.set (BitVec.toNat sec) (BitVec.toNat ns) (BitVec.toNat frac), src)] }).holds e
            (.timeStep tb.toNat)))) ∧
      (x.expert = false → exec (.timeTbStep src tb 2 sec ns frac delta) s = .next (s.put (x.declines e .denied))) ∧
      (x.expert = true → tb.toNat ≠ 3 → exec (.timeTbStep src tb 2 sec ns frac delta) s = .next (s.put ((x.mapTb tb.toNat fun t =>
        { t with moves := t.moves ++ [(TbMove.add (BitVec.toInt delta), src)] }).holds e (.timeStep tb.toNat)))) ∧
      (1000000000 ≤ BitVec.toNat ns → exec (.timeTbStep src tb 1 sec ns frac delta) s = .next (s.put (x.declines e .badParam)))) ∧
    (∀ (tb : Byte) (o : Word32), s.dev.admits src 0xA503 .c = true → let x := s.dev.arrives 0xA503; let e := x.entry src 0xA503 .c; tb.toNat ≤ 3 →
      (x.tbSrc tb.toNat = 1 → x.on F.TU_TBSTAT_VALID tb.toNat = true → exec (.timeOffset src tb o) s =
        .next (s.put ((x.mapTb tb.toNat fun t => { t with offs := t.offs ++ [{ source := 1, theta := hostTheta o.toNat, epoch := t.steps
                                                                               src := some src }] }).holds e (.timeOffset tb.toNat)))) ∧
      (x.tbSrc tb.toNat ≠ 1 → exec (.timeOffset src tb o) s =
        .next (s.put (x.completes e (x.set F.TU_TBSTAT_SRCERR tb.toNat) (be 1 2)))) ∧
      (x.tbSrc tb.toNat = 1 → x.on F.TU_TBSTAT_VALID tb.toNat = false → exec (.timeOffset src tb o) s =
        .next (s.put (x.completes e x (be 1 3))))) ∧
    (s.dev.admits src 0xA504 .c = true → let x := s.dev.arrives 0xA504; let e := x.entry src 0xA504 .c;
      (∀ (pin en tb pol width : Byte) (comp : BitVec 16), en.toNat ≤ 1 → tb.toNat ≤ 3 → pol.toNat ≤ 1 →
        (pin.toNat = 2 → comp.toNat ≠ 0x7FFF → exec (.timePpsSet src pin en tb pol width comp) s =
          .next (s.put (x.completes e ((((x.cfg dTIME F.TU_PPSCFG_EN 0 en.toNat).cfg dTIME F.TU_PPSCFG_TB 0 tb.toNat).cfg dTIME F.TU_PPSCFG_EDGE 0
            pol.toNat).cfg dTIME F.TU_PPSCFG_COMP 0 comp.toNat) []))) ∧
        (pin.toNat ≤ 1 → width.toNat ≠ 255 → exec (.timePpsSet src pin en tb pol width comp) s =
          .next (s.put (x.completes e ((((x.cfg dTIME ((F.TU_PPSOUT_EN).at pin.toNat) 0 en.toNat).cfg dTIME ((F.TU_PPSOUT_TB).at pin.toNat) 0
            tb.toNat).cfg dTIME ((F.TU_PPSOUT_POL).at pin.toNat) 0 pol.toNat).cfg dTIME ((F.TU_PPSOUT_WIDTH).at pin.toNat) 0 width.toNat) [])))) ∧
      (∀ pin : Byte, pin.toNat ≤ 2 → exec (.timePpsSet src pin 0xFF 0xFF 0xFF 0xFF 0x7FFF) s = .next (s.put (x.completes e x []))) ∧
      (∀ pin en tb pol width : Byte, ∀ comp, 2 < pin.toNat →
        exec (.timePpsSet src pin en tb pol width comp) s = .next (s.put (x.declines e .badParam)))) ∧
    (∀ lane : Byte, s.dev.admits src 0xA510 .q = true → let x := s.dev.arrives 0xA510; let e := x.entry src 0xA510 .q;
      (lane.toNat ≤ 7 → ∃ p, exec (.timeLinkGet src lane) s = .next (s.put (x.completes e x p)) ∧ p.length = 36 ∧
        (x.on F.TU_TTCTL_EN lane.toNat = false → p.take 1 = [0])) ∧
      (7 < lane.toNat → exec (.timeLinkGet src lane) s = .next (s.put (x.declines e .badParam)))) ∧
    (∀ lane : Byte, s.dev.admits src 0xA511 .c = true → let x := s.dev.arrives 0xA511; let e := x.entry src 0xA511 .c; lane.toNat ≤ 7 →
      exec (.timeLinkSet src lane 0 0xFF 0xFF 0xFF 0xFF 0xFFFF 0xFFFF 0x7FFFFFFF) s = .next (s.put (x.completes e
        ((x.cfg dTIME F.TU_TTCTL_EN lane.toNat 0).mapTt lane.toNat fun t => { t with running := false }) [])) ∧
      (x.isC lane.toNat = true → exec (.timeLinkSet src lane 1 0xFF 0xFF 0xFF 0xFF 0xFFFF 0xFFFF 0x7FFFFFFF) s =
        .next (s.put (x.completes e (x.cfg dTIME F.TU_TTCTL_EN lane.toNat 1) []))) ∧
      (∀ (en role calmode per tb : Byte) (txcomp rxcomp : BitVec 16) (asym : Word32), en.toNat ≤ 1 → (en.toNat = 1 → x.isC lane.toNat = true) →
        role.toNat ≤ 2 → calmode.toNat ≤ 1 → per.toNat ≠ 255 → tb.toNat ≤ 3 → txcomp.toNat ≠ 0xFFFF → rxcomp.toNat ≠ 0xFFFF → asym.toNat ≠ 0x7FFFFFFF →
        let k := lane.toNat
        let y := (((((((x.cfg dTIME F.TU_TTCTL_EN k en.toNat).cfg dTIME F.TU_TTCTL_ROLE k role.toNat).cfg dTIME F.TU_TTCTL_CALMODE k calmode.toNat).cfg
          dTIME F.TU_TTCTL_PER k per.toNat).cfg dTIME F.TU_TTCTL_TB k tb.toNat).cfg dTIME F.TU_TTCOMP_TXCOMP k txcomp.toNat).cfg dTIME
          F.TU_TTCOMP_RXCOMP k rxcomp.toNat).cfg dTIME F.TU_ASYM_VALUE k asym.toNat
        exec (.timeLinkSet src lane en role calmode per tb txcomp rxcomp asym) s =
          .next (s.put (x.completes e (if en.toNat = 0 then y.mapTt k fun t => { t with running := false } else y) []))) ∧
      (x.isC lane.toNat = false → exec (.timeLinkSet src lane 1 0xFF 0xFF 0xFF 0xFF 0xFFFF 0xFFFF 0x7FFFFFFF) s =
        .next (s.put (x.declines e .notReady)))) ∧
    (∀ m : Byte, s.dev.admits src 0xA520 .q = true → let x := s.dev.arrives 0xA520; let e := x.entry src 0xA520 .q;
      (0 < m.toNat → m.toNat ≤ (if srcRoom src = 118 then 7 else 8) →
        (x.fifoFw = true → exec (.timeStampRead src m) s = .next (s.put (x.completes e { x with tu := { x.tu with kept := x.tu.kept.drop m.toNat } }
          (be 1 (x.tu.kept.take m.toNat).length ++ be 1 0 ++ be 2 (x.rd F.TU_FIFOSTAT_LOST) ++ (x.tu.kept.take m.toNat).flatMap stampEntry)))) ∧
        (x.fifoFw = false → exec (.timeStampRead src m) s = .next (s.put (x.completes e
          (({ x with tu := { x.tu with fifo := x.tu.fifo.drop m.toNat } }).wr F.TU_FIFOSTAT_COUNT 0 (x.tu.fifo.drop m.toNat).length)
          (be 1 (x.tu.fifo.take m.toNat).length ++ be 1 0 ++ be 2 (x.rd F.TU_FIFOSTAT_LOST) ++ (x.tu.fifo.take m.toNat).flatMap stampEntry))))) ∧
      (m.toNat = 0 ∨ 8 < m.toNat → exec (.timeStampRead src m) s = .next (s.put (x.declines e .badParam))))

/-- While a task executes with no REP before it and its word in program memory is good, for EVERY pair of operand forms: an operand
is the latch's value, or the word (wide: the pair of words) its address register names, which fills the latch and post-modifies the
register; the X load is made before the Y load. CMAC adds, CMACJ adds with the conjugate of y, CMUL replaces the complex accumulator by
twice the product; MAC adds, MSU subtracts, MPY replaces one half by twice the real product; a half that wraps at 40 bits sets OVF
(Dev.putAcc); the PC moves on (Dev.wsNext), memory stays. A load that finds an uncorrectable word traps with cause 2. A bad word at
the fetch traps with cause 1. Without an executing task each has no effect. -/
def Obligations.WhetstoneMultiply : Prop :=
  ∀ (s : State) (b : Nat),
    (s.dev.wsTask = some b → (s.dev.bank b).rep = 0 → s.dev.fetchBad b = false →
      let val := fun (d : Dev) (isX wide : Bool) (o : Option (Nat × PostStep)) => match o with
        | none => (if isX then (d.bank b).xl else (d.bank b).yl, d)
        | some (a, st) =>
          let at_ := (d.bank b).byteAt a wide
          let v := (memGetLe 2 s.mem at_, if wide then memGetLe 2 s.mem (at_ + 2) else 0)
          (v, d.mapBank b fun k =>
            let z := { k with a := vset k.a a fun _ => k.postMod a st }
            if isX then { z with xl := v } else { z with yl := v })
      let good := fun (d : Dev) (wide : Bool) (o : Option (Nat × PostStep)) => match o with
        | none => true
        | some (a, _) => !d.isBad (memOfA a) ((d.bank b).byteAt a wide % 65536)
      (∀ (ac : Fin 2) (x : XSrc) (y : YSrc),
        let px := val s.dev true true (xParts x)
        let py := val px.2 false true (yParts y)
        let u := (q15 px.1.1, q15 px.1.2)
        let v := (q15 py.1.1, q15 py.1.2)
        let d := py.2
        let re := (d.bank b).ac.getD (2 * ac.val) 0
        let im := (d.bank b).ac.getD (2 * ac.val + 1) 0
        good s.dev true (xParts x) = true → good px.2 true (yParts y) = true →
        exec (.cmac ac x y []) s = .next (s.put (((d.putAcc b (2 * ac.val) (re + (u.1 * v.1 - u.2 * v.2) * 2)).putAcc b
          (2 * ac.val + 1) (im + (u.1 * v.2 + u.2 * v.1) * 2)).wsNext b)) ∧
        exec (.cmacj ac x y []) s = .next (s.put (((d.putAcc b (2 * ac.val) (re + (u.1 * v.1 - u.2 * -v.2) * 2)).putAcc b
          (2 * ac.val + 1) (im + (u.1 * -v.2 + u.2 * v.1) * 2)).wsNext b)) ∧
        exec (.cmul ac x y []) s = .next (s.put (((d.putAcc b (2 * ac.val) (0 + (u.1 * v.1 - u.2 * v.2) * 2)).putAcc b
          (2 * ac.val + 1) (0 + (u.1 * v.2 + u.2 * v.1) * 2)).wsNext b))) ∧
      (∀ (h : Fin 4) (x : XSrc) (y : YSrc),
        let px := val s.dev true false (xParts x)
        let py := val px.2 false false (yParts y)
        let p := q15 px.1.1 * q15 py.1.1 * 2
        let d := py.2
        good s.dev false (xParts x) = true → good px.2 false (yParts y) = true →
        exec (.mac h x y []) s = .next (s.put ((d.putAcc b h.val ((d.bank b).ac.getD h.val 0 + 1 * p)).wsNext b)) ∧
        exec (.msu h x y []) s = .next (s.put ((d.putAcc b h.val ((d.bank b).ac.getD h.val 0 + -1 * p)).wsNext b)) ∧
        exec (.mpy h x y []) s = .next (s.put ((d.putAcc b h.val (0 + 1 * p)).wsNext b))) ∧
      (∀ (ac : Fin 2) (h : Fin 4) (a : Fin 4) (st : PostStep) (y : YSrc) (rest : List Ecc),
        let addr := fun w => (s.dev.bank b).byteAt a.val w % 65536
        let t := fun w => Host.Outcome.next (ρ := Refusal) (φ := Fault)
          (s.put ((s.dev.eccEvent .x true 1 1 (addr w)).wsTrap 2 (s.dev.bank b).pc))
        exec (.cmac ac (.load a st) y (.ue :: rest)) s = t true ∧ exec (.cmacj ac (.load a st) y (.ue :: rest)) s = t true ∧
        exec (.cmul ac (.load a st) y (.ue :: rest)) s = t true ∧ exec (.mac h (.load a st) y (.ue :: rest)) s = t false ∧
        exec (.msu h (.load a st) y (.ue :: rest)) s = t false ∧ exec (.mpy h (.load a st) y (.ue :: rest)) s = t false)) ∧
    (s.dev.wsTask = some b → s.dev.fetchBad b = true → ∀ (ac : Fin 2) (h : Fin 4) x y e,
      let t := Host.Outcome.next (ρ := Refusal) (φ := Fault)
        (s.put ((s.dev.eccEvent .prog true 1 0 (4 * (s.dev.bank b).pc)).wsTrap 1 (s.dev.bank b).pc))
      exec (.cmac ac x y e) s = t ∧ exec (.cmacj ac x y e) s = t ∧ exec (.cmul ac x y e) s = t ∧
      exec (.mac h x y e) s = t ∧ exec (.msu h x y e) s = t ∧ exec (.mpy h x y e) s = t) ∧
    (s.dev.wsTask = none → ∀ (ac : Fin 2) (h : Fin 4) x y e,
      exec (.cmac ac x y e) s = .next s ∧ exec (.cmacj ac x y e) s = .next s ∧ exec (.cmul ac x y e) s = .next s ∧
      exec (.mac h x y e) s = .next s ∧ exec (.msu h x y e) s = .next s ∧ exec (.mpy h x y e) s = .next s)

/-- While a task executes with no REP before it and its word in program memory is good: ADD, SUB, NEG and ABS of accumulator halves write
the result wrapped at 40 bits (a wrap sets OVF) and set Z and N from it; of integer registers, with the result inside 16 bits, they write
it. SHL within the width multiplies by 2^n (0 stays 0); SHR divides by 2^n rounding down, or shifts the bits; the count is an
immediate or an integer register; RND rounds a half to its upper 24 bits. Where the spec states no result (an integer sum outside
16 bits, -32768 negated or its absolute value, a shift that loses bits, operands of different kinds) the destination takes a free value
(log entry 3) and the PC moves on. Memory stays. Without an executing task each has no effect. -/
def Obligations.WhetstoneArithmetic : Prop :=
  ∀ (s : State) (b : Nat),
    (s.dev.wsTask = some b → (s.dev.bank b).rep = 0 → s.dev.fetchBad b = false →
      let k := s.dev.bank b
      (∀ (x y : Fin 4),
        let vx := k.ac.getD x.val 0
        let vy := k.ac.getD y.val 0
        let put := fun (v : Int) => Host.Outcome.next (ρ := Refusal) (φ := Fault)
          (s.put (((s.dev.putAcc b x.val v).wsStatus b (sx 40 (tc 40 v))).wsNext b))
        exec (.add (.acc x) (.acc y)) s = put (vx + vy) ∧ exec (.sub (.acc x) (.acc y)) s = put (vx - vy) ∧
        exec (.neg (.acc x)) s = put (-vx) ∧ exec (.abs (.acc x)) s = put (vx.natAbs : Int) ∧
        (∀ c, vx = 0 → exec (.shl (.acc x) c) s = put 0) ∧
        (∀ c, vx ≠ 0 → k.count c < 40 → -(2 ^ 39) ≤ vx * 2 ^ k.count c → vx * 2 ^ k.count c < 2 ^ 39 →
          exec (.shl (.acc x) c) s = put (vx * 2 ^ k.count c)) ∧
        (∀ c, exec (.shr (.acc x) c false) s = put (vx.fdiv (2 ^ min 40 (k.count c))) ∧
          exec (.shr (.acc x) c true) s = put (sx 40 (tc 40 vx / 2 ^ min 40 (k.count c)))) ∧
        exec (.rnd x) s = .next (s.put ((s.dev.putAcc b x.val (roundAcc vx * 65536)).wsNext b))) ∧
      (∀ (x y : Fin 8),
        let vx := q15 (k.r.getD x.val 0)
        let vy := q15 (k.r.getD y.val 0)
        let put := fun (v : Int) => Host.Outcome.next (ρ := Refusal) (φ := Fault)
          (s.put (((s.dev.mapBank b fun z => { z with r := vset z.r x.val fun _ => tc 16 v }).wsStatus b v).wsNext b))
        let free := Host.Outcome.next (ρ := Refusal) (φ := Fault)
          (s.put ((((s.dev.freeVal 16).2.mapBank b fun z => { z with r := vset z.r x.val fun _ => (s.dev.freeVal 16).1 }).wsStatus b
            (q15 (s.dev.freeVal 16).1)).wsNext b))
        let fits := fun (v : Int) => -32768 ≤ v ∧ v ≤ 32767
        (fits (vx + vy) → exec (.add (.int x) (.int y)) s = put (vx + vy)) ∧ (¬fits (vx + vy) → exec (.add (.int x) (.int y)) s = free) ∧
        (fits (vx - vy) → exec (.sub (.int x) (.int y)) s = put (vx - vy)) ∧ (¬fits (vx - vy) → exec (.sub (.int x) (.int y)) s = free) ∧
        (fits (-vx) → exec (.neg (.int x)) s = put (-vx)) ∧ (¬fits (-vx) → exec (.neg (.int x)) s = free) ∧
        (fits vx.natAbs → exec (.abs (.int x)) s = put vx.natAbs) ∧ (¬fits vx.natAbs → exec (.abs (.int x)) s = free) ∧
        (∀ c, vx ≠ 0 → k.count c < 40 → fits (vx * 2 ^ k.count c) → exec (.shl (.int x) c) s = put (vx * 2 ^ k.count c)) ∧
        (∀ c, fits (vx.fdiv (2 ^ min 40 (k.count c))) →
          exec (.shr (.int x) c false) s = put (vx.fdiv (2 ^ min 40 (k.count c))))) ∧
      (b < 5 → ∀ (x : Fin 4) (y : Fin 8),
        (∃ t, exec (.add (.acc x) (.int y)) s = .next (s.put t) ∧ (t.bank b).pc = (k.pc + 1) % 65536 ∧ (t.bank b).r = k.r) ∧
        (∃ t, exec (.sub (.int y) (.acc x)) s = .next (s.put t) ∧ (t.bank b).pc = (k.pc + 1) % 65536 ∧ (t.bank b).ac = k.ac) ∧
        (∀ c, k.ac.getD x.val 0 ≠ 0 → 40 ≤ k.count c → ∃ t, exec (.shl (.acc x) c) s = .next (s.put t) ∧
          (t.bank b).pc = (k.pc + 1) % 65536 ∧ (t.bank b).r = k.r))) ∧
    (s.dev.wsTask = none → ∀ (x y : AluReg) (n : Count) (l : Bool) (h : Fin 4),
      exec (.add x y) s = .next s ∧ exec (.sub x y) s = .next s ∧ exec (.neg x) s = .next s ∧ exec (.abs x) s = .next s ∧
      exec (.shl x n) s = .next s ∧ exec (.shr x n l) s = .next s ∧ exec (.rnd h) s = .next s)

/-- While a task executes with no REP before it and its word in program memory is good: LD of 16 bits writes the (good) word the address
register names into a 16-bit register, LD of 32 bits the pair into a complex accumulator or an integer pair; the pointer is
post-modified with the old base, length and modifier; memory stays. ST stores the (rounded, saturated) value or pair at that address
and changes no other byte; a 32-bit one mends the word. LD or ST of a width the register cannot take traps with cause 3, as does a
move between a whole accumulator and another kind; an uncorrectable word traps LD and the 16-bit ST with cause 2. MOV between halves or
whole accumulators keeps all 40 bits; any other passes 16 bits. Without an executing task each has no effect. -/
def Obligations.WhetstoneMoves : Prop :=
  ∀ (s : State) (b : Nat),
    (s.dev.wsTask = some b → (s.dev.bank b).rep = 0 → s.dev.fetchBad b = false →
      let k := s.dev.bank b
      let trap := fun c => Host.Outcome.next (ρ := Refusal) (φ := Fault) (s.put (s.dev.wsTrap c k.pc))
      (∀ (a : Fin 8) (st : PostStep),
        let at_ := fun w => k.byteAt a.val w
        let step := fun (x : Bank) => ({ x with a := vset x.a a.val fun _ => k.postMod a.val st } : Bank)
        (s.dev.isBad (memOfA a.val) (at_ false % 65536) = false →
          (∀ r, narrowReg r = true →
            exec (.ld false a st r []) s = .next (s.put ((s.dev.mapBank b fun x => (step x).write (memGetLe 2 s.mem (at_ false)) r).wsNext b)) ∧
            let p := s.dev.wsRead b r
            exec (.st false a st r []) s = .next { s with mem := memPutLe 2 s.mem (at_ false) p.1, dev := (p.2.mapBank b step).wsNext b } ∧
            (∀ t, exec (.st false a st r []) s = .next t → ∀ q, q < at_ false ∨ at_ false + 1 < q → memGet t.mem q = memGet s.mem q))) ∧
        (s.dev.isBad (memOfA a.val) (at_ true % 65536) = false →
          let v := memGetLe 2 s.mem (at_ true)
          let w := memGetLe 2 s.mem (at_ true + 2)
          (∀ n : Fin 2, exec (.ld true a st (.ac n) []) s = .next (s.put ((s.dev.mapBank b fun x =>
            ((step x).write v (.ac n)).write w (.half ⟨2 * n.val + 1, by omega⟩)).wsNext b))) ∧
          (∀ r : Fin 8, exec (.ld true a st (.int r) []) s = .next (s.put ((s.dev.mapBank b fun x =>
            ((step x).write v (.int r)).write w (.int (r + 1))).wsNext b)))) ∧
        (∀ (r : Fin 8) (e : List Ecc), exec (.st true a st (.int r) e) s = .next { s with
          mem := memPutLe 2 (memPutLe 2 s.mem (at_ true) (k.r.getD r.val 0)) (at_ true + 2) (k.r.getD (r + 1).val 0)
          dev := ((s.dev.mended (memOfA a.val) (at_ true % 65536)).mapBank b step).wsNext b }) ∧
        (∀ (n : Fin 2) (e : List Ecc),
          let p := s.dev.wsRead b (.ac n)
          let q := p.2.wsRead b (.half ⟨2 * n.val + 1, by omega⟩)
          exec (.st true a st (.ac n) e) s = .next { s with
            mem := memPutLe 2 (memPutLe 2 s.mem (at_ true) p.1) (at_ true + 2) q.1
            dev := ((q.2.mended (memOfA a.val) (at_ true % 65536)).mapBank b step).wsNext b }) ∧
        (∀ r e, (narrowReg r = false → exec (.ld false a st r e) s = trap 3 ∧ exec (.st false a st r e) s = trap 3) ∧
          (wideReg r = false → exec (.ld true a st r e) s = trap 3 ∧ exec (.st true a st r e) s = trap 3)) ∧
        (∀ r e, narrowReg r = true →
          exec (.ld false a st r (.ue :: e)) s =
            .next (s.put ((s.dev.eccEvent (memOfA a.val) true 1 1 (at_ false % 65536)).wsTrap 2 k.pc)) ∧
          exec (.st false a st r (.ue :: e)) s =
            .next (s.put ((s.dev.eccEvent (memOfA a.val) true 1 2 (at_ false % 65536)).wsTrap 2 k.pc)))) ∧
      (∀ x y : Fin 4, exec (.mov (.half x) (.half y)) s = .next (s.put ((s.dev.mapBank b fun z =>
        { z with ac := vset z.ac x.val fun _ => z.ac.getD y.val 0 }).wsNext b))) ∧
      (∀ x y : Fin 2, exec (.mov (.ac x) (.ac y)) s = .next (s.put ((s.dev.mapBank b fun z =>
        { z with ac := vset (vset z.ac (2 * x.val) fun _ => z.ac.getD (2 * y.val) 0) (2 * x.val + 1) fun _ =>
          z.ac.getD (2 * y.val + 1) 0 }).wsNext b))) ∧
      (∀ x y, narrowReg x = true → narrowReg y = true → ¬(∃ g h, x = .half g ∧ y = .half h) →
        let p := s.dev.wsRead b y
        exec (.mov x y) s = .next (s.put ((p.2.mapBank b fun z => z.write p.1 x).wsNext b))) ∧
      (∀ x y, narrowReg x ≠ narrowReg y → exec (.mov x y) s = trap 3)) ∧
    (s.dev.wsTask = none → ∀ w (a : Fin 8) st (x y : WReg) e,
      exec (.ld w a st x e) s = .next s ∧ exec (.st w a st x e) s = .next s ∧ exec (.mov x y) s = .next s)

/-- While a task executes with no REP before it and its word in program memory is good: REP sets REPACT and the count (immediate or
register; 0 is 65,536) and moves on; JMP sets the PC; JSR also keeps the return address, RTS takes it back (with none kept the target is a
free value); a taken branch sets the PC, another moves on; WAITEV of an event already seen takes it and goes on, of another or of a
delay gives up the slot, which is lent; YIELD ends the task's work for the round (a loop's execution too); HALT halts the core. After a
REP each of them traps with cause 3 at the REP; a bad word at the fetch traps with cause 1. WS_HALTED at a boundary with a halt
requested and no REP under way halts; WAITEV_WAKE wakes the tasks that wait for the event, or the one whose delay ends. Memory
stays. Without an executing task the instructions have no effect. -/
def Obligations.WhetstoneFlow : Prop :=
  ∀ (s : State) (b : Nat),
    (s.dev.wsTask = some b → (s.dev.bank b).rep = 0 → s.dev.fetchBad b = false →
      let k := s.dev.bank b
      let adv := s.dev.mapBank b fun x => { x with pc := (x.pc + 1) % 65536 }
      let wait := fun w => (adv.mapBank b fun x => { x with ready := false, waiting := some w }).lend
      (∀ c, exec (.rep c) s = .next (s.put ((s.dev.set F.WS_STAT_REPACT).mapBank b fun x =>
        { x with rep := if k.count c % 65536 = 0 then 65536 else k.count c % 65536, pc := (x.pc + 1) % 65536 }))) ∧
      (∀ t : BitVec 16,
        exec (.jmp t) s = .next (s.put (adv.mapBank b fun x => { x with pc := t.toNat })) ∧
        exec (.jsr t) s = .next (s.put (adv.mapBank b fun x => { x with pc := t.toNat, ret := x.pc :: x.ret })) ∧
        (∀ c, ((adv.bank b).holds c = true → exec (.bcc c t) s = .next (s.put (adv.mapBank b fun x => { x with pc := t.toNat }))) ∧
          ((adv.bank b).holds c = false → exec (.bcc c t) s = .next (s.put adv)))) ∧
      (∀ r rest, (adv.bank b).ret = r :: rest → exec .rts s = .next (s.put (adv.mapBank b fun x => { x with pc := r, ret := rest }))) ∧
      ((adv.bank b).ret = [] → exec .rts s = .next (s.put ((adv.freeVal 16).2.mapBank b fun x => { x with pc := (adv.freeVal 16).1 }))) ∧
      (∀ ev, ((adv.bank b).seen.contains ev = true →
          exec (.waitev (.event ev)) s = .next (s.put (adv.mapBank b fun x => { x with seen := x.seen.erase ev }))) ∧
        ((adv.bank b).seen.contains ev = false → exec (.waitev (.event ev)) s = .next (s.put (wait (.event ev))))) ∧
      (∀ n, exec (.waitev (.delay n)) s = .next (s.put (wait (.delay n)))) ∧
      (2 ≤ b → exec .yieldSlot s = .next (s.put (adv.mapBank b fun x => { x with ready := false }).lend)) ∧
      (b < 2 → exec .yieldSlot s = .next (s.put ((adv.mapBank b fun x => { x with ready := false }).mapWs fun w =>
        match w.running with
        | some _ => { w with running := none }
        | none => { w with overran := w.overran.drop 1 }).lend)) ∧
      exec .halt s = .next (s.put adv.wsHalt)) ∧
    (s.dev.wsTask = some b → (s.dev.bank b).rep ≠ 0 ∨ s.dev.fetchBad b = true →
      let t := Host.Outcome.next (ρ := Refusal) (φ := Fault) (s.put (if s.dev.fetchBad b
        then (s.dev.eccEvent .prog true 1 0 (4 * (s.dev.bank b).pc)).wsTrap 1 (s.dev.bank b).pc
        else s.dev.wsTrap 3 (((s.dev.bank b).pc + 65535) % 65536)))
      (∀ n, exec (.rep n) s = t) ∧ (∀ a, exec (.jmp a) s = t ∧ exec (.jsr a) s = t ∧ ∀ c, exec (.bcc c a) s = t) ∧ exec .rts s = t ∧
        (∀ w, exec (.waitev w) s = t) ∧ exec .yieldSlot s = t ∧ exec .halt s = t) ∧
    (s.dev.wsTask = none → (∀ n, exec (.rep n) s = .next s) ∧
      (∀ a, exec (.jmp a) s = .next s ∧ exec (.jsr a) s = .next s ∧ ∀ c, exec (.bcc c a) s = .next s) ∧ exec .rts s = .next s ∧
        (∀ w, exec (.waitev w) s = .next s) ∧ exec .yieldSlot s = .next s ∧ exec .halt s = .next s) ∧
    (s.dev.rd F.WS_STAT_STATE = 1 → s.dev.on F.WS_CTL_HALTREQ = true → (∀ j, s.dev.wsTask = some j → (s.dev.bank j).rep = 0) →
      exec .wsHalted s = .next (s.put s.dev.wsHalt) ∧ s.dev.wsHalt.rd F.WS_STAT_STATE = 2) ∧
    (s.dev.on F.WS_CTL_HALTREQ = false → exec .wsHalted s = .next s) ∧
    (s.dev.domOn dWHET = true →
      (∀ ev, exec (.waitevWake (.event ev)) s = .next (s.put (s.dev.mapWs fun w => { w with banks := w.banks.map fun b => b.wake ev }))) ∧
      (∀ k, exec (.waitevWake (.delay k)) s = .next (s.put (s.dev.mapBank (kindIdx k) Bank.elapse))))

/-- After a REP of n (n at least 1) the next ADD, SUB or RND executes n times, each on the result of the one before, and only then
does the PC move past it; the repeat count is 0 afterwards. For accumulator halves and every n; its word in program memory is good. -/
def Obligations.RepeatedInstruction : Prop :=
  ∀ (s : State) (b n : Nat) (x y : Fin 4), s.dev.wsTask = some b → (s.dev.bank b).rep = n → n ≠ 0 →
    s.dev.fetchBad b = false →
    let once := fun (op : Int → Int → Int) (d : Dev) =>
      (d.putAcc b x.val (op ((d.bank b).ac.getD x.val 0) ((d.bank b).ac.getD y.val 0))).wsStatus b
        (sx 40 (tc 40 (op ((d.bank b).ac.getD x.val 0) ((d.bank b).ac.getD y.val 0))))
    exec (.add (.acc x) (.acc y)) s = .next (s.put ((iter n (fun _ => once fun u v => u + v) s.dev).wsNext b)) ∧
    exec (.sub (.acc x) (.acc y)) s = .next (s.put ((iter n (fun _ => once fun u v => u - v) s.dev).wsNext b)) ∧
    exec (.rnd x) s = .next (s.put ((iter n (fun _ (d : Dev) =>
      d.putAcc b x.val (roundAcc ((d.bank b).ac.getD x.val 0) * 65536)) s.dev).wsNext b)) ∧
    (b < 5 → ∃ t, exec (.add (.acc x) (.acc y)) s = .next (s.put t) ∧ (t.bank b).rep = 0 ∧ (t.bank b).pc = ((s.dev.bank b).pc + 1) % 65536)

/-- SLOT_START of a running core advances the slot counter and chooses the slot's task: an owner of kind CAL, DPD or SYS with work takes it
when no loop is left over; of a halted one only the counter moves, and a loop that falls due is overdue. ROUND_START counts the
round and starts at slot 0; a good shadow table with RTSWAP asked for clears RTSWAP, a bad one sets RTBAD; every 10,000th round publishes
WS_LOAD. WS_RESTART_TIMER begins the restart due; WS_RESTART_DONE clears X, Y and program memory, empties what was posted, ends a
visit, and the core runs with TASK 0 and each loop at its bias holding code. SYS.WS.STAT.GET answers 24 bytes; SYS.WS.CTL halts, runs or
restarts; LINE.CAL.GET answers 10 bytes; LINE.CAL.SET sets EN of a lane or all and the gap, a bad operand is BAD_PARAM. With WHET
off the KCI commands but LINE.CAL.SET are NOT_READY. -/
def Obligations.WhetstoneControl : Prop :=
  ∀ (s : State) (src : Src),
    (∀ u w, s.dev.domOn dWHET = true →
      let n := if s.dev.ws.fresh then s.dev.rd F.WS_RTCUR_SLOT else (s.dev.rd F.WS_RTCUR_SLOT + 1) % 1024
      let d1 := (s.dev.wr F.WS_RTCUR_SLOT 0 n).mapWs fun w => { w with fresh := false }
      (s.dev.rd F.WS_STAT_STATE = 1 →
        ∃ t : Dev, exec (.slotStart u w) s = .next (s.put t) ∧ t.rd F.WS_RTCUR_SLOT = n ∧
          t.rd F.WS_RTCUR_ROUND = s.dev.rd F.WS_RTCUR_ROUND ∧
          (∀ k, k ∈ [TaskKind.cal, .dpd, .sys] → k ∈ w → (s.dev.rtOwner n).1 = kindIdx k + 1 → u = false → s.dev.ws.running = none →
            s.dev.ws.overran = [] → (s.dev.bank (kindIdx k)).waiting = none → (∀ b, s.dev.wsTask = some b → (s.dev.bank b).rep = 0) →
            t.rd F.WS_STAT_TASK = kindIdx k + 1)) ∧
      (s.dev.rd F.WS_STAT_STATE = 2 → exec (.slotStart u w) s =
        .next (s.put (if d1.loopDue n then d1.mapWs fun w => { w with overdue := w.overdue + 1 } else d1))) ∧
      (s.dev.rd F.WS_STAT_STATE ≠ 1 → s.dev.rd F.WS_STAT_STATE ≠ 2 → exec (.slotStart u w) s = .next (s.put d1))) ∧
    (s.dev.domOn dWHET = true → s.dev.on F.WS_CTL_RTSWAP = false → s.dev.ws.rounds < 9999 →
      exec .roundStart s = .next (s.put ((((s.dev.inc F.WS_RTCUR_ROUND).wr F.WS_RTCUR_SLOT 0 0).mapWs fun w =>
        { w with fresh := true, rounds := w.rounds + 1 }).mapOpt fun o => { o with round0 := o.round1, round1 := 8 * o.tick }))) ∧
    (s.dev.domOn dWHET = true → 9999 ≤ s.dev.ws.rounds →
      let share := fun i => satN 255 (rneDiv (200 * (s.dev.ws.used.getD i 0 : Int)) 10240000).toNat
      ∃ t : Dev, exec .roundStart s = .next (s.put t) ∧ t.ws.rounds = 0 ∧ t.rd F.WS_LOAD_LOOP = share 0 ∧ t.rd F.WS_LOAD_CAL = share 1 ∧
        t.rd F.WS_LOAD_DPD = share 2 ∧ t.rd F.WS_LOAD_SYS = share 3) ∧
    (s.dev.domOn dWHET = true → s.dev.on F.WS_CTL_RTSWAP = true → s.dev.rd F.WS_STAT_STATE = 1 →
      ∃ t : Dev, exec .roundStart s = .next (s.put t) ∧ t.rd F.WS_CTL_RTSWAP = 0 ∧
        (s.dev.tableOk = false → t.rd F.WS_STAT_RTBAD = 1) ∧
        (s.dev.tableOk = true → t.rd F.WS_STAT_RTBAD = s.dev.rd F.WS_STAT_RTBAD)) ∧
    (s.dev.ws.restartDue = true → s.dev.rd F.WS_STAT_STATE = 3 → s.dev.fwRun = true →
      exec .wsRestartTimer s = .next (s.put (s.dev.mapWs fun w => { w with restartDue := false, restarting := true }))) ∧
    (s.dev.ws.restarting = true → s.dev.domOn dWHET = true →
      let m1 := memClear (memClear (memClear s.mem xBase (xBase + 0x8000)) yBase (yBase + 0x8000)) pmBase (pmBase + 0x40000)
      ∃ t : Dev, exec .wsRestartDone s = .next { s with mem := m1, dev := t } ∧
        t.rd F.WS_STAT_STATE = 1 ∧ t.rd F.WS_STAT_TASK = 0 ∧ t.ws.posted = [] ∧ t.ws.restarting = false ∧ t.ws.banks = freshBanks ∧
        t.ws.visit = none ∧ t.ws.dpd = none) ∧
    (s.dev.admits src 0xA040 .q = true → let x := s.dev.arrives 0xA040; let e := x.entry src 0xA040 .q;
      (x.domOn dWHET = true → ∃ p, exec (.sysWsStatGet src) s = .next (s.put (x.completes e x p)) ∧ p.length = 24 ∧
        p.take 1 = x.wsStateByte ∧ (p.drop 4).take 4 = be 2 (x.rd F.WS_PC_PC) ++ be 2 (x.rd F.WS_TRAP_PC)) ∧
      (x.domOn dWHET = false → exec (.sysWsStatGet src) s = .next (s.put (x.declines e .notReady)))) ∧
    (s.dev.admits src 0xA041 .c = true → let x := s.dev.arrives 0xA041; let e := x.entry src 0xA041 .c;
      (x.domOn dWHET = true →
        exec (.sysWsCtl src 2) s = .next (s.put (x.completes e x.wsRun x.wsRun.wsStateByte)) ∧
        exec (.sysWsCtl src 3) s = .next (s.put (x.wsRestart.holds e .wsRestart)) ∧
        (x.lc ≠ 3 ∨ x.expert = true →
          (x.rd F.WS_STAT_STATE = 1 → exec (.sysWsCtl src 1) s = .next (s.put (x.wsHaltReq.holds e .wsHalt))) ∧
          (x.rd F.WS_STAT_STATE ≠ 1 → exec (.sysWsCtl src 1) s = .next (s.put (x.completes e x x.wsStateByte)))) ∧
        (x.lc = 3 → x.expert = false → exec (.sysWsCtl src 1) s = .next (s.put (x.declines e .denied)))) ∧
      (∀ a : Byte, (a.toNat = 0 ∨ 3 < a.toNat) → exec (.sysWsCtl src a) s = .next (s.put (x.declines e .badParam))) ∧
      (∀ a : Byte, 1 ≤ a.toNat → a.toNat ≤ 3 → x.domOn dWHET = false → exec (.sysWsCtl src a) s = .next (s.put (x.declines e .notReady)))) ∧
    (∀ lane : Byte, s.dev.admits src 0xA170 .q = true → let x := s.dev.arrives 0xA170; let e := x.entry src 0xA170 .q;
      (lane.toNat ≤ 7 → x.domOn dWHET = true →
        ∃ p, exec (.lineCalGet src lane) s = .next (s.put (x.completes e x p)) ∧ p.length = 10 ∧
          p.take 2 = [BitVec.ofNat 8 (x.rd F.WS_CALLANE_EN lane.toNat), BitVec.ofNat 8 (b2n (x.calEligible lane.toNat))] ∧
          p.drop 6 = be 2 (x.rd F.WS_CALCFG_GAP) ++ be 2 (x.rd F.WS_CALSTAT_SWEEPMS)) ∧
      (7 < lane.toNat → exec (.lineCalGet src lane) s = .next (s.put (x.declines e .badParam)))) ∧
    (∀ (lane en : Byte) (gap : BitVec 16), s.dev.admits src 0xA171 .c = true →
      let x := s.dev.arrives 0xA171
      let e := x.entry src 0xA171 .c
      let okLane := lane.toNat ≤ 7 ∨ lane.toNat = 0xFF
      let okEn := en.toNat ≤ 1 ∨ en.toNat = 0xFF
      let okGap := (20 ≤ gap.toNat ∧ gap.toNat ≤ 4095) ∨ gap.toNat = 0xFFFF
      (okLane → okEn → okGap →
        let d1 := iter 8 (fun j (d : Dev) => if lane.toNat = 0xFF ∨ j = lane.toNat then d.cfgKeep dWHET F.WS_CALLANE_EN j en.toNat 0xFF else d) x
        exec (.lineCalSet src lane en gap) s = .next (s.put (x.completes e (d1.cfgKeep dWHET F.WS_CALCFG_GAP 0 gap.toNat 0xFFFF).calWatch []))) ∧
      (¬(okLane ∧ okEn ∧ okGap) → exec (.lineCalSet src lane en gap) s = .next (s.put (x.declines e .badParam))))

/-- RANGE_SETTLE_END clears SETTLE. BIAS_TICK with BDAC or MADC on counts the tick, with BDAC on each phase is R219's; with both off nothing changes.
BIAS_FAULT_DETECT: a channel below code 128 changes nothing; a condition that begins or ends sets or clears its NOW bit; one that
persists sets the latched flag and, with its shutdown bit, SHUT, the channel no longer live. MADC_PASS_TRIGGER of the selected source with
a trigger due starts a pass of an enabled free converter, counts MISSED of a busy one; else nothing changes. COMMON_TRIGGER
starts every enabled converter with TRIG 4, or none when one cannot. MADC_CONVERSION_DONE ends an injected conversion with its code, goes on to the next
entry, or ends the pass after the last. MADC_CAL_DONE sets CALDONE. OSPI_FRAME_DONE of a read frame delivers DATA, of a write frame 0.
SYNC_IN_EDGE acts at the second tick. -/
def Obligations.OpticsEvents : Prop :=
  ∀ (s : State) (ch : Fin 16) (c : Fin 2),
    exec (.rangeSettleEnd ch) s = .next (s.put (s.dev.clr F.OC_BSTAT_SETTLE ch)) ∧
    (s.dev.domOn dBDAC = false → s.dev.domOn dMADC = false → exec .biasTick s = .next s) ∧
    (s.dev.domOn dMADC = true ∨ s.dev.domOn dBDAC = true → ∃ t : Dev, exec .biasTick s = .next (s.put t) ∧
      t.optics.tick = s.dev.optics.tick + 1 ∧ t.rd F.OC_TICK_COUNT = (s.dev.optics.tick + 1) % 2 ^ 32 ∧
      (s.dev.domOn dBDAC = true → ∀ j : Fin 8, t.optics.theta.getD j.val 0 = s.dev.ncoPhase j.val (s.dev.optics.tick + 1))) ∧
    (∀ o p, s.dev.rd F.OC_BACT_CODE ch < 128 → exec (.biasFaultDetect ch o p) s = .next s) ∧
    (∀ o, s.dev.domOn dBDAC = true → 128 ≤ s.dev.rd F.OC_BACT_CODE ch →
      let now := if o then F.OC_BSTAT_OPENNOW else F.OC_BSTAT_COMPLNOW
      let shut := s.dev.on (if o then F.OC_BCTL_SDOPEN else F.OC_BCTL_SDCOMP) ch
      exec (.biasFaultDetect ch o .begins) s = .next (s.put (s.dev.set now ch)) ∧
      exec (.biasFaultDetect ch o .ends) s = .next (s.put (s.dev.clr now ch)) ∧
      (∃ t : Dev, exec (.biasFaultDetect ch o .persists) s = .next (s.put t) ∧
        t.rd (if o then F.OC_BSTAT_OPEN else F.OC_BSTAT_COMPL) ch = 1 ∧ t.rd now ch = 1 ∧
        t.rd F.OC_BSTAT_SHUT ch = (if shut then 1 else s.dev.rd F.OC_BSTAT_SHUT ch) ∧
        t.rd F.OC_BSTAT_LIVE ch = (if shut then 0 else s.dev.rd F.OC_BSTAT_LIVE ch) ∧
        t.rd F.OC_BACT_CODE ch = s.dev.rd F.OC_BACT_CODE ch)) ∧
    (∀ src : Fin 5, src.val ≠ 4 →
      (s.dev.domOn dMADC = false ∨ s.dev.madcTrig c ≠ src.val ∨ s.dev.madcDue c src.val = false →
        exec (.madcPassTrigger c src) s = .next s) ∧
      (s.dev.domOn dMADC = true → s.dev.madcTrig c = src.val → s.dev.madcDue c src.val = true →
        let d1 := s.dev.madcTaken c src.val
        exec (.madcPassTrigger c src) s = .next (s.put (if s.dev.on F.OC_MACTL_EN c = false then d1
          else if s.dev.madcBusy c then d1.madcMiss c else d1.madcStart c)))) ∧
    (s.dev.domOn dMADC = true → s.dev.madcTrig c = 4 → exec (.madcPassTrigger c 4) s = exec .commonTrigger s) ∧
    (s.dev.comDue = false ∨ s.dev.domOn dMADC = false → exec .commonTrigger s = .next s) ∧
    (s.dev.domOn dMADC = true → s.dev.comDue = true →
      let l := [0, 1].filter fun j => s.dev.on F.OC_MACTL_EN j && s.dev.madcTrig j == 4
      let d1 := (s.dev.clr F.OC_MACOM_GO).mapOpt fun o => { o with comTimer := if s.dev.rd F.OC_MACOM_SRC = 1 then 0 else o.comTimer }
      ((∀ j ∈ l, s.dev.madcBusy j = false ∧ (s.dev.conv j).inj = false) →
        exec .commonTrigger s = .next (s.put (l.foldl Dev.madcStart d1))) ∧
      ((∃ j ∈ l, s.dev.madcBusy j = true ∨ (s.dev.conv j).inj = true) →
        exec .commonTrigger s = .next (s.put (l.foldl Dev.madcMiss d1)))) ∧
    (∀ raw, (s.dev.conv c).inj = false → s.dev.on F.OC_MASTAT_BUSY c = false → exec (.madcConversionDone c raw) s = .next s) ∧
    (∀ raw e, (s.dev.conv c).inj = false → s.dev.on F.OC_MASTAT_BUSY c = true → (s.dev.conv c).seq[(s.dev.conv c).done]? = some e →
      s.dev.on F.OC_MASTAT_INJPEND c = false → (s.dev.conv c).calWait = false →
      ∃ t : Dev, exec (.madcConversionDone c raw) s = .next (s.put t) ∧
        t.rd F.OC_MASTAT_WIDX c = (s.dev.rd F.OC_MASTAT_WIDX c + 1) % 2 ^ F.OC_MASTAT_WIDX.w ∧
        ((s.dev.conv c).done + 1 < (s.dev.conv c).seq.length → t.rd F.OC_MASTAT_BUSY c = 1 ∧
          (t.conv c).done = (s.dev.conv c).done + 1 ∧ (t.conv c).start = (s.dev.conv c).start + stimeOf e.2.1 + 12) ∧
        ((s.dev.conv c).done + 1 = (s.dev.conv c).seq.length → t.rd F.OC_MASTAT_BUSY c = 0 ∧ t.optics.passEnd.getD c false = true)) ∧
    (∀ raw, (s.dev.conv c).inj = true → s.dev.mgmt.outst = [] → ∃ t : Dev, exec (.madcConversionDone c raw) s = .next (s.put t) ∧
      t.rd F.OC_MAINJRES_DONE c = 1 ∧ t.rd F.OC_MAINJRES_CODE c =
        (s.dev.madcCode c (s.dev.conv c).inject.1 (s.dev.conv c).inject.2.2 raw).1 % 2 ^ F.OC_MAINJRES_CODE.w ∧ (t.conv c).inj = false) ∧
    (∀ l, s.dev.on F.OC_MASTAT_CAL c = false → exec (.madcCalDone c l) s = .next s) ∧
    (∀ l, s.dev.on F.OC_MASTAT_CAL c = true → s.dev.mgmt.outst = [] →
      ∃ t : Dev, exec (.madcCalDone c l) s = .next (s.put t) ∧ t.rd F.OC_MASTAT_CALDONE c = 1 ∧ t.rd F.OC_MASTAT_CAL c = 0 ∧
        t.rd F.OC_MACTL_CALREQ c = 0) ∧
    (∀ data, s.dev.optics.ospiq.getD c [] = [] → exec (.ospiFrameDone c data) s = .next s) ∧
    (∀ f rest (data : BitVec 16), s.dev.optics.ospiq.getD c [] = f :: rest → f.own = false → s.dev.mgmt.outst = [] →
      (s.dev.optics.ospir.filter fun r => r.1 == f.acc).length < 8 →
      ∃ t : Dev, exec (.ospiFrameDone c data) s = .next (s.put t) ∧ t.optics.ospiq.getD c [f] = rest ∧
        t.optics.ospir = s.dev.optics.ospir ++ [(f.acc, { data := if f.frame.testBit 31 then data.toNat else 0
                                                          tag := f.tag, bus := c.val })] ∧
        t.rd (if c.val = 0 then F.OC_OSPICTL_BUSY0 else F.OC_OSPICTL_BUSY1) = b2n (!rest.isEmpty)) ∧
    (∀ ph, ∃ t : Dev, exec (.syncInEdge ph) s = .next (s.put t) ∧ t.optics.sync = s.dev.optics.sync ++ [2])

/-- An admitted OPT command powers its domain on demand. OPT.BIAS.GET answers 12 bytes. OPT.BIAS.SET with operands in range sets each field
that is not its keep value and answers, or waits for the load (STROBE 1); EN 0 or a new range of a channel a loop
owns is DENIED. OPT.NCO.SET sets what is given and waits for the next tick; with an epoch second it arms the capture and is complete.
OPT.MADC.READ waits for an injected conversion. OPT.MADC.CAL starts or awaits the calibration and waits. OPT.LOOP.GET answers 16
bytes. OPT.LOOP.SET sets each field given and with EN turns the loop on or off; a new channel or oscillator of a loop that is not
OFF is DENIED. OPT.OSPI.XFER queues its frames and waits. An operand out of range is BAD_PARAM. -/
def Obligations.OpticsCommands : Prop :=
  ∀ (s : State) (src : Src),
    (∀ ch : Byte, s.dev.admits src 0xA300 .q = true → let x := s.dev.arrives 0xA300; let e := x.entry src 0xA300 .q;
      (ch.toNat ≤ 15 → ∃ p, exec (.optBiasGet src ch) s = .next (s.put (x.completes e (x.demand dBDAC) p)) ∧
        p.length = 12 ∧ (p.drop 4).take 2 = be 2 ((x.demand dBDAC).rd F.OC_BACT_CODE ch.toNat)) ∧
      (15 < ch.toNat → exec (.optBiasGet src ch) s = .next (s.put (x.declines e .badParam)))) ∧
    (∀ (ch en rg nco : Byte) (code damp : BitVec 16) (sd strobe : Byte), s.dev.admits src 0xA301 .c = true →
      let x := s.dev.arrives 0xA301; let e := x.entry src 0xA301 .c; let d := x.demand dBDAC; let c := ch.toNat
      let ok := ch.toNat ≤ 15 ∧ (en.toNat ≤ 1 ∨ en.toNat = 0xFF) ∧ (rg.toNat ≤ 2 ∨ rg.toNat = 0xFF) ∧
        (nco.toNat ≤ 7 ∨ nco.toNat = 0x80 ∨ nco.toNat = 0xFF) ∧ (code.toNat ≤ 16383 ∨ code.toNat = 0xFFFF) ∧
        (damp.toNat ≤ 1023 ∨ damp.toNat = 0xFFFF) ∧ (sd.toNat ≤ 3 ∨ sd.toNat = 0xFF) ∧ (strobe.toNat ≤ 1 ∨ strobe.toNat = 0xFF)
      let owned := (d.biasLoop c).isSome = true ∧ (en.toNat = 0 ∨ (rg.toNat ≠ 0xFF ∧ rg.toNat ≠ d.rd F.OC_BCTL_RANGE c))
      let a1 := if rg.toNat = 0xFF then d else (d.fwPut F.OC_BCTL_RANGE c rg.toNat).biasRange c rg.toNat
      let a2 := if en.toNat = 0xFF then a1 else (a1.fwPut F.OC_BCTL_EN c en.toNat).biasEn c (en.toNat = 1)
      let a3 := if nco.toNat = 0xFF then a2 else if nco.toNat = 0x80 then a2.cfg dBDAC F.OC_BCTL_DITH c 0
        else (a2.cfg dBDAC F.OC_BCTL_DITH c 1).cfg dBDAC F.OC_BCTL_NCO c nco.toNat
      let a4 := (a3.cfgKeep dBDAC F.OC_BHOLD_CODE c code.toNat 0xFFFF).cfgKeep dBDAC F.OC_BHOLD_DAMP c damp.toNat 0xFFFF
      let a5 := if sd.toNat = 0xFF then a4 else (a4.cfg dBDAC F.OC_BCTL_SDCOMP c sd.toNat).cfg dBDAC F.OC_BCTL_SDOPEN c (sd.toNat / 2)
      (ok → ¬owned → strobe.toNat ≠ 1 → exec (.optBiasSet src ch en rg nco code damp sd strobe) s = .next (s.put (x.completes e a5 []))) ∧
      (ok → ¬owned → strobe.toNat = 1 →
        exec (.optBiasSet src ch en rg nco code damp sd strobe) s = .next (s.put (a5.holds e (.strobe (c / 8))))) ∧
      (ok → owned → exec (.optBiasSet src ch en rg nco code damp sd strobe) s = .next (s.put (x.declines e .denied))) ∧
      (¬ok → exec (.optBiasSet src ch en rg nco code damp sd strobe) s = .next (s.put (x.declines e .badParam)))) ∧
    (∀ (nco en tb : Byte) (fw ph es : Word32), s.dev.admits src 0xA310 .c = true →
      let x := s.dev.arrives 0xA310; let e := x.entry src 0xA310 .c; let j := nco.toNat
      let ok := nco.toNat ≤ 7 ∧ (en.toNat ≤ 1 ∨ en.toNat = 0xFF) ∧ (tb.toNat ≤ 3 ∨ tb.toNat = 0xFF) ∧
        (fw.toNat < 2 ^ 31 ∨ fw.toNat = 0xFFFFFFFF)
      let a := ((((x.demand dBDAC).cfgKeep dBDAC F.OC_NCOCTL_EN j en.toNat 0xFF).cfgKeep dBDAC F.OC_NCOCTL_TB j tb.toNat 0xFF).cfgKeep
        dBDAC F.OC_NCOFW_VALUE j fw.toNat 0xFFFFFFFF).cfgKeep dBDAC F.OC_NCOPH_VALUE j ph.toNat 0xFFFFFFFF
      (ok → es.toNat = 0xFFFFFFFF → exec (.optNcoSet src nco en tb fw ph es) s = .next (s.put (a.holds e .nco))) ∧
      (ok → es.toNat ≠ 0xFFFFFFFF → exec (.optNcoSet src nco en tb fw ph es) s =
        .next (s.put (x.completes e ((a.cfg dBDAC F.OC_NCOESEC_VALUE j es.toNat).set F.OC_NCOCTL_EARM j) []))) ∧
      (¬ok → exec (.optNcoSet src nco en tb fw ph es) s = .next (s.put (x.declines e .badParam)))) ∧
    (∀ conv chan st g : Byte, s.dev.admits src 0xA320 .c = true → let x := s.dev.arrives 0xA320; let e := x.entry src 0xA320 .c;
      let ok := conv.toNat ≤ 1 ∧ chan.toNat ≤ 27 ∧ st.toNat ≤ 15 ∧ g.toNat ≤ 3
      (ok → exec (.optMadcRead src conv chan st g) s =
          .next (s.put (((x.demand dMADC).holds e (.inject conv.toNat chan.toNat st.toNat g.toNat false)).madcNext conv.toNat))) ∧
      (¬ok → exec (.optMadcRead src conv chan st g) s = .next (s.put ((x.declines e .badParam).madcNext conv.toNat)))) ∧
    (∀ conv : Byte, s.dev.admits src 0xA321 .c = true → let x := s.dev.arrives 0xA321; let e := x.entry src 0xA321 .c;
      let a := x.demand dMADC
      let c := if conv.toNat = 1 then 1 else 0
      let b := a.madcCalReq c
      (conv.toNat ≤ 1 ∨ conv.toNat = 0xFF →
        exec (.optMadcCal src conv) s = .next (s.put (b.holds e (.madcCal (if conv.toNat = 0xFF then 3 else 2 ^ conv.toNat)
          (if a.on F.OC_MASTAT_CAL c || b.on F.OC_MASTAT_CAL c then b.rd F.OC_MACNT_MA_MISSED c else 0))))) ∧
      (1 < conv.toNat → conv.toNat ≠ 0xFF → exec (.optMadcCal src conv) s = .next (s.put (x.declines e .badParam)))) ∧
    (∀ lane : Byte, s.dev.admits src 0xA330 .q = true → let x := s.dev.arrives 0xA330; let e := x.entry src 0xA330 .q;
      (lane.toNat ≤ 7 → ∃ p, exec (.optLoopGet src lane) s = .next (s.put (x.completes e x p)) ∧ p.length = 16 ∧
        p.take 2 = [BitVec.ofNat 8 (x.loop lane.toNat).state, BitVec.ofNat 8 (x.loop lane.toNat).fcause] ∧
        p.drop 12 = be 4 (x.loop lane.toNat).holds) ∧
      (7 < lane.toNat → exec (.optLoopGet src lane) s = .next (s.put (x.declines e .badParam)))) ∧
    (∀ (lane en auto mode lch lmon mch mmon nco ramp nint bstep : Byte) (setpt ilim kp ki kb mcode : BitVec 16),
      s.dev.admits src 0xA331 .c = true → let x := s.dev.arrives 0xA331; let e := x.entry src 0xA331 .c; let k := lane.toNat
      let c := (x.loop k).cfg
      let i : Instr := .optLoopSet src lane en auto mode lch lmon mch mmon nco ramp nint bstep setpt ilim kp ki kb mcode
      let ok := lane.toNat ≤ 7 ∧ ∀ q ∈ [(en, 0, 1), (auto, 0, 1), (mode, 0, 4), (lch, 0, 15), (lmon, 0, 15), (mch, 0, 15), (mmon, 0, 15),
        (nco, 0, 7), (ramp, 1, 255), (nint, 1, 64), (bstep, 1, 64)], (q.2.1 ≤ q.1.toNat ∧ q.1.toNat ≤ q.2.2) ∨ q.1.toNat = 0xFF
      let b := fun (v : Byte) (old : Nat) => if v.toNat = 0xFF then old else v.toNat
      let w := fun (v : BitVec 16) (old : Nat) => if v.toNat = 0xFFFF then old else v.toNat
      let c1 : LoopCfg := { auto := if auto.toNat = 0xFF then c.auto else auto.toNat == 1, mode := b mode c.mode, lch := b lch c.lch
                            lmon := b lmon c.lmon, mch := b mch c.mch, mmon := b mmon c.mmon, nco := b nco c.nco
                            ramp := b ramp c.ramp, nint := b nint c.nint, bstep := b bstep c.bstep, setpt := w setpt c.setpt
                            ilim := w ilim c.ilim, kp := w kp c.kp, ki := w ki c.ki, kb := w kb c.kb, mcode := w mcode c.mcode }
      let moved := c1.lch ≠ c.lch ∨ c1.lmon ≠ c.lmon ∨ c1.mch ≠ c.mch ∨ c1.mmon ≠ c.mmon ∨ c1.nco ≠ c.nco
      let a := (x.demand dBDAC).mapLoop k fun l => { l with cfg := c1 }
      (ok → ((x.loop k).state = 0 ∨ ¬moved) →
        (en.toNat = 1 → exec i s = .next (s.put (x.completes e (a.loopStart k) []))) ∧
        (en.toNat = 0 → exec i s = .next (s.put (x.completes e (a.loopOff k) []))) ∧
        (en.toNat = 0xFF → exec i s = .next (s.put (x.completes e a [])))) ∧
      (ok → (x.loop k).state ≠ 0 → moved → exec i s = .next (s.put (x.declines e .denied))) ∧
      (¬ok → exec i s = .next (s.put (x.declines e .badParam)))) ∧
    (∀ (bus count : Byte) (fr : List Word32), s.dev.admits src 0xA340 .c = true → let x := s.dev.arrives 0xA340; let e := x.entry src 0xA340 .c;
      let ok := bus.toNat ≤ 1 ∧ 0 < count.toNat ∧ count.toNat ≤ 8 ∧ fr.length = count.toNat
      (ok → exec (.optOspiXfer src bus count fr) s =
        .next (s.put (((x.demand dBDAC).holds e (.ospi bus.toNat count.toNat (fr.map fun f => f.toNat) [])).ospiFeed))) ∧
      (¬ok → exec (.optOspiXfer src bus count fr) s = .next (s.put ((x.declines e .badParam).ospiFeed))))

/-- With the port up: STATUS drives the status byte and clears REQDROP. KCI_WRITE of fewer than 8 bytes or with 8 responses waiting
only sets REQDROP; a frame whose length, CRC or flags are wrong is answered BAD_PARAM and counted; a right one runs the command its
opcode names on the operands of its payload (R271, R273). KCI_READ of an empty queue drives the empty frame; a whole read drives and
removes the oldest response. EXPORT_READ without a session drives the empty chunk, else the next chunk or the one cut short. LEG_WRITE
queues the write, the 65th sets DROP; LEG_READ reads the cached or the fixed value; LEGACY_WRITE_APPLY takes the oldest write from the queue,
counts it and gives it its effect; LEGACY_CACHE_REFRESH drops the cached values of writes no longer queued. SYS.LEGACY.SET 0 empties
the queue; SYS.LEGACY.COV.GET answers the class. With the port down nothing is driven and nothing else changes. -/
def Obligations.ManagementPorts : Prop :=
  ∀ (s : State) (src : Src),
    (s.dev.spiUp = true → exec .status s =
      .next (s.put ((s.dev.drive [BitVec.ofNat 8 s.dev.spiStatus]).mapMgmt fun m => { m with reqdrop := false }))) ∧
    (∀ fr : List Byte, s.dev.spiUp = true →
      let good := fr.length = 8 + fieldAt fr 4 2 ∧ crc16 (fr.take 6 ++ fr.drop 8) = fieldAt fr 6 2 ∧ fieldAt fr 3 1 = 0
      (8 ≤ s.dev.mgmt.rspq.length ∨ fr.length < 8 →
        exec (.kciWrite fr) s = .next (s.put (s.dev.mapMgmt fun m => { m with reqdrop := true }))) ∧
      (s.dev.mgmt.rspq.length < 8 → 8 ≤ fr.length → ¬good →
        exec (.kciWrite fr) s = .next (s.put ((s.dev.respond (.spi (fr.getD 2 0)) (fieldAt fr 0 2) .badParam []).inc F.GLB_KCICNT_CRCERR))) ∧
      (s.dev.mgmt.rspq.length < 8 → 8 ≤ fr.length → good →
        exec (.kciWrite fr) s = runRequest (.spi (fr.getD 2 0)) (fieldAt fr 0 2) (fr.drop 8) s)) ∧
    (s.dev.phase = .fw →
      (∀ op p cls rule act, kciRow op = some (cls, rule) →
        (requestTable.find? fun r => r.1 == op) = some (op, act) →
        runRequest src op p s = if rule.fits p then act src p s else .next (s.put (s.dev.respond src op .badParam []))) ∧
      (∀ op p, kciRow op = none → runRequest src op p s = .next (s.put (s.dev.respond src op .unsupported []))) ∧
      (∀ b c : Byte, runRequest src 0xA300 [b] s = exec (.optBiasGet src b) s ∧
        runRequest src 0xA132 [b, c, 3] s = exec (.lineAdcTrimGet src b c 3) s ∧
        runRequest src 0xA000 [] s = exec (.sysIdGet src) s)) ∧
    requestTable.map (fun r => r.1) = kciTable.map (fun r => r.1) ∧
    (s.dev.spiUp = true →
      (s.dev.mgmt.rspq = [] → ∀ w, exec (.kciRead w) s = .next (s.put (s.dev.drive emptyFrame))) ∧
      (∀ fr t, s.dev.mgmt.rspq = fr :: t →
        exec (.kciRead true) s = .next (s.put ((s.dev.drive fr).mapMgmt fun m =>
          { m with rspq := t ++ m.rsphold.take 1, rsphold := m.rsphold.drop 1 })) ∧
        exec (.kciRead false) s = .next (s.put (s.dev.drive fr)))) ∧
    (s.dev.spiUp = true → ∀ w,
      (s.dev.pot.session = none → exec (.exportRead w) s = .next (s.put (s.dev.drive (exportChunk 0 4 [])))) ∧
      (∀ q c, s.dev.pot.session = some q → s.dev.fwRun = true → s.dev.potReady = true → q.again = some c →
        exec (.exportRead w) s = .next (s.put ((s.dev.drive c).mapPot fun p =>
          { p with session := some { q with again := if w then none else some c } }))) ∧
      (∀ q, s.dev.pot.session = some q → s.dev.fwRun = true → s.dev.potReady = true → q.again = none → q.mode = 0 →
        let r := q.nextRecord s.dev.pot.records
        let c := exportChunk q.chunk r.1 r.2.1
        exec (.exportRead w) s = .next (s.put ((s.dev.drive c).mapPot fun p =>
          { p with session := some { r.2.2 with chunk := q.chunk + 1, again := if w then none else some c } })))) ∧
    (∀ addr data : BitVec 16, s.dev.legOn = true →
      (s.dev.mgmt.legq.length < 64 → ∃ t : Dev, exec (.legWrite addr data) s = .next (s.put t) ∧
        t.mgmt.legq = s.dev.mgmt.legq ++ [(addr.toNat, data.toNat)] ∧ t.mgmt.spiOut = [] ∧
        t.rd F.GLB_LEGSTAT_QDEPTH = (s.dev.mgmt.legq.length + 1) % 2 ^ F.GLB_LEGSTAT_QDEPTH.w ∧
        (t.mgmt.legCache.find? fun c => c.1 == addr.toNat) = some (addr.toNat, data.toNat)) ∧
      (64 ≤ s.dev.mgmt.legq.length → exec (.legWrite addr data) s = .next (s.put ((s.dev.drive []).set F.GLB_LEGSTAT_DROP))) ∧
      (2 ≤ (legacyCov addr.toNat).1 → exec (.legRead addr) s = .next (s.put (s.dev.drive (be 2 (legacyCov addr.toNat).2)))) ∧
      (∀ c, (legacyCov addr.toNat).1 < 2 → (s.dev.mgmt.legCache.find? fun c => c.1 == addr.toNat) = some c →
        exec (.legRead addr) s = .next (s.put (s.dev.drive (be 2 c.2)))) ∧
      ((legacyCov addr.toNat).1 < 2 → (s.dev.mgmt.legCache.find? fun c => c.1 == addr.toNat) = none →
        let v := s.dev.freeVal 16
        exec (.legRead addr) s = .next (s.put ((v.2.drive (be 2 v.1)).mapMgmt fun m =>
          { m with legCache := m.legCache ++ [(addr.toNat, v.1)] })))) ∧
    (∀ q t, s.dev.fwRun = true → s.dev.mgmt.legq = q :: t →
      exec .legacyWriteApply s =
        .next (s.put ((((s.dev.mapMgmt fun m => { m with legq := t }).legDepth).inc F.GLB_LEGSTAT_WRITES).legEffect q.1)) ∧
      (2 ≤ (legacyCov q.1).1 → exec .legacyWriteApply s =
        .next (s.put (((s.dev.mapMgmt fun m => { m with legq := t }).legDepth).inc F.GLB_LEGSTAT_WRITES)))) ∧
    (s.dev.fwRun = true → exec .legacyCacheRefresh s = .next (s.put (s.dev.mapMgmt fun m =>
      { m with legCache := m.legCache.filter fun e => m.legq.any fun q => q.1 == e.1 }))) ∧
    (s.dev.admits src 0xA010 .c = true → let x := s.dev.arrives 0xA010; let e := x.entry src 0xA010 .c;
      exec (.sysLegacySet src 1) s = .next (s.put (x.completes e (x.wr F.GLB_STAT_LEGACY 0 1) [])) ∧
      exec (.sysLegacySet src 0) s = .next (s.put (x.completes e (((x.wr F.GLB_STAT_LEGACY 0 0).mapMgmt fun m =>
        { m with legq := [], legCache := [] }).legDepth) [])) ∧
      (∀ b : Byte, 1 < b.toNat → exec (.sysLegacySet src b) s = .next (s.put (x.declines e .badParam)))) ∧
    (∀ addr : BitVec 16, s.dev.admits src 0xA011 .q = true → let x := s.dev.arrives 0xA011; let e := x.entry src 0xA011 .q; exec (.sysLegacyCovGet src addr) s =
      .next (s.put (x.completes e x (be 1 (legacyCov addr.toNat).1 ++ be 2 (legacyCov addr.toNat).2)))) ∧
    (s.dev.spiUp = false → let t := Host.Outcome.next (ρ := Refusal) (φ := Fault) (s.put (s.dev.drive []))
      exec .status s = t ∧ (∀ fr, exec (.kciWrite fr) s = t) ∧
      (∀ w, exec (.kciRead w) s = t ∧ exec (.exportRead w) s = t) ∧
      (∀ a v, exec (.legWrite a v) s = t ∧ exec (.legRead a) s = t))

/-- MODSEL_L_RISE and FALL set whether the device is selected. SETDASA of a selected device keeps the dynamic address. LPMODE_CHANGE keeps the
level and lets the power state follow. TWO_WIRE_STOP gives the transaction its effect: a read of the device's address gives the bytes
of the page, a write of bank and page selects them; then a pending swap takes place. With firmware running and the device selected, a
CMIS write for one of its own host lanes takes effect: CMIS_APPSEL_WRITE evaluates the selection or lets it wait behind a conflict;
CMIS_OUTPUT_DISABLE_WRITE keeps the bit and acts on the loop; CMIS_EQ_CODE_WRITE writes the code; one for the twin's goes over
the link. CMIS_LOWPWR_SW_WRITE keeps its two bits and the power state follows. Without, each changes nothing. CMIS_STATUS_REFRESH publishes
the module state and the lane status and latches the new lane flags. -/
def Obligations.CmisEvents : Prop :=
  ∀ (s : State) (k : Fin 8) (h : Fin 16),
    exec .modselLRise s = .next (s.put (s.dev.mapMgmt fun m => { m with modselHigh := true })) ∧
    exec .modselLFall s = .next (s.put (s.dev.mapMgmt fun m => { m with modselHigh := false })) ∧
    (∀ a, s.dev.fwRun = true → s.dev.twoWire = true →
      exec (.setdasa a) s = .next (s.put (s.dev.mapMgmt fun m => { m with i3cAddr := some a }))) ∧
    (∀ a, s.dev.fwRun = false ∨ s.dev.twoWire = false → exec (.setdasa a) s = .next s) ∧
    (∀ v, s.dev.pinsLive = true →
      exec (.lpmodeChange v) s = .next (s.put ((s.dev.mapMgmt fun m => { m with lpmode := v }).powerEval.powerProgress))) ∧
    (∀ v, s.dev.pinsLive = false → exec (.lpmodeChange v) s = .next (s.put (s.dev.mapMgmt fun m => { m with lpmode := v }))) ∧
    (∀ x, s.dev.pinsLive = false → exec (.twoWireStop x) s = .next s) ∧
    (s.dev.pinsLive = true →
      (s.dev.xc.swap = false → exec (.twoWireStop .other) s = .next s) ∧
      (s.dev.xc.swap = true → s.dev.attached = true → exec (.twoWireStop .other) s = .next (s.put s.dev.swapNow)) ∧
      (s.dev.twoWire = true → s.dev.fwRun = true → s.dev.xc.swap = false → ∀ addr, s.dev.answers addr = true →
        (∀ (off : Byte) n, ∃ t : Dev, exec (.twoWireStop (.read addr off n)) s = .next (s.put t) ∧
          t.mgmt.twoOut = (cmisSpan off.toNat n).map s.dev.cmisByte ∧ (s.dev.attached = false → t.regs = s.dev.regs)) ∧
        (∀ bank page : Byte, ∃ t : Dev, exec (.twoWireStop (.write addr 126 [bank, page])) s = .next (s.put t) ∧
          t.mgmt.bankSel = bank.toNat ∧ t.mgmt.pageSel = page.toNat ∧ t.regs = s.dev.regs))) ∧
    (s.dev.cmisOn = true →
      (∀ n (as : BitVec 4) (size lrm outputs pretx prerx : Byte), s.dev.cmisLane (2 * k.val) = some (false, n) →
        let r : AppReq := ⟨n / 2, as.toNat, size.toNat, lrm.toNat, outputs.toNat, pretx.toNat, prerx.toNat⟩
        let i : Instr := .cmisAppselWrite k as size lrm outputs pretx prerx
        exec i s = .next (s.put (s.dev.appsel r)) ∧
        (s.dev.mgmt.appselWait = [] → (s.dev.appselBlock r).isSome = false →
          exec i s = .next (s.put ((s.dev.appselTake r).mapMgmt fun m => { m with appselWait := [] }))) ∧
        (s.dev.mgmt.appselWait = [] → (s.dev.appselBlock r).isSome = true →
          exec i s = .next (s.put (s.dev.mapMgmt fun m => { m with appselWait := [r] })))) ∧
      (∀ n (as : BitVec 4) (size lrm outputs pretx prerx : Byte), s.dev.cmisLane (2 * k.val) = some (true, n) →
        exec (.cmisAppselWrite k as size lrm outputs pretx prerx) s =
          .next (s.put (s.dev.relayWrite n 0xE1 (be 1 (n / 2) ++ be 1 as.toNat ++ [size, lrm, outputs, pretx, prerx])))) ∧
      (∀ n dis, s.dev.cmisLane h.val = some (false, n) → exec (.cmisOutputDisableWrite h dis) s =
        .next (s.put ((s.dev.mapMgmt fun m => { m with outDis := vset m.outDis n fun _ => dis }).loopDisable (n / 2)))) ∧
      (∀ n dis, s.dev.cmisLane h.val = some (true, n) → exec (.cmisOutputDisableWrite h dis) s =
        .next (s.put (s.dev.relayWrite n 0xE2 (be 1 n ++ be 1 (b2n dis))))) ∧
      (∀ n q, s.dev.cmisLane h.val = some (false, n) → exec (.cmisEqCodeWrite h q) s = .next (s.put (s.dev.cmisEq n q))) ∧
      (∀ n q, s.dev.cmisLane h.val = some (true, n) → exec (.cmisEqCodeWrite h q) s =
        .next (s.put (s.dev.relayWrite n 0xE3 (be 1 n ++ eqBytes q)))) ∧
      (s.dev.cmisLane h.val = none → (∀ dis, exec (.cmisOutputDisableWrite h dis) s = .next s) ∧
        (∀ q, exec (.cmisEqCodeWrite h q) s = .next s))) ∧
    (∀ r a, s.dev.cmisOn = true → exec (.cmisLowpwrSwWrite r a) s = .next (s.put ((s.dev.mapMgmt fun m =>
      { m with lowPwrSW := r, lowPwrAllowHW := a }).powerEval.powerProgress))) ∧
    (s.dev.cmisOn = false → (∀ as size lrm outputs pretx prerx, exec (.cmisAppselWrite k as size lrm outputs pretx prerx) s = .next s) ∧
      (∀ dis, exec (.cmisOutputDisableWrite h dis) s = .next s) ∧ (∀ q, exec (.cmisEqCodeWrite h q) s = .next s) ∧
      (∀ r a, exec (.cmisLowpwrSwWrite r a) s = .next s)) ∧
    (s.dev.fwRun = true → s.dev.mgmt.appselWait = [] → s.dev.attached = false → ∃ t : Dev, exec .cmisStatusRefresh s = .next (s.put t) ∧
      t.mgmt.page00 = s.dev.rd F.PW_STAT_CMIS ∧ t.mgmt.cmisFlags.getD h 0 = (s.dev.mgmt.cmisFlags.getD h 0 ||| s.dev.newFlags h) ∧
      t.mgmt.page11.getD h.val {} = s.dev.laneStatus h.val ∧ t.regs = s.dev.regs)

/-- CDB_COMMAND_ID_WRITE on a free selected instance: a wrong CdbChkCode fails with reason 5, an LPL above 120 bytes with 2, an
unknown command ID with 1 (the reasons are presumed, log entry 32); a KCI opcode runs its request, a standard ID its standard command;
on a busy instance it changes nothing. A standard command that is admitted: Query Status, the two feature reads and Get Firmware Info
succeed without effect; Start Firmware Download opens the slot, with a trial in progress it fails; a firmware block at the next
address joins the download, at another it fails with 2; Complete ends the download and Abort drops it; without a download both writes
fail; Run of a verified slot and Commit wait for their vote-word update, otherwise they fail. -/
def Obligations.CdbCommands : Prop :=
  ∀ (s : State) (i : Fin 2),
    (∀ (cmd : BitVec 16) (lpl : List Byte) (chk : Byte), s.dev.phase = .fw → s.dev.twoWire = true →
      ((s.dev.mgmt.cdb.get i).busy = true → exec (.cdbCommandIdWrite i cmd lpl chk) s = .next s) ∧
      ((s.dev.mgmt.cdb.get i).busy = false →
        (chk.toNat ≠ cdbChk cmd.toNat lpl → exec (.cdbCommandIdWrite i cmd lpl chk) s = .next (s.put (s.dev.cdbDone i cmd.toNat false 5 []))) ∧
        (chk.toNat = cdbChk cmd.toNat lpl → 120 < lpl.length →
          exec (.cdbCommandIdWrite i cmd lpl chk) s = .next (s.put (s.dev.cdbDone i cmd.toNat false 2 []))) ∧
        (chk.toNat = cdbChk cmd.toNat lpl → lpl.length ≤ 120 → (cmd.toNat < 0xA000 ∨ 0xACFF < cmd.toNat) →
          (stdTable.find? fun r => r.1 == cmd.toNat) = none →
          exec (.cdbCommandIdWrite i cmd lpl chk) s = .next (s.put (s.dev.cdbDone i cmd.toNat false 1 []))) ∧
        (chk.toNat = cdbChk cmd.toNat lpl → lpl.length ≤ 120 → 0xA000 ≤ cmd.toNat → cmd.toNat ≤ 0xACFF →
          exec (.cdbCommandIdWrite i cmd lpl chk) s = runRequest (.cdb i) cmd.toNat lpl s) ∧
        (chk.toNat = cdbChk cmd.toNat lpl → lpl.length ≤ 120 →
          (cmd = 0x0000 → exec (.cdbCommandIdWrite i cmd lpl chk) s = exec (.queryStatus i) s) ∧
          (cmd = 0x0101 → exec (.cdbCommandIdWrite i cmd lpl chk) s = exec (.startFirmwareDownload i) s) ∧
          (cmd = 0x0103 → exec (.cdbCommandIdWrite i cmd lpl chk) s =
            exec (.writeFirmwareBlockLpl i (BitVec.ofNat 32 (fieldAt lpl 0 4)) (lpl.drop 4)) s)))) ∧
    (s.dev.stdAdmits i 0x0000 .q = true → let x := (s.dev.arrives 0x0000).accepted
      exec (.queryStatus i) s = .next (s.put (x.cdbDone i 0x0000 true 0 (Config.cmisReply 0x0000
        [b2n (x.mgmt.cdb.get i).success, (x.mgmt.cdb.get i).failure])))) ∧
    (s.dev.stdAdmits i 0x0040 .q = true → let x := (s.dev.arrives 0x0040).accepted
      exec (.moduleFeatures i) s = .next (s.put (x.cdbDone i 0x0040 true 0 (Config.cmisReply 0x0040 [])))) ∧
    (s.dev.stdAdmits i 0x0041 .q = true → let x := (s.dev.arrives 0x0041).accepted
      exec (.firmwareManagementFeatures i) s = .next (s.put (x.cdbDone i 0x0041 true 0 (Config.cmisReply 0x0041 [])))) ∧
    (s.dev.stdAdmits i 0x0100 .q = true → let x := (s.dev.arrives 0x0100).accepted
      exec (.getFirmwareInfo i) s = .next (s.put (x.cdbDone i 0x0100 true 0
        (Config.cmisReply 0x0100 [x.rd F.GLB_STAT_BOOT, x.bootSlot, x.trialSlot, b2n x.sec.slotA.good, x.sec.slotA.version,
          b2n x.sec.slotB.good, x.sec.slotB.version])))) ∧
    (s.dev.stdAdmits i 0x0101 .q = true → let x := (s.dev.arrives 0x0101).accepted
      (x.trialSlot = 0 → exec (.startFirmwareDownload i) s =
        .next (s.put (x.downloadOpen.cdbDone i 0x0101 true 0 (Config.cmisReply 0x0101 [])))) ∧
      (x.trialSlot ≠ 0 → exec (.startFirmwareDownload i) s = .next (s.put (x.cdbDone i 0x0101 false 0 [])))) ∧
    (∀ (a : Word32) (data : List Byte), s.dev.stdAdmits i 0x0103 .f = true → let x := (s.dev.arrives 0x0103).accepted
      (∀ slot img, x.sec.download = some (slot, img) →
        (data ≠ [] → data.length ≤ 116 → a.toNat = img.length → exec (.writeFirmwareBlockLpl i a data) s = .next (s.put ((x.mapSec fun y =>
          { y with download := some (slot, img ++ data) }).cdbDone i 0x0103 true 0 (Config.cmisReply 0x0103 [])))) ∧
        (data = [] ∨ 116 < data.length ∨ a.toNat ≠ img.length →
          exec (.writeFirmwareBlockLpl i a data) s = .next (s.put (x.cdbDone i 0x0103 false 2 [])))) ∧
      (x.sec.download = none → exec (.writeFirmwareBlockLpl i a data) s = .next (s.put (x.cdbDone i 0x0103 false 0 [])))) ∧
    (s.dev.stdAdmits i 0x0107 .q = true → let x := (s.dev.arrives 0x0107).accepted
      (∀ slot img, x.sec.download = some (slot, img) → exec (.completeFirmwareDownload i) s = .next (s.put
        (if (x.downloadEnd slot img).2 then (x.downloadEnd slot img).1.cdbDone i 0x0107 true 0 (Config.cmisReply 0x0107 [])
         else (x.downloadEnd slot img).1.cdbDone i 0x0107 false 0 []))) ∧
      (x.sec.download = none → exec (.completeFirmwareDownload i) s = .next (s.put (x.cdbDone i 0x0107 false 0 [])))) ∧
    (s.dev.stdAdmits i 0x0102 .q = true → let x := (s.dev.arrives 0x0102).accepted
      exec (.abortFirmwareDownload i) s = .next (s.put ((x.mapSec fun y =>
        { y with download := none }).cdbDone i 0x0102 true 0 (Config.cmisReply 0x0102 [])))) ∧
    (s.dev.stdAdmits i 0x0109 .s = true → let x := (s.dev.arrives 0x0109).accepted; let e := s.dev.entry (.cdb i) 0x0109 .s
      ((x.slotImage x.freeSlot).good = true → exec (.runFirmwareImage i) s = .next (s.put (((x.runImage (.cdb i) 0x0109).cdbBusy (.cdb i)
        0x0109).mapMgmt fun m => { m with outst := m.outst ++ [{ e with wait := .vote }] }))) ∧
      ((x.slotImage x.freeSlot).good = false → exec (.runFirmwareImage i) s = .next (s.put (x.cdbDone i 0x0109 false 0 [])))) ∧
    (s.dev.stdAdmits i 0x010A .s = true → let x := (s.dev.arrives 0x010A).accepted; let e := s.dev.entry (.cdb i) 0x010A .s
      (∀ w, x.commitWords = some w → exec (.commitFirmwareImage i) s = .next (s.put (((x.enqueue w (.respond (.cdb i) 0x010A)).cdbBusy (.cdb i)
        0x010A).mapMgmt fun m => { m with outst := m.outst ++ [{ e with wait := .vote }] }))) ∧
      (x.commitWords = none → exec (.commitFirmwareImage i) s = .next (s.put (x.cdbDone i 0x010A false 0 []))))

/-- SYS.ID.GET answers 20 bytes beginning with the part. SYS.RESET with no other command outstanding is answered OK and the soft
reset is due; with one outstanding it is BUSY and nothing is due. A MAILBOX_RELAY cell with a fresh SEQ under firmware: a command frame
of an attached pair of at least 8 bytes runs as a frame of the twin's, a reply ends TWIN.RELAY, a selection is evaluated as one of CMIS,
an output disabled, an equalisation code written, a flag cleared or masked; an image part joins the download, a restart and a commit begin
their updates, a report of success ends the upgrade; an attestation nonce is signed or answered with the certificate; of a pair not
attached only its SEQ is kept; a repeated SEQ changes nothing. -/
def Obligations.IdentityRelay : Prop :=
  ∀ (s : State) (src : Src) (seq : Byte),
    (s.dev.admits src 0xA000 .q = true → let x := s.dev.arrives 0xA000; let e := x.entry src 0xA000 .q;
      ∃ p, exec (.sysIdGet src) s = .next (s.put (x.completes e x p)) ∧ p.length = 20 ∧
        p.take 12 = be 2 (x.rd F.GLB_ID_PART) ++ be 1 (x.rd F.GLB_ID_STEP) ++ be 1 (x.rd F.GLB_ID_GRADE) ++ be 8 x.sec.serial) ∧
    (s.dev.admits src 0xA001 .c = true → let x := s.dev.arrives 0xA001; let e := x.entry src 0xA001 .c;
      (x.mgmt.outst = [] → exec (.sysReset src) s =
        .next (s.put (x.completes e (x.mapMgmt fun m => { m with resetDue := true }) []))) ∧
      (∀ a t, x.mgmt.outst = a :: t → exec (.sysReset src) s = .next (s.put (x.respondBusy e.src e.op (x.retryOf a))))) ∧
    (s.dev.domOn dXCUT = false ∨ s.dev.xc.seen.contains seq.toNat = true → ∀ m, exec (.mailboxRelayCell seq m) s = .next s) ∧
    (s.dev.domOn dXCUT = true → s.dev.xc.seen.contains seq.toNat = false → (s.dev.taken seq 7).fwRun = true →
      let d := s.dev.taken seq 7
      (∀ nonce, exec (.mailboxRelayCell seq (.attest nonce)) s =
        .next (s.put (if d.canSign then d.enqueue [] (.sign none (be 32 nonce.toNat)) else d.message d.sec.cert))) ∧
      (d.attached = true →
        (∀ fr : List Byte,
          (8 ≤ fr.length → exec (.mailboxRelayCell seq (.command fr)) s = runFrame (.twin (fr.getD 2 0)) fr (s.put d)) ∧
          (fr.length < 8 → exec (.mailboxRelayCell seq (.command fr)) s = .next (s.put d)) ∧
          exec (.mailboxRelayCell seq (.reply fr)) s = .next (s.put (d.relayReply fr))) ∧
        (∀ (h : Fin 16) w, exec (.mailboxRelayCell seq (.eq h w)) s = .next (s.put (d.cmisEq h.val w))) ∧
        (∀ (h : Fin 16) dis, exec (.mailboxRelayCell seq (.output h dis)) s = .next (s.put (d.outputDisable h.val dis))) ∧
        (∀ (h : Fin 16) (b : Fin 4), exec (.mailboxRelayCell seq (.clear h b)) s = .next (s.put (d.mapMgmt fun m => Mgmt.intEval { m with
          cmisFlags := putLaneBit m.cmisFlags b.val [(0, h.val)] fun _ => false })) ∧
          ∀ on, exec (.mailboxRelayCell seq (.mask h b on)) s = .next (s.put (d.mapMgmt fun m => Mgmt.intEval { m with
            laneMasks := putLaneBit m.laneMasks b.val [(0, h.val)] fun _ => on }))) ∧
        (∀ first mode size lrm outputs pretx prerx, exec (.mailboxRelayCell seq (.select first mode size lrm outputs pretx prerx)) s =
          .next (s.put (d.appsel ⟨BitVec.toNat first, BitVec.toNat mode, BitVec.toNat size, BitVec.toNat lrm,
            BitVec.toNat outputs, BitVec.toNat pretx, BitVec.toNat prerx⟩))) ∧
        (∀ size off data, exec (.mailboxRelayCell seq (.image size off data)) s = .next (s.put (d.imagePart size off data))) ∧
        exec (.mailboxRelayCell seq .restart) s = .next (s.put d.twinRestart) ∧
        (∀ w, d.commitWords = some w → exec (.mailboxRelayCell seq .commit) s = .next (s.put (d.enqueue w .nothing))) ∧
        (d.commitWords = none → exec (.mailboxRelayCell seq .commit) s = .next (s.put (d.upgradeReport false))) ∧
        exec (.mailboxRelayCell seq (.done true)) s = .next (s.put (d.mapXc fun y => { y with upg := 0, upgPct := 100 })) ∧
        exec (.mailboxRelayCell seq (.done false)) s = .next (s.put (d.mapXc fun y => { y with upg := 255 }))) ∧
      (d.attached = false → ∀ m, (∀ nonce, m ≠ .attest nonce) → exec (.mailboxRelayCell seq m) s = .next (s.put d)))

/-- With XCUT on, a cell whose SEQ is one of the last 16 accepted changes nothing; any other is accepted: its SEQ is kept (taken).
Then HEARTBEAT keeps time and content; SLEEP puts the receive direction to sleep; DETACH of an attached pair detaches; TAKEOVER
leaves the receiver DEPOSED, its loops out, no endpoint, role 0, and any swap dropped; FAULT records the cause, sets RXFLT and acts;
ATTACH during the handshake attaches, or fails with the first check that fails (part, equal IDs, protocol and map, credentials); an
attached device answers it first; a TAKE runs the lanes' loops here and is acknowledged, BACK returns them; an RRSP answers the message with
its TAG, one of no message changes nothing; MIRROR takes up a refresh part by part, or a change; SWAP makes the switch now or at the next
STOP, as the free value says (DESIGN CHOICE, log 25). A reserved type is counted as a CRC error. The cells that need an attached pair
change nothing else when it is not. -/
def Obligations.TwinCells : Prop :=
  ∀ (s : State) (seq : Byte), s.dev.domOn dXCUT = true →
    (∀ (xlane : Fin 2) (type : Byte),
      (13 < type.toNat → exec (.reservedCell xlane type) s = .next (s.put (s.dev.inc F.XC_LERR_CRCERR xlane.val))) ∧
      (type.toNat ≤ 13 → exec (.reservedCell xlane type) s = .next s)) ∧
    (s.dev.xc.seen.contains seq.toNat = true → exec (.sleepCell seq) s = .next s ∧ exec (.detachCell seq) s = .next s ∧
      exec (.takeoverCell seq) s = .next s ∧ exec (.swapCell seq) s = .next s ∧
      (∀ role lp al, exec (.heartbeatCell seq role lp al) s = .next s) ∧ (∀ c, exec (.faultCell seq c) s = .next s) ∧
      (∀ far, exec (.attachCell seq far) s = .next s) ∧ (∀ kind m, exec (.loopHandoverCell seq kind m) s = .next s) ∧
      (∀ b, exec (.rrspCell seq b) s = .next s) ∧ (∀ o b f l, exec (.mirrorCell seq o b f l) s = .next s)) ∧
    (s.dev.xc.seen.contains seq.toNat = false →
      exec (.sleepCell seq) s = .next (s.put (((s.dev.taken seq 12).set F.XC_STAT_RXSLEEP).mapXc fun x => { x with rxSleepAt := s.dev.now })) ∧
      (∀ (role : Fin 3) (lp al : Bool), exec (.heartbeatCell seq role lp al) s = .next (s.put ((s.dev.taken seq 3).mapXc fun x =>
        { x with lastHb := some s.dev.now, farHb := some (role.val, lp, al) }))) ∧
      exec (.detachCell seq) s =
        .next (s.put (if (s.dev.taken seq 13).attached then (s.dev.taken seq 13).detached else s.dev.taken seq 13)) ∧
      ((s.dev.taken seq 8).attached = true → exec (.takeoverCell seq) s =
        .next (s.put (((((s.dev.taken seq 8).set F.XC_AON_DEPOSED).wr F.XC_AON_LOOPSOUT 0 0xFF).setEndpt false).wr F.XC_STAT_ROLE 0 0).swapDrop)) ∧
      (∀ cause : BitVec 4, (s.dev.taken seq 4).attached = true → exec (.faultCell seq cause) s =
        .next (s.put (((s.dev.taken seq 4).wr F.XC_FLTSTAT_RXCAUSE 0 cause.toNat).faultRx false F.XC_FLTSTAT_RXFLT))) ∧
      (∀ far : AttachInfo, (s.dev.taken seq 2).rd F.XC_STAT_STATE = 2 →
        let d := s.dev.taken seq 2
        (far.part ≠ d.rd F.GLB_ID_PART → exec (.attachCell seq far) s = .next (s.put (d.attachFail 2))) ∧
        (far.part = d.rd F.GLB_ID_PART → (far.isB = true ↔ d.mgmt.twinId = 2) →
          exec (.attachCell seq far) s = .next (s.put (d.attachFail 3))) ∧
        (far.part = d.rd F.GLB_ID_PART → ¬(far.isB = true ↔ d.mgmt.twinId = 2) →
          (d.sec.running.xproto < far.xmin.toNat ∨ far.xproto.toNat < d.sec.running.xmin ∨ far.mapCrc ≠ crc16 ((d.conf 0x0801).getD []) →
            exec (.attachCell seq far) s = .next (s.put (d.attachFail 2))) ∧
          (far.xmin.toNat ≤ d.sec.running.xproto → d.sec.running.xmin ≤ far.xproto.toNat → far.mapCrc = crc16 ((d.conf 0x0801).getD []) →
            exec (.attachCell seq far) s = .next (s.put (if d.credOk far then d.attachOk far else d.attachFail 4))))) ∧
      (∀ far : AttachInfo, (s.dev.taken seq 2).rd F.XC_STAT_STATE = 3 →
        let d := (s.dev.taken seq 2).attachCell
        exec (.attachCell seq far) s = .next (s.put (if d.attachCheck far = 0 then d.attachOk far else d.attachFail (d.attachCheck far)))) ∧
      (∀ far : AttachInfo, (s.dev.taken seq 2).rd F.XC_STAT_STATE ≠ 2 → (s.dev.taken seq 2).rd F.XC_STAT_STATE ≠ 3 →
        exec (.attachCell seq far) s = .next (s.put (s.dev.taken seq 2))) ∧
      (∀ mask : Byte, (s.dev.taken seq 6).attached = true →
        let d := s.dev.taken seq 6
        exec (.loopHandoverCell seq .take mask) s = .next (s.put ((d.setRemote (d.ws.remote ||| mask.toNat)).cell 6 [1, mask])) ∧
        exec (.loopHandoverCell seq .takeAck mask) s = .next (s.put ((d.wr F.XC_AON_LOOPSOUT 0
          (d.rd F.XC_AON_LOOPSOUT ||| (mask.toNat &&& d.xc.asked))).mapXc fun x => { x with asked := x.asked &&& (255 - mask.toNat) })) ∧
        exec (.loopHandoverCell seq .back mask) s = .next (s.put ((d.wr F.XC_AON_LOOPSOUT 0
          (d.rd F.XC_AON_LOOPSOUT &&& (255 - mask.toNat))).reseed mask.toNat))) ∧
      (∀ body : List Byte,
        let d := s.dev.taken seq 11
        let vals := (List.range (min 5 (fieldAt body 2 1))).map fun j => fieldAt body (3 + 4 * j) 4
        (∀ a, (d.xc.asks.find? fun a => a.tag == fieldAt body 0 1) = some a → exec (.rrspCell seq body) s =
          .next (s.put ((d.mapXc fun x => { x with rrsp := some (fieldAt body 1 1, vals) }).rrspTake a vals))) ∧
        ((d.xc.asks.find? fun a => a.tag == fieldAt body 0 1) = none → exec (.rrspCell seq body) s = .next (s.put d))) ∧
      (∀ (o : Nat) (data : List Byte), (s.dev.taken seq 5).attached = true →
        let d := s.dev.taken seq 5
        exec (.mirrorCell seq o data true true) s = .next (s.put (d.mapXc fun x => { x with image := putImage [] o data, part := none })) ∧
        exec (.mirrorCell seq o data true false) s = .next (s.put (d.mapXc fun x => { x with part := some (putImage [] o data) })) ∧
        (∀ p, d.xc.part = some p →
          exec (.mirrorCell seq o data false true) s = .next (s.put (d.mapXc fun x => { x with image := putImage p o data, part := none })) ∧
          exec (.mirrorCell seq o data false false) s = .next (s.put (d.mapXc fun x => { x with part := some (putImage p o data) }))) ∧
        (d.xc.part = none → ∀ last, exec (.mirrorCell seq o data false last) s =
          .next (s.put (d.mapXc fun x => { x with image := putImage x.image o data })))) ∧
      ((s.dev.taken seq 9).attached = true →
        let d := if (s.dev.taken seq 9).xc.swapOwn then s.dev.taken seq 9 else (s.dev.taken seq 9).cell 9 [1]
        exec (.swapCell seq) s = .next (s.put (if (d.freeVal 1).1 = 1 then (d.freeVal 1).2.mapXc fun x => { x with swap := true }
          else (d.freeVal 1).2.swapNow))) ∧
      (∀ (kind : Handover) (m : Byte) (cause : BitVec 4) (o : Nat) (data : List Byte) (f l : Bool),
        ((s.dev.taken seq 9).attached = false → exec (.swapCell seq) s = .next (s.put (s.dev.taken seq 9))) ∧
        ((s.dev.taken seq 8).attached = false → exec (.takeoverCell seq) s = .next (s.put (s.dev.taken seq 8))) ∧
        ((s.dev.taken seq 4).attached = false → exec (.faultCell seq cause) s = .next (s.put (s.dev.taken seq 4))) ∧
        ((s.dev.taken seq 6).attached = false → exec (.loopHandoverCell seq kind m) s = .next (s.put (s.dev.taken seq 6))) ∧
        ((s.dev.taken seq 5).attached = false → exec (.mirrorCell seq o data f l) s = .next (s.put (s.dev.taken seq 5)))))

/-- XC_LANE_LOCK keeps RXLOCK and counts a lock lost. A TRAIN cell in training keeps the far rate; the 64th READY in a row moves a
READY transmitter to the next rate within both MAXRATE values, or ends training; TRAIN_STEP_TIMEOUT returns to the rate before,
sets RATEFB and starts the handshake. LINK_LOSS on a trained link whose receive direction is awake, and a missing
heartbeat of a sleeping one for 2 ms, count DETACHES, set LINKLOSS and detach; an untrained link does neither. HEARTBEAT_SEND with ALIVE and
SLEEP_WAKE_TIMER of a sleeping sender send a HEARTBEAT; ALIVE_EXPIRY clears ALIVE 16 µs after the last kick. HBLOSS of an attached pair sets and counts the
loss, and FOLLOW takes over while any other role drives INT_L. FAULT_DETECT of an enabled source while attached sends FAULT; a
source not enabled or a pair not attached does nothing; TWIN_FLT_FALL acts only while attached with PINEN. RREQ_TIMEOUT discards
a partial message and counts it. MIRROR_REFRESH on the endpoint sends the image. -/
def Obligations.TwinEvents : Prop :=
  ∀ s : State,
    (∀ (xlane : Fin 2) (locked : Bool), s.dev.domOn dXCUT = true → ∃ t : Dev, exec (.xcLaneLock xlane locked) s = .next (s.put t) ∧
      t.on F.XC_LANE_RXLOCK xlane.val = locked ∧
      t.rd F.XC_LERR_LOCKLOSS xlane.val = (if s.dev.on F.XC_LANE_RXLOCK xlane.val && !locked then
        (s.dev.inc F.XC_LERR_LOCKLOSS xlane.val).rd F.XC_LERR_LOCKLOSS xlane.val else s.dev.rd F.XC_LERR_LOCKLOSS xlane.val)) ∧
    (∀ maxrate : Fin 4, s.dev.domOn dXCUT = true → s.dev.mgmt.twinId ≠ 0 → s.dev.on F.XC_CTL_ATTEN = true → s.dev.xc.failed = false →
      s.dev.xc.stepping = false → (s.dev.rd F.XC_STAT_STATE = 1 ∨ s.dev.rd F.XC_STAT_STATE = 4) →
      (s.dev.xc.sentReady = true ∨ s.dev.rxLocks = 2) →
      let d := (s.dev.wr F.XC_STAT_STATE 0 1).mapXc fun x => { x with farMax := maxrate.val, rxReady := x.rxReady + 1, sentReady := true }
      (63 ≤ s.dev.xc.rxReady → exec (.trainCell maxrate true) s = .next (s.put d.trainNext)) ∧
      (s.dev.xc.rxReady < 63 → exec (.trainCell maxrate true) s = .next (s.put d.trainCell)) ∧
      exec (.trainCell maxrate false) s = .next (s.put (d.mapXc fun x => { x with rxReady := 0 }).trainCell)) ∧
    (s.dev.xc.stepping = true → exec .trainStepTimeout s =
      .next (s.put ((s.dev.linkRate (s.dev.rd F.XC_STAT_RATE - 1)).set F.XC_STAT_RATEFB).handshake) ∧
      (s.dev.linkRate (s.dev.rd F.XC_STAT_RATE - 1)).rd F.XC_STAT_RATE = (s.dev.rd F.XC_STAT_RATE - 1) % 4) ∧
    (s.dev.xc.stepping = false → exec .trainStepTimeout s = .next s) ∧
    (s.dev.xc.trained = true →
      (s.dev.on F.XC_STAT_RXSLEEP = false → exec .linkLoss s =
        .next (s.put (((s.dev.inc F.XC_CNT_DETACHES).set F.XC_STAT_LINKLOSS).event evDetach 0xB00).detached)) ∧
      (s.dev.on F.XC_STAT_RXSLEEP = true → exec .linkLoss s = .next s ∧
        (max s.dev.xc.rxSleepAt (s.dev.xc.lastHb.getD 0) + 2 * tickMs ≤ s.dev.now → exec .sleepHeartbeatTimeout s =
          .next (s.put ((((s.dev.clr F.XC_STAT_RXSLEEP).inc F.XC_CNT_DETACHES).set F.XC_STAT_LINKLOSS).event evDetach 0xB00).detached)) ∧
        (s.dev.now < max s.dev.xc.rxSleepAt (s.dev.xc.lastHb.getD 0) + 2 * tickMs → exec .sleepHeartbeatTimeout s = .next s))) ∧
    (s.dev.xc.trained = false → exec .linkLoss s = .next s ∧ exec .sleepHeartbeatTimeout s = .next s) ∧
    (s.dev.domOn dXCUT = true → s.dev.on F.XC_HB_ALIVE = true → s.dev.rd F.XC_STAT_STATE ≠ 0 → s.dev.on F.XC_STAT_TXSLEEP = false →
      exec .heartbeatSend s = .next (s.put (s.dev.cell 3 [BitVec.ofNat 8 (s.dev.rd F.XC_STAT_ROLE), BitVec.ofNat 8 (b2n (decide (s.dev.rd F.PW_STAT_STATE = 1))), 1]))) ∧
    (s.dev.on F.XC_HB_ALIVE = false → exec .heartbeatSend s = .next s) ∧
    (s.dev.xc.kickAt + 25000 ≤ s.dev.now → exec .aliveExpiry s = .next (s.put (s.dev.clr F.XC_HB_ALIVE))) ∧
    (s.dev.now < s.dev.xc.kickAt + 25000 → exec .aliveExpiry s = .next s) ∧
    (s.dev.on F.XC_STAT_TXSLEEP = true → exec .sleepWakeTimer s = .next (s.put s.dev.heartbeat)) ∧
    (s.dev.attached = true → s.dev.on F.XC_STAT_RXSLEEP = false → s.dev.hbOld = true →
      (s.dev.rd F.XC_STAT_ROLE = 2 → exec .hbloss s = .next (s.put ((s.dev.set F.XC_STAT_HBLOSS).inc F.XC_CNT_HBLOSSES).takeover)) ∧
      (s.dev.rd F.XC_STAT_ROLE ≠ 2 →
        exec .hbloss s = .next (s.put (((s.dev.set F.XC_STAT_HBLOSS).inc F.XC_CNT_HBLOSSES).int.event evHbLoss 0xB00)))) ∧
    (∀ source : Fin 4,
      (s.dev.attached = true → (s.dev.rd F.XC_FLTCFG_SRC).testBit source.val = true → s.dev.on F.XC_FLTCFG_PINEN = false →
        exec (.faultDetect source) s = .next (s.put ((s.dev.cell 4 [BitVec.ofNat 8 (2 ^ source.val)]).wr F.XC_FLTSTAT_TXCAUSE 0
          (2 ^ source.val)))) ∧
      (s.dev.attached = true → (s.dev.rd F.XC_FLTCFG_SRC).testBit source.val = true → s.dev.on F.XC_FLTCFG_PINEN = true →
        exec (.faultDetect source) s = .next (s.put (((s.dev.cell 4 [BitVec.ofNat 8 (2 ^ source.val)]).wr F.XC_FLTSTAT_TXCAUSE 0
          (2 ^ source.val)).mapXc fun x => { x with fltAt := some s.dev.now }))) ∧
      (s.dev.attached = false ∨ (s.dev.rd F.XC_FLTCFG_SRC).testBit source.val = false → exec (.faultDetect source) s = .next s)) ∧
    (s.dev.attached = false ∨ s.dev.on F.XC_FLTCFG_PINEN = false → exec .twinFltFall s = .next s) ∧
    (s.dev.pinsLive = true → s.dev.attached = true → s.dev.on F.XC_FLTCFG_PINEN = true → s.dev.xc.acted = none →
      exec .twinFltFall s =
        .next (s.put (((s.dev.set F.XC_FLTSTAT_PINFLT).faultAct).mapXc fun x => { x with acted := some (s.dev.now, true) }))) ∧
    (∀ p, s.dev.xc.rreq = some p →
      exec .rreqTimeout s = .next (s.put ((s.dev.mapXc fun x => { x with rreq := none }).inc F.XC_LERR_CRCERR 0))) ∧
    (s.dev.attached = true → s.dev.mgmt.endpt = true → s.dev.fwRun = true →
      exec .mirrorRefresh s = .next (s.put ((Dev.mirrorCells (s.dev.mirrorImage.length / 20 + 1) s.dev 0
        s.dev.mirrorImage).mapXc fun x => { x with sent := s.dev.mirrorImage }))) ∧
    (s.dev.mgmt.endpt = false ∨ s.dev.attached = false → exec .mirrorRefresh s = .next s) ∧
    (s.dev.domOn dXCUT = false → (∀ l b, exec (.xcLaneLock l b) s = .next s) ∧ ∀ m r, exec (.trainCell m r) s = .next s)

/-- TWIN.STAT.GET answers the state words, the twin's serial, version and protocol, and the upgrade's progress; with XCUT off the
link's words are 0. TWIN.CFG.SET on a device strapped A or B writes the fields not given as 0xFF; a value out of range is BAD_PARAM,
a solo device NOT_READY. TWIN.ATTACH is NOT_READY on a solo device, answers 0 when attached, and otherwise hands out what training
or the handshake brings. TWIN.DETACH of an attached pair queues the DETACH cell; TWIN.SWAP on the attached endpoint sends SWAP and
waits for the switch; TWIN.RELAY sends the frame and waits, not to a deposed twin; TWIN.UPGRADE starts the action on the attached endpoint
with no other upgrade, and tells FOLLOW; TWIN.FAULT.SEND raises source 3. Each of those is NOT_READY on a pair not attached. -/
def Obligations.TwinCommands : Prop :=
  ∀ (s : State) (src : Src),
    (s.dev.admits src 0xA600 .q = true → let x := s.dev.arrives 0xA600; let e := x.entry src 0xA600 .q
      let on := fun (a : Nat) => if x.domOn dXCUT then x.regWord a 0 else 0
      (∀ far : AttachInfo, x.xc.far = some far → exec (.twinStatGet src) s = .next (s.put (x.completes e x (be 4 (on 0x90004) ++
        be 4 (x.regWord 0x9001C 0) ++ be 8 far.serial ++ be 4 far.fwver ++
        [far.xproto, BitVec.ofNat 8 x.xc.upg, BitVec.ofNat 8 x.xc.upgPct, 0] ++ be 4 (on 0x90014))))) ∧
      (x.xc.far = none → exec (.twinStatGet src) s = .next (s.put (x.completes e x (be 4 (on 0x90004) ++
        be 4 (x.regWord 0x9001C 0) ++ be 8 0 ++ be 4 0 ++ [0, BitVec.ofNat 8 x.xc.upg, BitVec.ofNat 8 x.xc.upgPct, 0] ++ be 4 (on 0x90014)))))) ∧
    (∀ a r st sl fs fa p : Byte, s.dev.admits src 0xA601 .c = true → let x := s.dev.arrives 0xA601; let e := x.entry src 0xA601 .c
      let ok := ∀ q ∈ [(a, 1), (r, 3), (st, 1), (sl, 1), (fs, 15), (fa, 7), (p, 1)], q.1.toNat ≤ q.2 ∨ q.1.toNat = 0xFF
      let put := fun (d : Dev) (f : Fld) (v : Byte) => if v.toNat = 0xFF then d else d.cfg dXCUT f 0 v.toNat
      (x.mgmt.twinId ≠ 0 → ok → exec (.twinCfgSet src a r st sl fs fa p) s = .next (s.put (x.completes e
        (put (put (put (put (put (put (put x F.XC_CTL_ATTEN a) F.XC_CTL_MAXRATE r) F.XC_CTL_STRICT st) F.XC_CTL_SLEEPEN sl) F.XC_FLTCFG_SRC fs)
          F.XC_FLTCFG_ACT fa) F.XC_FLTCFG_PINEN p) []))) ∧
      (x.mgmt.twinId ≠ 0 → ¬ok → exec (.twinCfgSet src a r st sl fs fa p) s = .next (s.put (x.declines e .badParam))) ∧
      (x.mgmt.twinId = 0 → exec (.twinCfgSet src a r st sl fs fa p) s = .next (s.put (x.declines e .notReady)))) ∧
    (s.dev.admits src 0xA602 .d = true → let x := s.dev.arrives 0xA602; let e := x.entry src 0xA602 .d
      let y := x.mapXc fun c => { c with failed := false }
      (x.mgmt.twinId = 0 → exec (.twinAttach src) s = .next (s.put (x.declines e .notReady))) ∧
      (x.mgmt.twinId ≠ 0 → x.attached = true → exec (.twinAttach src) s = .next (s.put (x.completes e x [0]))) ∧
      (x.mgmt.twinId ≠ 0 → x.attached = false →
        (x.xc.trained = true → exec (.twinAttach src) s = .next (s.put (y.handshake.holds e .twinAttach))) ∧
        (x.xc.trained = false → x.domOn dXCUT = true → exec (.twinAttach src) s =
          .next (s.put (((y.xcConf.wr F.XC_STAT_STATE 0 1).retrainLink).holds e .twinAttach))) ∧
        (x.xc.trained = false → x.domOn dXCUT = false → exec (.twinAttach src) s = .next (s.put ((y.wake dXCUT).holds e .twinAttach))))) ∧
    (s.dev.admits src 0xA603 .c = true → let x := s.dev.arrives 0xA603; let e := x.entry src 0xA603 .c
      (x.attached = true → x.on F.XC_CTL_DETACH = false →
        exec (.twinDetach src) s = .next (s.put (x.completes e ((x.cell 13 []).set F.XC_CTL_DETACH) []))) ∧
      (x.attached = true → x.on F.XC_CTL_DETACH = true → exec (.twinDetach src) s = .next (s.put (x.completes e x []))) ∧
      (x.attached = false → exec (.twinDetach src) s = .next (s.put (x.declines e .notReady)))) ∧
    (s.dev.admits src 0xA604 .c = true → let x := s.dev.arrives 0xA604; let e := x.entry src 0xA604 .c
      (x.attached = true → x.mgmt.endpt = true →
        exec (.twinSwap src) s = .next (s.put (((x.cell 9 [0]).mapXc fun c => { c with swapOwn := true }).holds e .twinSwap))) ∧
      (x.attached = false ∨ x.mgmt.endpt = false → exec (.twinSwap src) s = .next (s.put (x.declines e .notReady)))) ∧
    (∀ frame : List Byte, s.dev.admits src 0xA610 ((relayCls (fieldAt frame 0 2)).getD .c) = true →
      let x := s.dev.arrives 0xA610; let e := x.entry src 0xA610 ((relayCls (fieldAt frame 0 2)).getD .c)
      (x.attached = true → x.xc.twinDown = false →
        (8 ≤ frame.length → frame.length ≤ 1016 → (relayCls (fieldAt frame 0 2)).isSome = true →
          exec (.twinRelay src frame) s = .next (s.put ((x.message frame).holds e .twinRelay))) ∧
        (frame.length < 8 ∨ 1016 < frame.length ∨ relayCls (fieldAt frame 0 2) = none →
          exec (.twinRelay src frame) s = .next (s.put (x.declines e .badParam)))) ∧
      (x.attached = false ∨ x.xc.twinDown = true → exec (.twinRelay src frame) s = .next (s.put (x.declines e .notReady)))) ∧
    (∀ a : Byte, s.dev.admits src 0xA620 .c = true → let x := s.dev.arrives 0xA620; let e := x.entry src 0xA620 .c
      let go := x.attached = true ∧ x.mgmt.endpt = true ∧ x.xc.upg = 0 ∧ (a.toNat = 1 → (x.slotImage x.freeSlot).good = true)
      let y := (x.message [BitVec.ofNat 8 (0xF0 + a.toNat)]).mapXc fun c => { c with upg := a.toNat, upgPct := 0 }
      (x.mgmt.twinId = 0 → exec (.twinUpgrade src a) s = .next (s.put (x.declines e .notReady))) ∧
      (x.mgmt.twinId ≠ 0 → (a.toNat = 0 ∨ 3 < a.toNat) → exec (.twinUpgrade src a) s = .next (s.put (x.declines e .badParam))) ∧
      (x.mgmt.twinId ≠ 0 → 1 ≤ a.toNat → a.toNat ≤ 3 →
        (¬go → exec (.twinUpgrade src a) s = .next (s.put (x.declines e .notReady))) ∧
        (go → a.toNat ≠ 3 ∨ x.commitWords = none → exec (.twinUpgrade src a) s = .next (s.put (x.completes e y []))) ∧
        (∀ w, go → a.toNat = 3 → x.commitWords = some w →
          exec (.twinUpgrade src a) s = .next (s.put (x.completes e (y.voteJob w .nothing) []))))) ∧
    (s.dev.admits src 0xA630 .c = true → let x := s.dev.arrives 0xA630; let e := x.entry src 0xA630 .c
      (x.attached = true → exec (.twinFaultSend src) s = .next (s.put (x.completes e (x.faultRaise 3) []))) ∧
      (x.attached = false → exec (.twinFaultSend src) s = .next (s.put (x.declines e .notReady))))

/-- RESET_L_HOLD, an undervoltage out of reset and a loss of supplies leave what a cold reset leaves, which keeps the vote copies,
the log and CONF records and the life cycle's fuses; a loss of supplies also starts the test port anew. RESET_L_RISE samples the
straps. AON_READY loads the vote words of the highest GEN, or sets LOADERR when no copy is valid. BOOT_ROM_START tries the slots in
order and runs the first good one; with LOADERR, or with none good, it stays in the boot ROM and reports ModuleFault.
SRAM_INIT_DONE sets SRAMRDY and, unless after a soft reset, clears the pattern RAM. FIRMWARE_START with SEC and STOCK on starts
firmware: LOWPWR, or ModuleFault after a trip, the AVS duty and the services; after a soft reset the power state is kept. A watchdog
reset, and a soft reset that is due, end the accepted commands with FAULT and return to the boot ROM; one that is not due changes
nothing. -/
def Obligations.ResetAndBoot : Prop :=
  ∀ s : State,
    (exec .resetLHold s = .next (s.put s.dev.coldReset) ∧ s.dev.coldReset.phase = .held ∧ s.dev.coldReset.regs = Dev.initial.regs ∧
      s.dev.coldReset.vote.copies = s.dev.vote.copies ∧ s.dev.coldReset.pot.log = s.dev.pot.log ∧
      s.dev.coldReset.pot.conf = s.dev.pot.conf ∧ s.dev.coldReset.sec.serial = s.dev.sec.serial) ∧
    (s.dev.phase ≠ .held → exec .supplyUndervoltage s = .next (s.put s.dev.coldReset)) ∧
    (s.dev.phase = .held → exec .supplyUndervoltage s = .next s) ∧
    exec .lossOfSupplies s = .next (s.put { s.dev.coldReset with jtag := {} }) ∧
    (∀ (legacy : Bool) (tw : Fin 3), s.dev.phase = .held → ∃ t : Dev, exec (.resetLRise legacy tw) s = .next (s.put t) ∧
      t.phase = .rising ∧ t.mgmt.legStrap = legacy ∧ t.mgmt.twinId = tw.val ∧ t.on F.PW_CLKSTAT_REFOK = true) ∧
    (s.dev.phase = .rising →
      (∀ b, s.dev.vote.best = some b → ∃ t : Dev, exec .aonReady s = .next (s.put t) ∧ t.phase = .aon ∧ t.vote.gen = b.gen ∧
        t.vote.flops = Vector.replicate 3 b.words) ∧
      (s.dev.vote.best = none → ∃ t : Dev, exec .aonReady s = .next (s.put t) ∧ t.phase = .aon ∧ t.on F.MI_VSTAT_LOADERR = true)) ∧
    (s.dev.phase = .aon → s.dev.domOn dMGMT = true →
      let d := (((if s.dev.power.boot = 2 then s.dev else s.dev.wr F.PW_STAT_CMIS 0 0).demand dSEC).demand dSTOCK).glbFused
      (d.on F.MI_VSTAT_LOADERR = true → exec .bootRomStart s = .next (s.put (d.bootFailed 0))) ∧
      (d.on F.MI_VSTAT_LOADERR = false →
        let p := d.bootTwin.shadowRepair.bootOrder
        (p.1.find? p.2.slotOk = none → exec .bootRomStart s = .next (s.put (p.2.bootFailed 7))) ∧
        (∀ sl, p.1.find? p.2.slotOk = some sl → exec .bootRomStart s = .next (s.put (({ p.2 with phase := .rom }).mapSec fun x =>
          { x with chosen := sl, running := p.2.slotImage sl }))))) ∧
    ((s.dev.phase = .aon ∨ s.dev.phase = .rom ∨ s.dev.phase = .fw) → s.dev.domOn dMGMT = true → s.dev.on F.GLB_STAT_SRAMRDY = false →
      (s.dev.power.boot = 2 → exec .sramInitDone s = .next (s.put (s.dev.set F.GLB_STAT_SRAMRDY))) ∧
      (s.dev.power.boot ≠ 2 → exec .sramInitDone s = .next { s with
        mem := memClear s.mem patBase (patBase + 0x100000), dev := (s.dev.set F.GLB_STAT_SRAMRDY).memFresh [.mgmt, .pattern] })) ∧
    (s.dev.phase = .rom → s.dev.domOn dSEC = true → s.dev.domOn dSTOCK = true →
      let d1 := ((((({ s.dev with phase := .fw }).set F.GLB_STAT_FWRUN).wr F.GLB_STAT_BOOT 0 s.dev.sec.chosen).wr F.SEC_BOOT_RUN 0
        s.dev.sec.chosen).stateInt).mapMgmt fun m => { m with lowPwrAllowHW := true, lowPwrSW := false, coreFast := true }
      (s.dev.power.boot ≠ 2 →
        let d2 := ({ d1 with fw := [] }).services
        let d3 := ((d2.wr F.PW_STAT_STATE 0 1).wr F.PW_STAT_CMIS 0 (if d2.on F.PW_STAT_TTRIP then 5 else 1)).wr F.PW_AVS_DUTY 0
          (avsDuty s.dev.sec.avsTarget)
        exec .firmwareStart s = .next (s.put (if s.dev.power.boot = 1 then d3.offAges else d3).powerEval)) ∧
      (s.dev.power.boot = 2 →
        let d2 := iter 8 (fun k (e : Dev) => e.bistPowerDown k) ({ d1 with fw := d1.rebuilt }).services
        let d3 := if d2.domOn dWHET then d2.trapReport.wsRestart else d2
        exec .firmwareStart s = .next (s.put
          (iter 8 (fun k (e : Dev) => e.mapLane k fun l => { l with alarm := l.alarm ||| 16 }) d3).xcResume.powerEval.powerProgress))) ∧
    (s.dev.fwRun = false → exec .watchdogReset s = .next s ∧ exec .softResetStart s = .next s) ∧
    (s.dev.fwRun = true → exec .watchdogReset s = .next (s.put (s.dev.mgmt.outst.foldl Dev.endFault s.dev).softReset) ∧
      (s.dev.mgmt.resetDue = true → exec .softResetStart s = .next (s.put (s.dev.mgmt.outst.foldl Dev.endFault s.dev).softReset)) ∧
      (s.dev.mgmt.resetDue = false → exec .softResetStart s = .next s))

/-- With firmware running, LOWPWR_REQUEST_CHANGE without a request in LowPwr with AVS set begins ModulePwrUp and wakes the domains
READY adds; with a request in Ready it begins ModulePwrDn. MODULE_READY_ENTRY in the last step and no request enters READY, state 3.
AVS_SET with the PWM driven sets AVSSET; without it, or without firmware, nothing. PW_DREQ_WRITE of any accessor but the management
core changes nothing; the management core's wakes each domain whose bit rises and takes down each whose bit falls. DOMAIN_WAKE_DONE
and DOMAIN_DOWN_DONE of a domain not on its way change nothing; a waking domain comes up and what waited for it goes on; WHET comes
up with its memories 0. CORE_CLOCK_LOWER lowers the core clock. REFCLK_LOSS clears REFOK, sets REFLOS, counts and drives INT_L;
REFCLK_RETURN sets REFOK. THERMAL_TRIP with AON up and no firmware sets the sensor's TRIPSRC bit and TTRIP, drives INT_L and raises
fault source 1. -/
def Obligations.PowerAndClocks : Prop :=
  ∀ s : State,
    (s.dev.fwRun = true → s.dev.lowReq = false → s.dev.rd F.PW_STAT_CMIS = 1 → s.dev.on F.PW_STAT_AVSSET = true →
      exec .lowpwrRequestChange s = .next (s.put (((s.dev.wr F.PW_STAT_CMIS 0 2).mapPower fun p => { p with upStep := 1 }).wakeAll
        s.dev.readyDomains).powerProgress)) ∧
    (s.dev.fwRun = true → s.dev.lowReq = true → s.dev.rd F.PW_STAT_CMIS = 3 → exec .lowpwrRequestChange s =
      .next (s.put s.dev.pwrDn.powerProgress)) ∧
    (s.dev.fwRun = true → s.dev.power.upStep = 2 → s.dev.ws.restarting = false → s.dev.lowReq = false → exec .moduleReadyEntry s =
      .next (s.put ((((s.dev.mapPower fun p => { p with upStep := 0 }).wr F.PW_STAT_STATE 0 2).wr F.PW_STAT_CMIS 0 3).stateInt).loopsAuto)) ∧
    (s.dev.fwRun = true → s.dev.power.upStep = 2 → s.dev.ws.restarting = false → s.dev.lowReq = true →
      exec .moduleReadyEntry s = .next (s.put s.dev.pwrDn.powerProgress)) ∧
    (s.dev.power.upStep ≠ 2 → exec .moduleReadyEntry s = .next s) ∧
    (s.dev.fwRun = true → s.dev.rd F.PW_AVS_DUTY ≠ 0 →
      exec .avsSet s = .next (s.put ((s.dev.set F.PW_STAT_AVSSET).powerEval.powerProgress))) ∧
    (s.dev.fwRun = false ∨ s.dev.rd F.PW_AVS_DUTY = 0 → exec .avsSet s = .next s) ∧
    (∀ (acc : Accessor) (i : Fin 3) (v : Word32),
      (acc ≠ .mgmt → exec (.pwDreqWrite acc i v) s = .next s) ∧
      exec (.pwDreqWrite .mgmt i v) s = .next (s.put (iter 32 (fun b e => if 80 ≤ 32 * i.val + b then e
        else if v.toNat.testBit b = e.domReq (32 * i.val + b) then e
        else if v.toNat.testBit b then e.wake (32 * i.val + b) else e.down (32 * i.val + b)) s.dev))) ∧
    (∀ i : Fin 80,
      (s.dev.power.waking.testBit i.val = false → exec (.domainWakeDone i) s = .next s) ∧
      (s.dev.power.waking.testBit i.val = true → i.val ≠ dXCUT → exec (.domainWakeDone i) s =
        .next { s with mem := (if i.val = dWHET then memClear s.mem xBase (pmBase + 0x40000) else s.mem),
                       dev := ((if i.val = dWHET then (s.dev.domUp i.val).memFresh [.prog, .x, .y]
                         else s.dev.domUp i.val).prepareReady).powerProgress }) ∧
      (s.dev.power.waking.testBit i.val = true → i.val = dXCUT → exec (.domainWakeDone i) s =
        .next (s.put (((let d := s.dev.domUp dXCUT; if d.fwRun then d.xcTrain else d).prepareReady).powerProgress))) ∧
      (s.dev.power.downing.testBit i.val = false → exec (.domainDownDone i) s = .next s) ∧
      (s.dev.power.downing.testBit i.val = true → exec (.domainDownDone i) s =
        .next (s.put ((((if dLADC 0 ≤ i.val && i.val < dLRXD 0 then s.dev.tbDead (i.val - 8) else if i.val = dBDAC then s.dev.biasOff
          else s.dev).mapPower fun p => { p with downing := withBit p.downing i.val false }).fixTrans).pathsGone).powerProgress))) ∧
    exec .coreClockLower s = .next (s.put (s.dev.mapMgmt fun m => { m with coreFast := false })) ∧
    (s.dev.aonUp = true → s.dev.on F.PW_CLKSTAT_REFOK = true →
      let d1 := (((s.dev.clr F.PW_CLKSTAT_REFOK).set F.PW_CLKSTAT_REFLOS).inc F.PW_CLKSTAT_REFLOSCNT).int
      exec .refclkLoss s = .next (s.put (if s.dev.fwRun then d1.event evRefclk 0x800 else d1))) ∧
    (s.dev.on F.PW_CLKSTAT_REFOK = false → exec .refclkLoss s = .next s) ∧
    (s.dev.aonUp = true → exec .refclkReturn s = .next (s.put (s.dev.set F.PW_CLKSTAT_REFOK))) ∧
    (s.dev.aonUp = false → exec .refclkReturn s = .next s ∧ exec .refclkLoss s = .next s ∧ ∀ k, exec (.thermalTrip k) s = .next s) ∧
    (∀ k : Fin 4, s.dev.aonUp = true →
      let d1 := s.dev.wr F.PW_THERM_TRIPSRC 0 (withBit (s.dev.rd F.PW_THERM_TRIPSRC) k.val true)
      let d2 := if s.dev.domOn dBDAC then iter 16 (fun ch (e : Dev) => e.biasEn ch false) d1 else d1
      let d3 := (((d2.set F.PW_STAT_TTRIP).int).faultRaise 1).mapBist fun b => if b.state = 1 then { b with ending := true } else b
      (s.dev.fwRun = false → exec (.thermalTrip k) s = .next (s.put d3)) ∧
      (s.dev.fwRun = true → s.dev.rd F.PW_STAT_CMIS = 1 → exec (.thermalTrip k) s = .next (s.put (d3.wr F.PW_STAT_CMIS 0 5).stateInt)) ∧
      (s.dev.fwRun = true → s.dev.rd F.PW_STAT_CMIS ≠ 1 → exec (.thermalTrip k) s = .next (s.put d3.powerEval.powerProgress)))

/-- OFF_AON_ENTRY that is not due changes nothing; one that is due leaves a device in OFF-AON with the vote words as they were.
OFF_AON_WAKE in OFF-AON with an enabled source wakes MGMT and records the sources; without one it changes nothing; while entry is
under way it is latched. WAKE_TIMER_EXPIRY with TMR enabled and a timer above 0 wakes with source 8; a timer at 0 never wakes.
SYS.PWR.GET answers the states, the last wake, the flags and the PW words. SYS.PWR.SET of any source but a host is DENIED; a TARGET
above 2 other than FFh is BADPARAM; TARGET 0 with commands outstanding is BUSY and with none outside LowPwr NOT_READY; TARGET 1 requests
LOWPWR, TARGET 2 withdraws the request but for a thermal trip (NOT_READY); TARGET 0 in LowPwr with none outstanding makes OFF-AON due. -/
def Obligations.OffAonAndPowerCommands : Prop :=
  ∀ (s : State) (src : Src),
    (s.dev.offReady = false → exec .offAonEntry s = .next s) ∧
    (s.dev.offReady = true → s.dev.attached = false → ∃ t : Dev, exec .offAonEntry s = .next (s.put t) ∧
      (s.dev.flush.mgmt.wakeLatched = 0 → t.phase = .off ∧ t.rd F.PW_STAT_STATE = 0) ∧ t.vote.flops = s.dev.flush.vote.flops) ∧
    (∀ (sources : BitVec 4) (sec : Nat),
      (s.dev.phase = .off → s.dev.wakeEn sources.toNat ≠ 0 →
        exec (.offAonWake sources sec) s = .next (s.put (s.dev.offWake (s.dev.wakeEn sources.toNat) sec))) ∧
      (s.dev.fwRun = false ∨ s.dev.mgmt.offDue = false → s.dev.wakeEn sources.toNat = 0 → exec (.offAonWake sources sec) s = .next s) ∧
      (s.dev.fwRun = false ∨ s.dev.mgmt.offDue = false → s.dev.wakeEn sources.toNat ≠ 0 → s.dev.phase ≠ .off →
        exec (.offAonWake sources sec) s = .next (s.put (s.dev.mapPower fun p => { p with timerWake := false }))) ∧
      (s.dev.fwRun = true → s.dev.mgmt.offDue = true → exec (.offAonWake sources sec) s = .next (s.put (s.dev.mapMgmt fun m =>
        { m with wakeLatched := m.wakeLatched ||| s.dev.wakeEn sources.toNat })))) ∧
    (s.dev.phase = .off → s.dev.on F.PW_WAKE_TMR = true →
      (s.dev.rd F.PW_WAKETMR_SEC ≠ 0 → exec .wakeTimerExpiry s = .next (s.put (s.dev.offWake 8 (s.dev.rd F.PW_WAKETMR_SEC)))) ∧
      (s.dev.rd F.PW_WAKETMR_SEC = 0 → exec .wakeTimerExpiry s = .next s)) ∧
    (s.dev.admits src 0xA050 .q = true → let x := s.dev.arrives 0xA050; let e := x.entry src 0xA050 .q; exec (.sysPwrGet src) s = .next (s.put (x.completes e x
      (be 1 (x.rd F.PW_STAT_STATE) ++ be 1 (x.rd F.PW_STAT_CMIS) ++ be 1 (x.rd F.PW_WAKE_LAST) ++
       be 1 (x.rd F.PW_STAT_TTRIP + 2 * x.rd F.PW_STAT_AVSSET + 4 * x.rd F.PW_CLKSTAT_REFLOS + 8 * x.rd F.PW_STAT_TRANS) ++
       be 4 (x.regWord 0xC0020 0) ++ be 4 (x.regWord 0xC0024 0) ++ be 4 (x.regWord 0xC0028 0) ++ be 4 (x.regWord 0xC0030 0) ++
       be 4 (x.rd F.PW_WAKETMR_SEC))))) ∧
    (s.dev.admits src 0xA051 .c = true → let x := s.dev.arrives 0xA051; let e := x.entry src 0xA051 .c;
      ∀ (t w : Byte) (tm : Word32),
        let ok := (t.toNat ≤ 2 ∨ t.toNat = 0xFF) ∧ (w.toNat ≤ 15 ∨ w.toNat = 0xFF) ∧ (tm.toNat ≤ 16777215 ∨ tm.toNat = 0xFFFFFFFF)
        let bit := fun (d : Dev) (f : Fld) (i : Nat) => if w.toNat = 0xFF then d else d.wr f 0 (b2n (w.toNat.testBit i))
        let d1 := bit (bit (bit (bit x F.PW_WAKE_TWI 0) F.PW_WAKE_SPI 1) F.PW_WAKE_LPM 2) F.PW_WAKE_TMR 3
        let d2 := if tm.toNat = 0xFFFFFFFF then d1 else d1.wr F.PW_WAKETMR_SEC 0 tm.toNat
        (srcHost src = false → exec (.sysPwrSet src t w tm) s = .next (s.put (x.declines e .denied))) ∧
        (srcHost src = true →
          (¬ok → exec (.sysPwrSet src t w tm) s = .next (s.put (x.declines e .badParam))) ∧
          (∀ a l, ok → t.toNat = 0 → x.mgmt.outst = a :: l → exec (.sysPwrSet src t w tm) s = .next (s.put (x.respondBusy e.src e.op (x.retryOf a)))) ∧
          (ok → t.toNat = 0 → x.mgmt.outst = [] → x.rd F.PW_STAT_CMIS ≠ 1 →
            exec (.sysPwrSet src t w tm) s = .next (s.put (x.declines e .notReady))) ∧
          (ok → t.toNat = 0 → x.mgmt.outst = [] → x.rd F.PW_STAT_CMIS = 1 → exec (.sysPwrSet src t w tm) s = .next (s.put (x.completes e
            (d2.mapMgmt fun m => { m with offDue := true, wakeLatched := 0 }) []))) ∧
          (ok → t.toNat = 1 → exec (.sysPwrSet src t w tm) s =
            .next (s.put (x.completes e (d2.mapMgmt fun m => { m with lowPwrSW := true }).powerEval.powerProgress []))) ∧
          (ok → t.toNat = 2 → x.on F.PW_STAT_TTRIP = false → exec (.sysPwrSet src t w tm) s =
            .next (s.put (x.completes e (d2.mapMgmt fun m => { m with lowPwrSW := false }).powerEval.powerProgress []))) ∧
          (ok → t.toNat = 2 → x.on F.PW_STAT_TTRIP = true → exec (.sysPwrSet src t w tm) s = .next (s.put (x.declines e .notReady))) ∧
          (ok → t.toNat = 0xFF → exec (.sysPwrSet src t w tm) s = .next (s.put (x.completes e d2 [])))))

/-- A write of a register with no row of its own: an accessor that does not reach the window changes nothing; a locked SPI host sets
LOCKED in its copy of GLB_ACCERR and a locked mailbox changes nothing. Otherwise the access is counted, and no register at the address
sets NOREG, a write to SEC sets WINDOW, a unit or index the accessor has not selected sets CHSEL, a domain that is off sets PWROFF;
a granted write stores each selected channel by its fields' types, with the register's own effects. A Whetstone memory window with
the domain off sets PWROFF, with the core not halted WINDOW; a read of a window with the domain on returns the word, an
uncorrectable one with its event. What a granted write reaches is noted for its clock: bits that a later-ranked accessor has written
in it stand. -/
def Obligations.RegisterAccess : Prop :=
  ∀ (s : State) (acc : Accessor) (addr v : Word32),
    let x := s.dev.busAccess acc addr.toNat 3
    (s.dev.reachable acc = false → exec (.registerWrite acc addr v) s = .next s) ∧
    (s.dev.reachable .spi = true → s.dev.expert = false →
      exec (.registerWrite .spi addr v) s = .next (s.put (s.dev.set F.GLB_ACCERR_LOCKED 2))) ∧
    (s.dev.reachable .mbox = true → s.dev.expert = false → exec (.registerWrite .mbox addr v) s = .next s) ∧
    (s.dev.reachable acc = true → s.dev.expert = true →
      (x.wsWindow addr.toNat = none → findReg addr.toNat = none →
        exec (.registerWrite acc addr v) s = .next (s.put (x.accErr acc F.GLB_ACCERR_NOREG))) ∧
      (∀ r m, x.wsWindow addr.toNat = none → findReg addr.toNat = some (r, m) →
        (r.isSec = true → exec (.registerWrite acc addr v) s = .next (s.put (x.accErr acc F.GLB_ACCERR_WINDOW))) ∧
        (∀ u, r.isSec = false → r.unit = some u → (s.dev.selOf acc).unit ≠ u ∨ unitTop u < (s.dev.selOf acc).index →
          exec (.registerWrite acc addr v) s = .next (s.put (x.accErr acc F.GLB_ACCERR_CHSEL))) ∧
        (r.isSec = false → r.unit = none → x.regOn r 0 = false →
          exec (.registerWrite acc addr v) s = .next (s.put (x.accErr acc F.GLB_ACCERR_PWROFF)))) ∧
      (∀ a, x.wsWindow addr.toNat = some a →
        (x.domOn dWHET = false → exec (.registerWrite acc addr v) s = .next (s.put (x.accErr acc F.GLB_ACCERR_PWROFF)) ∧
          exec (.wsMemoryWindowAccess acc addr (some v)) s = .next (s.put (x.accErr acc F.GLB_ACCERR_PWROFF))) ∧
        (x.domOn dWHET = true → x.wsOpen = false →
          exec (.wsMemoryWindowAccess acc addr (some v)) s = .next (s.put (x.accErr acc F.GLB_ACCERR_WINDOW))) ∧
        (x.domOn dWHET = true → x.wsOpen = true → exec (.wsMemoryWindowAccess acc addr (some v)) s = .next { s with
          mem := (x.wsMemWrite s.mem addr.toNat ((x.wsMemRead s.mem addr.toNat - (x.wsMemRead s.mem addr.toNat &&& fullMask)) |||
            (v.toNat &&& fullMask))).1
          dev := (x.wsMemWrite s.mem addr.toNat ((x.wsMemRead s.mem addr.toNat - (x.wsMemRead s.mem addr.toNat &&& fullMask)) |||
            (v.toNat &&& fullMask))).2 })) ∧
      (∀ a, (s.dev.busAccess acc addr.toNat 2).wsWindow addr.toNat = some a → (s.dev.busAccess acc addr.toNat 2).domOn dWHET = true →
        let y := s.dev.busAccess acc addr.toNat 2
        exec (.wsMemoryWindowAccess acc addr none) s = .next (s.put
          ((if y.wsOpen then y.eccRead acc (winMem a).1 (winMem a).2 else y).deliver acc (y.wsMemRead s.mem addr.toNat)))) ∧
      (∀ z r m chs, s.dev.grants acc (s.dev.selOf acc) addr.toNat true = some (z, r, m, chs) →
        z = { x with writes := x.writes ++ chs.map fun ch => ⟨acc, r.base + m * r.stride, ch, fullMask⟩ } ∧
        (r.base ≠ 0x78000 → exec (.registerWrite acc addr v) s =
          .next (s.put (chs.foldl (fun e ch => e.chanWrite s.mem acc r m v.toNat fullMask ch) z)))))

/-- Each of these commands that is granted its register and one channel stores the register's fields (y) and does what the request
bit asks: a change of range, peaking or gain starts settling on an active lane; REQ asks for the capture buffer and RELEASE gives it up; a tap written
clears its accumulator; the CMTREQ bits of the ADC and of the transmitter, and HSNAP, hold their requests; START starts the
observer; RETRAIN retrains, then a fallback that was waiting may start; SNAP takes a client snapshot. Without the bit only the fields change. -/
def Obligations.LineRegisterCommands : Prop :=
  ∀ (s : State) (acc : Accessor) (v : Word32) (x : Dev) (r : RegDesc) (m ch : Nat),
    let g := fun (addr : Nat) => s.dev.grants acc (s.dev.selOf acc) addr true = some (x, r, m, [ch])
    let y := x.stored s.mem acc r m v.toNat fullMask ch
    (∀ vga : Bool, g (if vga then 0x20004 else 0x20000) → exec (.saAfeWrite acc vga v) s = .next (s.put
      (if x.rd F.SA_AFE_RANGE ch = y.rd F.SA_AFE_RANGE ch ∧ x.rd F.SA_AFE_PEAK ch = y.rd F.SA_AFE_PEAK ch ∧
        x.rd F.SA_VGA_GAIN ch = y.rd F.SA_VGA_GAIN ch then y else if (y.lane ch).active then y.set F.SA_LSTAT_SETTLING ch else y))) ∧
    (g 0x20008 → exec (.saLctlCmtreq acc v) s = .next (s.put y) ∧
      (v.toNat.testBit 0 = true → y.on F.SA_LCTL_CMTREQ ch = true)) ∧
    (g 0x20030 →
      (v.toNat.testBit 31 = true → exec (.saTbctlReq acc v) s = .next (s.put (y.tbReq acc ch))) ∧
      (v.toNat.testBit 31 = false → exec (.saTbctlReq acc v) s = .next (s.put y))) ∧
    (g 0x20038 →
      (v.toNat.testBit 0 = true → exec (.saTbrelRelease acc v) s = .next (s.put (y.tbRelease acc ch))) ∧
      (v.toNat.testBit 0 = false → exec (.saTbrelRelease acc v) s = .next (s.put y))) ∧
    (∀ tap : Fin 48, g (0x10200 + 4 * tap.val) → exec (.lnFfetapWrite acc tap v) s = .next (s.put (y.tapWritten ch tap.val)) ∧
      (x.kept acc r m ch = 0 → y.rd ((F.LN_FFETAP_VAL).at tap.val) ch = v.toNat % 2 ^ F.LN_FFETAP_VAL.w)) ∧
    (g 0x50000 → exec (.decCtlHsnap acc v) s = .next (s.put y) ∧ (v.toNat.testBit 16 = true → y.on F.DEC_CTL_HSNAP ch = true)) ∧
    (g 0x40000 → exec (.txCtlCmtreq acc v) s = .next (s.put y) ∧ (v.toNat.testBit 8 = true → y.on F.TX_CTL_CMTREQ ch = true)) ∧
    (g 0x40104 →
      (v.toNat.testBit F.TX_OBSCTL_START.lo = true → exec (.txObsctlStart acc v) s = .next (s.put y.obsStart)) ∧
      (v.toNat.testBit F.TX_OBSCTL_START.lo = false → exec (.txObsctlStart acc v) s = .next (s.put y))) ∧
    (g 0x10000 →
      (v.toNat.testBit 0 = true → exec (.lnCtlRetrain acc v) s = .next (s.put ((y.retrainRequest ch).fallback ch))) ∧
      (v.toNat.testBit 0 = false → exec (.lnCtlRetrain acc v) s = .next (s.put y))) ∧
    (g 0xF0000 →
      (v.toNat.testBit F.TM_CLCTL_SNAP.lo = true → exec (.tmClctlSnap acc v) s = .next (s.put (y.clSnapReq ch))) ∧
      (v.toNat.testBit F.TM_CLCTL_SNAP.lo = false → exec (.tmClctlSnap acc v) s = .next (s.put y)))

/-- Each of these commands that is granted its register and one channel stores the register's fields (y) and does what its request
bit asks: HALTREQ, RUN and RTSWAP of the Whetstone; SW, EARM of the optics hold their requests; EN and RANGE of a bias channel; REQ
injects, CALREQ calibrates; a write of OC_OSPITX queues the frame and a read of OC_OSPIRX drives the oldest answer and takes it;
START, STOP, JMP REQ, SYNC CAL of the pattern generator, and RDY held; GO of MI_VWR writes the vote word for the management core
in supervisor mode only. "alone": no accessor applied later has written the register in this clock. -/
def Obligations.EngineRegisterCommands : Prop :=
  ∀ (s : State) (acc : Accessor) (v : Word32) (x : Dev) (r : RegDesc) (m ch : Nat),
    let g := fun (addr : Nat) => s.dev.grants acc (s.dev.selOf acc) addr true = some (x, r, m, [ch])
    let y := x.stored s.mem acc r m v.toNat fullMask ch
    let alone := x.kept acc r m ch = 0
    (g 0x100000 →
      (v.toNat.testBit F.WS_CTL_HALTREQ.lo = true → v.toNat.testBit F.WS_CTL_RUN.lo = false → v.toNat.testBit F.WS_CTL_RTSWAP.lo = false →
        exec (.wsCtlHaltreq acc v) s = .next (s.put y.wsHaltReq)) ∧
      (v.toNat.testBit F.WS_CTL_HALTREQ.lo = false → v.toNat.testBit F.WS_CTL_RUN.lo = true → v.toNat.testBit F.WS_CTL_RTSWAP.lo = false →
        exec (.wsCtlRun acc v) s = .next (s.put y.wsRun)) ∧
      (v.toNat.testBit F.WS_CTL_HALTREQ.lo = false → v.toNat.testBit F.WS_CTL_RUN.lo = false → v.toNat.testBit F.WS_CTL_RTSWAP.lo = true →
        exec (.wsCtlRtswap acc v) s = .next (s.put (y.set F.WS_CTL_RTSWAP)))) ∧
    (g 0x60010 → exec (.ocStrbSw acc v) s = .next (s.put y) ∧ (v.toNat.testBit 24 = true → y.on F.OC_STRB_SW0 ch = true) ∧
      (v.toNat.testBit 25 = true → y.on F.OC_STRB_SW1 ch = true)) ∧
    (g 0x60000 → alone →
      exec (.ocBctlEnWrite acc v) s = .next (s.put ((y.biasEn ch (v.toNat.testBit F.OC_BCTL_EN.lo)).biasRange ch
        (slice v.toNat F.OC_BCTL_RANGE.lo F.OC_BCTL_RANGE.w))) ∧
      exec (.ocBctlRangeWrite acc v) s = .next (s.put ((y.biasEn ch (v.toNat.testBit F.OC_BCTL_EN.lo)).biasRange ch
        (slice v.toNat F.OC_BCTL_RANGE.lo F.OC_BCTL_RANGE.w)))) ∧
    (g 0x60040 → exec (.ocNcoctlEarm acc v) s = .next (s.put y) ∧ (v.toNat.testBit 8 = true → y.on F.OC_NCOCTL_EARM ch = true)) ∧
    (g 0x60090 → v.toNat.testBit F.OC_MAINJ_REQ.lo = true → exec (.ocMainjReq acc v) s = .next (s.put (y.madcInject ch))) ∧
    (g 0x60080 → v.toNat.testBit F.OC_MACTL_CALREQ.lo = true → exec (.ocMactlCalreq acc v) s = .next (s.put (y.madcCalReq ch))) ∧
    (g 0x60108 → alone → exec (.ocOspitxWrite acc v) s = .next (s.put (y.ospiTx acc v.toNat))) ∧
    (s.dev.grants acc { unit := 0, index := 0 } 0x6010C false = some (x, r, m, [ch]) →
      exec (.ocOspirxRead acc) s = .next (s.put ((x.ospiRx acc).deliver acc (x.ospiWord acc)))) ∧
    (g 0x70000 →
      (v.toNat.testBit F.PG_CTL_START.lo = true → v.toNat.testBit F.PG_CTL_STOP.lo = false →
        exec (.pgCtlStart acc v) s = .next (s.put y.pgCtlStart)) ∧
      (v.toNat.testBit F.PG_CTL_START.lo = false → v.toNat.testBit F.PG_CTL_STOP.lo = true →
        exec (.pgCtlStop acc v) s = .next (s.put y.pgCtlStop))) ∧
    (g 0x70008 → v.toNat.testBit F.PG_JMP_REQ.lo = true → exec (.pgJmpReq acc v) s = .next (s.put y.pgJump)) ∧
    (g 0x70048 → exec (.pgSegstrmRdy acc v) s = .next (s.put y) ∧ (v.toNat.testBit 0 = true → y.on F.PG_SEGSTRM_RDY0 ch = true) ∧
      (v.toNat.testBit 1 = true → y.on F.PG_SEGSTRM_RDY1 ch = true)) ∧
    (g 0x70018 → v.toNat.testBit F.PG_SYNCCTL_CAL.lo = true → exec (.pgSyncctlCal acc v) s = .next (s.put y.pgCal)) ∧
    (g 0xB0048 → v.toNat.testBit F.MI_VWR_GO.lo = true →
      (acc = .mgmt → exec (.miVwrGo acc false v) s = .next (s.put
        { y with vote := y.vote.setFlops (slice v.toNat F.MI_VWR_INDEX.lo F.MI_VWR_INDEX.w) (y.rd F.MI_VWDATA_DATA) })) ∧
      (acc ≠ .mgmt → ∀ u, exec (.miVwrGo acc u v) s = .next (s.put y))) ∧
    (s.dev.domOn dMGMT = true → exec (.miVwrGo .mgmt true v) s = .next (s.put (s.dev.busAccess .mgmt 0xB0048 3 true)))

/-- Granted, SWSTAMP pushes a software stamp; a read of TU_FIFOHDR drives the oldest entry's word (0 with none), latches its time and
takes it from the FIFO; a read of TU_TNS drives NS and latches the rest of that instant; a write of TU_RATEHI stages the high half,
of TU_RATELO sets the whole rate; a write of TU_OFFSET offers the offset. KICK refreshes ALIVE; DETACH asks for a detach. A read of a
Tally low half drives it and latches the high half, a write of the high half keeps it for the next write of the low half, which sets
the counter; the management core's user-mode writes change nothing but the access count, and its user-mode reads give 0 where TL_UEN
does not show the counter. "alone": no accessor applied later has written the register in this clock. -/
def Obligations.TimeLinkTallyCommands : Prop :=
  ∀ (s : State) (acc : Accessor) (v : Word32) (x : Dev) (r : RegDesc) (m ch : Nat),
    let g := fun (addr : Nat) => s.dev.grants acc (s.dev.selOf acc) addr true = some (x, r, m, [ch])
    let y := x.stored s.mem acc r m v.toNat fullMask ch
    let alone := x.kept acc r m ch = 0
    (g 0x8010C →
      (v.toNat.testBit F.TU_FIFOCTL_SWSTAMP.lo = true →
        exec (.tuFifoctlSwstamp acc v) s = .next (s.put (y.fifoPush 5 0 (y.rd F.TU_FIFOCTL_TB) 0))) ∧
      (v.toNat.testBit F.TU_FIFOCTL_SWSTAMP.lo = false → exec (.tuFifoctlSwstamp acc v) s = .next (s.put y))) ∧
    (s.dev.grants acc { unit := 0, index := 0 } 0x80114 false = some (x, r, m, [ch]) →
      (x.tu.fifo = [] → exec (.tuFifohdrRead acc) s = .next (s.put (x.deliver acc 0))) ∧
      (∀ e t, x.tu.fifo = e :: t →
        exec (.tuFifohdrRead acc) s = .next (s.put ((x.readFifoHdr (Accessor.idx acc)).deliver acc e.word)))) ∧
    (∀ tb : Fin 4, s.dev.grants acc { unit := 9, index := tb.val } 0x80008 false = some (x, r, m, [ch]) →
      exec (.tuTnsRead acc tb) s = .next (s.put ((x.readTns (Accessor.idx acc) ch).deliver acc (x.stamp ch).ns))) ∧
    (∀ tb : Fin 4, s.dev.grants acc { unit := 9, index := tb.val } 0x80018 true = some (x, r, m, [ch]) → alone →
      exec (.tuRatehiWrite acc tb v) s = .next (s.put (y.mapTb ch fun t =>
        { t with stage := vset t.stage (Accessor.idx acc) fun _ => v.toNat % 2 ^ 16 }))) ∧
    (∀ tb : Fin 4, s.dev.grants acc { unit := 9, index := tb.val } 0x80014 true = some (x, r, m, [ch]) → alone →
      exec (.tuRateloWrite acc tb v) s = .next (s.put ((y.setRate ch (sx 48 ((y.tb ch).stage.getD (Accessor.idx acc) 0 * 2 ^ 32 +
        v.toNat))).mapTb ch fun t => { t with stage := vset t.stage (Accessor.idx acc) fun _ => 0 }))) ∧
    (∀ tb : Fin 4, s.dev.grants acc { unit := 9, index := tb.val } 0x80024 true = some (x, r, m, [ch]) → alone →
      exec (.tuOffsetWrite acc tb v) s = .next (s.put (y.offer ch 1 (hostTheta v.toNat) none).2)) ∧
    (g 0x90008 → v.toNat.testBit F.XC_HB_KICK.lo = true → exec (.xcHbKick acc v) s = .next (s.put y.hbKick) ∧
      y.hbKick.on F.XC_HB_ALIVE = true) ∧
    (g 0x90000 → v.toNat.testBit F.XC_CTL_DETACH.lo = true → exec (.xcCtlDetach acc v) s = .next (s.put y.detachReq)) ∧
    (∀ c : Fin 32,
      (s.dev.grants acc { unit := 0, index := 0 } (0xA0100 + 8 * c.val) false = some (x, r, m, [ch]) →
        ∀ u, userOf acc u = false → exec (.tlCntloRead acc c u) s = .next (s.put ((x.tallyRead (Accessor.idx acc) c.val false).deliver acc
          (x.tally.count.getD c.val 0 % 2 ^ 32)))) ∧
      (g (0xA0104 + 8 * c.val) → alone → ∀ u, userOf acc u = false → exec (.tlCnthiWrite acc c u v) s =
        .next (s.put (y.tallyHi (Accessor.idx acc) c.val false v.toNat))) ∧
      (g (0xA0100 + 8 * c.val) → alone → ∀ u, userOf acc u = false → exec (.tlCntloWrite acc c u v) s =
        .next (s.put (y.tallyLo (Accessor.idx acc) c.val false v.toNat))) ∧
      (s.dev.domOn dMGMT = true →
        (let e := s.dev.busAccess .mgmt (0xA0100 + 8 * c.val) 2 true
         (e.userSees c.val true = true → exec (.tlCntloRead .mgmt c true) s = .next (s.put
          ((e.tallyRead (Accessor.idx .mgmt) c.val true).deliver .mgmt (e.tally.count.getD c.val 0 % 2 ^ 32)))) ∧
         (e.userSees c.val true = false → exec (.tlCntloRead .mgmt c true) s = .next (s.put (e.deliver .mgmt 0)))) ∧
        exec (.tlCnthiWrite .mgmt c true v) s = .next (s.put (s.dev.busAccess .mgmt (0xA0104 + 8 * c.val) 3 true)) ∧
        exec (.tlCntloWrite .mgmt c true v) s = .next (s.put (s.dev.busAccess .mgmt (0xA0100 + 8 * c.val) 3 true))))

/-- With the port up, REG_READ drives the words of the consecutive registers it looks up, four bytes each, and REG_WRITE drives nothing
and writes the values to consecutive addresses, one access each; with the port down both drive nothing and change nothing. RDREG of an
executing task first completes every posted write in order, then puts the value's low half in Ir and its high half in the next register;
an access with a bus error traps with cause 4. WRREG posts the register pair with its task and PC; with 8 posted it stalls until the oldest
completes. WRREG_COMPLETE completes the oldest posted write, one with a bus error traps its task while the core runs, and nothing where
none is posted; a trap so taken leaves a waiting RDREG or WRREG undone. Without an executing task RDREG and WRREG have no effect. -/
def Obligations.HostAndCoreRegisters : Prop :=
  ∀ s : State,
    (s.dev.spiUp = true →
      (∀ addr : Word32,
        let p := Dev.lookMany s.mem .spi (s.dev.selOf .spi) 1 addr.toNat s.dev
        exec (.regRead addr 1) s = .next (s.put (p.2.drive (be 4 (s.dev.look s.mem .spi (s.dev.selOf .spi) addr.toNat).1)))) ∧
      (∀ (addr : Word32) (n : Nat),
        let p := Dev.lookMany s.mem .spi (s.dev.selOf .spi) n addr.toNat s.dev
        exec (.regRead addr n) s = .next (s.put (p.2.drive (p.1.flatMap (be 4)))) ∧ p.1.length = n) ∧
      (∀ addr v : Word32, let p := (s.dev.drive []).access s.mem .spi addr.toNat v.toNat
        exec (.regWrite addr [v]) s = .next { s with mem := p.1, dev := p.2 }) ∧
      (∀ (addr v : Word32) (t : List Word32), exec (.regWrite addr (v :: t)) s =
        let p := accessMany .spi ((s.dev.drive []).access s.mem .spi addr.toNat v.toNat) ((addr.toNat + 4) % 2 ^ 32) t
        .next { s with mem := p.1, dev := p.2 })) ∧
    (s.dev.spiUp = false → (∀ a n, exec (.regRead a n) s = .next (s.put (s.dev.drive []))) ∧
      (∀ a l, exec (.regWrite a l) s = .next (s.put (s.dev.drive [])))) ∧
    (∀ b : Nat, s.dev.wsTask = some b → (s.dev.bank b).rep = 0 → s.dev.fetchBad b = false → ∀ (addr : Word32) (i : Fin 8),
      (let p := wsPostedAll s.dev.ws.posted.length s.mem s.dev
       let q := p.2.look p.1 .ws (p.2.selOf .ws) addr.toNat
       (p.2.wsTask = none → exec (.rdreg addr i) s = .next { s with mem := p.1, dev := p.2 }) ∧
       (p.2.wsTask.isSome = true → p.2.wsBusError addr.toNat false = false → exec (.rdreg addr i) s = .next { s with
          mem := p.1
          dev := (q.2.mapBank b fun k => (k.write (q.1 % 65536) (.int i)).write (q.1 / 65536) (.int (i + 1))).wsNext b }) ∧
       (p.2.wsTask.isSome = true → p.2.wsBusError addr.toNat false = true → exec (.rdreg addr i) s = .next { s with
          mem := p.1, dev := p.2.wsTrap 4 (s.dev.bank b).pc })) ∧
      (let post := fun d : Dev =>
         let lo := d.wsRead b (.int i)
         let hi := lo.2.wsRead b (.int (i + 1))
         (hi.2.mapWs fun w => { w with posted := w.posted ++ [⟨addr.toNat, lo.1 + 65536 * hi.1, b + 1, (s.dev.bank b).pc⟩] }).wsNext b
       let p := wsPosted s.mem (s.dev.wsStall addr.toNat)
       (s.dev.ws.posted.length < 8 → exec (.wrreg addr i) s = .next (s.put (post s.dev))) ∧
       (8 ≤ s.dev.ws.posted.length →
         (p.2.wsTask = none → exec (.wrreg addr i) s = .next { s with mem := p.1, dev := p.2 }) ∧
         (p.2.wsTask.isSome = true → exec (.wrreg addr i) s = .next { s with mem := p.1, dev := post p.2 })))) ∧
    (s.dev.wsTask = none → ∀ a i, exec (.rdreg a i) s = .next s ∧ exec (.wrreg a i) s = .next s) ∧
    (s.dev.ws.posted = [] → exec .wrregComplete s = .next s) ∧
    (∀ o t, s.dev.ws.posted = o :: t →
      let p := (s.dev.mapWs fun w => { w with posted := t }).access s.mem .ws o.addr o.data
      exec .wrregComplete s = .next { s with
        mem := p.1
        dev := if s.dev.wsBusError o.addr true = true ∧ s.dev.rd F.WS_STAT_STATE = 1 then p.2.wsTrapOf o.task 4 o.pc else p.2 })

/-- The expert commands are DENIED while expert access is locked. Unlocked, EXP.REG.RD answers the words of COUNT registers and
EXP.REG.WR writes (old AND NOT MASK) OR (VALUE AND MASK); an address that is no multiple of 4, or a COUNT of 0 or above 64 (29 over CDB),
is BADPARAM.
EXP.PIN 1 of a whole RW field adds the pin to its entry or as a new one and writes the value (with 64 other entries EXHAUSTED); a mask that covers none whole is
BADPARAM; 2 removes the entry, 3 removes all; another action is BADPARAM. EXP.PIN.LIST answers the number and up to 8 entries (7
over CDB). An RREQ cell of an attached pair is kept, after those of its TAG, until the LAST cell of its TAG, then the whole message is executed and
answered; one already seen, of a pair not attached, or with the link off, executes nothing. -/
def Obligations.ExpertAndTwinAccess : Prop :=
  ∀ (s : State) (src : Src),
    (∀ (addr : Word32) (c : Byte), s.dev.admits src 0xAA10 .q = true → let x := s.dev.arrives 0xAA10; let e := x.entry src 0xAA10 .q;
      (x.expert = false → exec (.expRegRd src addr c) s = .next (s.put (x.declines e .denied))) ∧
      (x.expert = true → addr.toNat % 4 ≠ 0 ∨ c.toNat = 0 ∨ 64 < c.toNat ∨ (29 < c.toNat ∧ ∃ f, src = .cdb f) →
        exec (.expRegRd src addr c) s = .next (s.put (x.declines e .badParam))) ∧
      (x.expert = true → addr.toNat % 4 = 0 → 1 ≤ c.toNat → c.toNat ≤ 64 → (∀ f, src = .cdb f → c.toNat ≤ 29) →
        let r := Dev.lookMany s.mem .mbox (x.selOf .mbox) c.toNat addr.toNat x
        exec (.expRegRd src addr c) s = .next (s.put (x.completes e r.2 (r.1.flatMap (be 4)))))) ∧
    (∀ addr mask value : Word32, s.dev.admits src 0xAA11 .c = true → let x := s.dev.arrives 0xAA11; let e := x.entry src 0xAA11 .c;
      (x.expert = false → exec (.expRegWr src addr mask value) s = .next (s.put (x.declines e .denied))) ∧
      (x.expert = true → addr.toNat % 4 ≠ 0 → exec (.expRegWr src addr mask value) s = .next (s.put (x.declines e .badParam))) ∧
      (x.expert = true → addr.toNat % 4 = 0 →
        let w := fun d : Dev => d.regWrite s.mem .mbox (d.selOf .mbox) addr.toNat value.toNat mask.toNat
        exec (.expRegWr src addr mask value) s = .next { s with
          mem := (w s.dev).1, dev := x.completes e (w x).2 [] })) ∧
    (s.dev.admits src 0xAA20 .c = true → let x := s.dev.arrives 0xAA20; let e := x.entry src 0xAA20 .c; x.expert = true →
      (∀ (u : Byte) (i : BitVec 16) (addr mask value : Word32),
        let idx := if u.toNat = 0xFF then 0 else i.toNat
        let p : Pin := { addr := addr.toNat, unit := u.toNat, index := idx, mask := mask.toNat, value := value.toNat &&& mask.toNat }
        (pinTarget u.toNat idx addr.toNat mask.toNat = none →
          exec (.expPin src 1 u i addr mask value) s = .next (s.put (x.declines e .badParam))) ∧
        ((pinTarget u.toNat idx addr.toNat mask.toNat).isSome = true → x.mgmt.pins.length < 64 ∨ (x.mgmt.pinAt p.addr p.unit p.index).isSome = true →
          let y := (pinWrite s.mem x p value.toNat).2.mapMgmt fun g => g.addPin p
          exec (.expPin src 1 u i addr mask value) s = .next { s with mem := (pinWrite s.mem s.dev p value.toNat).1, dev := x.completes e y (be 1 y.mgmt.pins.length) }) ∧
        ((pinTarget u.toNat idx addr.toNat mask.toNat).isSome = true → 64 ≤ x.mgmt.pins.length →
          x.mgmt.pinAt p.addr p.unit p.index = none →
          exec (.expPin src 1 u i addr mask value) s = .next (s.put (x.respond src 0xAA20 .exhausted []).count)) ∧
        (let l := x.mgmt.pins.filter fun q => !(q.addr == p.addr && q.unit == p.unit && q.index == p.index)
         exec (.expPin src 2 u i addr mask value) s =
           .next (s.put (x.completes e (x.mapMgmt fun g => { g with pins := l }) (be 1 l.length))))) ∧
      (∀ u i a m v, exec (.expPin src 3 u i a m v) s = .next (s.put (x.completes e (x.mapMgmt fun g => { g with pins := [] }) (be 1 0)))) ∧
      (∀ (act u : Byte) i a m v, act.toNat = 0 ∨ 3 < act.toNat →
        exec (.expPin src act u i a m v) s = .next (s.put (x.declines e .badParam)))) ∧
    (s.dev.admits src 0xAA20 .c = true → let x := s.dev.arrives 0xAA20; let e := x.entry src 0xAA20 .c; x.expert = false →
      ∀ act u i a m v, exec (.expPin src act u i a m v) s = .next (s.put (x.declines e .denied))) ∧
    (∀ first : Byte, s.dev.admits src 0xAA21 .q = true → let x := s.dev.arrives 0xAA21; let e := x.entry src 0xAA21 .q;
      (x.expert = false → exec (.expPinList src first) s = .next (s.put (x.declines e .denied))) ∧
      (x.expert = true → 63 < first.toNat → exec (.expPinList src first) s = .next (s.put (x.declines e .badParam))) ∧
      (x.expert = true → first.toNat ≤ 63 → exec (.expPinList src first) s = .next (s.put (x.completes e x (be 1 x.mgmt.pins.length ++
        zeros 3 ++ ((x.mgmt.pins.drop first.toNat).take (match src with | .cdb _ => 7 | _ => 8)).flatMap Pin.bytes))))) ∧
    (∀ (seq : Byte) (body : List Byte), (s.dev.domOn dXCUT = false → exec (.rreqCell seq body) s = .next s) ∧ (s.dev.domOn dXCUT = true →
      (s.dev.xc.seen.contains seq.toNat = true → exec (.rreqCell seq body) s = .next s) ∧
      (s.dev.xc.seen.contains seq.toNat = false →
        let d := s.dev.taken seq 10
        (d.attached = false → exec (.rreqCell seq body) s = .next (s.put d)) ∧
        (d.attached = true → ∀ l e, (d.xc.rreq = some (fieldAt body 0 1, l) ∧ e = d ∨ l = [] ∧ d.xc.rreq = none ∧ e = d ∨
            l = [] ∧ (∃ t m, t ≠ fieldAt body 0 1 ∧ d.xc.rreq = some (t, m)) ∧ e = d.inc F.XC_LERR_CRCERR 0) →
          ((fieldAt body 1 1).testBit 7 = false → exec (.rreqCell seq body) s = .next (s.put (e.mapXc fun c =>
            { c with rreq := some (fieldAt body 0 1, l ++ rreqOps body) }))) ∧
          ((fieldAt body 1 1).testBit 7 = true → exec (.rreqCell seq body) s = .next (s.put ((e.mapXc fun c =>
            { c with rreq := none }).rreqRun s.mem (fieldAt body 0 1) (l ++ rreqOps body))))))))

/-- For every register of the map and each of its channels: after a write under any mask, before the register's own effects, each RO and
WO field reads as before; each RW or RWS field that no rule of its own writes reads the bits of (old AND NOT M) OR (VALUE AND M), held to
the field's greatest value, where M is the mask without the bits that accessors applied later have written in this clock; each W1C
field has lost exactly the bits written 1 under the mask; each W1S field that holds a request has gained exactly them, and the other
W1S fields read as before. Every field of every other register reads as before. -/
def Obligations.AccessTypes : Prop :=
  ∀ (d : Dev) (mem : Memory) (a : Accessor) (addr : Nat) (r : RegDesc) (m ch value mask : Nat), findReg addr = some (r, m) →
    let y := d.stored mem a r m value mask ch
    let c := r.chOf a ch
    let free := mask - (mask &&& d.kept a r m ch)
    let old := d.peek mem a r m ch
    (∀ f ∈ r.fields, let g := f.at m r.stride
      (f.ty = .ro ∨ f.ty = .wo → y.rd g c = d.rd g c) ∧
      (f.ty = .rw ∨ f.ty = .rws → ownWrite a f = false →
        y.rd g c = heldTo f (slice ((old - (old &&& free)) ||| (value &&& free)) f.lo f.w) % 2 ^ f.w) ∧
      (f.ty = .w1c → y.rd g c = (d.rd g c - (d.rd g c &&& slice (value &&& mask) f.lo f.w)) % 2 ^ f.w) ∧
      (f.ty = .w1s → holdsRequest f = true → y.rd g c = (d.rd g c ||| slice (value &&& mask) f.lo f.w) % 2 ^ f.w) ∧
      (f.ty = .w1s → holdsRequest f = false → y.rd g c = d.rd g c)) ∧
    (∀ (addr' m' c' : Nat) (r' : RegDesc), findReg addr' = some (r', m') → addr' ≠ addr → ∀ f ∈ r'.fields,
      y.rd (f.at m' r'.stride) c' = d.rd (f.at m' r'.stride) c')
end

