-- ==== Sys2Proof/Laws/Cdb.lean ====
section
/-! SUPPORT. The one path of every standard CDB command. -/

namespace Sys2Proof.Machine

/-- An admitted standard command runs its body. -/
theorem std_of_admits {d : Dev} {i : Fin 2} {op : Nat} {cls : Cls} (body : Dev → StdRes) (h : d.stdAdmits i op cls = true) :
    d.std i op cls body = ((d.arrives op).accepted).stdBody (d.entry (.cdb i) op cls) i body := by
  unfold Dev.stdAdmits at h
  simp only [Bool.and_eq_true, Bool.not_eq_true', beq_iff_eq, Option.isNone_iff_eq_none] at h
  obtain ⟨⟨⟨hp, ht⟩, hb⟩, ha⟩ := h
  unfold Dev.std
  simp only [hp, ht, hb, ha, Option.isSome_none, Bool.not_true, Bool.or_false, Bool.false_eq_true, if_false]
  rfl

end Sys2Proof.Machine
end

