-- ==== Sys2Proof/Laws/Lanes.lean ====
section
/-! SUPPORT. What the shared lane operations leave: the element an update reaches, and the registers a bring-up step writes. -/

namespace Sys2Proof.Machine

theorem lane_mapLane (d : Dev) (k : Fin 8) (f : Lane → Lane) : (d.mapLane k f).lane k = f (d.lane k) := by
  simp [Dev.mapLane, Dev.lane, Vector.getD]

theorem lane_mapLane_ne (d : Dev) {j k : Nat} (h : j ≠ k) (f : Lane → Lane) : (d.mapLane k f).lane j = d.lane j := by
  by_cases hj : j < 8
  · simp [Dev.mapLane, Dev.lane, Vector.getD, hj, h]
  · simp [Dev.mapLane, Dev.lane, Vector.getD, hj]

theorem host_mapHost (d : Dev) (n : Fin 16) (f : HostLane → HostLane) : (d.mapHost n f).host n = f (d.host n) := by
  simp [Dev.mapHost, Dev.host, Vector.getD]

theorem calWatch_regs (d : Dev) : d.calWatch.regs = d.regs := by
  unfold Dev.calWatch
  repeat' split
  all_goals rfl

theorem calWatch_lanes (d : Dev) : d.calWatch.lanes = d.lanes := by
  unfold Dev.calWatch
  repeat' split
  all_goals rfl

@[simp] theorem zeroLat_lanes (d : Dev) (k : Nat) : (d.zeroLat k).lanes = d.lanes := rfl

/-- The latencies read 0 in what depends on the registers alone. -/
theorem zeroLat_congr {d e : Dev} (h : d.regs = e.regs) (k : Nat) : (d.zeroLat k).regs = (e.zeroLat k).regs := by
  simp only [Dev.zeroLat, Dev.wr, h]

/-- The registers after a step: the step, TRAINING, and, while the lane trains, the latencies. -/
theorem setStep_regs (d : Dev) (k st : Nat) : (d.setStep k st).regs =
    (if trainingStep st then
      (((d.wr F.LN_STAT_STEP k st).wr F.LN_STAT_TRAINING k (b2n (trainingStep st))).zeroLat k).regs
    else ((d.wr F.LN_STAT_STEP k st).wr F.LN_STAT_TRAINING k (b2n (trainingStep st))).regs) := by
  unfold Dev.setStep
  generalize hd : (d.wr F.LN_STAT_STEP k st).wr F.LN_STAT_TRAINING k (b2n (trainingStep st)) = d0
  have hw := calWatch_regs d0
  by_cases h : trainingStep st
  · simp only [h, if_true]
    rw [← zeroLat_congr hw]
    generalize d0.calWatch.zeroLat k = e
    cases e.pathOf k with
    | none => rfl
    | some p => exact Dev.mapPath_regs e _ _
  · rw [if_neg h, if_neg h]
    exact hw

@[simp] theorem setStep_lanes (d : Dev) (k st : Nat) : (d.setStep k st).lanes = d.lanes := by
  unfold Dev.setStep
  generalize hd : (d.wr F.LN_STAT_STEP k st).wr F.LN_STAT_TRAINING k (b2n (trainingStep st)) = d0
  have h0 : d0.lanes = d.lanes := by rw [← hd]; rfl
  have hw := (calWatch_lanes d0).trans h0
  by_cases h : trainingStep st
  · simp only [h, if_true]
    generalize hg : d0.calWatch.zeroLat k = e
    have he : e.lanes = d.lanes := by rw [← hg]; exact hw
    cases e.pathOf k with
    | none => exact he
    | some p => exact (Dev.mapPath_lanes e _ _).trans he
  · rw [if_neg h]
    exact hw

/-- What a lane's registers read after a step of bring-up (R33, R161). -/
theorem setStep_rd (d : Dev) (k st : Nat) (h : st < 16) :
    (d.setStep k st).rd F.LN_STAT_STEP k = st ∧
    (d.setStep k st).rd F.LN_STAT_TRAINING k = b2n (trainingStep st) ∧
    (trainingStep st = true → (d.setStep k st).rd F.LN_LATTX_LAT k = 0 ∧ (d.setStep k st).rd F.LN_LATRX_LAT k = 0) := by
  have hb : b2n (trainingStep st) % 2 ^ F.LN_STAT_TRAINING.w = b2n (trainingStep st) := by
    unfold b2n; split <;> rfl
  have hs : st % 2 ^ F.LN_STAT_STEP.w = st := Nat.mod_eq_of_lt h
  have hr := setStep_regs d k st
  by_cases ht : trainingStep st
  · rw [if_pos ht] at hr
    simp +decide only
      [rd_congr hr, Dev.zeroLat, rd_wr_fld, rd_wr_same, hs, hb, Nat.zero_mod, and_self, implies_true]
  · rw [if_neg ht] at hr
    simp +decide only
      [rd_congr hr, rd_wr_fld, rd_wr_same, hs, hb, true_and]
    exact fun h => absurd h ht

/-- An outcome is seen in three bits of LN_STAT alone. -/
theorem putOutcome_rd (d : Dev) (k : Nat) (o : Option Nat) (g : Fld) (c : Nat) (h1 : fldNe g F.LN_STAT_FOREIGN = true)
   (h2 : fldNe g F.LN_STAT_NOSIG = true) (h3 : fldNe g F.LN_STAT_NOAGREE = true) : (d.putOutcome k o).rd g c = d.rd g c := by
  unfold Dev.putOutcome
  rw [rd_wr_fld _ _ _ _ _ _ h3, rd_wr_fld _ _ _ _ _ _ h2, rd_wr_fld _ _ _ _ _ _ h1, Dev.rd_mapLane]
/-- A step writes its own fields and the latencies, no other register. -/
theorem setStep_rd_other (d : Dev) (k st : Nat) (g : Fld) (c : Nat) (h1 : fldNe g F.LN_STAT_STEP = true) (h2 : fldNe g F.LN_STAT_TRAINING = true)
   (h3 : fldNe g F.LN_LATTX_LAT = true) (h4 : fldNe g F.LN_LATRX_LAT = true) (h5 : fldNe g F.HL_LATTX_LAT = true) :
   (d.setStep k st).rd g c = d.rd g c := by
  have hr := setStep_regs d k st
  by_cases ht : trainingStep st
  · rw [if_pos ht] at hr
    rw [rd_congr hr]
    unfold Dev.zeroLat
    simp only [rd_wr_fld, h1, h2, h3, h4, h5]
  · rw [if_neg ht] at hr
    rw [rd_congr hr]
    simp only [rd_wr_fld, h1, h2]

/-- A host lane's output state is seen in HTXIDLE alone. -/
theorem hostState_rd (d : Dev) (n st : Nat) (g : Fld) (c : Nat) (h : fldNe g F.HL_STAT_HTXIDLE = true) :
    (d.hostState n st).rd g c = d.rd g c := by
  unfold Dev.hostState
  split
  · rw [rd_wr_fld _ _ _ _ _ _ h, Dev.rd_mapHost]
  · rw [Dev.rd_mapHost]

theorem fixHosts_rd (d : Dev) (k : Nat) (g : Fld) (c : Nat) (h : fldNe g F.HL_STAT_HTXIDLE = true) :
    (d.fixHosts k).rd g c = d.rd g c := by
  unfold Dev.fixHosts
  rw [hostState_rd _ _ _ _ _ h, hostState_rd _ _ _ _ _ h]

theorem hostUnlol_rd (d : Dev) (k : Nat) (g : Fld) (c : Nat) (h : fldNe g F.HL_STAT_HTXIDLE = true) :
    (d.hostUnlol k).rd g c = d.rd g c := by
  unfold Dev.hostUnlol
  rw [fixHosts_rd _ _ _ _ h, Dev.rd_mapHost, Dev.rd_mapHost]

/-- Stopping the receiver writes LOCK, the decoder's mode and HTXIDLE, no other register. -/
theorem rxStop_rd (d : Dev) (k : Nat) (g : Fld) (c : Nat) (h : fldNe g F.HL_STAT_HTXIDLE = true)
    (h1 : fldNe g F.LN_TRSTAT_LOCK = true) (h2 : fldNe g F.DEC_STAT_MODE = true) : (d.rxStop k).rd g c = d.rd g c := by
  unfold Dev.rxStop Dev.mapRx
  rw [fixHosts_rd _ _ _ _ h, hostUnlol_rd _ _ _ _ h, Dev.rd_mapLane, Dev.rd_mapLane, rd_wr_fld _ _ _ _ _ _ h2, clr_eq_wr,
    rd_wr_fld _ _ _ _ _ _ h1]

end Sys2Proof.Machine
end

