-- ==== Sys2Proof/Laws/Whet.lean ====
section
/-! SUPPORT. The Whetstone's shared instruction forms: what each comes to while a task executes, and that without one it has no
effect. -/

namespace Sys2Proof.Machine

/-- A register instruction of an executing task with no REP before it. -/
theorem wsReg_of_task {s : State} {b : Nat} (r : Bool) (f : Nat → Dev → Dev) (ht : s.dev.wsTask = some b)
    (hr : (s.dev.bank b).rep = 0)
    (hf : s.dev.fetchBad b = false) : wsReg r f s = .next (s.put ((f b s.dev).wsNext b)) := by
  unfold wsReg
  rw [lift_put]
  simp [Dev.wsExec, ht, hr, hf, wsRepeat]

/-- Without an executing task a register instruction has no effect. -/
theorem wsReg_idle {s : State} (r : Bool) (f : Nat → Dev → Dev) (ht : s.dev.wsTask = none) : wsReg r f s = .next s := by
  unfold wsReg
  rw [lift_put]
  simp only [Dev.wsExec, ht]
  rfl

/-- A memory instruction of an executing task with no REP before it, which runs to its end. -/
theorem wsMem_of_done {s : State} {b : Nat} (r : Bool) (f : Nat → Nat → Memory → Dev → WsRes) {m : Memory} {d : Dev}
    (ht : s.dev.wsTask = some b) (hr : (s.dev.bank b).rep = 0) (hb : s.dev.fetchBad b = false)
    (hf : f b 0 s.mem s.dev = .done m d) :
    wsMem r f s = .next { s with mem := m, dev := d.wsNext b } := by
  unfold wsMem
  rw [liftMem_next]
  simp [Dev.wsExec, ht, hr, hb, wsRepeat, hf]

/-- The same where it traps. -/
theorem wsMem_of_trap {s : State} {b : Nat} (r : Bool) (f : Nat → Nat → Memory → Dev → WsRes) {m : Memory} {d : Dev} {c : Nat}
    (ht : s.dev.wsTask = some b) (hr : (s.dev.bank b).rep = 0) (hb : s.dev.fetchBad b = false)
    (hf : f b 0 s.mem s.dev = .trap m d c) :
    wsMem r f s = .next { s with mem := m, dev := d.wsTrap c (s.dev.bank b).pc } := by
  unfold wsMem
  rw [liftMem_next]
  simp [Dev.wsExec, ht, hr, hb, wsRepeat, hf]

/-- Without an executing task a memory instruction has no effect. -/
theorem wsMem_idle {s : State} (r : Bool) (f : Nat → Nat → Memory → Dev → WsRes) (ht : s.dev.wsTask = none) : wsMem r f s = .next s := by
  unfold wsMem
  rw [liftMem_next]
  simp only [Dev.wsExec, ht]

/-- A flow-control instruction of an executing task with no REP before it. -/
theorem wsFlow_of_task {s : State} {b : Nat} (f : Nat → Dev → Dev) (ht : s.dev.wsTask = some b)
    (hr : (s.dev.bank b).rep = 0) (hf : s.dev.fetchBad b = false) :
    wsFlow f s = .next (s.put (f b (s.dev.mapBank b fun x => { x with pc := (x.pc + 1) % 65536 }))) := by
  unfold wsFlow
  rw [lift_put]
  simp [ht, hr, hf]

/-- Without an executing task a flow-control instruction has no effect. -/
theorem wsFlow_idle {s : State} (f : Nat → Dev → Dev) (ht : s.dev.wsTask = none) : wsFlow f s = .next s := by
  unfold wsFlow
  rw [lift_put]
  simp only [ht]
  rfl

end Sys2Proof.Machine
end

