-- ==== Sys2Proof/Laws/Window.lean ====
section
/-! SUPPORT. What a granted access of the register window comes to: one lemma for the rows that write, one for those that read. -/

namespace Sys2Proof.Machine

/-- What a granted access rests on: `y` is the device with the access counted and `chs0` the channels its address finds. -/
theorem grants_parts {d x : Dev} {a : Accessor} {sel : Sel} {addr : Nat} {w : Bool} {r : RegDesc} {m : Nat} {chs : List Nat}
    (h : d.grants a sel addr w = some (x, r, m, chs)) :
    ∃ chs0, d.reachable a = true ∧ ((a = .spi || a = .mbox) && !d.expert) = false ∧
      (d.busAccess a addr (if w then 3 else 2)).wsWindow addr = none ∧
      (d.busAccess a addr (if w then 3 else 2)).hit sel addr w = .reg r m chs0 ∧
      chs = (if w then (d.busAccess a addr (if w then 3 else 2)).reached a r chs0 else chs0) ∧
      x = (if w then (d.busAccess a addr (if w then 3 else 2)).mark a r m chs fullMask else d.busAccess a addr (if w then 3 else 2)) := by
  unfold Dev.grants at h
  generalize d.busAccess a addr (if w then 3 else 2) = y at h ⊢
  dsimp only at h
  split at h
  · cases h
  · rename_i hc
    split at h
    · rename_i r' m' chs0 hh
      cases h
      simp only [Bool.or_eq_true, not_or, Bool.not_eq_true, Bool.not_eq_false', Option.isSome_eq_false_iff,
        Option.isNone_iff_eq_none] at hc
      exact ⟨chs0, hc.1.1, hc.1.2, hc.2, hh, rfl, rfl⟩
    · cases h

/-- A granted access names the register that its address finds. -/
theorem grants_findReg {d x : Dev} {a : Accessor} {sel : Sel} {addr : Nat} {w : Bool} {r : RegDesc} {m : Nat} {chs : List Nat}
    (h : d.grants a sel addr w = some (x, r, m, chs)) : findReg addr = some (r, m) := by
  obtain ⟨_, _, _, _, hh, _, _⟩ := grants_parts h
  unfold Dev.hit at hh
  split at hh
  · cases hh
  · rename_i r' m' hf
    rw [hf]
    repeat' split at hh
    all_goals first | (cases hh; rfl) | cases hh

/-- A granted write of a register that is no pattern RAM word: memory stays, each channel is written. -/
theorem access_of_grants {d x : Dev} {mem : Memory} {a : Accessor} {addr v : Nat} {r : RegDesc} {m : Nat} {chs : List Nat}
    (h : d.grants a (d.selOf a) addr true = some (x, r, m, chs)) (hr : r.base ≠ 0x78000) :
    d.access mem a addr v = (mem, chs.foldl (fun e ch => e.chanWrite mem a r m v fullMask ch) x) := by
  obtain ⟨chs0, h1, h2, h3, h4, h5, h6⟩ := grants_parts h
  simp only [if_true] at h3 h4 h5 h6
  subst h5 h6
  unfold Dev.access Dev.regWrite
  simp only [h1, h2, h3, h4, hr, Bool.not_true, Bool.false_eq_true, if_false]

/-- A row that writes a register at an address, granted with one channel. -/
theorem regRow_of_grants {s : State} {a : Accessor} {addr : Nat} {v : Word32} {x : Dev} {r : RegDesc} {m ch : Nat}
    (h : s.dev.grants a (s.dev.selOf a) addr true = some (x, r, m, [ch])) (hr : r.base ≠ 0x78000) :
    regRow a addr v s = .next (s.put (x.chanWrite s.mem a r m v.toNat fullMask ch)) := by
  unfold regRow
  rw [liftMem_next, access_of_grants h hr]
  rfl

/-- A row that writes a register of a given channel, granted. -/
theorem writeRow_of_grants {s : State} {a : Accessor} {unit c addr : Nat} {v : Word32} {x : Dev} {r : RegDesc} {m ch : Nat}
    (h : s.dev.grants a { unit := unit, index := c } addr true = some (x, r, m, [ch])) (hr : r.base ≠ 0x78000) :
    writeRow a unit c addr v s = .next (s.put (x.chanWrite s.mem a r m v.toNat fullMask ch)) := by
  obtain ⟨chs0, h1, h2, h3, h4, h5, h6⟩ := grants_parts h
  simp only [if_true] at h3 h4 h5 h6
  unfold writeRow Dev.regWrite
  rw [liftMem_next]
  simp only [h1, h2, h3, h4, hr, ← h5, ← h6, Bool.not_true, Bool.or_false, Bool.false_eq_true, if_false, List.foldl]
  rfl

/-- A row that reads a register of a given channel, granted: the value returns, with the effects of the read. -/
theorem readRow_of_grants {s : State} {a : Accessor} {unit c addr : Nat} {x : Dev} {r : RegDesc} {m ch : Nat} {chs : List Nat}
    (h : s.dev.grants a { unit := unit, index := c } addr false = some (x, r, m, ch :: chs)) :
    readRow a unit c addr s = .next (s.put ((x.readEffect a r m ch).deliver a (x.peek s.mem a r m ch))) := by
  obtain ⟨chs0, h1, h2, h3, h4, h5, h6⟩ := grants_parts h
  simp only [Bool.false_eq_true, if_false] at h3 h4 h5 h6
  subst h5 h6
  unfold readRow Dev.look Dev.regRead
  rw [liftMem_next]
  have h7 : ((((a = .spi || a = .mbox) && !s.dev.expert) && !(a = .spi && decide (addr ≤ 0xC))) = true) = False := by
    rw [h2]; simp
  simp only [h1, h3, h4, h7, Bool.not_true, Bool.false_eq_true, if_false, if_true]
  rfl

end Sys2Proof.Machine
end

