-- ==== Sys2Proof/WellFormed.lean ====
section
/-! DEFINITION. Which commands a sender can form: lists as long as their length operands and the chapters' tables allow. The machine
runs any command; one that is not well formed is refused by the checks of its own meaning where the spec gives such a check. -/

namespace Sys2Proof

/-- A command that a sender can form. -/
def Instr.wellFormed : Instr → Bool
  | .appStatGet _ => true
  | .appSelect _ _ _ _ _ _ _ _ => true
  | .appDeact _ _ => true
  | .activationStart _ => true
  | .datapathStop _ => true
  | .txCommitBoundary _ _ _ => true
  | .beaconBlockTx _ => true
  | .beaconBlockRx _ samples _ _ => samples.all (fun c => -127 ≤ c && c ≤ 127)
  | .beaconLoss _ => true
  | .frame0Start _ => true
  | .rxFrame0 _ => true
  | .utrainStart _ => true
  | .overrangeSample _ _ => true
  | .recWindowEnd _ => true
  | .agcStep _ _ => true
  | .saAfeWrite _ _ _ => true
  | .afeSettleEnd _ => true
  | .saLctlCmtreq _ _ => true
  | .saCommitBoundary _ => true
  | .saTbctlReq _ _ => true
  | .tbGrant _ => true
  | .tbTrigger _ _ => true
  | .tbTrigTimeout _ => true
  | .tbDone _ => true
  | .saTbrelRelease _ _ => true
  | .tbHoldTimeout _ => true
  | .lineAfeGet _ _ => true
  | .lineAfeSet _ _ _ _ _ _ _ => true
  | .lineAdcTrimGet _ _ _ _ => true
  | .lineAdcTrimSet _ _ _ _ _ _ _ => true
  | .lineAdcCapture _ _ _ _ _ _ => true
  | .lineAdcRead _ _ _ _ _ => true
  | .lineAdcStatGet _ _ => true
  | .calVisitStart => true
  | .calVisitEnd => true
  | .lqfBlockEnd _ => true
  | .trFreqLimit _ _ => true
  | .frameSignDecide _ => true
  | .windowDecode _ => true
  | .lnFfetapWrite _ _ _ => true
  | .decCtlHsnap _ _ => true
  | .lineRxStatGet _ _ => true
  | .lineRxCfgSet _ _ _ _ _ _ _ _ _ _ => true
  | .lineFfeGet _ _ => true
  | .lineFfeSet _ _ _ count taps => taps.length == count.toNat
  | .lineDecHistGet _ _ => true
  | .txCtlCmtreq _ _ => true
  | .txObsctlStart _ _ => true
  | .obsSliceDone samples => samples.length ≤ 4096
  | .dpdPass _ => true
  | .lineTxGet _ _ => true
  | .lineTxSet _ _ _ _ _ _ _ => true
  | .lineTxFfeSet _ _ _ _ count taps => taps.length == count.toNat
  | .lineTxDpdSet _ _ _ _ _ _ _ _ h1 h3 => h1.length == 5 && h3.length == 5
  | .hostCdrLock _ _ _ => true
  | .hostCdrLoss _ => true
  | .hostCdrReturn _ => true
  | .hostSlip _ => true
  | .hostRealignDone _ _ _ => true
  | .hostStatGet _ _ => true
  | .hostEqGet _ _ => true
  | .hostEqSet _ _ _ _ _ _ _ _ _ _ => true
  | .lnCtlRetrain _ _ => true
  | .sigdetUpdate _ _ => true
  | .srchtoExpiry _ => true
  | .trntoExpiry _ => true
  | .retrainDelayExpiry _ => true
  | .datapathActivated _ lats => lats.length ≤ 8
  | .ptnrPacketTxStart _ => true
  | .ptnrRetryTimer _ => true
  | .eqhintTimer _ deltas => deltas.length == 9
  | .lvlhintTimer _ => true
  | .alarmTimer _ => true
  | .telemTimer _ => true
  | .hintStepCommit _ => true
  | .preambleMatch _ => true
  | .ptnrBadPacket _ => true
  | .ptnrReadyRx _ => true
  | .ptnrCapRx _ => true
  | .ptnrEqhintRx _ => true
  | .ptnrLvlhintRx _ => true
  | .ptnrAlarmRx _ => true
  | .ptnrTelemRx _ => true
  | .ptnrTtstampRx _ => true
  | .ptnrTtrptRx _ => true
  | .ptnrHostRx _ => true
  | .ptnrReservedRx _ => true
  | .lineBrupGet _ _ => true
  | .lineBrupCfgSet _ _ _ _ _ _ _ _ _ _ _ => true
  | .lineFallbackSet _ _ _ _ _ => true
  | .lineRetrain _ _ => true
  | .linePtnrSend _ _ _ len payload => payload.length == len.toNat
  | .linePtnrRecv _ _ _ _ _ => true
  | .linePtnrStatGet _ _ => true
  | .cmac _ _ _ _ => true
  | .cmacj _ _ _ _ => true
  | .cmul _ _ _ _ => true
  | .mac _ _ _ _ => true
  | .msu _ _ _ _ => true
  | .mpy _ _ _ _ => true
  | .add _ _ => true
  | .sub _ _ => true
  | .neg _ => true
  | .abs _ => true
  | .shl _ _ => true
  | .shr _ _ _ => true
  | .rnd _ => true
  | .ld _ _ _ _ _ => true
  | .st _ _ _ _ _ => true
  | .mov _ _ => true
  | .rep _ => true
  | .jmp _ => true
  | .jsr _ => true
  | .rts => true
  | .bcc _ _ => true
  | .rdreg _ _ => true
  | .wrreg _ _ => true
  | .wrregComplete => true
  | .waitev _ => true
  | .waitevWake _ => true
  | .yieldSlot => true
  | .halt => true
  | .slotStart _ work => work.length ≤ 5
  | .roundStart => true
  | .wsCtlHaltreq _ _ => true
  | .wsHalted => true
  | .wsCtlRun _ _ => true
  | .wsCtlRtswap _ _ => true
  | .wsRestartTimer => true
  | .wsRestartDone => true
  | .wsMemoryWindowAccess _ _ _ => true
  | .sysWsStatGet _ => true
  | .sysWsCtl _ _ => true
  | .lineCalGet _ _ => true
  | .lineCalSet _ _ _ _ => true
  | .biasTick => true
  | .ocStrbSw _ _ => true
  | .ocBctlEnWrite _ _ => true
  | .ocBctlRangeWrite _ _ => true
  | .rangeSettleEnd _ => true
  | .biasFaultDetect _ _ _ => true
  | .ocNcoctlEarm _ _ => true
  | .madcPassTrigger _ _ => true
  | .commonTrigger => true
  | .madcConversionDone _ _ => true
  | .ocMainjReq _ _ => true
  | .ocMactlCalreq _ _ => true
  | .madcCalDone _ factors => factors.length ≤ 4
  | .ocOspitxWrite _ _ => true
  | .ospiFrameDone _ _ => true
  | .ocOspirxRead _ => true
  | .optBiasGet _ _ => true
  | .optBiasSet _ _ _ _ _ _ _ _ _ => true
  | .optNcoSet _ _ _ _ _ _ _ => true
  | .optMadcRead _ _ _ _ _ => true
  | .optMadcCal _ _ => true
  | .optLoopGet _ _ => true
  | .optLoopSet _ _ _ _ _ _ _ _ _ _ _ _ _ _ _ _ _ _ _ => true
  | .optOspiXfer _ _ count frames => frames.length == count.toNat
  | .syncInEdge _ => true
  | .pgCtlStart _ _ => true
  | .pgCtlStop _ _ => true
  | .pgPlayEnd => true
  | .pgGranuleStart _ _ => true
  | .pgJmpReq _ _ => true
  | .pgSegstrmRdy _ _ => true
  | .markerPulse _ => true
  | .markerPulseEnd _ => true
  | .pgSyncctlCal _ _ => true
  | .syncCalEdge _ => true
  | .patSegSet _ _ _ _ _ _ => true
  | .patSeqSet _ _ _ _ _ _ => true
  | .patRamWrite _ _ count _ data => data.length == 64 * count.toNat
  | .patRun _ _ _ _ => true
  | .patMkSet _ _ _ _ _ _ _ => true
  | .patSyncCal _ _ _ => true
  | .patStatGet _ => true
  | .status => true
  | .kciWrite frame => frame.length ≤ 1032
  | .kciRead _ => true
  | .regRead addr count => 1 ≤ count && addr.toNat % 4 == 0
  | .regWrite addr values => addr.toNat % 4 == 0 && !values.isEmpty
  | .exportRead _ => true
  | .legWrite _ _ => true
  | .legRead _ => true
  | .legacyWriteApply => true
  | .legacyCacheRefresh => true
  | .registerWrite _ _ _ => true
  | .setdasa _ => true
  | .modselLRise => true
  | .lpmodeChange _ => true
  | .twoWireStop _ => true
  | .cmisAppselWrite _ _ _ _ _ _ _ => true
  | .cmisOutputDisableWrite _ _ => true
  | .cmisLowpwrSwWrite _ _ => true
  | .cmisEqCodeWrite _ _ => true
  | .cmisStatusRefresh => true
  | .sysIdGet _ => true
  | .sysReset _ => true
  | .softResetStart => true
  | .watchdogReset => true
  | .sysLegacySet _ _ => true
  | .sysLegacyCovGet _ _ => true
  | .sysAppletLoad _ _ _ size _ data => data.length == size.toNat
  | .sysAppletCtl _ _ _ => true
  | .sysAppletList _ => true
  | .appletFault _ => true
  | .appletRestart _ => true
  | .appletPreempt _ => true
  | .expUnlock _ _ => true
  | .expLock _ => true
  | .expertAccessTimeout => true
  | .unlockLockoutEnd => true
  | .expRegRd _ _ _ => true
  | .expRegWr _ _ _ _ => true
  | .expPin _ _ _ _ _ _ _ => true
  | .expPinList _ _ => true
  | .queryStatus _ => true
  | .moduleFeatures _ => true
  | .firmwareManagementFeatures _ => true
  | .getFirmwareInfo _ => true
  | .startFirmwareDownload _ => true
  | .writeFirmwareBlockLpl _ _ data => data.length ≤ 116
  | .completeFirmwareDownload _ => true
  | .abortFirmwareDownload _ => true
  | .runFirmwareImage _ => true
  | .commitFirmwareImage _ => true
  | .resetLHold => true
  | .resetLRise _ _ => true
  | .aonReady => true
  | .bootRomStart => true
  | .sramInitDone => true
  | .firmwareStart => true
  | .voteRevote => true
  | .miVwrGo _ _ _ => true
  | .votePageProgrammed _ => true
  | .scrubRead _ _ => true
  | .refreshWalker _ _ _ => true
  | .recordFlush _ _ => true
  | .logMount => true
  | .eventSummary => true
  | .tallyRecord => true
  | .confCopyHourly => true
  | .potStatGet _ => true
  | .potQuery _ _ _ _ _ _ => true
  | .potRead _ _ _ _ => true
  | .potSnap _ _ _ _ => true
  | .potConfWrite _ _ len data => data.length == len.toNat % 2 ^ 15
  | .potConfRead _ _ _ _ => true
  | .potExport _ _ _ _ => true
  | .telemetryRefresh => true
  | .colanderCodeword _ _ codeword => codeword.length == 544
  | .tmClctlSnap _ _ => true
  | .tlCntloRead _ _ _ => true
  | .tlCnthiWrite _ _ _ _ => true
  | .tlCntloWrite _ _ _ _ => true
  | .telLaneGet _ _ _ => true
  | .telColGet _ _ _ => true
  | .telTallySet _ _ _ _ _ _ _ => true
  | .telTallyGet _ _ _ => true
  | .tuTnsRead _ _ => true
  | .tuRatehiWrite _ _ _ => true
  | .tuRateloWrite _ _ _ => true
  | .tuOffsetWrite _ _ _ => true
  | .servoOffsetApply _ => true
  | .tbStepApply _ => true
  | .ppsInEdge _ => true
  | .ppsOutPulse _ => true
  | .ppsWidthExpiry _ => true
  | .tuFifohdrRead _ => true
  | .tuFifoctlSwstamp _ _ => true
  | .fifoDrain => true
  | .ttstampSend _ => true
  | .timeTbGet _ _ => true
  | .timeTbCfg _ _ _ _ _ _ _ => true
  | .timeTbStep _ _ _ _ _ _ _ => true
  | .timeOffset _ _ _ => true
  | .timePpsSet _ _ _ _ _ _ _ => true
  | .timeLinkGet _ _ => true
  | .timeLinkSet _ _ _ _ _ _ _ _ _ _ => true
  | .timeStampRead _ _ => true
  | .xcLaneLock _ _ => true
  | .trainCell _ _ => true
  | .trainStepTimeout => true
  | .attachCell _ _ => true
  | .heartbeatCell _ _ _ _ => true
  | .heartbeatSend => true
  | .xcHbKick _ _ => true
  | .aliveExpiry => true
  | .hbloss => true
  | .takeoverCell _ => true
  | .faultDetect _ => true
  | .faultCell _ _ => true
  | .twinFltFall => true
  | .detachCell _ => true
  | .xcCtlDetach _ _ => true
  | .linkLoss => true
  | .swapCell _ => true
  | .rreqCell _ body => body.length == 24
  | .rreqTimeout => true
  | .rrspCell _ body => body.length == 24
  | .loopHandoverCell _ _ _ => true
  | .mirrorCell _ _ data _ _ => data.length ≤ 20
  | .mirrorRefresh => true
  | .mailboxRelayCell _ _ => true
  | .sleepCell _ => true
  | .sleepWakeTimer => true
  | .sleepHeartbeatTimeout => true
  | .reservedCell _ _ => true
  | .twinStatGet _ => true
  | .twinCfgSet _ _ _ _ _ _ _ _ => true
  | .twinAttach _ => true
  | .twinDetach _ => true
  | .twinSwap _ => true
  | .twinRelay _ frame => frame.length ≤ 1016
  | .twinUpgrade _ _ => true
  | .twinFaultSend _ => true
  | .secStatGet _ => true
  | .secAttest _ _ => true
  | .secAttestRead _ _ _ => true
  | .secCertRead _ _ _ => true
  | .secChallenge _ => true
  | .secLcAdvance _ _ => true
  | .secKeygen _ => true
  | .keygenDone _ => true
  | .secRootSet _ _ => true
  | .secTicketLoad _ _ _ size _ data => data.length == size.toNat
  | .tokenDue => true
  | .pwDreqWrite _ _ _ => true
  | .domainWakeDone _ => true
  | .domainDownDone _ => true
  | .lowpwrRequestChange => true
  | .moduleReadyEntry => true
  | .avsSet => true
  | .coreClockLower => true
  | .refclkLoss => true
  | .refclkReturn => true
  | .thermalTrip _ => true
  | .supplyUndervoltage => true
  | .offAonEntry => true
  | .offAonWake _ _ => true
  | .wakeTimerExpiry => true
  | .sysPwrGet _ => true
  | .sysPwrSet _ _ _ _ => true
  | .bistRun _ _ _ _ _ => true
  | .bistStep _ => true
  | .bistStatGet _ => true
  | .bistResultGet _ _ => true
  | .bistAbort _ => true
  | .jtagExtest _ => true
  | .jtagBypass _ => true
  | .jtagIdcode => true
  | .jtagSamplePreload _ _ => true
  | .rxDatapathClock _ samples => samples.length == 136
  | .cdbCommandIdWrite _ _ lpl _ => lpl.length ≤ 255
  | .modselLFall => true
  | .lossOfSupplies => true

end Sys2Proof
end

