-- ==== Sys2Proof/Tests/Slice0.lean ====
section
/-! SUPPORT. The model's own tests: ill-formed commands that WellFormed refuses, worked values of the spec, and for every statement
with hypotheses a theorem (`wit_` and the statement's name) with concrete states that meet the hypotheses of each of its clauses. -/

set_option maxRecDepth 20000

open Sys2Proof Sys2Proof.Machine

namespace Sys2Proof.Tests

/-! ## States -/

/-- Every field of a list at all ones. -/
def ones (d : Dev) (l : List Fld) : Dev := l.foldl (fun e f => e.wr f 0 (2 ^ f.w - 1)) d

/-- Firmware running, life cycle BLANK, module state READY, every domain on. -/
def up : Dev :=
  ones ({ Dev.initial with
    phase := .fw, sec := { Dev.initial.sec with lc := 0, cert := [], root := [], keyOk := true }, vote := { flops := Vector.replicate 3 (List.replicate 16 0), copies := Vector.replicate 3 { gen := 1, words := [] } } }.wr
      F.PW_STAT_CMIS 0 3)
    [F.PW_DON0_LRXA, F.PW_DON0_LADC, F.PW_DON0_LRXD, F.PW_DON0_LTXD, F.PW_DON1_LDAC, F.PW_DON1_HRX, F.PW_DON1_HTXL, F.PW_DON2_HTXH,
     F.PW_DON2_SYS]

/-- A machine around a device. -/
def mk (d : Dev) : State := { pending := [], mem := [], dev := d }

/-- Every KCI command of SPI is admitted, on the device as it is. -/
def Ready (d : Dev) : Prop :=
  ∀ (op : Nat) (cls : Cls) (lanes fam : Nat), d.admits (.spi 0) op cls lanes fam = true ∧ d.arrives op = d

/-- When it is so. -/
theorem ready_of {d : Dev} (h : (d.phase == .fw && d.mgmt.outst.isEmpty && d.pinsLive && d.mgmt.rspq.isEmpty && !d.power.timerWake) = true) :
    Ready d := by
  simp only [Bool.and_eq_true, beq_iff_eq, List.isEmpty_iff, Bool.not_eq_true'] at h
  obtain ⟨⟨⟨⟨h1, h2⟩, h3⟩, h4⟩, h5⟩ := h
  intro op cls lanes fam
  have hd : 0 < cls.depth false := by cases cls <;> decide
  exact ⟨by simp [Dev.admits, h1, h2, h3, h4, Dev.pathOpen, srcSpi, srcHost, Dev.admission, Nat.not_le.mpr hd], by simp [Dev.arrives, h5]⟩

/-- A data path of one lane in C225 (mode 1), in the state given. -/
def path1 (st : Nat) : Path := { first := 0, size := 1, mode := 4, lrm := 0, state := st }

/-- A data path of one lane in U106 (lrm 2), in the state given. -/
def pathU (st : Nat) : Path := { first := 0, size := 1, mode := 7, lrm := 2, state := st }

/-- A group of lane 0 under far-end line loopback alone, in the line rate mode and state given. -/
def pathF (lrm st : Nat) : Path := { first := 0, size := 1, mode := 12, lrm := lrm, outputs := 2, state := st }
/-! ## Witnesses: bring-up -/

theorem wit_PathCommands :
    let d : Dev := { up with paths := [path1 2] }
    let r : AppReq := ⟨0, 4, 1, 0, 0, 0, 0⟩
    (Ready up ∧ up.mgmt.appselWait = [] ∧ r.path = some (path1 1) ∧ up.canSelect = true ∧ up.fits (path1 1) = true ∧
      ({ r with mode := 0 }).path = none ∧ up.domOn (dLRXD 7) = true) ∧
    (Ready (up.wr F.PW_STAT_CMIS 0 1) ∧ (up.wr F.PW_STAT_CMIS 0 1).canSelect = false) ∧
    (Ready (up.mapMgmt fun m => { m with appselWait := [⟨0, 4, 1, 0, 0, 0, 0⟩] }) ∧
      (up.mapMgmt fun m => { m with appselWait := [⟨0, 4, 1, 0, 0, 0, 0⟩] }).mgmt.appselWait ≠ []) ∧
    (Ready d ∧ d.canSelect = true ∧ d.fits (path1 1) = false ∧ (d.paths.find? fun q => q.first == 0 && q.state != 3) = some (path1 2) ∧
      (up.paths.find? fun q => q.first == 0 && q.state != 3) = none ∧
      (d.paths.find? fun q => q.first == 0 && q.lrm < 2) = some (path1 2)) ∧
    (let a := d.mapLane 0 fun l => { l with active := true }
     Ready a ∧ a.pathOf 0 = some (path1 2) ∧ a.isReady = true ∧ (a.lane 0).active = true ∧ (path1 2).bringup = true) :=
  ⟨⟨ready_of (by decide), by decide⟩, ⟨ready_of (by decide), by decide⟩, ⟨ready_of (by decide), by decide⟩,
    ⟨ready_of (by decide), by decide⟩, ⟨ready_of (by decide), by decide⟩⟩

/-- Lane 0 of the path given, prepared, its commits done. -/
def ready0 (p : Path) : Dev := ({ up with paths := [p] }).mapLane 0 fun l => { l with prepared := true }

theorem wit_BringupEvents :
    ((ready0 (path1 1)).pathOf 0 = some (path1 1) ∧ (path1 1).state = 1 ∧ ((ready0 (path1 1)).lane 0).active = false ∧
      ((ready0 (path1 1)).lane 0).prepared = true ∧ (ready0 (path1 1)).committed 0 = true ∧
      (laneSet 0 0).all (ready0 (path1 1)).domOn = true ∧ (laneSet 2 0).all (ready0 (pathU 1)).domOn = true ∧
      (path1 1).bringup = true ∧ (path1 1).far = false ∧ (pathF 0 1).bringup = true ∧ (pathF 0 1).far = true ∧ (pathF 2 1).far = true ∧
      ({ path1 1 with mode := 11 }).bringup = false) ∧
    (let d := (({ up with paths := [path1 1] }).mapLane 0 fun l => { l with active := true }).wr F.LN_STAT_STEP 0 1
     d.pathOf 0 = some (path1 1) ∧ (path1 1).lrm < 2 ∧ (d.lane 0).active = true ∧ d.stepOf 0 = 1) ∧
    (let d := (({ up with paths := [pathU 1] }).wr F.LN_STAT_STEP 0 1).set F.HL_STAT_ALIGNED 0
     d.pathOf 0 = some (pathU 1) ∧ (pathU 1).bringup = true ∧ 2 ≤ (pathU 1).lrm ∧ d.stepOf 0 = 1 ∧
       ((hostsOfLane 2 0).all fun n => d.on F.HL_STAT_ALIGNED n) = true) ∧
    (let d := ((({ up with paths := [path1 1] }).wr F.LN_STAT_STEP 0 4).wr F.TX_STAT_STATE 0 1).mapTx 0 fun x => { x with switch := 1, blk := 1 }
     d.stepOf 0 = 4 ∧ d.rd F.TX_STAT_STATE 0 = 1 ∧ (d.lane 0).tx.switch ≠ 0 ∧ (d.lane 0).tx.switch = (d.lane 0).tx.blk) ∧
    (let d := (({ up with paths := [path1 1] }).wr F.LN_STAT_STEP 0 4).mapRx 0 fun x => { x with farSwitch := 1 }
     d.isC 0 = true ∧ d.stepOf 0 = 4 ∧ (d.lane 0).rx.farSwitch ≠ 0 ∧ (d.lane 0).rx.started = false) ∧
    (let d := (({ up with paths := [pathU 1] }).wr F.LN_STAT_STEP 0 8).mapRx 0 fun x => { x with started := true }
     d.isC 0 = false ∧ d.stepOf 0 = 8 ∧ (d.lane 0).rx.started = true) ∧
    (let d := (({ up with paths := [path1 1] }).wr F.LN_STAT_STEP 0 2).wr F.TX_STAT_STATE 0 1
     d.pathOf 0 = some (path1 1) ∧ d.domOn (dLTXD 0) = true ∧ d.rd F.TX_STAT_STATE 0 = 1 ∧ (d.lane 0).tx.pend = none ∧
       (d.lane 0).tx.switch = 0 ∧ d.stepOf 0 = 2 ∧ (d.lane 0).outcome = none ∧ (d.lane 0).rx.farSwitch = 0 ∧ (d.lane 0).rx.lastBlk = none ∧
       (d.wr F.LN_STAT_STEP 0 4).stepOf 0 = 4 ∧ ((d.mapRx 0 fun r => { r with lastBlk := some 3 }).lane 0).rx.lastBlk ≠ none) ∧
    up.domOn (dLADC 0) = true ∧ up.domOn (dLRXD 0) = true := by decide

/-- The codes of a block, eight and a half symbols a bit (C225). -/
def blockCodes (bits : List Bool) : List Int :=
  (bits.zipIdx).flatMap fun b => List.replicate (if b.2 % 2 = 0 then 9 else 8) (if b.1 then 40 else -40)

theorem wit_BringupEvents_blocks : readBeacon (beaconDecide 0 [] 0) = none ∧
    (readBeacon (beaconDecide 0 (blockCodes (beaconBits (be 1 1 ++ be 1 2 ++ be 4 0 ++ be 2 0x3400 ++ zeros 18))) 0)).isSome = true := by
  decide +kernel

theorem wit_BringupEnds :
    (let d := (({ up with paths := [path1 1] }).mapLane 0 fun l => { l with srch := true, heard := true }).wr F.LN_STAT_STEP 0 2
     (d.lane 0).srch = true ∧ d.stepOf 0 = 2 ∧ d.on F.LN_STAT_SIGDET 0 = false ∧
       (d.set F.LN_STAT_SIGDET 0).on F.LN_STAT_SIGDET 0 = true ∧ (d.set F.LN_STAT_SIGDET 0).on F.LN_STAT_MISMATCH 0 = false ∧
       ((d.set F.LN_STAT_SIGDET 0).set F.LN_STAT_MISMATCH 0).on F.LN_STAT_MISMATCH 0 = true ∧ (d.lane 0).heard = true ∧
       ((d.mapLane 0 fun l => { l with heard := false }).lane 0).heard = false) ∧
    (let d := (up.mapLane 0 fun l => { l with trn := true, lolTimer := true }).wr F.LN_STAT_STEP 0 5
     (d.lane 0).trn = true ∧ d.stepOf 0 = 5 ∧ (d.wr F.LN_STAT_STEP 0 8).stepOf 0 = 8 ∧ (d.lane 0).lolTimer = true ∧
       d.on F.LN_TRSTAT_LOCK 0 = false ∧ (d.set F.LN_CTL_AUTORT 0).on F.LN_CTL_AUTORT 0 = true ∧
       (d.clr F.LN_CTL_AUTORT 0).on F.LN_CTL_AUTORT 0 = false) ∧
    (let d := ({ up with paths := [path1 1] }).wr F.LN_STAT_STEP 0 7
     (d.paths.find? fun q => q.first == 0) = some (path1 1) ∧ (path1 1).bringup = true ∧ (path1 1).reported = false ∧ (path1 1).state ≠ 3 ∧
       ((path1 1).lanes.all fun j => d.stepOf j == 7) = true ∧
       ((path1 1).lanes.all fun j => [(⟨0, 1, 1, 1⟩ : LatReport)].any fun r => r.lane.val == j) = true) ∧
    (let d := ({ up with paths := [path1 3] }).mapLane 0 fun l => { l with active := true }
     d.pathOf 0 = some (path1 3) ∧ (path1 3).state = 3 ∧ (d.lane 0).active = true) := by decide

/-! ## Witnesses: transmit path and front end -/

theorem wit_TransmitPath :
    Ready up ∧
    (up.domOn (dLTXD 0) = true ∧ (up.lane 0).tx.streaming = false ∧ (up.lane 0).tx.pend = none ∧ up.on F.TX_CTL_CMTREQ 0 = false ∧
      (up.set F.TX_CTL_CMTREQ 0).on F.TX_CTL_CMTREQ 0 = true) ∧
    (let d := up.set F.TX_OBSSTAT_BUSY
     d.on F.TX_OBSSTAT_BUSY = true ∧ (d.lane d.ws.obs.lane).tx.streaming = false ∧ d.ws.obs.ents.length ≤ ([] : List Int).length) ∧
    (let a := ((up.wr F.WS_STAT_STATE 0 1).mapLane 0 fun l => { l with active := true })
     let d := (a.set F.TX_DPDCTL_EN 0).set F.TX_DPDCTL_IDEN 0
     let p := d.mapWs fun w => { w with dpd := some { lane := 0 } }
     d.domOn dWHET = true ∧ d.rd F.WS_STAT_STATE = 1 ∧ d.on F.TX_OBSSTAT_BUSY = false ∧ d.ws.dpd = none ∧ d.dpdNext = some 0 ∧
       p.ws.dpd = some { lane := 0 } ∧ p.ws.obs.lane = 0 ∧ p.dpdLane 0 = true ∧ (p.clr F.TX_DPDCTL_EN 0).dpdLane 0 = false) ∧
    up.domOn (dLTXD 7) = true ∧ (-512 ≤ (511#16).toInt ∧ (511#16).toInt ≤ 511) ∧ (8 : Nat) + 1 ≤ 9 := ⟨ready_of (by decide), by decide⟩

/-- A capture of the SPI host, triggered or not, ended or not. -/
def cap (done : Bool) (ents : List TapEntry) : Capture :=
  { owner := .spi, mode := 2, trig := 1, phase := 0, trigpos := 0, triggered := false, done := done, hit := false, ents := ents }

theorem wit_FrontEndEvents :
    (up.domOn (dLADC 0) = true ∧ (up.lane 0).rx.part.length < 136 ∧ ((up.adc 0 0).convert ⟨2 ^ 60, 0⟩).ovr = true ∧
      (up.lane 0).rx.watched = false ∧ (up.set F.SA_AFE_AGCEN 0).on F.SA_AFE_AGCEN 0 = true ∧ (up.lane 0).active = false ∧
      63 < agcTarget (up.rd F.SA_AFE_AGCTGT 0) ∧ agcTarget (up.rd F.SA_AFE_AGCTGT 0) < 121 ∧ up.rd F.SA_VGA_GAIN 0 = 0 ∧
      up.rd F.SA_VGA_GAIN 0 < 96 ∧ up.pinned F.SA_VGA_GAIN 0 = false ∧
      96 ≤ (up.wr F.SA_VGA_GAIN 0 96).rd F.SA_VGA_GAIN 0 ∧ (up.wr F.SA_VGA_GAIN 0 96).pinned F.SA_VGA_GAIN 0 = false) ∧
    ((up.setDon (dLRXD 0) false).domOn (dLADC 0) = true ∧ (up.setDon (dLRXD 0) false).domOn (dLRXD 0) = false ∧
      (up.set F.SA_LCTL_CMTREQ 0).on F.SA_LCTL_CMTREQ 0 = true ∧ up.on F.SA_LCTL_CMTREQ 0 = false ∧ (up.lane 0).rx.started = false ∧
      up.calWaiting 0 = false ∧ up.trimWaiting 0 = false) ∧
    (let d := up.mapRx 0 fun r => { r with tbq := [.spi] }
     (d.lane 0).rx.tb = none ∧ (d.lane 0).rx.tbq = .spi :: [] ∧ d.rd F.SA_TBCTL_MODE (tbCh .spi 0) % 3 = 0 ∧
       d.rd F.SA_TBCTL_TRIG (tbCh .spi 0) % 3 = 0) ∧
    (let c : Capture := { cap false [] with hit := true }
     let d := up.mapRx 0 fun r => { r with tb := some c }
     (d.lane 0).rx.tb = some c ∧ c.done = false ∧ c.triggered = false ∧ c.hit = true ∧ c.trig = (if false then 2 else 1)) ∧
    (((up.mapRx 0 fun r => { r with tb := some (cap false []) }).lane 0).rx.tb = some (cap false []) ∧ (cap false []).hit = false ∧
      (cap false []).mode = 2 ∧ ((up.mapRx 0 fun r => { r with tb := some (cap true []) }).lane 0).rx.tb = some (cap true [])) ∧
    (let d := ((up.wr F.WS_STAT_STATE 0 1).set F.WS_CALLANE_EN 0).wr F.LN_STAT_STEP 0 7
     let v := d.mapWs fun w => { w with visit := some ⟨0, 0, 0, false⟩ }
     let c : Capture := { cap true [] with owner := .ws }
     d.domOn dWHET = true ∧ d.rd F.WS_STAT_STATE = 1 ∧ d.ws.visit = none ∧ d.ws.lastVisit = none ∧ d.calLane d.ws.turn = some 0 ∧
       v.ws.visit = some ⟨0, 0, 0, false⟩ ∧ v.calEligible 0 = true ∧ ((v.clr F.WS_CALLANE_EN 0).calEligible 0) = false ∧
       ((v.mapRx 0 fun r => { r with tb := some c }).lane 0).rx.tb = some c) := by decide

/-- A capture with its 4,096 entries. -/
theorem wit_FrontEndEvents_full (e : TapEntry) (h : e.n = none) : ({ cap false (List.replicate 4096 e) with placed := true }).full = true := by
  simp [Capture.full, cap, h]

theorem wit_FrontEndCommands :
    Ready up ∧ up.domOn (dLADC 7) = true ∧ (up.setDon (dLADC 7) false).domOn (dLADC 7) = false ∧
    Ready (up.setDon (dLADC 7) false) ∧ up.on F.SA_LSTAT_SETTLING 7 = false ∧ (up.lane 7).active = false ∧ up.rdS F.SA_GAIN_ACT 511 ≠ 5 ∧
    (let d := up.mapRx 7 fun r => { r with copy := some ⟨3, true, 0, false, []⟩ }
     Ready d ∧ (d.lane 7).rx.copy = some ⟨3, true, 0, false, []⟩) :=
  ⟨ready_of (by decide), by decide, by decide, ready_of (by decide), by decide, by decide, by decide, ready_of (by decide), by decide⟩
/-! ## Witnesses: receive path, host lanes, Partner channel -/

/-- A lane of a C225 path in ACTIVE with its receiver started. -/
def run : Dev :=
  ((({ up with paths := [path1 2] }).mapLane 0 fun l => { l with active := true, rx := { l.rx with started := true } }).wr F.LN_STAT_STEP 0 7)

theorem wit_ReceivePath :
    Ready up ∧ Ready (up.setDon (dLRXD 7) false) ∧
    (up.domOn (dLADC 0) = true ∧ up.domOn (dLRXD 0) = true ∧ (up.lane 0).rx.started = false ∧ (run.lane 0).rx.started = true ∧
      (List.replicate 136 (⟨0, 0⟩ : RxSample)).length = 136) ∧
    (let d := run.mapRx 0 fun r => { r with ybase := 1088 }
     d.isC 0 = true ∧ (d.lane 0).rx.started = true ∧ 1088 * ((d.lane 0).rx.frame + 1) ≤ (d.lane 0).rx.outs) ∧
    (let d := run.mapRx 0 fun r => { r with ybase := 304, signs := [1] }
     d.isC 0 = true ∧ (d.lane 0).rx.signs = 1 :: [] ∧ 272 * (d.lane 0).rx.window0 + 304 ≤ (d.lane 0).rx.outs) ∧
    (let d := run.set F.LN_TRSTAT_LOCK 0
     d.domOn (dLRXD 0) = true ∧ (d.lane 0).active = true ∧ (d.lane 0).rx.started = true ∧ (d.lane 0).lolTimer = false ∧
       (d.lane 0).rx.trfrz = false ∧ d.on F.LN_TRSTAT_LOCK 0 = true ∧ run.on F.LN_TRSTAT_LOCK 0 = false) ∧
    up.domOn (dLRXD 7) = true ∧ (up.setDon (dLRXD 7) false).domOn (dLRXD 7) = false ∧ (-2048 ≤ (2047#16).toInt ∧ (2047#16).toInt ≤ 2047) ∧
    (up.lane 7).rx.snapped = false ∧ ((up.mapRx 7 fun r => { r with snapped := true }).lane 7).rx.snapped = true :=
  ⟨ready_of (by decide), ready_of (by decide), by decide⟩

theorem wit_HostLanes :
    Ready run ∧
    run.hostPath 0 = some (path1 2) ∧ (run.set F.HL_STAT_CDRLOCK 0).on F.HL_STAT_CDRLOCK 0 = true ∧
    (let d : Dev := { run with hosts := vset run.hosts 0 fun h => { h with lost := true, realign := true } }
     d.hostPath 0 = some (path1 2) ∧ (d.host 0).lost = true ∧ (d.host 0).realign = true ∧
       (d.set F.HL_STAT_CDRLOCK 0).on F.HL_STAT_CDRLOCK 0 = true) ∧
    (run.set F.HL_STAT_ALIGNED 0).on F.HL_STAT_ALIGNED 0 = true ∧ run.on F.LN_STAT_TRAINING 0 = false ∧ run.farLoop 0 = false ∧
    run.hostUsed 0 = true ∧ run.hostUsed 15 = false ∧
    run.hostCfg (dHTX 0) F.HL_TXEQ_PRE2 0 + run.hostCfg (dHTX 0) F.HL_TXEQ_PRE1 0 + run.hostCfg (dHTX 0) F.HL_TXEQ_POST1 0 ≤ 40 :=
  ⟨ready_of (by decide), by decide⟩

/-- A CAP payload with every feature bit. -/
def allFeat : List Byte := zeros 8 ++ be 4 0xFFFFFFFF ++ zeros 20

/-- The same lane with the CAP exchange complete. -/
def capped : Dev := run.mapLane 0 fun l => { l with capSent := true, rx := { l.rx with farCap := allFeat } }

theorem wit_PartnerSend :
    (let b : Booking := ⟨0, 204, 0x40, 0, []⟩
     let d := run.mapTx 0 fun x => { x with calendar := [b] }
     (d.lane 0).tx.calendar = b :: [] ∧ d.frames 0 = true ∧ (d.lane 0).tx.cur = none ∧ b.start ≤ (d.lane 0).tx.frame) ∧
    ((run.lane 0).tx.frame < (⟨1, 205, 0x40, 0, []⟩ : Booking).start) ∧
    (let d := run.mapTx 0 fun x => { x with retry := [(2, [])] }
     (d.lane 0).tx.retry = [(2, [])] ∧ d.pathOf 0 = some (path1 2) ∧ d.mgmtLane (path1 2) = some 0 ∧
       ((d.wr F.LN_STAT_STEP 0 6).mapTx 0 fun x => { x with retry := [(1, [])] }).stepOf 0 = 6 ∧
       d.frames (([0, 0, 0] : List Byte).getD 2 0).toNat = true) ∧
    (let d := (capped.set F.LN_PTCTL_HINTTX 0).set F.LN_PTCTL_TELEM 0
     d.stepOf 0 = 7 ∧ d.on F.LN_PTCTL_HINTTX 0 = true ∧ d.farFeature 0 1 = true ∧ d.feature 0 2 = true ∧
       (d.clr F.LN_PTCTL_HINTTX 0).on F.LN_PTCTL_HINTTX 0 = false ∧
       (d.paths.find? fun p => p.first == 0) = some (path1 2) ∧ d.mgmtLane (path1 2) = some 0 ∧ d.on F.LN_PTCTL_TELEM 0 = true ∧
       d.feature 0 4 = true ∧ (d.clr F.LN_PTCTL_TELEM 0).on F.LN_PTCTL_TELEM 0 = false) ∧
    (let d := run.mapLane 0 fun l => { l with alarm := 16 }
     d.isC 0 = true ∧ (d.lane 0).active = true ∧ d.alarmBits 0 ≠ 0) ∧ up.alarmBits 0 = 0 ∧
    (let d := ((run.set F.TU_TTCTL_EN 0).wr F.TU_TTCTL_PER 0 1).mapTt 0 fun t =>
        { t with since := 1, tx := [{ p := 5, time := {}, epoch := 0 }], rx := [{ p := 5, time := {}, epoch := 0 }] }
     d.on F.TU_TTCTL_EN 0 = true ∧ d.stepOf 0 = 7 ∧ (d.tt 0).barred = false ∧ 1 ≤ d.rd F.TU_TTCTL_PER 0 ∧
       d.isC 0 = true ∧ d.rd F.TU_TTCTL_PER 0 ≤ (d.tt 0).since ∧ (d.tt 0).newest.isSome = true) ∧ run.on F.TU_TTCTL_EN 0 = false ∧
    (let d := run.mapTx 0 fun x => { x with hint := 8 :: List.replicate 8 0, freeBlocks := 99 }
     d.domOn (dLTXD 0) = true ∧ (d.lane 0).active = true ∧ d.txSpaced 0 = true ∧ d.hintTap 0 0 ≠ 0 ∧
       (d.set F.TX_CTL_CMTREQ 0).txSpaced 0 = false) := by decide

/-- The soft values of a packet as a receiver without errors takes them. -/
def soft (type : Nat) (pay : List Byte) : List Int := ((ptnrRaw type 5 pay).drop 64).map fun b => if b then -8 else 8

/-- The lane that has taken them. -/
def heard (type : Nat) (pay : List Byte) : Dev := capped.mapRx 0 fun r => { r with soft := some (soft type pay) }

theorem wit_PartnerReceive_preamble :
    (let d := run.mapRx 0 fun r => { r with corr := preamble.map some }
     d.frames 0 = true ∧ (d.lane 0).rx.corr.length = 64 ∧ pcth (d.rd F.DEC_PCTH_PCTH 0) ≤ agreement (d.lane 0).rx.corr) ∧
    (let d := run.mapRx 0 fun r => { r with corr := List.replicate 64 none }
     (d.lane 0).rx.corr.length = 64 ∧ agreement (d.lane 0).rx.corr < pcth (d.rd F.DEC_PCTH_PCTH 0)) := by decide

theorem wit_PartnerReceive_bad : rxPacket (List.replicate 64 (-8 : Int)) = .badHeader ∧
    rxPacket (((ptnrHeader 0x40 257 5 ++ zeros 8) |> bytesBits |> k7Encode 0 |>.take 64).map fun b => if b then -8 else 8) = .badLen ∧
    rxPacket ((soft 0x40 []).take 90 ++ List.replicate 50 8) = .badCrc := by decide +kernel

theorem wit_PartnerReceive_packet : rxPacket (soft 0x40 []) = .packet 0x40 5 [] 140 ∧ rxPacket (soft 1 []) = .packet 1 5 [] 140 := by
  decide +kernel
/-! ## Witnesses: the Partner channel -/

theorem wit_PartnerReceive :
    (let d := (heard 0x40 []).set F.LN_PTCTL_HOSTRX 0
     (d.lane 0).rx.soft.isSome = true ∧ d.frames 0 = true ∧ d.on F.LN_PTCTL_HOSTRX 0 = true ∧ d.domOn dTIME = true ∧
       d.on F.TU_TTCTL_EN 0 = false ∧ (d.wr F.LN_STAT_STEP 0 5).stepOf 0 = 5 ∧
       (d.wr F.LN_STAT_STEP 0 6).stepOf 0 = 6 ∧ (d.set F.TU_TTCTL_EN 0).on F.TU_TTCTL_EN 0 = true ∧
       (d.clr F.LN_PTCTL_HOSTRX 0).on F.LN_PTCTL_HOSTRX 0 = false ∧ d.pathOf 0 = some (path1 2) ∧
       (d.set F.LN_PTCTL_HINTRX 0).on F.LN_PTCTL_HINTRX 0 = true ∧ (d.clr F.LN_PTCTL_HINTRX 0).on F.LN_PTCTL_HINTRX 0 = false ∧
       d.farFeature 0 0 = true ∧ d.feature 0 2 = true ∧ d.pinned F.TX_LEVEL_V1STG 0 = false ∧
       0 < (d.wr F.TX_LEVEL_V1STG 0 40).rd F.TX_LEVEL_V1STG 0 ∧ up.pathOf 0 = none ∧
       ((path1 2).lanes.find? fun j => d.rd F.LN_FEID_LANE j == fieldAt (zeros 4) 2 1) = some 0) ∧
    reservedType 0 = true ∧ fieldAt [1, 9, 9, 1] 3 1 + fieldAt [1, 9, 9, 1] 0 1 < 3 * (fieldAt [1, 9, 9, 1] 2 1 + fieldAt [1, 9, 9, 1] 1 1) := by
  decide

theorem wit_PartnerCommands :
    Ready capped ∧ Ready up ∧
    (hostType 0x40 = true ∧ hostType 0x3F = false ∧ capped.stepOf 0 = 7 ∧ up.stepOf 0 ≠ 7 ∧ capped.isC 0 = true ∧ capped.feature 0 5 = true ∧
      ptnrFrames 0 * frameNum (capped.lrm 0) ≤ 30000 * 425) ∧
    srcRoom (.spi 0) ≠ 118 ∧ (up.lane 0).rx.fifo = [] ∧
    (let h : RxPacket := { type := 0x40, seq := 1, payload := [7], frame := 9 }
     let d := up.mapRx 0 fun y => { y with fifo := [h] }
     Ready d ∧ (d.lane 0).rx.fifo = h :: []) :=
  ⟨ready_of (by decide), ready_of (by decide), by decide, by decide, by decide, ready_of (by decide), by decide⟩

/-! ## Witnesses: security -/

/-- A device in a life cycle. -/
def inLc (lc : Nat) : Dev := { up with sec := { up.sec with lc := lc }, pot := { up.pot with mounted := true } }

theorem wit_SecurityCommands :
    (Ready up ∧ Ready (inLc 1) ∧ Ready (inLc 2) ∧ Ready (inLc 5)) ∧
    (let j : VoteJob := { changes := [(3, 1)] }
     let d : Dev := { up with vote := { up.vote with jobs := [j] } }
     d.vote.jobs = j :: [] ∧ d.fwRun = true ∧ d.domOn dSTOCK = true ∧ j.fails < 3 ∧ 3 ≤ ({ j with fails := 3 }).fails ∧ j.stage < 2 ∧
       ({ j with stage := 2 }).stage = 2 ∧ j.after = .nothing) ∧
    (let d : Dev := { inLc 2 with sec := { (inLc 2).sec with nextDue := some 480 } }
     let e : Dev := { d with tu := { d.tu with tbs := vset d.tu.tbs 3 fun t => { t with sec := 480 } } }
     e.sec.nextDue = some 480 ∧ e.fwRun = true ∧ e.pot.mounted = true ∧ e.bucketed = true ∧ 480 ≤ (e.stamp 3).sec ∧
       e.rd F.SEC_ATT_TOKENS < 64 ∧ (e.wr F.SEC_ATT_TOKENS 0 63).rd F.SEC_ATT_TOKENS < 64 ∧
       ({ d with sec := { d.sec with lc := 1 } }).bucketed = false) ∧
    (up.set F.SEC_LC_KEYGEN).on F.SEC_LC_KEYGEN = true ∧ up.sec.nextDue = none ∧
    (up.lc = 0 ∧ (inLc 5).lc = 5 ∧ (inLc 2).pot.mounted = true ∧ up.pot.mounted = false ∧ up.lc ≠ 5 ∧ (inLc 2).lc ≠ 0 ∧ (inLc 2).lc ≠ 5 ∧
      ({ inLc 2 with pot := up.pot }).pot.mounted = false ∧
      ((inLc 2).set F.SEC_ATT_SIGOK).on F.SEC_ATT_SIGOK = true ∧ (inLc 2).sec.keyOk = true ∧
      (inLc 2).signQueue < ((inLc 2).wr F.SEC_ATT_TOKENS 0 63).rd F.SEC_ATT_TOKENS ∧ (inLc 2).leafNow + (inLc 2).signQueue < (inLc 2).leafEnd) ∧
    (let d : Dev := { up with sec := { up.sec with signed := [1, 2], cert := [3] } }
     0 + 2 ≤ d.sec.signed.length ∧ d.sec.signed.length < 2 + 1 ∧ d.sec.cert ≠ [] ∧ 0 + 1 ≤ d.sec.cert.length ∧ 2 ≤ srcRoom (.spi 0)) ∧
    up.sec.cert = [] ∧ up.lcAllowed 1 = true ∧ up.lcAllowed 2 = false ∧ up.lc ≠ 1 ∧ (inLc 1).lc = 1 ∧ (inLc 2).lc = 2 ∧ (inLc 2).sec.root = [] ∧
    ({ inLc 2 with sec := { (inLc 2).sec with root := [1] } }).sec.root ≠ [] ∧
    (let d : Dev := (inLc 1).mapSec fun y => { y with ticket := some ⟨1, [7, 8]⟩ }
     d.sec.ticket = some ⟨1, [7, 8]⟩ ∧ ([7, 8] : List Byte).length = (2 : Word32).toNat ∧ (2 : Word32).toNat ≠ 0 ∧ d.lc = 1 ∧
       2 + (960 : BitVec 16).toNat ≤ 16384) :=
  ⟨⟨ready_of (by decide), ready_of (by decide), ready_of (by decide), ready_of (by decide)⟩, by decide⟩
/-! ## Witnesses: telemetry, self-test, Stockpot, applets -/

/-- A running applet of the life cycle DEPLOYED in slot 0, in the state given. -/
def applet (lc st : Nat) : Dev :=
  (inLc lc).mapApplet 0 fun _ => { state := st, checked := true, restart := true }

theorem wit_Telemetry :
    Ready up ∧
    (let d := (up.mapHost 0 fun h => { h with state := 2 }).set F.TM_CLCTL_EN 0
     d.domOn (dHTX 0) = true ∧ (d.host 0).state = 2 ∧ d.on F.TM_CLCTL_EN 0 = true ∧ d.on F.TM_CLCTL_SNAP 0 = false ∧
       d.on F.TM_CLSTAT_LOCK 0 = false ∧ (d.host 0).mkGood < 2 ∧ 2 ≤ ((d.mapHost 0 fun h => { h with mkGood := 2 }).host 0).mkGood ∧
       (d.set F.TM_CLSTAT_LOCK 0).on F.TM_CLSTAT_LOCK 0 = true ∧ (d.set F.TM_CLCTL_SNAP 0).on F.TM_CLCTL_SNAP 0 = true) ∧
    up.fwRun = true ∧ up.domOn (dLRXD 0) = true ∧ (up.setDon (dLRXD 0) false).domOn (dLRXD 0) = false ∧ up.pot.mounted = false ∧
    up.pot.buf.length < 512 ∧
    512 ≤ ({ up.pot with buf := List.replicate 512 { type := 0, flags := 0, src := 0, seq := 0, tsec := 0, tns := 0, payload := [] } }).buf.length ∧
    up.domOn (dHTX 15) = true ∧ srcHost (.spi 0) = true ∧ (0x80000000 : Word32).toNat ≠ 0xFFFFFFFF ∧ up.userSees 31 false = true ∧ (({ up with tel := vset up.tel 7 fun t => { t with stale := true } }).tel.getD 7 {}).stale = true :=
  ⟨ready_of (by decide), by decide⟩

theorem wit_SelfTest :
    Ready up ∧ up.bist.state ≠ 1 ∧ up.isReady = true ∧ srcApplet (.applet 0) = true ∧ srcApplet (.spi 0) = false ∧
    up.bistFree false (setTests false) 255 = true ∧ up.lc = 0 ∧ (∀ i, i < 16 → (0#16).getLsbD i = true → i ∈ setTests false) ∧
    (let d := up.mapBist fun b => { b with state := 1, ending := true }
     Ready d ∧ d.bist.state = 1 ∧ d.bist.ending = true) ∧
    (let t7 : BistTest := { test := 7, unit := 0 }
     let d := up.mapBist fun b => { b with state := 1, ending := false, running := [t7], todo := [] }
     let m : StepMeas := ⟨7, 0, 0, 0, 0, true⟩
     d.bist.state = 1 ∧ d.bist.ending = false ∧ d.bist.running = [t7] ∧ d.bist.todo = [] ∧ m.test = t7.test ∧ m.unit = t7.unit ∧
       m.last = true ∧ t7.started = false ∧ t7.failed = false ∧ ({ m with last := false }).last = false ∧ d.bistAborts t7 = false ∧ ({ t7 with test := 8 } : BistTest).test = 8) :=
  ⟨ready_of (by decide), by decide, by decide, by decide, by decide, by decide, by decide, by simp,
    ⟨ready_of (by decide), by decide⟩, by decide⟩

theorem wit_SelfTest_applet : (applet 3 2).admits (.applet 0) 0xAB00 .c = true := by decide

theorem wit_StorageEvents :
    (up.scrubs .mgmt = true ∧ up.scrubs .x = true ∧ up.pot.scrub.getD (memIdx .pattern) 0 ≠ (memWords .pattern).1 ∧ up.isBad .pattern 0 = false) ∧
    (up.clr F.MI_SCRUBCFG_MPER).scrubs .pattern = false ∧
    up.phase = .fw ∧ up.fwRun = true ∧ up.domOn dSTOCK = true ∧ FlashRead.weak ≠ .good ∧ up.pot.mounted = false ∧ up.pot.buf.length + (summaries up.pot.folded).length ≤ 512 ∧
    (let r : Record := { type := 0, flags := 0, src := 0, seq := 0, tsec := 0, tns := 0, payload := [] }
     ({ (inLc 3).pot with buf := [r] }).mounted = true ∧ ({ (inLc 3).pot with buf := [r] }).buf ≠ []) ∧
    ({ (inLc 3).pot with folded := [⟨1, 0, 2, (0, 0), (0, 0)⟩] }).folded = [⟨1, 0, 2, (0, 0), (0, 0)⟩] := by decide

theorem wit_StorageEvents_same : (up.vote.flops.all fun l => l == (List.range 16).map up.vote.word) = true := by
  rw [Vector.all_eq_true]
  intro i hi
  have h : ∀ j : Fin 3, (up.vote.flops.get j == (List.range 16).map up.vote.word) = true := by decide
  exact h ⟨i, hi⟩

theorem wit_StorageEvents_differ :
    let v : Vote := { up.vote with flops := vset up.vote.flops 0 fun _ => [1] }
    (v.flops.all fun l => l == (List.range 16).map v.word) = false := by
  intro v
  rw [← Bool.not_eq_true, Vector.all_eq_true]
  intro h
  exact absurd (h 0 (by decide)) (by decide)

/-- A mounted Stockpot with one record in LOG and one in CONF. -/
def held : Dev :=
  { inLc 3 with pot := { (inLc 3).pot with
    log := [{ type := 1, flags := 0, src := 0, seq := 4, tsec := 9, tns := 0, payload := [] }]
    conf := [{ type := 2, flags := 0, src := 0x800, seq := 1, tsec := 0, tns := 0, payload := [1, 2] }] } }

theorem wit_PotCommands :
    (Ready up ∧ Ready (inLc 3) ∧ Ready held ∧ Ready (up.setDon dSTOCK false)) ∧ up.domOn dSTOCK = true ∧
    (up.setDon dSTOCK false).domOn dSTOCK = false ∧
    up.potReady = false ∧ (inLc 3).potReady = true ∧ (inLc 3).pot.conf = [] ∧ (inLc 3).pot.log = [] ∧ (inLc 3).pot.buf = [] ∧
    (let d : Dev := { held with pot := { held.pot with conf := [] } }
     let r : Record := { type := 1, flags := 0, src := 0, seq := 4, tsec := 9, tns := 0, payload := [] }
     d.potReady = true ∧ d.pot.log = [r] ∧ d.pot.buf = [] ∧ 4 ≤ r.seq ∧ (2 : Nat).testBit r.type = true ∧ 9 ≤ r.tsec ∧ r.tsec ≤ 9 ∧
       (held.pot.all.find? fun r => r.seq == 4) = some r ∧ held.pot.unread.contains 4 = false ∧ held.potReady = true ∧ r.size - 1 + 1 ≤ r.size ∧ r.size < r.size + 1 ∧ 1 ≤ r.size) ∧
    held.domOn (dHTX 15) = true ∧ held.domOn (dLADC 7) = true ∧ 0x7FF / 256 = 7 ∧ 0x800 / 256 ≠ 7 ∧ confKey 0x8FF = true ∧
    held.pot.parts = none ∧ held.conf 0x800 = some [1, 2] ∧ held.conf 0x801 = none ∧ held.pot.session = none ∧ held.expert = false ∧ (inLc 1).lc = 1 ∧ run.isC 0 = true ∧
    ({ held.pot with parts := some (0x800, [1]) }).parts = some (0x800, [1]) ∧ ({ held.pot with buf := [] }).buf = [] ∧
    ({ held.pot with session := some { mode := 0, next := 0, last := 0, chunk := 0, again := none } }).session.isSome = true :=
  ⟨⟨ready_of (by decide), ready_of (by decide), ready_of (by decide), ready_of (by decide)⟩, by decide⟩

theorem wit_AppletsExpert :
    (Ready up ∧ Ready (applet 3 1) ∧ Ready (inLc 2) ∧ Ready (inLc 5)) ∧ up.appletOk [] = false ∧
    ((applet 3 1).applet 0).state ≠ 0 ∧ (applet 2 1).lc ≠ 3 ∧ (applet 3 1).lc = 3 ∧ ((applet 3 1).applet 0).state = 1 ∧
    ((applet 3 1).applet 0).checked = true ∧ (applet 3 1).lc ≠ 2 ∧ (applet 3 2).fwRun = true ∧ ((applet 3 2).applet 0).state = 2 ∧
    ((applet 3 3).applet 0).state = 3 ∧ ((applet 3 3).applet 0).restart = true ∧ (up.lc = 0 ∧ (inLc 1).lc = 1 ∧ (inLc 4).lc = 4) ∧
    (inLc 5).lc = 5 ∧ (inLc 2).lc = 2 ∧ (inLc 2).mgmt.lockout = false ∧ ({ up.mgmt with lockout := true }).lockout = true :=
  ⟨⟨ready_of (by decide), ready_of (by decide), ready_of (by decide), ready_of (by decide)⟩, by decide⟩

/-- A number of `n` bytes fits in them. -/
theorem beNat_lt (l : List Byte) : beNat l < 256 ^ l.length := by
  have h : ∀ (l : List Byte) (a : Nat), l.foldl (fun a b => a * 256 + b.toNat) a < (a + 1) * 256 ^ l.length := by
    intro l
    induction l with
    | nil => intro a; simp
    | cons b t ih =>
      intro a
      have hb := b.isLt
      calc t.foldl (fun a b => a * 256 + b.toNat) (a * 256 + b.toNat) < (a * 256 + b.toNat + 1) * 256 ^ t.length := ih _
        _ ≤ ((a + 1) * 256) * 256 ^ t.length := Nat.mul_le_mul_right _ (by omega)
        _ = (a + 1) * 256 ^ (b :: t).length := by rw [List.length_cons, Nat.pow_succ]; ring
  simpa [beNat] using h l 0

/-- The token exists whatever the key store holds. -/
theorem wit_AppletsExpert_token (d : Dev) : ∃ t : BitVec 64, t.toNat = d.token := by
  refine ⟨BitVec.ofNat 64 d.token, ?_⟩
  rw [BitVec.toNat_ofNat]
  refine Nat.mod_eq_of_lt (Nat.lt_of_lt_of_le (beNat_lt _) (?_ : _ ≤ 256 ^ 8))
  refine Nat.pow_le_pow_right (by decide) ?_
  unfold bytesAt
  rw [List.length_take]
  exact Nat.min_le_left ..

/-! ## Witnesses: the pattern generator and the time unit -/

/-- The stream in the state given, its play at the granule given of a one-granule length. -/
def playing (st gran : Nat) : Dev := (up.wr F.PG_STAT_STATE 0 st).mapPg fun g => { g with gran := gran, play := { g.play with len := 1, mark := 9 } }

/-- A device with an A11 group. -/
def group : Dev := { up with paths := [{ path1 6 with mode := 11 }] }

theorem wit_PatternEvents :
    (∀ st : Fin 8, 2 ≤ st.val → 2 ≤ (playing st 0).rd F.PG_STAT_STATE) ∧
    ((playing 2 0).pg.gran < (playing 2 0).pg.length ∧ (playing 2 0).a11 = none ∧ (playing 2 0).pg.idle = false ∧
      (playing 2 0).pg.play.type = 0) ∧
    ((playing 2 1).pg.length ≤ (playing 2 1).pg.gran ∧ (playing 2 1).pg.idle = false ∧ (playing 2 1).pg.stopReq = false ∧
      (playing 2 1).pg.jump = none ∧ (playing 2 1).pg.play.half = none ∧ (playing 2 1).pg.play.loop = 0) ∧
    ((playing 2 1).mapPg fun g => { g with stopReq := true }).pg.stopReq = true ∧
    (let d := (playing 2 1).mapPg fun g => { g with jump := some (0, 9) }
     d.pg.jump = some (0, 9) ∧ d.pg.stopReq = false ∧ ({ d.pg.play with loop := 1 }).loop ≠ 0 ∧
       ({ d.pg.play with loop := 1 }).loop ≤ satN (2 ^ 32 - 1) (d.rd F.PG_PLAY_COUNT + 1) ∧ ({ d.pg.play with stop := true }).stop = true ∧
       d.pg.play.stop = false ∧ ((playing 2 1).mapPg fun g => { g with idle := true }).pg.idle = true) ∧
    (∀ m : Fin 4, m.val = 0 ∨ m.val = 3 →
      (let d := (playing 2 0).set ((F.PG_MKCFG_EN).at m 8)
       let e := d.mapPg fun g => { g with due := vset g.due m fun _ => true }
       d.on ((F.PG_MKCFG_EN).at m 8) = true ∧ d.pg.play.mark.testBit m = true ∧ d.pg.idle = false ∧ 2 ≤ d.rd F.PG_STAT_STATE ∧
         d.rd ((F.PG_MKOFS_OFS).at m 8) / 256 = d.pg.gran ∧ d.pg.due.getD m false = false ∧ d.pg.mkEnd.getD m 0 ≤ d.pg.pos ∧
         e.pg.due.getD m false = true ∧ e.pg.high.getD m false = false ∧
         (e.mapPg fun g => { g with high := vset g.high m fun _ => true }).pg.high.getD m false = true)) ∧
    (playing 1 0).rd F.PG_STAT_STATE < 2 ∧ (playing 2 0).isBad .pattern 0 = false ∧ up.pg.calLeft = 0 ∧
    (1 < (up.mapPg fun g => { g with calLeft := 2 }).pg.calLeft ∧ (up.mapPg fun g => { g with calLeft := 1 }).pg.calLeft = 1) := by decide

theorem wit_PatternCommands :
    (Ready up ∧ Ready group ∧ Ready (up.set F.GLB_STAT_SRAMRDY)) ∧
    ((16 : Nat) ≤ 16 ∧ 0 + (0 + 1) * 16 ≤ 16384 ∧ 16368 + (0 + 1) * 16 ≤ 16384 ∧ (15 : Nat) < 16 ∧ 16384 < 16369 + (0 + 1) * 16) ∧
    ((31 : Nat) ≤ 31 ∧ 2 ^ 24 - 1 < 2 ^ 24 ∧ 31 < (32 : BitVec 8).toNat) ∧
    (patRamOk (.spi 0) 16383 1 128 64 = true ∧ patRamOk (.spi 0) 0 15 0 960 = true ∧ patRamOk (.spi 0) 0 0 0 0 = false ∧
      patRamOk (.cdb 0) 0 2 0 128 = false ∧ (up.set F.GLB_STAT_SRAMRDY).on F.GLB_STAT_SRAMRDY = true ∧
      (up.clr F.GLB_STAT_SRAMRDY).on F.GLB_STAT_SRAMRDY = false) ∧
    (up.a11 = none ∧ group.a11.isSome = true) ∧
    (let d := group.wr F.PG_SEGLEN_LEN 0 16
     Ready d ∧ d.a11.isSome = true ∧ d.segValid (d.rd ((F.PG_SEQA_SEG).at 0 8)) = true) ∧
    ((3 : Nat) ≤ 3 ∧ 2 ^ 22 - 1 < 2 ^ 22) :=
  ⟨⟨ready_of (by decide), ready_of (by decide), ready_of (by decide)⟩, by decide, by decide, by decide, by decide,
    ⟨ready_of (by decide), by decide⟩, by decide⟩

/-- Time base `i` changed. -/
def base (i : Fin 4) (f : Tb → Tb) : Dev := { up with tu := { up.tu with tbs := vset up.tu.tbs i f } }

theorem wit_TimeEvents :
    (∀ i : Fin 4, (up.tb i).offs = [] ∧ (up.tb i).moves = [] ∧ (up.tb i).applied ≠ some up.now ∧
      ((base i fun t => { t with applied := some 0 }).tb i).applied = some (base i fun t => { t with applied := some 0 }).now) ∧
    (∀ i : Fin 4, ∀ o : Offset, ((base i fun t => { t with offs := [o] }).tb i).offs = o :: []) ∧
    (let o : Offset := { source := 3, theta := 0, epoch := 1 }
     (o.source = 2 ∨ o.source = 3) ∧ o.epoch ≠ (up.tb 0).steps) ∧
    (∀ i : Fin 4, up.stepMax i < ((up.stepMax i + 1).natAbs : Int) ∧ ((up.stepMax i).natAbs : Int) ≤ up.stepMax i) ∧
    ((∀ i : Fin 4, ((base i fun t => { t with moves := [(.set 5 999999999 7, .spi 0)] }).tb i).moves = (TbMove.set 5 999999999 7, Src.spi 0) :: []) ∧
      up.on F.TU_TBSTAT_VALID 3 = false) ∧
    (let f : FifoEntry := { src := 4 }
     let d : Dev := { up with tu := { up.tu with fifo := [f] } }
     d.tu.fifo = f :: [] ∧ (d.set F.TU_TTCTL_EN 7).tu.fifo = f :: [] ∧ (d.set F.TU_TTCTL_EN 7).fifoFw = true ∧ d.fwRun = true ∧ d.fifoFw = false) ∧
    up.on F.TU_PPSCFG_EDGE ≠ true ∧
    (let d := { ((up.setDon dTIME true).set F.TU_PPSCFG_EN).wr F.TU_TBCTL_SRC 2 2 with now := tickS / 2 - 1 }
     let e : Dev := { d with tu := { d.tu with lastEdge := some 0 } }
     e.pinsLive = true ∧ e.domOn dTIME = true ∧ e.on F.TU_PPSCFG_EN = true ∧ e.on F.TU_PPSCFG_EDGE = false ∧ e.tu.lastEdge = some 0 ∧
       e.now < 0 + tickS / 2 ∧ d.tu.lastEdge = none ∧ d.tbSrc 2 = 2 ∧ up.tbSrc 0 ≠ 2 ∧ up.tbSrc 1 ≠ 2 ∧ up.tbSrc 2 ≠ 2) ∧
    (let d := { ((base 0 fun t => { t with sec := 1, passed := true }).set F.TU_TBSTAT_VALID 0).set ((F.TU_PPSOUT_EN).at 1) with now := 0 }
     (d.setDon dTIME true).domOn dTIME = true ∧ d.on ((F.TU_PPSOUT_EN).at 1) = true ∧
       d.on F.TU_TBSTAT_VALID (d.rd ((F.TU_PPSOUT_TB).at 1)) = true ∧
       d.tu.ppsSec.getD 1 0 < (d.tb (d.rd ((F.TU_PPSOUT_TB).at 1))).sec ∧ (d.tb (d.rd ((F.TU_PPSOUT_TB).at 1))).passed = true ∧
       (up.tb 0).passed = false ∧
       2 * d.tu.ppsAt.getD 1 0 + 3125 * max 1 (d.rd ((F.TU_PPSOUT_WIDTH).at 1)) ≤ 2 * ({ d with now := 400000 }).now) :=
  ⟨by decide, fun i o => by revert i; exact fun i => match i with | 0 => rfl | 1 => rfl | 2 => rfl | 3 => rfl,
    by decide, by decide, by decide, by decide, by decide, by decide, by decide⟩

theorem wit_TimeCommands :
    (Ready up ∧ Ready (up.set F.TU_TBSTAT_VALID 3) ∧ Ready (up.wr F.TU_TBCTL_SRC 2 1) ∧ Ready ((up.wr F.TU_TBCTL_SRC 2 1).set F.TU_TBSTAT_VALID 2) ∧
      Ready (inLc 2) ∧ Ready { up with paths := [pathU 6] } ∧ Ready { up with paths := [path1 6] } ∧ Ready (up.set F.TU_TTCTL_EN 0)) ∧
    ((3 : Nat) ≤ 3 ∧ 3 < (4 : BitVec 8).toNat ∧ (0 : BitVec 16).toNat ≠ 0xFFFF ∧ 1000000 < (1000001 : Word32).toNat ∧
      (1000001 : Word32).toNat ≠ 0xFFFFFFFF ∧ (999999999 : Word32).toNat < 1000000000 ∧ 1000000000 ≤ (1000000000 : Word32).toNat) ∧
    up.on F.TU_TBSTAT_VALID 3 = false ∧ (inLc 2).expert = false ∧ up.expert = true ∧
    ((up.wr F.TU_TBCTL_SRC 2 1).tbSrc 2 = 1 ∧ (up.wr F.TU_TBCTL_SRC 2 1).on F.TU_TBSTAT_VALID 2 = false ∧
      ((up.wr F.TU_TBCTL_SRC 2 1).set F.TU_TBSTAT_VALID 2).tbSrc 2 = 1 ∧
      ((up.wr F.TU_TBCTL_SRC 2 1).set F.TU_TBSTAT_VALID 2).on F.TU_TBSTAT_VALID 2 = true ∧ up.tbSrc 3 ≠ 1) ∧
    up.on F.TU_TTCTL_EN 7 = false ∧ ({ up with paths := [path1 6] } : Dev).isC 0 = true ∧ (0 : BitVec 16).toNat ≠ 0x7FFF ∧ (0 : Word32).toNat ≠ 0x7FFFFFFF ∧ ({ up with paths := [pathU 6] } : Dev).isC 0 = false ∧
    (srcRoom (.spi 0) ≠ 118 ∧ (up.set F.TU_TTCTL_EN 0).fifoFw = true ∧ up.fifoFw = false) :=
  ⟨⟨ready_of (by decide), ready_of (by decide), ready_of (by decide), ready_of (by decide), ready_of (by decide), ready_of (by decide),
    ready_of (by decide), ready_of (by decide)⟩, by decide, by decide, by decide, by decide, by decide, by decide, by decide, by decide, by decide⟩

/-! ## Witnesses: the Whetstone -/

/-- The core runs the task given (0 none) with the REP count given. -/
def core (task rep : Nat) : Dev :=
  (((up.setDon dWHET true).wr F.WS_STAT_STATE 0 1).wr F.WS_STAT_TASK 0 task).mapBank (task - 1) fun b => { b with rep := rep }

/-- The same with the word at its PC uncorrectable. -/
def fetchBad1 : Dev := { core 1 0 with bad := [(.prog, 0)] }

theorem wit_WhetstoneMultiply :
    (∀ t : Fin 5, (core (t + 1) 0).wsTask = some t.val ∧ ((core (t + 1) 0).bank t.val).rep = 0 ∧ (core (t + 1) 0).fetchBad t.val = false) ∧
    (core 1 0).isBad .x 0 = false ∧ (core 1 0).isBad .y 0 = false ∧ fetchBad1.wsTask = some 0 ∧ fetchBad1.fetchBad 0 = true ∧
    (core 0 0).wsTask = none := by decide

theorem wit_WhetstoneArithmetic :
    (∀ t : Fin 5, (core (t + 1) 0).wsTask = some t.val ∧ ((core (t + 1) 0).bank t.val).rep = 0 ∧
      (core (t + 1) 0).fetchBad t.val = false ∧ t.val < 5) ∧ (core 0 0).wsTask = none ∧
    (let k := (core 1 0).bank 0
     let k1 := { k with ac := vset k.ac 0 fun _ => 1, r := vset (vset k.r 0 fun _ => 32767) 1 fun _ => 1 }
     k1.ac.getD 0 0 ≠ 0 ∧ -(2 ^ 39) ≤ k1.ac.getD 0 0 * 2 ^ 38 ∧ k1.ac.getD 0 0 * 2 ^ 38 < 2 ^ 39 ∧
       -32768 ≤ q15 (k1.r.getD 0 0) + q15 (k1.r.getD 2 0) ∧ q15 (k1.r.getD 0 0) + q15 (k1.r.getD 2 0) ≤ 32767 ∧
       -32768 ≤ q15 (k1.r.getD 0 0) - q15 (k1.r.getD 1 0) ∧ q15 (k1.r.getD 0 0) - q15 (k1.r.getD 1 0) ≤ 32767 ∧
       q15 (k1.r.getD 0 0) ≠ -32768 ∧ ¬(q15 0x8000 - 1 ≥ -32768) ∧ 32767 < q15 (k1.r.getD 0 0) + q15 (k1.r.getD 1 0)) ∧
    ((39 : Nat) < 40 ∧ (40 : Nat) ≤ 40) := by decide

theorem wit_WhetstoneMoves :
    ((core 1 0).wsTask = some 0 ∧ ((core 1 0).bank 0).rep = 0 ∧ (core 1 0).fetchBad 0 = false ∧
      (∀ w, (core 1 0).isBad (memOfA 0) (((core 1 0).bank 0).byteAt 0 w % 65536) = false) ∧ (core 0 0).wsTask = none) ∧
    (∃ t, exec (.st false 0 .p1 (.int 0) []) (mk (core 1 0)) = .next t) ∧
    (let w := ((core 1 0).bank 0).byteAt 0 false
     0 < w + 1 ∧ w + 1 < w + 2) := ⟨by decide, ⟨_, rfl⟩, by simp⟩

theorem wit_WhetstoneFlow :
    (((core 3 0).wsTask = some 2 ∧ ((core 3 0).bank 2).rep = 0 ∧ (core 3 0).fetchBad 2 = false ∧ (2 : Nat) ≤ 2 ∧ 65535 < 65536) ∧
      (let adv := (core 3 0).mapBank 2 fun x => { x with pc := (x.pc + 1) % 65536, z := true }
       (adv.bank 2).holds .eq = true ∧ (adv.bank 2).holds .ne = false ∧ ((core 3 0).bank 2).ret = [])) ∧
    (let d := (core 1 0).mapBank 0 fun x => { x with ret := [7, 9], seen := [.madcEnd 0] }
     let adv := d.mapBank 0 fun x => { x with pc := (x.pc + 1) % 65536 }
     d.wsTask = some 0 ∧ (d.bank 0).rep = 0 ∧ (adv.bank 0).ret = 7 :: [9] ∧ (adv.bank 0).seen.contains (.madcEnd 0) = true ∧
       (adv.bank 0).seen.contains (.madcEnd 1) = false) ∧
    ((core 1 1).wsTask = some 0 ∧ ((core 1 1).bank 0).rep ≠ 0 ∧ fetchBad1.wsTask = some 0 ∧ fetchBad1.fetchBad 0 = true) ∧
    ((core 0 0).wsTask = none ∧ (core 0 0).rd F.WS_STAT_STATE = 1 ∧ ((core 0 0).set F.WS_CTL_HALTREQ).on F.WS_CTL_HALTREQ = true ∧
      ((core 0 0).set F.WS_CTL_HALTREQ).wsTask = none ∧ ((core 0 0).set F.WS_CTL_HALTREQ).rd F.WS_STAT_STATE = 1) ∧
    (core 0 0).on F.WS_CTL_HALTREQ = false ∧ (core 0 0).domOn dWHET = true := by decide

theorem wit_RepeatedInstruction :
    (core 1 1).wsTask = some 0 ∧ ((core 1 1).bank 0).rep = 1 ∧ (core 1 1).fetchBad 0 = false ∧ (core 5 65536).fetchBad 4 = false ∧ (core 5 65536).wsTask = some 4 ∧ ((core 5 65536).bank 4).rep = 65536 ∧
      (65536 : Nat) ≠ 0 ∧ (4 : Nat) < 5 := by decide

theorem wit_WhetstoneControl :
    (let d := (core 0 0).mapWs fun w => { w with fresh := false }
     d.domOn dWHET = true ∧ d.rd F.WS_STAT_STATE = 1 ∧ d.ws.running = none ∧ d.ws.overran = [] ∧
       (d.bank (kindIdx .sys)).waiting = none ∧ d.wsTask = none ∧ (d.wr F.WS_STAT_STATE 0 2).rd F.WS_STAT_STATE = 2) ∧
    (let d := ((core 0 0).wr F.WS_STAT_STATE 0 3).mapWs fun w => { w with fresh := true, restartDue := true, rounds := 9998 }
     d.domOn dWHET = true ∧ d.rd F.WS_STAT_STATE = 3 ∧ d.rd F.WS_STAT_STATE ≠ 1 ∧ d.rd F.WS_STAT_STATE ≠ 2 ∧ d.ws.restartDue = true ∧
       d.fwRun = true ∧ d.on F.WS_CTL_RTSWAP = false ∧ d.ws.rounds < 9999 ∧ 9999 ≤ (d.mapWs fun w => { w with rounds := 9999 }).ws.rounds) ∧
    (let d := (core 0 0).set F.WS_CTL_RTSWAP
     d.domOn dWHET = true ∧ d.on F.WS_CTL_RTSWAP = true ∧ d.rd F.WS_STAT_STATE = 1) ∧
    (((core 0 0).mapWs fun w => { w with restarting := true }).ws.restarting = true) ∧
    (Ready (core 0 0) ∧ (core 0 0).domOn dWHET = true ∧ (core 0 0).rd F.WS_STAT_STATE = 1 ∧ (core 0 0).lc ≠ 3 ∧
      ((core 0 0).wr F.WS_STAT_STATE 0 2).rd F.WS_STAT_STATE ≠ 1) ∧
    (Ready (up.setDon dWHET false) ∧ (up.setDon dWHET false).domOn dWHET = false) ∧
    (Ready ((inLc 3).setDon dWHET true) ∧ ((inLc 3).setDon dWHET true).lc = 3 ∧ ((inLc 3).setDon dWHET true).expert = false ∧
      ((inLc 3).setDon dWHET true).domOn dWHET = true) ∧
    ((20 : BitVec 16).toNat ≤ 4095 ∧ 20 ≤ (4095 : BitVec 16).toNat ∧ (4095 : BitVec 16).toNat ≤ 4095 ∧ (19 : BitVec 16).toNat < 20) :=
  ⟨by decide, by decide, by decide, by decide, ⟨ready_of (by decide), by decide⟩, ⟨ready_of (by decide), by decide⟩,
    ⟨ready_of (by decide), by decide⟩, by decide⟩

/-- The default schedule may become active. -/
theorem wit_WhetstoneControl_table : ((core 0 0).set F.WS_CTL_RTSWAP).tableOk = true := by decide +kernel

/-- A table whose first LOOP run has 23 slots may not. -/
theorem wit_WhetstoneControl_bad : (((core 0 0).set F.WS_CTL_RTSWAP).wr ((F.WS_RTAB_TASK).at 23) 0 0).tableOk = false := by decide +kernel

/-- A slot whose owner is SYS. -/
theorem wit_WhetstoneControl_slot :
    let d := ((core 0 0).wr ((F.WS_RTACT_TASK).at 1) 0 5).mapWs fun w => { w with fresh := false }
    (d.rd F.WS_RTCUR_SLOT + 1) % 1024 = 1 ∧ (d.rtOwner 1).1 = kindIdx .sys + 1 := by decide

/-! ## Witnesses: the optics -/

/-- Bias and converter domains on or off. -/
def light (b m : Bool) : Dev := (up.setDon dBDAC b).setDon dMADC m

theorem wit_OpticsEvents :
    ((light false false).domOn dBDAC = false ∧ (light false false).domOn dMADC = false ∧ (light true false).domOn dBDAC = true ∧
      (light false true).domOn dMADC = true) ∧
    (∀ ch : Fin 16, ch.val = 0 ∨ ch.val = 15 → up.rd F.OC_BACT_CODE ch < 128 ∧ ((light true true).wr F.OC_BACT_CODE ch 127).rd F.OC_BACT_CODE ch < 128 ∧
      128 ≤ ((light true true).wr F.OC_BACT_CODE ch 128).rd F.OC_BACT_CODE ch ∧ ((light true true).wr F.OC_BACT_CODE ch 128).domOn dBDAC = true) ∧
    (∀ c : Fin 2, up.madcTrig c ≠ 0 ∧
      (let d := (((light true true).wr F.OC_MACTL_TRIG c 0).set F.OC_MACTL_GO c).set F.OC_MACTL_EN c
       d.domOn dMADC = true ∧ d.madcTrig c = 0 ∧ d.madcDue c 0 = true ∧ d.on F.OC_MACTL_EN c = true ∧ d.madcBusy c = false ∧
         (d.set F.OC_MASTAT_BUSY c).madcBusy c = true ∧ (d.wr F.OC_MACTL_TRIG c 4).madcTrig c = 4)) ∧
    up.comDue = false ∧
    (let d := (light true true).set F.OC_MACOM_GO
     let l := ((d.set F.OC_MACTL_EN 0).wr F.OC_MACTL_TRIG 0 4)
     d.domOn dMADC = true ∧ d.comDue = true ∧ (d.conv 0).inj = false ∧ l.comDue = true ∧
       ([0, 1].filter fun j => l.on F.OC_MACTL_EN j && l.madcTrig j == 4) = [0] ∧ l.madcBusy 0 = false ∧
       ((l.mapMadc 0 fun m => { m with inj := true }).conv 0).inj = true) ∧
    (∀ c : Fin 2, (up.conv c).inj = false ∧ up.on F.OC_MASTAT_BUSY c = false ∧ up.on F.OC_MASTAT_CAL c = false ∧
      (up.set F.OC_MASTAT_CAL c).on F.OC_MASTAT_CAL c = true ∧ up.mgmt.outst = [] ∧ up.optics.ospiq.getD c [] = []) ∧
    (let d := (up.set F.OC_MASTAT_BUSY 1).mapMadc 1 fun m => { m with inj := false, seq := [(3, 1, 0)], done := 0, calWait := false }
     (d.conv 1).inj = false ∧ d.on F.OC_MASTAT_BUSY 1 = true ∧ (d.conv 1).seq[(d.conv 1).done]? = some (3, 1, 0) ∧
       (d.conv 1).done + 1 = (d.conv 1).seq.length ∧ (d.conv 1).done + 1 < (((3, 1, 0) :: (d.conv 1).seq)).length ∧
       ((d.mapMadc 1 fun m => { m with inj := true }).conv 1).inj = true ∧ d.on F.OC_MASTAT_INJPEND 1 = false ∧ (d.conv 1).calWait = false) ∧
    (let f : OspiFrame := { acc := .mgmt, own := false, tag := 3, frame := 2 ^ 31 }
     let r : Accessor × OspiResult := (.mgmt, { data := 0, tag := 0, bus := 0 })
     let d := up.mapOpt fun o => { o with ospiq := vset o.ospiq 1 fun _ => [f], ospir := List.replicate 7 r }
     d.optics.ospiq.getD 1 [] = [f] ∧ f.own = false ∧ d.mgmt.outst = [] ∧ (d.optics.ospir.filter fun r => r.1 == f.acc).length < 8) :=
  ⟨by decide, by decide, by decide, by decide, by decide, by decide, by decide, by decide⟩

theorem wit_OpticsCommands :
    (Ready (light true true) ∧ Ready (light false false)) ∧ (light true true).domOn dBDAC = true ∧ (light true true).domOn dMADC = true ∧ (light true true).biasLoop 15 = none ∧
    ((light true true).loop 7).state = 0 ∧ ((1 : Byte).toNat ≤ 1 ∧ (0 : Byte).toNat ≠ 1) ∧
    ((15 : Byte).toNat ≤ 15 ∧ 15 < (16 : Byte).toNat ∧ (16383 : BitVec 16).toNat ≤ 16383 ∧ 16383 < (16384 : BitVec 16).toNat ∧
      (16384 : BitVec 16).toNat ≠ 0xFFFF ∧ (0xFFFFFFFE : Word32).toNat ≠ 0xFFFFFFFF ∧ (27 : Byte).toNat ≤ 27 ∧ 27 < (28 : Byte).toNat) ∧
    (let d := (light true true).mapLoop 7 fun l => { l with state := 1, cfg := { l.cfg with lch := 14, mch := 15 } }
     Ready d ∧ (d.biasLoop 15).isSome = true ∧ (15 : Nat) ≠ (d.loop 7).cfg.lch ∧ (d.loop 7).state ≠ 0 ∧ d.domOn dBDAC = true) ∧
    (let d := light true true
     d.on F.OC_MASTAT_CAL 1 = false ∧ d.on F.OC_MASTAT_BUSY 1 = false ∧ d.on F.OC_MASTAT_INJPEND 1 = false) ∧
    ((List.replicate 8 (0 : Word32)).length = (8 : Byte).toNat ∧ 0 < (1 : Byte).toNat ∧ (8 : Byte).toNat ≤ 8) :=
  ⟨⟨ready_of (by decide), ready_of (by decide)⟩, by decide, by decide, by decide, by decide, by decide, by decide, ⟨ready_of (by decide), by decide⟩, by decide, by decide⟩

/-! ## Witnesses: the management interfaces -/

/-- The legacy window open, with the write queue given. -/
def legacy (q : List (Nat × Nat)) : Dev := ((up.set F.GLB_STAT_LEGACY).set F.GLB_STAT_FWRUN).mapMgmt fun m => { m with legq := q }

/-- An export session with its last chunk to repeat. -/
def session : Session := { mode := 0, next := 0, last := 0, chunk := 0, again := some [1] }

/-- A whole frame: SYS.ID.GET with tag 7. -/
def idFrame : List Byte :=
  let h : List Byte := [0xA0, 0x00, 7, 0, 0, 0]
  h ++ be 2 (crc16 h)

theorem wit_ManagementPorts :
    (up.spiUp = true ∧ up.mgmt.rspq.length < 8 ∧ up.mgmt.rspq = [] ∧
      8 ≤ (up.mapMgmt fun m => { m with rspq := List.replicate 8 [1] }).mgmt.rspq.length ∧ ([] : List Byte).length < 8) ∧
    (8 ≤ idFrame.length ∧ idFrame.length = 8 + fieldAt idFrame 4 2 ∧ fieldAt idFrame 3 1 = 0 ∧
      crc16 (idFrame.take 6 ++ idFrame.drop 8) = fieldAt idFrame 6 2 ∧ (idFrame ++ [0]).length ≠ 8 + fieldAt (idFrame ++ [0]) 4 2 ∧
      fieldAt [0xA0, 0, 7, 1, 0, 0, 0, 0] 3 1 ≠ 0) ∧
    (up.phase = .fw ∧ (kciRow 0xA000).isSome = true ∧ (requestTable.find? fun r => r.1 == 0xA000).any (fun r => r.1 == 0xA000) = true ∧
      (kciRow 0xA000).any (fun r => r.2.fits [] && !r.2.fits [0]) = true ∧ (kciRow 0xACFF).isSome = false) ∧
    (up.mapMgmt fun m => { m with rspq := [[1], [2]] }).mgmt.rspq = [1] :: [[2]] ∧
    up.pot.session = none ∧
    (let d := (inLc 3).mapPot fun p => { p with session := some session }
     let e := (inLc 3).mapPot fun p => { p with session := some { session with again := none } }
     d.spiUp = true ∧ d.pot.session = some session ∧ d.fwRun = true ∧ d.potReady = true ∧ session.again = some [1] ∧
       e.spiUp = true ∧ e.fwRun = true ∧ e.potReady = true ∧ e.pot.session = some { session with again := none } ∧ session.mode = 0) ∧
    ((legacy (List.replicate 63 (0x20, 1))).legOn = true ∧ (legacy (List.replicate 63 (0x20, 1))).mgmt.legq.length < 64 ∧
      64 ≤ (legacy (List.replicate 64 (0x20, 1))).mgmt.legq.length ∧ (legacy (List.replicate 64 (0x20, 1))).legOn = true ∧
      2 ≤ (legacyCov 1).1 ∧ (legacyCov 0x10).1 < 2 ∧
      (((legacy []).mapMgmt fun m => { m with legCache := [(0x10, 5)] }).mgmt.legCache.find? fun c => c.1 == 0x10) = some (0x10, 5) ∧
      ((legacy []).mgmt.legCache.find? fun c => c.1 == 0x10) = none ∧
      (legacy [(1, 5)]).fwRun = true ∧ (legacy [(1, 5)]).mgmt.legq = (1, 5) :: []) ∧
    Ready up ∧ ({ up with phase := .off } : Dev).spiUp = false :=
  ⟨by decide, by decide, by decide, by decide, by decide, by decide, by decide, ready_of (by decide), by decide⟩

/-- Selected on the two-wire bus. -/
def sel : Dev := up.mapMgmt fun m => { m with modselHigh := false }

/-- A lane map: module lane 0 is host lane 0 of the Upper, lane 2 host lane 2 of the Lower, the others stand for none. -/
def mapRecord : Record :=
  { type := 4, flags := 0, src := 0x0801, seq := 0, tsec := 0, tns := 0, payload := (0 : Byte) :: 255 :: 130 :: List.replicate 13 255 }

/-- A pair's firmware: attached, with a lane map that gives module lane 0 to this device, lane 2 to the twin and no other. -/
def mapped : Dev :=
  (sel.mapPot fun p => { p with mounted := true, conf := [mapRecord] }).wr
    F.XC_STAT_STATE 0 3

/-- An accepted D command on lane 0. -/
def path0Busy : Accepted := ⟨.spi 1, 0xA100, .d, 0, 1, 0, .start⟩

theorem wit_CmisEvents :
    (sel.fwRun = true ∧ sel.twoWire = true ∧ sel.cmisOn = true ∧ sel.attached = false ∧ sel.pinsLive = true ∧ sel.xc.swap = false ∧
      sel.mgmt.appselWait = [] ∧ sel.answers 0x50 = true) ∧
    ({ sel with phase := .off } : Dev).fwRun = false ∧ ({ sel with phase := .off } : Dev).cmisOn = false ∧
    ({ sel with jtag := { sel.jtag with ir := .extest } } : Dev).pinsLive = false ∧
    (let d := (sel.wr F.XC_STAT_STATE 0 3).mapXc fun x => { x with swap := true }
     d.pinsLive = true ∧ d.xc.swap = true ∧ d.attached = true) ∧
    (sel.cmisLane 0 = some (false, 0) ∧ sel.cmisLane 15 = some (false, 15) ∧
      (sel.appselBlock ⟨0, 4, 1, 0, 0, 0, 0⟩).isSome = false ∧
      (let d := sel.mapMgmt fun m => { m with outst := [path0Busy] }
       (d.appselBlock ⟨0, 4, 1, 0, 0, 0, 0⟩).isSome = true ∧ d.mgmt.appselWait = [] ∧ d.cmisOn = true ∧ d.cmisLane 0 = some (false, 0))) ∧
    (mapped.cmisOn = true ∧ mapped.attached = true ∧ mapped.cmisLane 0 = some (false, 0) ∧ mapped.cmisLane 2 = some (true, 2) ∧ mapped.cmisLane 1 = none) := by decide

theorem wit_CdbCommands :
    (∀ i : Fin 2, sel.phase = .fw ∧ sel.twoWire = true ∧ (sel.mgmt.cdb.get i).busy = false ∧
      ((sel.mapMgmt fun m => { m with cdb := vset m.cdb i fun c => { c with busy := true } }).mgmt.cdb.get i).busy = true) ∧
    ((0 : Byte).toNat ≠ cdbChk 0x0040 [] ∧ cdbChk 0x0040 [] < 256 ∧ 120 < (List.replicate 121 (0 : Byte)).length ∧
      (List.replicate 120 (0 : Byte)).length ≤ 120 ∧ (0x9FFF : BitVec 16).toNat < 0xA000 ∧
      (stdTable.find? fun r => r.1 == 0x9FFF).isNone = true ∧ 0xA000 ≤ (0xACFF : BitVec 16).toNat ∧ (0xACFF : BitVec 16).toNat ≤ 0xACFF) ∧
    (∀ i : Fin 2, sel.stdAdmits i 0x0000 .q = true ∧ sel.stdAdmits i 0x0040 .q = true ∧ sel.stdAdmits i 0x0041 .q = true ∧
      sel.stdAdmits i 0x0100 .q = true ∧ sel.stdAdmits i 0x0107 .q = true ∧ sel.stdAdmits i 0x0102 .q = true ∧
      sel.stdAdmits i 0x0101 .q = true ∧ sel.stdAdmits i 0x0103 .f = true ∧ sel.stdAdmits i 0x0109 .s = true ∧
      sel.stdAdmits i 0x010A .s = true) ∧
    ((sel.arrives 0x0101).accepted.trialSlot = 0 ∧ (sel.arrives 0x0103).accepted.sec.download = none ∧
      (sel.arrives 0x0107).accepted.sec.download = none ∧
      ((sel.arrives 0x0109).accepted.slotImage (sel.arrives 0x0109).accepted.freeSlot).good = true ∧
      (sel.arrives 0x010A).accepted.commitWords = none) :=
  ⟨by decide, by decide, by decide, by decide⟩

/-- A download, a bad slot, and a running trial. -/
theorem wit_CdbCommands_slots :
    (let d := sel.mapSec fun y => { y with download := some (1, [3, 4]), slotA := { y.slotA with good := false }, slotB := { y.slotB with good := false } }
     d.stdAdmits 0 0x0103 .f = true ∧ (d.arrives 0x0103).accepted.sec.download = some (1, [3, 4]) ∧
       d.stdAdmits 0 0x0107 .q = true ∧ (d.arrives 0x0107).accepted.sec.download = some (1, [3, 4]) ∧
       d.stdAdmits 0 0x0109 .s = true ∧ ((d.arrives 0x0109).accepted.slotImage (d.arrives 0x0109).accepted.freeSlot).good = false ∧
       (2 : Word32).toNat = [3, 4].length ∧ (3 : Word32).toNat ≠ [3, 4].length ∧ (List.replicate 116 (0 : Byte)).length ≤ 116 ∧
       116 < (List.replicate 117 (0 : Byte)).length) ∧
    (let d := { sel with vote := { sel.vote with flops := Vector.replicate 3 ((List.replicate 16 0).set 3 0x21) } }.wr F.GLB_STAT_BOOT 0 2
     d.stdAdmits 0 0x0101 .q = true ∧ (d.arrives 0x0101).accepted.trialSlot ≠ 0 ∧
       d.stdAdmits 0 0x010A .s = true ∧ (d.arrives 0x010A).accepted.commitWords.isSome = true) :=
  ⟨by decide, by decide⟩

/-- Another command of the SPI accepted and not complete. -/
def busy : Accepted := ⟨.spi 1, 0xA400, .c, 0, 0, 0, .start⟩

theorem wit_IdentityRelay :
    Ready up ∧ up.mgmt.outst = [] ∧
    ((up.mapMgmt fun m => { m with outst := [busy] }).admits (.spi 0) 0xA001 .c = true ∧
      ((up.mapMgmt fun m => { m with outst := [busy] }).arrives 0xA001).mgmt.outst = busy :: []) ∧
    (let d := (up.setDon dXCUT true).mapXc fun x => { x with seen := [255] }
     let e := d.wr F.XC_STAT_STATE 0 3
     let s := ((inLc 2).set F.SEC_ATT_SIGOK).wr F.SEC_ATT_TOKENS 0 63
     (up.setDon dXCUT false).domOn dXCUT = false ∧ d.domOn dXCUT = true ∧ d.xc.seen.contains (255 : Byte).toNat = true ∧ d.xc.seen.contains (0 : Byte).toNat = false ∧
       (d.taken 0 7).fwRun = true ∧ (d.taken 0 7).attached = false ∧ (e.taken 0 7).attached = true ∧ (e.taken 0 7).fwRun = true ∧
       8 ≤ idFrame.length ∧ (e.taken 0 7).commitWords.isSome = false ∧ (d.taken 0 7).canSign = false ∧
       ((s.setDon dXCUT true).taken 0 7).canSign = true) ∧
    (let d := (({ up with vote := { up.vote with flops := Vector.replicate 3 ((List.replicate 16 0).set 3 0x21) } }.wr F.GLB_STAT_BOOT 0 2).setDon
      dXCUT true).wr F.XC_STAT_STATE 0 3
     d.xc.seen.contains (0 : Byte).toNat = false ∧ (d.taken 0 7).attached = true ∧ (d.taken 0 7).commitWords.isSome = true) :=
  ⟨ready_of (by decide), by decide, by decide, by decide, by decide⟩

/-! ## Witnesses: the twin, power and resets -/

/-- XCUT on, the device strapped B, the state of the pair given. -/
def pair (st : Nat) : Dev := ((up.setDon dXCUT true).wr F.XC_STAT_STATE 0 st).mapMgmt fun m => { m with twinId := 2, endpt := true }

/-- The far end's handshake that every check passes. -/
def farEnd : AttachInfo :=
  { part := up.rd F.GLB_ID_PART, isB := false, xproto := 1, xmin := 1, mapCrc := crc16 [], cred := .full [] [],
    serial := 3, fwver := 1 }

/-- A read of the far end that waits, with tag 1. -/
def ask : XAsk := { tag := 1 }

theorem wit_TwinCells :
    ((pair 3).domOn dXCUT = true ∧ (0 : Byte).toNat ≤ 13 ∧ 13 < (14 : Byte).toNat) ∧
    (((pair 3).mapXc fun x => { x with seen := [255] }).xc.seen.contains (255 : Byte).toNat = true ∧
      (pair 3).xc.seen.contains (255 : Byte).toNat = false) ∧
    (((pair 3).taken 255 8).attached = true ∧ ((pair 3).taken 255 4).attached = true ∧ ((pair 3).taken 255 6).attached = true ∧
      ((pair 3).taken 255 9).attached = true ∧ ((pair 3).taken 0 2).rd F.XC_STAT_STATE = 3 ∧ ((pair 1).taken 0 2).rd F.XC_STAT_STATE = 1) ∧
    (let d := (pair 2).taken 0 2
     d.rd F.XC_STAT_STATE = 2 ∧ ({ farEnd with part := farEnd.part + 1 } : AttachInfo).part ≠ d.rd F.GLB_ID_PART ∧
       farEnd.part = d.rd F.GLB_ID_PART ∧ ¬(farEnd.isB = true ↔ d.mgmt.twinId = 2) ∧ (({ farEnd with isB := true } : AttachInfo).isB = true ↔ d.mgmt.twinId = 2)) ∧
    (({ farEnd with mapCrc := farEnd.mapCrc + 1 } : AttachInfo).mapCrc ≠ crc16 ((((pair 2).taken 0 2).conf 0x0801).getD [])) ∧
    (((pair 2).mapXc fun x => { x with asks := [] }).taken 0 11).xc.asks = [] ∧
    (let d := (pair 3).mapXc fun x => { x with asks := [ask] }
     ((d.taken 0 11).xc.asks.find? fun a => a.tag == fieldAt [1] 0 1) = some ask) ∧
    ((pair 3).taken 0 5).xc.part = none ∧ (((pair 3).mapXc fun x => { x with part := some [] }).taken 0 5).xc.part = some [] ∧
    ((pair 1).taken 0 9).attached = false ∧ ((pair 1).taken 0 8).attached = false ∧ ((pair 1).taken 0 4).attached = false ∧
    ((pair 1).taken 0 6).attached = false ∧ ((pair 1).taken 0 5).attached = false ∧ ((pair 3).taken 0 5).attached = true :=
  ⟨by decide, by decide, by decide, by decide, by decide, by decide, by decide, by decide, by decide, by decide, by decide, by decide,
    by decide, by decide, by decide⟩

/-- The version checks of the handshake, passed and failed. -/
theorem wit_TwinCells_versions :
    (let d := ((pair 2).mapSec fun y => { y with running := { y.running with xproto := 1, xmin := 1 } }).taken 0 2
     farEnd.xmin.toNat ≤ d.sec.running.xproto ∧ d.sec.running.xmin ≤ farEnd.xproto.toNat ∧
       farEnd.mapCrc = crc16 ((d.conf 0x0801).getD []) ∧ d.rd F.XC_STAT_STATE = 2 ∧ farEnd.part = d.rd F.GLB_ID_PART ∧
       d.sec.running.xproto < ({ farEnd with xmin := 2 } : AttachInfo).xmin.toNat ∧
       ({ farEnd with xproto := 0 } : AttachInfo).xproto.toNat < d.sec.running.xmin) := by decide

theorem wit_TwinEvents :
    (let d := ((pair 1).set F.XC_CTL_ATTEN).mapXc fun x => { x with failed := false, stepping := false, sentReady := true, rxReady := 63 }
     d.domOn dXCUT = true ∧ d.mgmt.twinId ≠ 0 ∧ d.on F.XC_CTL_ATTEN = true ∧ d.xc.failed = false ∧ d.xc.stepping = false ∧
       d.rd F.XC_STAT_STATE = 1 ∧ d.xc.sentReady = true ∧ 63 ≤ d.xc.rxReady ∧ (d.mapXc fun x => { x with rxReady := 62 }).xc.rxReady < 63 ∧
       (d.wr F.XC_STAT_STATE 0 4).rd F.XC_STAT_STATE = 4 ∧
       (iter 2 (fun l e => e.wr F.XC_LANE_RXLOCK l 1) (d.mapXc fun x => { x with sentReady := false })).rxLocks = 2) ∧
    ((pair 1).mapXc fun x => { x with stepping := true }).xc.stepping = true ∧
    (let d := (pair 3).mapXc fun x => { x with trained := true }
     d.xc.trained = true ∧ d.on F.XC_STAT_RXSLEEP = false ∧ (d.set F.XC_STAT_RXSLEEP).on F.XC_STAT_RXSLEEP = true ∧
       (d.set F.XC_STAT_RXSLEEP).xc.trained = true ∧ (pair 1).xc.stepping = false ∧
       d.now < max d.xc.rxSleepAt (d.xc.lastHb.getD 0) + 2 * tickMs ∧
       (let e : Dev := { d.set F.XC_STAT_RXSLEEP with now := 2 * tickMs }
        max e.xc.rxSleepAt (e.xc.lastHb.getD 0) + 2 * tickMs ≤ e.now ∧ e.xc.trained = true ∧ e.on F.XC_STAT_RXSLEEP = true)) ∧
    (pair 3).xc.trained = false ∧
    (let d := ((pair 3).set F.XC_HB_ALIVE).clr F.XC_STAT_TXSLEEP
     d.domOn dXCUT = true ∧ d.on F.XC_HB_ALIVE = true ∧ d.rd F.XC_STAT_STATE ≠ 0 ∧ d.on F.XC_STAT_TXSLEEP = false ∧
       (d.clr F.XC_HB_ALIVE).on F.XC_HB_ALIVE = false ∧ (d.set F.XC_STAT_TXSLEEP).on F.XC_STAT_TXSLEEP = true ∧
       d.now < d.xc.kickAt + 25000 ∧ ({ d with now := 25000 } : Dev).xc.kickAt + 25000 ≤ ({ d with now := 25000 } : Dev).now) ∧
    ((pair 3).attached = true ∧ (pair 3).on F.XC_STAT_RXSLEEP = false ∧ (pair 3).hbOld = true ∧ (pair 3).rd F.XC_STAT_ROLE ≠ 2 ∧
      ((pair 3).wr F.XC_STAT_ROLE 0 2).rd F.XC_STAT_ROLE = 2 ∧ ((pair 3).wr F.XC_STAT_ROLE 0 2).attached = true) ∧
    (let d := ((pair 3).wr F.XC_FLTCFG_SRC 0 0b1001).clr F.XC_FLTCFG_PINEN
     d.attached = true ∧ (d.rd F.XC_FLTCFG_SRC).testBit 0 = true ∧ (d.rd F.XC_FLTCFG_SRC).testBit 3 = true ∧
       (d.rd F.XC_FLTCFG_SRC).testBit 1 = false ∧ d.on F.XC_FLTCFG_PINEN = false ∧ (pair 1).attached = false ∧ d.pinsLive = true ∧
       (d.set F.XC_FLTCFG_PINEN).attached = true ∧ (d.set F.XC_FLTCFG_PINEN).on F.XC_FLTCFG_PINEN = true ∧ d.xc.acted = none) ∧
    ((pair 3).mapXc fun x => { x with rreq := some (3, []) }).xc.rreq = some (3, []) ∧
    ((pair 3).attached = true ∧ (pair 3).mgmt.endpt = true ∧ (pair 3).fwRun = true ∧ ((pair 3).setEndpt false).mgmt.endpt = false ∧
      ((pair 1).setDon dXCUT false).domOn dXCUT = false) :=
  ⟨by decide, by decide, by decide, by decide, by decide, by decide, by decide, by decide, by decide⟩

/-- A running trial on an attached endpoint. -/
def pairTrial : Dev :=
  { pair 3 with vote := { up.vote with flops := Vector.replicate 3 ((List.replicate 16 0).set 3 0x21) } }.wr F.GLB_STAT_BOOT 0 2

theorem wit_TwinCommands :
    (Ready (pair 3) ∧ Ready (pair 1) ∧ Ready up ∧ Ready ((pair 3).mapXc fun x => { x with far := some farEnd }) ∧
      Ready (((pair 1).setDon dXCUT false).mapXc fun x => { x with far := some farEnd }) ∧ Ready ((pair 1).mapXc fun x => { x with trained := true }) ∧
      Ready ((pair 3).mapXc fun x => { x with upg := 1 }) ∧ Ready pairTrial) ∧
    ((pair 3).domOn dXCUT = true ∧ ((pair 1).setDon dXCUT false).domOn dXCUT = false ∧ (pair 1).domOn dXCUT = true) ∧
    ((pair 3).mgmt.twinId ≠ 0 ∧ up.mgmt.twinId = 0 ∧ (pair 3).attached = true ∧ (pair 1).attached = false ∧ (pair 1).xc.trained = false ∧
      (pair 3).on F.XC_CTL_DETACH = false ∧ ((pair 3).set F.XC_CTL_DETACH).on F.XC_CTL_DETACH = true ∧ (pair 3).mgmt.endpt = true ∧
      ((pair 3).setEndpt false).mgmt.endpt = false ∧ (pair 3).xc.upg = 0 ∧ (pair 3).xc.twinDown = false ∧ (pair 3).xc.far = none ∧
      ((pair 3).mapXc fun x => { x with twinDown := true }).xc.twinDown = true) ∧
    ((pair 3).commitWords = none ∧ pairTrial.commitWords.isSome = true ∧ pairTrial.attached = true ∧ pairTrial.mgmt.endpt = true ∧
      pairTrial.xc.upg = 0 ∧ ((pair 3).slotImage (pair 3).freeSlot).good = true) ∧
    ((1 < (2 : Byte).toNat ∧ (2 : Byte).toNat ≠ 0xFF) ∧ (3 < (4 : Byte).toNat ∧ (4 : Byte).toNat ≠ 0xFF) ∧ (15 < (16 : Byte).toNat ∧ (16 : Byte).toNat ≠ 0xFF) ∧
      (7 < (8 : Byte).toNat ∧ (8 : Byte).toNat ≠ 0xFF) ∧ (0xFF : Byte).toNat = 0xFF ∧ (0 : Byte).toNat = 0 ∧ (3 : Byte).toNat = 3) ∧
    (8 ≤ idFrame.length ∧ idFrame.length ≤ 1016 ∧ 1016 < (List.replicate 1017 (0 : Byte)).length ∧
      (relayCls (fieldAt idFrame 0 2)).isSome = true ∧ (relayCls (fieldAt [0xAF, 0xFF] 0 2)).isSome = false) :=
  ⟨⟨ready_of (by decide), ready_of (by decide), ready_of (by decide), ready_of (by decide), ready_of (by decide), ready_of (by decide),
    ready_of (by decide), ready_of (by decide)⟩, by decide, by decide, by decide, by decide, by decide⟩

/-- A device in the phase given, MGMT on. -/
def inPhase (p : Phase) : Dev := { (up.setDon dMGMT true).mapSec fun x => { x with serial := 0, grade := 0 } with phase := p }

theorem wit_ResetAndBoot :
    ((inPhase .fw).phase ≠ .held ∧ (inPhase .held).phase = .held) ∧
    ((inPhase .rising).phase = .rising ∧ (inPhase .rising).vote.best.isSome = true ∧
      ({ inPhase .rising with vote := { up.vote with copies := Vector.replicate 3 { gen := 1, words := [], valid := false } } } : Dev).vote.best = none) ∧
    (let s := ({ inPhase .aon with vote := { up.vote with flops := Vector.replicate 3 ((List.replicate 16 0).set 3 1) } } : Dev).mapPower fun p => { p with boot := 1 }
     let d := (((s.wr F.PW_STAT_CMIS 0 0).demand dSEC).demand dSTOCK).glbFused
     s.phase = .aon ∧ s.domOn dMGMT = true ∧ s.power.boot = 1 ∧ d.on F.MI_VSTAT_LOADERR = false ∧
       (d.set F.MI_VSTAT_LOADERR).on F.MI_VSTAT_LOADERR = true ∧
       (d.bootTwin.shadowRepair.bootOrder.1.find? d.bootTwin.shadowRepair.bootOrder.2.slotOk).isSome = true) ∧
    (let s := ((inPhase .aon).mapPower fun p => { p with boot := 1 }).mapSec fun x =>
       { x with slotA := { x.slotA with good := false }, slotB := { x.slotB with good := false } }
     let d := (((s.wr F.PW_STAT_CMIS 0 0).demand dSEC).demand dSTOCK).glbFused
     d.bootTwin.shadowRepair.bootOrder.1.find? d.bootTwin.shadowRepair.bootOrder.2.slotOk = none) ∧
    (let d := (inPhase .rom).clr F.GLB_STAT_SRAMRDY
     d.phase = .rom ∧ d.domOn dMGMT = true ∧ d.on F.GLB_STAT_SRAMRDY = false ∧ d.power.boot ≠ 2 ∧ d.power.boot = 0 ∧
       (d.mapPower fun p => { p with boot := 2 }).power.boot = 2 ∧ d.domOn dSEC = true ∧ d.domOn dSTOCK = true) ∧
    (up.fwRun = true ∧ up.mgmt.resetDue = false ∧ (up.mapMgmt fun m => { m with resetDue := true }).mgmt.resetDue = true) :=
  ⟨by decide, by decide, by decide, by decide, by decide, by decide⟩

theorem wit_PowerAndClocks :
    (let d := ((up.wr F.PW_STAT_CMIS 0 1).set F.PW_STAT_AVSSET).mapMgmt fun m => { m with lpmode := false, lowPwrSW := false }
     d.fwRun = true ∧ d.lowReq = false ∧ d.rd F.PW_STAT_CMIS = 1 ∧ d.on F.PW_STAT_AVSSET = true ∧
       (d.mapPower fun p => { p with upStep := 2 }).power.upStep = 2 ∧ d.ws.restarting = false ∧ d.power.upStep ≠ 2) ∧
    (let d := up.mapMgmt fun m => { m with lowPwrSW := true }
     d.fwRun = true ∧ d.lowReq = true ∧ d.rd F.PW_STAT_CMIS = 3) ∧
    ((up.wr F.PW_AVS_DUTY 0 9).rd F.PW_AVS_DUTY ≠ 0 ∧ (up.wr F.PW_AVS_DUTY 0 0).rd F.PW_AVS_DUTY = 0 ∧ (inPhase .off).fwRun = false) ∧
    (Accessor.ws ≠ Accessor.mgmt) ∧
    (let d := up.mapPower fun p => { p with waking := 2 ^ 79 + 1, downing := 2 ^ 79 + 1 }
     d.power.waking.testBit 0 = true ∧ d.power.waking.testBit 79 = true ∧ (79 : Nat) ≠ dXCUT ∧ d.power.waking.testBit 1 = false ∧
       d.power.downing.testBit 79 = true ∧ d.power.downing.testBit 78 = false) ∧
    (let d := (inPhase .rom).set F.PW_CLKSTAT_REFOK
     d.aonUp = true ∧ d.on F.PW_CLKSTAT_REFOK = true ∧ (d.clr F.PW_CLKSTAT_REFOK).on F.PW_CLKSTAT_REFOK = false ∧ d.fwRun = false ∧
       d.attached = false ∧ (d.setDon dBDAC false).domOn dBDAC = false ∧ (d.setDon dBDAC false).aonUp = true) ∧
    (inPhase .off).aonUp = false :=
  ⟨by decide, by decide, by decide, by decide, by decide, by decide, by decide⟩

theorem wit_OffAonAndPowerCommands :
    up.offReady = false ∧
    (let d := up.mapMgmt fun m => { m with offDue := true }
     d.offReady = true ∧ d.attached = false ∧ d.flush.mgmt.wakeLatched = 0 ∧ d.fwRun = true ∧ d.mgmt.offDue = true) ∧
    (let d := ((inPhase .off).set F.PW_WAKE_TMR).wr F.PW_WAKETMR_SEC 0 1
     d.phase = .off ∧ d.wakeEn 0 = 0 ∧ d.wakeEn 15 ≠ 0 ∧ d.on F.PW_WAKE_TMR = true ∧ d.rd F.PW_WAKETMR_SEC ≠ 0 ∧
       (d.wr F.PW_WAKETMR_SEC 0 0).rd F.PW_WAKETMR_SEC = 0 ∧ up.mgmt.offDue = false ∧ up.wakeEn 0 = 0 ∧
       (up.set F.PW_WAKE_TMR).wakeEn 8 ≠ 0 ∧ (up.set F.PW_WAKE_TMR).phase ≠ .off ∧ (up.set F.PW_WAKE_TMR).mgmt.offDue = false) ∧
    (Ready up ∧ Ready (up.wr F.PW_STAT_CMIS 0 1) ∧ Ready (up.set F.PW_STAT_TTRIP)) ∧
    (srcHost (.spi 0) = true ∧ srcHost (.applet 0) = false ∧ (2 < (3 : Byte).toNat ∧ (254 : Byte).toNat ≠ 255) ∧ 15 < (16 : Byte).toNat ∧
      up.mgmt.outst = [] ∧ up.rd F.PW_STAT_CMIS ≠ 1 ∧ (up.wr F.PW_STAT_CMIS 0 1).rd F.PW_STAT_CMIS = 1 ∧ up.on F.PW_STAT_TTRIP = false ∧
      (up.set F.PW_STAT_TTRIP).on F.PW_STAT_TTRIP = true) ∧
    ((up.mapMgmt fun m => { m with outst := [busy] }).mgmt.outst = busy :: [] ∧
      (up.mapMgmt fun m => { m with outst := [busy] }).admits (.spi 0) 0xA051 .c = true ∧
      (applet 3 2).admits (.applet 0) 0xA051 .c = true) :=
  ⟨by decide, by decide, by decide, ⟨ready_of (by decide), ready_of (by decide), ready_of (by decide)⟩, by decide, by decide⟩

/-! ## Witnesses: the register window -/

/-- Every domain of the window on, channel `i` of unit `u` selected by every accessor. -/
def win (u i : Nat) : Dev :=
  [Accessor.ws, .mgmt, .spi, .mbox].foldl (fun d a => (d.wr F.GLB_CHSEL_UNIT (Accessor.idx a) u).wr F.GLB_CHSEL_INDEX (Accessor.idx a) i)
    ([dWHET, dXCUT, dSTOCK, dMADC, dBDAC, dTIME, dSEC, dMGMT].foldl (fun d i => d.setDon i true) up)

/-- An access is granted its register and one channel. -/
def one (g : Option (Dev × RegDesc × Nat × List Nat)) : Bool :=
  match g with
  | some (_, _, _, [_]) => true
  | _ => false

/-- A granted access reaches one channel, and no accessor applied later has written it in this clock. -/
def alone (g : Option (Dev × RegDesc × Nat × List Nat)) (a : Accessor) : Bool :=
  match g with
  | some (x, r, m, [ch]) => x.kept a r m ch == 0
  | _ => false

/-- A write through the accessor's own selection is granted so. -/
def writes (d : Dev) (a : Accessor) (addr : Nat) : Bool := alone (d.grants a (d.selOf a) addr true) a

theorem wit_RegisterAccess :
    ((win 0 0).reachable .twin = false ∧ (win 0 0).reachable .mgmt = true ∧ (win 0 0).reachable .ws = true ∧ (win 0 0).expert = true ∧
      (inLc 5).reachable .spi = true ∧ (inLc 5).reachable .mbox = true ∧ (inLc 5).expert = false) ∧
    (((win 0 0).busAccess .mgmt 0xFFFFF0 3).wsWindow 0xFFFFF0 = none ∧ findReg 0xFFFFF0 = none) := by decide +kernel

theorem wit_RegisterAccess_errors :
    (findReg 0x20000).any (fun r => !r.1.isSec && r.1.unit == some 0) = true ∧ ((win 1 0).selOf .mgmt).unit ≠ 0 ∧
    (findReg 0xD0000).any (fun r => r.1.isSec) = true ∧
    (findReg 0x80100).any (fun r => !r.1.isSec && r.1.unit == none && !(((win 0 0).setDon dTIME false).busAccess .mgmt 0x80100 3).regOn r.1 0) = true ∧
    unitTop 0 < ({ unit := 0, index := 8 } : Sel).index := by decide +kernel

theorem wit_RegisterAccess_window :
    ((win 0 0).busAccess .mgmt 0x120000 3).wsWindow 0x120000 = some xBase ∧
    ((win 0 0).busAccess .mgmt 0x120000 2).wsWindow 0x120000 = some xBase ∧ ((win 0 0).busAccess .mgmt 0x120000 2).domOn dWHET = true ∧
    ((win 0 0).busAccess .mgmt 0x120000 3).wsOpen = false ∧
    (((win 0 0).setDon dWHET false).busAccess .mgmt 0x120000 3).domOn dWHET = false ∧
    (((win 0 0).wr F.WS_STAT_STATE 0 2).busAccess .mgmt 0x120000 3).wsOpen = true := by decide +kernel

theorem wit_LineRegisterCommands :
    (∀ i : Fin 8, i.val = 0 ∨ i.val = 7 → ([0x20000, 0x20004, 0x20008, 0x20030, 0x20038, 0x10200, 0x102BC, 0x50000, 0x40000, 0x10000].all
      (writes (win 0 i) .mgmt)) = true) ∧
    writes (win 0 0) .mgmt 0x40104 = true ∧ writes (win 2 0) .mgmt 0xF0000 = true ∧ writes (win 2 15) .spi 0xF0000 = true := by decide +kernel

theorem wit_EngineRegisterCommands :
    ([0x100000, 0x60010, 0x60108, 0x70000, 0x70008, 0x70018, 0xB0048].all (writes (win 0 0) .mgmt)) = true ∧
    writes (win 0 0) .spi 0xB0048 = true ∧ writes (win 3 15) .mgmt 0x60000 = true ∧ writes (win 4 7) .mgmt 0x60040 = true ∧
    writes (win 5 1) .mgmt 0x60090 = true ∧ writes (win 5 0) .mgmt 0x60080 = true ∧ writes (win 10 63) .mgmt 0x70048 = true ∧
    one ((win 0 0).grants .mgmt { unit := 0, index := 0 } 0x6010C false) = true := by decide +kernel

theorem wit_TimeLinkTallyCommands :
    ([0x8010C, 0x90008, 0x90000, 0xA0100, 0xA01F8, 0xA0104, 0xA01FC].all (writes (win 0 0) .mgmt)) = true ∧
    one ((win 0 0).grants .mgmt { unit := 0, index := 0 } 0x80114 false) = true ∧
    one ((win 0 0).grants .mgmt { unit := 0, index := 0 } 0xA0100 false) = true ∧
    one ((win 0 0).grants .mgmt { unit := 0, index := 0 } 0xA01F8 false) = true ∧
    one ((win 0 0).grants .mgmt { unit := 9, index := 3 } 0x80008 false) = true ∧
    alone ((win 0 0).grants .mgmt { unit := 9, index := 0 } 0x80018 true) .mgmt = true ∧
    alone ((win 0 0).grants .mgmt { unit := 9, index := 0 } 0x80014 true) .mgmt = true ∧
    alone ((win 0 0).grants .mgmt { unit := 9, index := 3 } 0x80024 true) .mgmt = true ∧ (win 0 0).domOn dMGMT = true ∧
    userOf .mgmt false = false ∧ userOf .spi true = false ∧
    (win 0 0).tu.fifo = [] ∧
    ((win 0 0).busAccess .mgmt (0xA0100 + 8 * 31) 2 true).userSees 31 true = false ∧
    (((win 0 0).wr F.TL_UEN_UEN 0 (2 ^ 31)).busAccess .mgmt (0xA0100 + 8 * 31) 2 true).userSees 31 true = true := by decide +kernel

/-- A device with the pins given. -/
def pinned (l : List Pin) : Dev := up.mapMgmt fun m => { m with pins := l }

/-- A posted write by task `t`. -/
def posts (a t : Nat) : Posted := ⟨a, 1, t, 0⟩

theorem wit_HostAndCoreRegisters :
    (up.spiUp = true ∧ ({ up with phase := .off } : Dev).spiUp = false ∧ (core 1 0).fetchBad 0 = false ∧
      (core 1 0).wsTask = some 0 ∧ ((core 1 0).bank 0).rep = 0 ∧ (core 0 0).wsTask = none) ∧
    ((wsPostedAll (core 1 0).ws.posted.length [] (core 1 0)).2.wsTask.isSome = true ∧
      (wsPostedAll (core 1 0).ws.posted.length [] (core 1 0)).2.wsBusError 0 false = false ∧
      (wsPostedAll (core 1 0).ws.posted.length [] (core 1 0)).2.wsBusError 0x100000 false = true) ∧
    (let d := (core 1 0).mapWs fun w => { w with posted := [posts 0x100000 1] }
     d.wsTask = some 0 ∧ d.fetchBad 0 = false ∧ (wsPostedAll d.ws.posted.length [] d).2.wsTask = none) ∧
    ((core 1 0).ws.posted.length < 8 ∧ (core 1 0).ws.posted = [] ∧
      (let d := (core 1 0).mapWs fun w => { w with posted := List.replicate 8 (posts 0 1) }
       8 ≤ d.ws.posted.length ∧ d.wsTask = some 0 ∧ d.fetchBad 0 = false ∧ (wsPosted [] (d.wsStall 0)).2.wsTask.isSome = true) ∧
      (let d := (core 1 0).mapWs fun w => { w with posted := List.replicate 8 (posts 0x100000 1) }
       8 ≤ d.ws.posted.length ∧ d.wsTask = some 0 ∧ d.fetchBad 0 = false ∧ (wsPosted [] (d.wsStall 0)).2.wsTask = none)) ∧
    (let d := (core 1 0).mapWs fun w => { w with posted := [posts 0x10000 1] }
     d.ws.posted = posts 0x10000 1 :: [] ∧ (core 1 0).wsBusError 0x13FFFF true = true ∧ (core 1 0).wsBusError 0xFFFFFC true = true ∧
       (core 1 0).wsBusError 0x10000 true = false ∧ d.rd F.WS_STAT_STATE = 1) := by decide +kernel

theorem wit_ExpertAndTwinAccess :
    (Ready up ∧ up.expert = true ∧ Ready (inLc 5) ∧ (inLc 5).expert = false) ∧
    ((2 : Word32).toNat % 4 ≠ 0 ∧ (4 : Word32).toNat % 4 = 0 ∧ 64 < (65 : Byte).toNat ∧ (29 : Byte).toNat ≤ 29 ∧ (64 : Byte).toNat ≤ 64 ∧
      63 < (64 : Byte).toNat ∧ (63 : Byte).toNat ≤ 63 ∧ 3 < (4 : Byte).toNat ∧ (0 : Byte).toNat = 0) ∧
    (pinTarget 0 7 0x20000 0 = none ∧ (pinTarget 0 7 0x20000 (2 ^ F.SA_AFE_RANGE.lo * (2 ^ F.SA_AFE_RANGE.w - 1))).isSome = true ∧
      up.mgmt.pins.length < 64 ∧
      (let d := pinned (List.replicate 64 ⟨0x20000, 0, 7, 1, 0⟩)
       64 ≤ d.mgmt.pins.length ∧ (d.mgmt.pinAt 0x20000 0 7).isSome = true ∧ (d.mgmt.pinAt 0x20000 0 6).isSome = false ∧
         d.expert = true)) ∧
    Ready (pinned (List.replicate 64 ⟨0x20000, 0, 7, 1, 0⟩)) ∧
    ((pair 3).domOn dXCUT = true ∧ (pair 3).xc.seen.contains (0 : Byte).toNat = false ∧
      ((pair 3).mapXc fun x => { x with seen := [0] }).xc.seen.contains (0 : Byte).toNat = true ∧ ((pair 3).taken 0 10).attached = true ∧
      ((pair 1).taken 0 10).attached = false ∧ ((pair 3).taken 0 10).xc.rreq.isNone = true ∧
      (((pair 3).mapXc fun x => { x with rreq := some (1, []) }).taken 0 10).xc.rreq.any (fun p => p.1 == fieldAt [1, 0x80] 0 1) = true ∧
      (((pair 3).mapXc fun x => { x with rreq := some (2, []) }).taken 0 10).xc.rreq.any (fun p => p.1 == fieldAt [1, 0x80] 0 1) = false ∧
      (fieldAt [1, 0x80] 1 1).testBit 7 = true ∧ (fieldAt [1, 0x7F] 1 1).testBit 7 = false ∧
      ((pair 1).setDon dXCUT false).domOn dXCUT = false) :=
  ⟨⟨ready_of (by decide), by decide, ready_of (by decide), by decide⟩, by decide, by decide +kernel, ready_of (by decide), by decide +kernel⟩

theorem wit_AccessTypes : (findReg 0x20000).isSome = true ∧ (findReg 0x102BC).any (fun r => r.2 == 47) = true ∧ (0x20000 : Nat) ≠ 0x102BC := by
  decide +kernel

/-! ## Witnesses: the whole machine -/

theorem wit_StepRunsTheFront : State.reset.pending = [] := rfl

theorem wit_EveryStepKeepsMemory : State.reset.inv := show Memory.wf [] = true from rfl

/-- The bytes listed after a command that answers a next state. -/
def listed (o : Host.Outcome State Fault Refusal) : Nat :=
  match o with
  | .next t => t.mem.length
  | _ => 0

theorem wit_MemoryFrame :
    0 < listed (exec (.st false 0 .p1 (.int 0) []) (mk ((core 1 0).mapBank 0 fun k => { k with r := vset k.r 0 fun _ => 5 }))) := by
  decide +kernel

theorem wit_KciAdmission :
    kciHead (.appStatGet (.spi 0)) = some (.spi 0, 0xAC00, .q) ∧ up.admission (.spi 0) .q 0 0 = none ∧
    (up.mapMgmt fun m => { m with outst := List.replicate 4 { busy with cls := .q } }).admission (.spi 0) .q 0 0 = some 1 ∧
    (inPhase .off).phase ≠ .fw ∧ (inPhase .off).phase ≠ .rom ∧ (inPhase .off).phase ≠ .romFailed ∧ up.pathOpen (.spi 0) = true ∧
    up.pathOpen (.cdb 0) = false ∧ srcSpi (.spi 0) = true ∧
    8 ≤ (up.mapMgmt fun m => { m with rspq := List.replicate 8 [1] }).mgmt.rspq.length ∧ up.mgmt.rspq.length < 8 ∧
    (inPhase .rom).phase = .rom ∧ (inPhase .rom).pathOpen (.spi 0) = true ∧ kciHead (.sysReset (.applet 0)) = some (.applet 0, 0xA001, .c) ∧
    (applet 3 2).pathOpen (.applet 0) = true ∧ srcHost (.applet 0) = false ∧ appletDenied 0xA001 .c = true ∧
    appletDenied 0xAC00 .q = false := by decide

theorem wit_VoteMajority :
    (let w := List.replicate 16 7
     let v : Dev := { up with vote := { up.vote with flops := (Vector.replicate 3 w).set 1 [] } }
     w.length = 16 ∧ v.vote.flops.get 0 = w ∧ v.vote.flops.get 2 = w ∧ v.vote.flops.get 1 ≠ w ∧ v.phase ≠ .held ∧ v.phase ≠ .rising) ∧
    (up.vote.flops.get 0 = List.replicate 16 0 ∧ up.vote.flops.get 1 = List.replicate 16 0) := by decide

/-- A right frame with four bytes of payload. -/
def longFrame : List Byte :=
  let h : List Byte := [0xA1, 0x30, 7, 0, 0, 4]
  let p : List Byte := [1, 2, 3, 4]
  h ++ be 2 (crc16 (h ++ p)) ++ p

theorem wit_SingleBitErrors :
    up.spiUp = true ∧ up.mgmt.rspq.length < 8 ∧ 8 ≤ longFrame.length ∧ longFrame.length = 8 + fieldAt longFrame 4 2 ∧
    fieldAt longFrame 3 1 = 0 ∧ crc16 (longFrame.take 6 ++ longFrame.drop 8) = fieldAt longFrame 6 2 ∧ 8 < longFrame.length ∧
    11 < longFrame.length := by decide

theorem wit_PatternRamBytes :
    Ready (up.set F.GLB_STAT_SRAMRDY) ∧ (up.set F.GLB_STAT_SRAMRDY).on F.GLB_STAT_SRAMRDY = true ∧
    patRamOk (.spi 0) 16383 1 0 64 = true ∧ patRamOk (.spi 0) 0 15 128 960 = true := ⟨ready_of (by decide), by decide, by decide, by decide⟩

theorem wit_WindowReadsBack :
    (let d := (win 0 0).wr F.WS_STAT_STATE 0 2
     d.reachable .mgmt = true ∧ d.expert = true ∧ (d.busAccess .mgmt 0x127FFC 3).wsWindow 0x127FFC = some (xBase + 0x7FFC) ∧
       (d.busAccess .mgmt 0x127FFC 3).wsOpen = true ∧ xBase + 0x7FFC < pmBase) ∧
    (let d := (win 0 0).wr F.WS_STAT_STATE 0 3
     (d.busAccess .mgmt 0x110000 3).wsWindow 0x110000 = some pmBase ∧ (d.busAccess .mgmt 0x110000 3).wsOpen = true ∧
       (d.busAccess .mgmt 0x110000 3).lc = 0) := by decide +kernel

theorem wit_ResponseQueue :
    up.spiUp = true ∧ (up.mapMgmt fun m => { m with rspq := [[1], [2]] }).mgmt.rspq = [1] :: [[2]] ∧ up.mgmt.rsphold = [] ∧
    up.mgmt.rspq = [] ∧ (up.mapMgmt fun m => { m with rspq := List.replicate 8 [1] }).mgmt.rspq.length = 8 ∧
    (up.mapMgmt fun m => { m with rspq := List.replicate 7 [1] }).mgmt.rspq.length < 8 := by decide

theorem wit_PuncturedStream : (List.replicate 2048 true).length = 2048 := List.length_replicate

/-! ## Ill-formed commands -/

theorem test_wellFormed_slice (e : List Int) (h : 4096 < e.length) : (Instr.obsSliceDone e).wellFormed = false :=
  decide_eq_false (Nat.not_le.mpr h)

theorem test_wellFormed_samples :
    (Instr.beaconBlockRx 0 [127, 128] 0 false).wellFormed = false ∧ (Instr.beaconBlockRx 0 [-128] 0 false).wellFormed = false ∧
    (Instr.rxDatapathClock 0 []).wellFormed = false := by decide

theorem test_wellFormed_counts :
    (Instr.lineFfeSet (.spi 0) 0 0 2 [1]).wellFormed = false ∧ (Instr.lineTxFfeSet (.spi 0) 0 8 0 1 []).wellFormed = false ∧
    (Instr.lineTxDpdSet (.spi 0) 0 1 1 1 1 1 0 [1, 2, 3, 4] [0, 0, 0, 0, 0]).wellFormed = false ∧
    (Instr.lineTxDpdSet (.spi 0) 0 1 1 1 1 1 0 [0, 0, 0, 0, 0] []).wellFormed = false ∧
    (Instr.datapathActivated 0 (List.replicate 9 ⟨0, 0, 0, 0⟩)).wellFormed = false ∧
    (Instr.eqhintTimer 0 [1]).wellFormed = false ∧ (Instr.linePtnrSend (.spi 0) 0 0x40 2 [1]).wellFormed = false ∧
    (Instr.slotStart false (List.replicate 6 .cal)).wellFormed = false ∧
    (Instr.madcCalDone 0 (List.replicate 5 (0, 0))).wellFormed = false ∧ (Instr.optOspiXfer (.spi 0) 0 1 []).wellFormed = false := by decide

theorem test_wellFormed_frames :
    (Instr.patRamWrite (.spi 0) 0 1 0 [0]).wellFormed = false ∧ (Instr.regRead 0 0).wellFormed = false ∧
    (Instr.regRead 2 1).wellFormed = false ∧ (Instr.regWrite 1 [0]).wellFormed = false ∧ (Instr.regWrite 0 []).wellFormed = false ∧
    (Instr.sysAppletLoad (.spi 0) 0 0 1 0 []).wellFormed = false ∧
    (Instr.writeFirmwareBlockLpl 0 0 (List.replicate 117 0)).wellFormed = false ∧ (Instr.potConfWrite (.spi 0) 0x800 2 [0]).wellFormed = false ∧
    (Instr.colanderCodeword 0 none []).wellFormed = false ∧ (Instr.rreqCell 0 []).wellFormed = false ∧ (Instr.rrspCell 0 []).wellFormed = false ∧
    (Instr.mirrorCell 0 0 (List.replicate 21 0) true true).wellFormed = false ∧
    (Instr.secTicketLoad (.spi 0) 1 0 1 0 []).wellFormed = false := by decide

theorem test_wellFormed_long (f : List Byte) :
    (1032 < f.length → (Instr.kciWrite f).wellFormed = false) ∧ (1016 < f.length → (Instr.twinRelay (.spi 0) f).wellFormed = false) ∧
    (255 < f.length → (Instr.cdbCommandIdWrite 0 0 f 0).wellFormed = false) :=
  ⟨fun h => decide_eq_false (Nat.not_le.mpr h), fun h => decide_eq_false (Nat.not_le.mpr h), fun h => decide_eq_false (Nat.not_le.mpr h)⟩

/-! ## Worked values of the spec -/

/-- R272: the CRC over the nine ASCII bytes. -/
theorem test_crc16 : crc16 [0x31, 0x32, 0x33, 0x34, 0x35, 0x36, 0x37, 0x38, 0x39] = 0x29B1 := by decide

/-- R418: RESET_L is low after reset, and no command waits. -/
theorem test_reset : State.reset.dev.phase = .held ∧ State.reset.pending = [] := by decide

/-- R264: an empty response queue reads FF FF and six zero bytes. -/
theorem test_empty_frame : emptyFrame = [0xFF, 0xFF, 0, 0, 0, 0, 0, 0] := by decide

end Sys2Proof.Tests
end

/-! PROOFS. Chapter 00, the scope of the machine: that every step answers and keeps the canonical form of memory, what a register write
makes of each access type, and the state right after reset. -/

namespace Sys2Proof.Machine

/-! ## Meanings that always answer

No meaning of the model ends in a fault or a refusal: an event that does not apply has no effect (the model's choice, log entry 6). -/

/-- A meaning that from every state in canonical form answers a next state, with the queue as it was and memory in canonical form. -/
def Safe (act : Act) : Prop := ∀ s : State, s.inv → ∃ t : State, act s = .next t ∧ t.pending = s.pending ∧ t.inv

theorem safe_lift (f : Dev → Dev) : Safe (lift f) := fun s hs => ⟨s.put (f s.dev), lift_put f s, rfl, hs⟩

theorem safe_liftMem {f : Memory → Dev → Memory × Dev} (h : ∀ m d, m.wf = true → (f m d).1.wf = true) : Safe (liftMem f) :=
  fun s hs => ⟨_, liftMem_next f s, rfl, h s.mem s.dev hs⟩

/-- A meaning that reads memory and leaves it as it was. -/
theorem safe_liftMem_same (f : Memory → Dev → Dev) : Safe (liftMem fun m d => (m, f m d)) := safe_liftMem fun _ _ hm => hm

theorem safe_ite {c : Prop} [Decidable c] {f g : Act} (hf : Safe f) (hg : Safe g) : Safe (if c then f else g) := by
  split
  · exact hf
  · exact hg

/-- Memory that depends on a condition is in canonical form when both its values are. -/
theorem wf_ite {c : Prop} [Decidable c] {m n : Memory} (hm : m.wf = true) (hn : n.wf = true) : (if c then m else n).wf = true := by
  split
  · exact hm
  · exact hn

/-! ## Writes through the register window -/

theorem wf_wsMemWrite (d : Dev) {m : Memory} (addr v : Nat) (hm : m.wf = true) : (d.wsMemWrite m addr v).1.wf = true := by
  unfold Dev.wsMemWrite
  split
  · exact hm
  · split
    · exact hm
    · split
      · exact hm
      · exact wf_memPutLe 4 _ _ hm

theorem wf_regWrite (d : Dev) {m : Memory} (a : Accessor) (sel : Sel) (addr v mask : Nat) (hm : m.wf = true) :
    (d.regWrite m a sel addr v mask).1.wf = true := by
  unfold Dev.regWrite
  generalize d.busAccess a addr 3 = x
  dsimp only
  split
  · split
    · exact hm
    · split
      · exact hm
      · exact wf_wsMemWrite x addr _ hm
  · split
    · exact hm
    · exact wf_ite (wf_ramWrite x.pg _ _ hm) hm

theorem wf_access (d : Dev) {m : Memory} (a : Accessor) (addr v : Nat) (hm : m.wf = true) : (d.access m a addr v).1.wf = true := by
  unfold Dev.access
  split
  · exact hm
  · split
    · exact hm
    · exact wf_regWrite d a _ addr v fullMask hm

theorem wf_accessMany (a : Accessor) (l : List Word32) {p : Memory × Dev} (addr : Nat) (hp : p.1.wf = true) :
    (accessMany a p addr l).1.wf = true := by
  induction l generalizing p addr with
  | nil => exact hp
  | cons v t ih => exact ih _ (wf_access p.2 a addr v.toNat hp)

theorem wf_pinWrite (d : Dev) {m : Memory} (p : Pin) (v : Nat) (hm : m.wf = true) : (pinWrite m d p v).1.wf = true :=
  wf_regWrite d .mbox _ p.addr v p.mask hm

theorem safe_regRow (a : Accessor) (addr : Nat) (v : Word32) : Safe (regRow a addr v) :=
  safe_liftMem fun _ d hm => wf_access d a addr v.toNat hm

theorem safe_readRow (a : Accessor) (unit ch addr : Nat) : Safe (readRow a unit ch addr) := safe_liftMem_same _

theorem safe_writeRow (a : Accessor) (unit ch addr : Nat) (v : Word32) : Safe (writeRow a unit ch addr v) := by
  refine safe_liftMem fun m d hm => ?_
  split
  · exact hm
  · exact wf_regWrite d a _ addr v.toNat fullMask hm

/-! ## The Whetstone -/

/-- The memory after one execution of an instruction. -/
def WsRes.mem : WsRes → Memory
  | .done m _ | .trap m _ _ | .stopped m _ => m

theorem wf_mem_ite {c : Prop} [Decidable c] {x y : WsRes} (hx : x.mem.wf = true) (hy : y.mem.wf = true) :
    (if c then x else y).mem.wf = true := by
  split
  · exact hx
  · exact hy

/-- One execution that keeps the canonical form does so however often it repeats (R193). -/
theorem wf_wsRepeat {f : Nat → Memory → Dev → WsRes} (h : ∀ i m d, m.wf = true → (f i m d).mem.wf = true) (n i : Nat) {m : Memory}
    (d : Dev) (hm : m.wf = true) : (wsRepeat n f i m d).mem.wf = true := by
  induction n generalizing i m d with
  | zero => exact hm
  | succ n ih =>
    have h1 := h i m d hm
    unfold wsRepeat
    split
    next m1 d1 he => rw [he] at h1; exact ih (i + 1) d1 h1
    next => exact h1

theorem wf_wsExec (d : Dev) {m : Memory} (r : Bool) {f : Nat → Nat → Memory → Dev → WsRes}
    (h : ∀ b i m d, m.wf = true → (f b i m d).mem.wf = true) (hm : m.wf = true) : (d.wsExec m r f).1.wf = true := by
  unfold Dev.wsExec
  split
  · exact hm
  next b _ =>
    have hr := wf_wsRepeat (h b) (if (d.bank b).rep = 0 then 1 else (d.bank b).rep) 0 d hm
    dsimp only
    split
    · exact hm
    · split
      · exact hm
      · split
        next he => rw [he] at hr; exact hr
        next he => rw [he] at hr; exact hr
        next he => rw [he] at hr; exact hr

theorem safe_wsMem (r : Bool) {f : Nat → Nat → Memory → Dev → WsRes} (h : ∀ b i m d, m.wf = true → (f b i m d).mem.wf = true) :
    Safe (wsMem r f) := safe_liftMem fun _ d hm => wf_wsExec d r h hm

theorem wf_wsEcc (e : Ecc) (a addr kind : Nat) {m : Memory} (d : Dev) {f : Dev → WsRes} (hm : m.wf = true)
    (h : ∀ x, (f x).mem.wf = true) : (wsEcc e a addr kind m d f).mem.wf = true := by
  unfold wsEcc
  split
  · exact h _
  · exact h _
  · exact hm

theorem wf_wsOperand (b : Nat) (load : Option (Nat × PostStep)) (wide isX : Bool) (e : Ecc) {m : Memory} (d : Dev)
    {f : (Int × Int) → Dev → WsRes} (hm : m.wf = true) (h : ∀ v x, (f v x).mem.wf = true) :
    (wsOperand b load wide isX e m d f).mem.wf = true := by
  unfold wsOperand
  split
  · exact h _ _
  · exact wf_wsEcc _ _ _ _ _ hm fun _ => h _ _

theorem wf_wsPair (b i : Nat) (x : XSrc) (y : YSrc) (wide : Bool) (ecc : List Ecc) {m : Memory} (d : Dev)
    {f : (Int × Int) → (Int × Int) → Dev → WsRes} (hm : m.wf = true) (h : ∀ u v x, (f u v x).mem.wf = true) :
    (wsPair b i x y wide ecc m d f).mem.wf = true := by
  unfold wsPair
  exact wf_wsOperand _ _ _ _ _ _ hm fun _ _ => wf_wsOperand _ _ _ _ _ _ hm fun _ _ => h _ _ _

theorem safe_wsComplex (ac : Fin 2) (x : XSrc) (y : YSrc) (ecc : List Ecc) (conj keep : Bool) :
    Safe (wsComplex ac x y ecc conj keep) := safe_wsMem _ fun _ _ _ _ hm => wf_wsPair _ _ _ _ _ _ _ hm fun _ _ _ => hm

theorem safe_wsReal (half : Fin 4) (x : XSrc) (y : YSrc) (ecc : List Ecc) (sign : Int) (keep : Bool) :
    Safe (wsReal half x y ecc sign keep) := safe_wsMem _ fun _ _ _ _ hm => wf_wsPair _ _ _ _ _ _ _ hm fun _ _ _ => hm

theorem safe_execLd (wide : Bool) (a : Fin 8) (step : PostStep) (dst : WReg) (ecc : List Ecc) : Safe (execLd wide a step dst ecc) :=
  safe_wsMem _ fun _ _ _ _ hm => wf_mem_ite hm (wf_wsEcc _ _ _ _ _ hm fun _ => hm)

theorem safe_execSt (wide : Bool) (a : Fin 8) (step : PostStep) (src : WReg) (ecc : List Ecc) : Safe (execSt wide a step src ecc) := by
  refine safe_wsMem _ fun b i m d hm => wf_mem_ite hm ?_
  cases wide with
  | false =>
    simp only [Bool.false_eq_true, if_false]
    refine wf_wsEcc _ _ _ _ _ hm fun _ => ?_
    exact wf_memPutLe 2 _ _ hm
  | true =>
    cases src with
    | half h => exact wf_memPutLe 2 _ _ hm
    | ac n => exact wf_memPutLe 2 _ _ (wf_memPutLe 2 _ _ hm)
    | int r => exact wf_memPutLe 2 _ _ (wf_memPutLe 2 _ _ hm)
    | _ => exact wf_memPutLe 2 _ _ hm

theorem safe_execMov (dst src : WReg) : Safe (execMov dst src) := by
  refine safe_wsMem _ fun b i m d hm => ?_
  split
  · exact hm
  · exact hm
  · split
    · exact hm
    · exact hm

theorem wf_wsPosted {m : Memory} (d : Dev) (hm : m.wf = true) : (wsPosted m d).1.wf = true := by
  unfold wsPosted
  split
  · exact hm
  · exact wf_access _ _ _ _ hm

theorem wf_wsPostedAll (n : Nat) {m : Memory} (d : Dev) (hm : m.wf = true) : (wsPostedAll n m d).1.wf = true := by
  induction n generalizing m d with
  | zero => exact hm
  | succ n ih =>
    have h1 := wf_wsPosted d hm
    unfold wsPostedAll
    dsimp only
    split
    · exact h1
    · exact ih _ h1

theorem safe_execRdreg (addr : Word32) (dst : Fin 8) : Safe (execRdreg addr dst) := by
  refine safe_wsMem _ fun b i m d hm => ?_
  have h1 := wf_wsPostedAll d.ws.posted.length d hm
  dsimp only
  split
  · exact h1
  · split
    · exact h1
    · exact h1

theorem safe_execWrreg (addr : Word32) (src : Fin 8) : Safe (execWrreg addr src) := by
  refine safe_wsMem _ fun b i m d hm => ?_
  dsimp only
  generalize hs : (if 8 ≤ d.ws.posted.length then wsPosted m (d.wsStall addr.toNat) else (m, d)) = s
  have h1 : s.1.wf = true := by
    rw [← hs]
    split
    · exact wf_wsPosted _ hm
    · exact hm
  split
  · exact h1
  · exact h1

theorem safe_execWrregComplete : Safe execWrregComplete := safe_liftMem fun _ d hm => wf_wsPosted d hm

/-! ## The other commands that reach memory -/

theorem safe_execPatRamWrite (src : Src) (granule : BitVec 16) (count ready : Byte) (data : List Byte) :
    Safe (execPatRamWrite src granule count ready data) := safe_liftMem fun _ d hm => wf_ite (wf_ramWrite d.pg _ data hm) hm

theorem safe_execWsRestartDone : Safe execWsRestartDone := by
  refine safe_liftMem fun m d hm => ?_
  split
  · exact hm
  · exact wf_memClear _ _ (wf_memClear _ _ (wf_memClear _ _ hm))

theorem safe_execBistStep (meas : List StepMeas) : Safe (execBistStep meas) := by
  refine safe_liftMem fun m d hm => ?_
  split
  · exact hm
  · split
    · exact hm
    · exact wf_ite (wf_memClear _ _ hm) hm

theorem safe_execSramInitDone : Safe execSramInitDone := by
  refine safe_liftMem fun m d hm => ?_
  split
  · exact hm
  · split
    · exact hm
    · exact wf_memClear _ _ hm

theorem safe_execDomainWakeDone (i : Fin 80) : Safe (execDomainWakeDone i) := by
  refine safe_liftMem fun m d hm => ?_
  dsimp only
  split
  · exact hm
  · exact wf_ite (wf_memClear _ _ hm) hm

theorem safe_execRegRead (addr : Word32) (n : Nat) : Safe (execRegRead addr n) := by
  refine safe_liftMem fun m d hm => ?_
  split
  · exact hm
  · exact hm

theorem safe_execRegWrite (addr : Word32) (l : List Word32) : Safe (execRegWrite addr l) := by
  refine safe_liftMem fun m d hm => ?_
  split
  · exact wf_accessMany .spi l _ hm
  · exact hm

theorem safe_execExpRegRd (src : Src) (addr : Word32) (n : Byte) : Safe (execExpRegRd src addr n) := safe_liftMem_same _

theorem safe_execExpRegWr (src : Src) (addr mask value : Word32) : Safe (execExpRegWr src addr mask value) :=
  safe_liftMem fun _ d hm => wf_ite (wf_regWrite d .mbox _ _ _ _ hm) hm

theorem safe_execExpPin (src : Src) (action unit : Byte) (index : BitVec 16) (addr mask value : Word32) :
    Safe (execExpPin src action unit index addr mask value) := safe_liftMem fun _ d hm => wf_ite (wf_pinWrite d _ _ hm) hm

theorem safe_execRreqCell (seq : Byte) (body : List Byte) : Safe (execRreqCell seq body) := safe_liftMem_same _

theorem safe_execWsMemoryWindowAccess (acc : Accessor) (addr : Word32) (w : Option Word32) :
    Safe (execWsMemoryWindowAccess acc addr w) := by
  cases w with
  | none => exact safe_readRow acc 0 0 addr.toNat
  | some v => exact safe_regRow acc addr.toNat v

/-! ## The commands that bring other commands -/

theorem safe_requestTable : ∀ r ∈ requestTable, ∀ src p, Safe (r.2 src p) := by
  simp only [requestTable, List.forall_mem_append, List.forall_mem_cons, List.not_mem_nil, false_imp_iff, implies_true, and_true]
  repeat' apply And.intro
  all_goals intro src p
  any_goals exact safe_lift _
  · exact safe_execPatRamWrite _ _ _ _ _
  · exact safe_execExpRegRd _ _ _
  · exact safe_execExpRegWr _ _ _ _
  · exact safe_execExpPin _ _ _ _ _ _ _

theorem safe_stdTable : ∀ r ∈ stdTable, ∀ i p, Safe (r.2 i p) := by
  simp only [stdTable, List.forall_mem_cons, List.not_mem_nil, false_imp_iff, implies_true, and_true]
  repeat' apply And.intro
  all_goals exact fun _ _ => safe_lift _

theorem safe_runRequest (src : Src) (op : Nat) (p : List Byte) : Safe (runRequest src op p) := by
  intro s
  unfold runRequest
  split
  · exact safe_lift _ s
  · split
    next hr =>
      split
      · exact safe_requestTable _ (List.mem_of_find?_eq_some hr) src p s
      · exact safe_lift _ s
    · exact safe_lift _ s

theorem safe_runFrame (src : Src) (fr : List Byte) : Safe (runFrame src fr) := by
  intro s
  unfold runFrame
  split
  · exact safe_runRequest _ _ _ s
  · exact safe_lift _ s

theorem safe_execKciWrite (fr : List Byte) : Safe (execKciWrite fr) := by
  intro s
  unfold execKciWrite
  split
  · exact safe_lift _ s
  · split
    · exact safe_lift _ s
    · exact safe_runFrame _ _ s

theorem safe_execCdbCommandIdWrite (i : Fin 2) (cmd : BitVec 16) (lpl : List Byte) (chk : Byte) :
    Safe (execCdbCommandIdWrite i cmd lpl chk) := by
  intro s hs
  unfold execCdbCommandIdWrite
  dsimp only
  split
  · exact ⟨s, rfl, rfl, hs⟩
  · split
    · exact safe_lift _ s hs
    · split
      · exact safe_lift _ s hs
      · split
        · exact safe_runRequest _ _ _ s hs
        · split
          next hr => exact safe_stdTable _ (List.mem_of_find?_eq_some hr) i lpl s hs
          next => exact safe_lift _ s hs

theorem safe_execMailboxRelayCell (seq : Byte) (msg : RelayMsg) : Safe (execMailboxRelayCell seq msg) := by
  intro s hs
  unfold execMailboxRelayCell
  split
  · split
    · exact safe_runFrame _ _ _ hs
    · exact safe_lift _ s hs
  · exact safe_lift _ s hs

/-! ## Every command -/

/-- Every command is safe: those named reach memory or bring another command, all others act on the device alone. -/
theorem safe_exec (c : Instr) : Safe (exec c) := by
  cases c
  case saAfeWrite | saLctlCmtreq | saTbctlReq | saTbrelRelease | lnFfetapWrite | decCtlHsnap | txCtlCmtreq | txObsctlStart |
      lnCtlRetrain | wsCtlHaltreq | wsCtlRun | wsCtlRtswap | ocStrbSw | ocBctlEnWrite | ocBctlRangeWrite | ocNcoctlEarm |
      ocMainjReq | ocMactlCalreq | ocOspitxWrite | pgCtlStart | pgCtlStop | pgJmpReq | pgSegstrmRdy | pgSyncctlCal | tmClctlSnap |
      tuFifoctlSwstamp | xcHbKick | xcCtlDetach | registerWrite => exact safe_regRow _ _ _
  case ocOspirxRead | tuFifohdrRead | tuTnsRead => exact safe_readRow _ _ _ _
  case tuRatehiWrite | tuRateloWrite | tuOffsetWrite => exact safe_writeRow _ _ _ _ _
  case miVwrGo | tlCnthiWrite | tlCntloWrite => exact safe_ite (safe_lift _) (safe_regRow _ _ _)
  case tlCntloRead => exact safe_ite (safe_lift _) (safe_readRow _ _ _ _)
  case wsMemoryWindowAccess acc addr w => exact safe_execWsMemoryWindowAccess acc addr w
  case cmac | cmacj | cmul => exact safe_wsComplex _ _ _ _ _ _
  case mac | msu | mpy => exact safe_wsReal _ _ _ _ _ _
  case ld w a st r e => exact safe_execLd w a st r e
  case st w a st r e => exact safe_execSt w a st r e
  case mov x y => exact safe_execMov x y
  case rdreg a r => exact safe_execRdreg a r
  case wrreg a r => exact safe_execWrreg a r
  case wrregComplete => exact safe_execWrregComplete
  case wsRestartDone => exact safe_execWsRestartDone
  case patRamWrite src g n r l => exact safe_execPatRamWrite src g n r l
  case bistStep l => exact safe_execBistStep l
  case sramInitDone => exact safe_execSramInitDone
  case domainWakeDone i => exact safe_execDomainWakeDone i
  case regRead a n => exact safe_execRegRead a n
  case regWrite a l => exact safe_execRegWrite a l
  case expRegRd src a n => exact safe_execExpRegRd src a n
  case expRegWr src a m v => exact safe_execExpRegWr src a m v
  case expPin src x u i a m v => exact safe_execExpPin src x u i a m v
  case rreqCell q l => exact safe_execRreqCell q l
  case kciWrite l => exact safe_execKciWrite l
  case cdbCommandIdWrite i o l k => exact safe_execCdbCommandIdWrite i o l k
  case mailboxRelayCell q x => exact safe_execMailboxRelayCell q x
  all_goals exact fun s hs => ⟨_, rfl, rfl, hs⟩

/-- Settles O3: the front command is safe on the state with the queue's rest, and an empty queue ticks the device alone. -/
theorem everyStepKeepsMemory : Obligations.EveryStepKeepsMemory := by
  intro s hs
  match hp : s.pending with
  | [] => exact ⟨_, step_of_empty hp, hp, hs⟩
  | c :: rest => simpa only [step, hp, List.drop_succ_cons, List.drop_zero] using safe_exec c { s with pending := rest } hs

/-! ## Where the fields of the map lie -/

/-- A row of the map is laid out: its fields lie at its first address and start within the word, no two at one bit, and its members end
below 2 MiB, where the keys of a channel end. -/
def RegDesc.laidOut (r : RegDesc) : Bool :=
  (r.fields.all fun f => f.addr == r.base && decide (f.lo < 32)) && decide (r.fields.map Fld.lo).Nodup && decide (0 < r.stride) &&
    decide (r.base + r.stride * r.count ≤ 2 ^ 21)

theorem regTable_laidOut : regTable.all RegDesc.laidOut = true := by decide

/-- The register found under an address is a member of a row of the map, and starts there. -/
theorem findReg_some {addr m : Nat} {r : RegDesc} (h : findReg addr = some (r, m)) :
    r.laidOut = true ∧ addr = r.base + r.stride * m ∧ m < r.count := by
  unfold findReg at h
  obtain ⟨r', hf, he⟩ := Option.map_eq_some_iff.mp h
  cases he
  have hp := List.find?_some hf
  simp only [Bool.and_eq_true, decide_eq_true_eq, beq_iff_eq] at hp
  obtain ⟨⟨hb, hm⟩, hc⟩ := hp
  have hd := Nat.mul_div_cancel' (Nat.dvd_of_mod_eq_zero hm)
  exact ⟨List.all_eq_true.mp regTable_laidOut _ (List.mem_of_find?_eq_some hf), by omega, hc⟩

/-- No two fields of a found register start at one bit. -/
theorem findReg_lo_nodup {addr m : Nat} {r : RegDesc} (h : findReg addr = some (r, m)) : (r.fields.map Fld.lo).Nodup := by
  have hl := (findReg_some h).1
  simp only [RegDesc.laidOut, Bool.and_eq_true, decide_eq_true_eq] at hl
  obtain ⟨⟨⟨-, hn⟩, -⟩, -⟩ := hl
  exact hn

/-- A found register's fields lie in the word at its address. -/
theorem findReg_field {addr m : Nat} {r : RegDesc} (h : findReg addr = some (r, m)) {f : Fld} (hf : f ∈ r.fields) :
    (f.at m r.stride).addr = addr ∧ (f.at m r.stride).lo < 32 ∧ addr < 2 ^ 21 := by
  obtain ⟨hl, ha, hm⟩ := findReg_some h
  simp only [RegDesc.laidOut, Bool.and_eq_true, List.all_eq_true, beq_iff_eq, decide_eq_true_eq] at hl
  obtain ⟨⟨⟨hfs, -⟩, hs⟩, hend⟩ := hl
  obtain ⟨hb, hlo⟩ := hfs f hf
  have hlt : r.stride * m < r.stride * r.count := Nat.mul_lt_mul_of_pos_left hm hs
  exact ⟨by rw [ha, ← hb]; rfl, hlo, by omega⟩

/-- Fields of found registers that start at different bits or addresses have different keys. -/
theorem findReg_key_ne {addr addr' m m' c c' : Nat} {r r' : RegDesc} (h : findReg addr = some (r, m))
    (h' : findReg addr' = some (r', m')) {f f' : Fld} (hf : f ∈ r.fields) (hf' : f' ∈ r'.fields)
    (hne : addr ≠ addr' ∨ (f.at m r.stride).lo ≠ (f'.at m' r'.stride).lo) : (f.at m r.stride).key c ≠ (f'.at m' r'.stride).key c' := by
  obtain ⟨ha, hlo, hlt⟩ := findReg_field h hf
  obtain ⟨ha', hlo', hlt'⟩ := findReg_field h' hf'
  exact key_ne (by omega) (by omega) (.inr (by omega))

/-! ## A write by access type -/

/-- The value a field reads after a write by its type, from what it read before: `v` is the register's new value, `act` the bits written 1
under the mask (Table 0-3). -/
def Fld.written (f : Fld) (a : Accessor) (old v act : Nat) : Nat :=
  match f.ty with
  | .rw | .rws => if ownWrite a f then old else heldTo f (slice v f.lo f.w) % 2 ^ f.w
  | .w1c => (old - (old &&& slice act f.lo f.w)) % 2 ^ f.w
  | .w1s => if holdsRequest f then (old ||| slice act f.lo f.w) % 2 ^ f.w else old
  | .ro | .wo => old

theorem rd_fieldWrite_same (d : Dev) (a : Accessor) (f : Fld) (m stride ch v act : Nat) :
    (d.fieldWrite a f (f.at m stride) ch v act).rd (f.at m stride) ch = f.written a (d.rd (f.at m stride) ch) v act := by
  have hw : ∀ x, (d.wr (f.at m stride) ch x).rd (f.at m stride) ch = x % 2 ^ f.w := rd_wr_same d _ ch
  unfold Dev.fieldWrite Fld.written
  cases f.ty
  case rw | rws | w1s => dsimp only; split <;> simp only [hw]
  case w1c => exact hw _
  case ro | wo => rfl

theorem rd_fieldWrite_ne (d : Dev) (a : Accessor) (f g : Fld) (ch v act : Nat) {g' : Fld} {c : Nat} (h : g'.key c ≠ g.key ch) :
    (d.fieldWrite a f g ch v act).rd g' c = d.rd g' c := by
  have hw : ∀ x, (d.wr g ch x).rd g' c = d.rd g' c := fun x => rd_wr_ne d g g' ch c x h
  unfold Dev.fieldWrite
  cases f.ty
  case rw | rws | w1s => dsimp only; split <;> simp only [hw]
  case w1c => exact hw _
  case ro | wo => rfl

/-- The fields of a list written one after another, each by its type (`Dev.stored` of a register's own). -/
def Dev.fieldsWrite (d : Dev) (a : Accessor) (fs : List Fld) (m stride ch v act : Nat) : Dev :=
  fs.foldl (fun e f => e.fieldWrite a f (f.at m stride) ch v act) d

theorem stored_eq (d : Dev) (mem : Memory) (a : Accessor) (r : RegDesc) (m value mask ch : Nat) :
    d.stored mem a r m value mask ch =
      d.fieldsWrite a r.fields m r.stride (r.chOf a ch) (d.masked mem a r m value mask ch) (value &&& mask) := rfl

/-- A field with another key than those written reads as before. -/
theorem rd_fieldsWrite_ne (d : Dev) (a : Accessor) (fs : List Fld) (m stride ch v act : Nat) {g : Fld} {c : Nat}
    (h : ∀ f ∈ fs, g.key c ≠ (f.at m stride).key ch) : (d.fieldsWrite a fs m stride ch v act).rd g c = d.rd g c := by
  induction fs generalizing d with
  | nil => rfl
  | cons f t ih =>
    rw [List.forall_mem_cons] at h
    exact (ih _ h.2).trans (rd_fieldWrite_ne d a f _ ch v act h.1)

/-- A written field reads what its type makes of the write, since no other field written has its key. -/
theorem rd_fieldsWrite_mem (d : Dev) (a : Accessor) (fs : List Fld) (m stride ch v act : Nat)
    (hn : fs.Pairwise fun f g => (f.at m stride).key ch ≠ (g.at m stride).key ch) {f : Fld} (hf : f ∈ fs) :
    (d.fieldsWrite a fs m stride ch v act).rd (f.at m stride) ch = f.written a (d.rd (f.at m stride) ch) v act := by
  induction fs generalizing d with
  | nil => cases hf
  | cons e t ih =>
    rw [List.pairwise_cons] at hn
    obtain ⟨he, ht⟩ := hn
    rcases List.mem_cons.mp hf with rfl | hf
    · exact (rd_fieldsWrite_ne _ a t m stride ch v act he).trans (rd_fieldWrite_same d a f m stride ch v act)
    · refine (ih (d.fieldWrite a e (e.at m stride) ch v act) ht hf).trans ?_
      rw [rd_fieldWrite_ne d a e _ ch v act (he f hf).symm]

/-- No two fields of a found register have the same key. -/
theorem findReg_keys_pairwise {addr m : Nat} {r : RegDesc} (h : findReg addr = some (r, m)) (ch : Nat) :
    r.fields.Pairwise fun f g => (f.at m r.stride).key ch ≠ (g.at m r.stride).key ch :=
  (List.pairwise_map.mp (findReg_lo_nodup h)).imp_of_mem fun hf hg hlo => findReg_key_ne h h hf hg (.inr hlo)

/-- After a write to a register each of its fields reads what its type makes of the write (R12). -/
theorem rd_stored_field {addr m : Nat} {r : RegDesc} (h : findReg addr = some (r, m)) {f : Fld} (hf : f ∈ r.fields)
    (d : Dev) (mem : Memory) (a : Accessor) (value mask ch : Nat) :
    (d.stored mem a r m value mask ch).rd (f.at m r.stride) (r.chOf a ch) =
      f.written a (d.rd (f.at m r.stride) (r.chOf a ch)) (d.masked mem a r m value mask ch) (value &&& mask) := by
  rw [stored_eq]
  exact rd_fieldsWrite_mem d a r.fields m r.stride _ _ _ (findReg_keys_pairwise h _) hf

/-- A write to a register leaves the fields of every other register as they read. -/
theorem rd_stored_other {addr addr' m m' : Nat} {r r' : RegDesc} (h : findReg addr = some (r, m))
    (h' : findReg addr' = some (r', m')) (hne : addr' ≠ addr) {f : Fld} (hf : f ∈ r'.fields) (d : Dev) (mem : Memory) (a : Accessor)
    (value mask ch c : Nat) :
    (d.stored mem a r m value mask ch).rd (f.at m' r'.stride) c = d.rd (f.at m' r'.stride) c := by
  rw [stored_eq]
  exact rd_fieldsWrite_ne d a r.fields m r.stride _ _ _ fun _ hg => findReg_key_ne h' h hf hg (.inl hne)

/-- Settles O60: what each access type makes of a write, read off the fields of the register written and of the others. -/
theorem accessTypes : Obligations.AccessTypes := by
  intro d mem a addr r m ch value mask h
  refine ⟨fun f hf => ?_, fun addr' m' c' r' h' hne f hf => rd_stored_other h h' hne hf d mem a value mask ch c'⟩
  have hw := rd_stored_field h hf d mem a value mask ch
  refine ⟨fun ht => hw.trans ?_, fun ht ho => hw.trans ?_, fun ht => hw.trans ?_, fun ht hq => hw.trans ?_, fun ht hq => hw.trans ?_⟩
  · rcases ht with ht | ht <;> simp only [Fld.written, ht]
  · rcases ht with ht | ht <;> simp only [Fld.written, ht, ho, Bool.false_eq_true, if_false, Dev.masked, Dev.freeMask]
  · simp only [Fld.written, ht]
  · simp only [Fld.written, ht, hq, if_true]
  · simp only [Fld.written, ht, hq, Bool.false_eq_true, if_false]

/-! ## The machine right after reset -/

/-- No field is listed after reset, so each reads its Reset value. -/
theorem rd_reset (f : Fld) (ch : Nat) : State.reset.dev.rd f ch = resetOf f ch := rfl

theorem domOn_reset (i : Nat) : State.reset.dev.domOn i = (resetOf (donFld i).1 0).testBit (donFld i).2 := by
  unfold Dev.domOn
  rw [rd_reset]

/-- Settles O2: what the reset state lists, and that every field and domain reads its Reset value. -/
theorem resetState : Obligations.ResetState :=
  ⟨reset_inv, rfl, rfl, rfl, rd_reset, rfl, rfl, fun _ => rfl, fun i _ => domOn_reset i⟩

end Sys2Proof.Machine

/-! PROOFS. Chapter 02, the line signal: the pilots of a frame, and the whitened, encoded and punctured stream of its payload. -/

namespace Sys2Proof.Machine

/-! ## The pilots of a frame (R53) -/

/-- One position of a frame: a pilot, or else the next code symbol. -/
theorem placePilots_succ (r : Nat) (s : Int) (n pos : Nat) (syms : List Nat) :
    placePilots r s (n + 1) pos syms =
      if pos % 136 = r then valOf (3 * s * pilotSign (pos / 136)) :: placePilots r s n (pos + 1) syms
      else syms.headD 0 :: placePilots r s n (pos + 1) syms.tail := by
  cases syms <;> rfl

/-- Each position gets one symbol, however many code symbols there are. -/
theorem length_placePilots (r : Nat) (s : Int) (n pos : Nat) (syms : List Nat) : (placePilots r s n pos syms).length = n := by
  induction n generalizing pos syms with
  | zero => rfl
  | succ n ih =>
    rw [placePilots_succ]
    split <;> simp only [List.length_cons, ih]

/-- A position of the pilots' phase carries the pilot of its number, whatever the code symbols before it. -/
theorem getD_placePilots (r : Nat) (s : Int) {n i pos : Nat} (syms : List Nat) (hi : i < n) (hp : (pos + i) % 136 = r) :
    (placePilots r s n pos syms).getD i 0 = valOf (3 * s * pilotSign ((pos + i) / 136)) := by
  induction n generalizing i pos syms with
  | zero => omega
  | succ n ih =>
    rw [placePilots_succ]
    cases i with
    | zero =>
      rw [if_pos (show pos % 136 = r from hp), List.getD_cons_zero, Nat.add_zero]
    | succ i =>
      have hs : pos + (i + 1) = pos + 1 + i := by omega
      rw [hs] at hp ⊢
      split <;> exact ih _ (Nat.lt_of_succ_lt_succ hi) hp

/-- The symbols of a frame: pilots of its phase and sign, placed in the code symbols of its payload (R45). -/
theorem fst_frameSyms (fr wq enc : Nat) (payload : List Bool) (partner : Bool) :
    (frameSyms fr wq enc payload partner).1 =
      placePilots (fr % 8) (if partner then -1 else 1) 1088 0
        (mapSyms (encodeBits 0 (if fr % 8 = 0 then whitenOnes else wq) enc payload).1) := by
  simp only [frameSyms]

/-- The level of pilot `k` is the sign the Partner bit selects (R58) times the pattern's (Table 2-6). -/
theorem levelOf_pilot (partner : Bool) (k : Fin 8) :
    levelOf (valOf (3 * (if partner then -1 else 1) * pilotSign k)) =
      (if partner then -1 else 1) * [3, -3, 3, 3, -3, -3, 3, -3].getD k 0 := by
  decide +revert

/-- Settles O12: the pilots stand at the positions of the frame's phase, and each has the level of its place in the pattern. -/
theorem pilotsOfFrame : Obligations.PilotsOfFrame := by
  intro fr wq enc payload partner
  rw [fst_frameSyms]
  refine ⟨length_placePilots _ _ _ _ _, fun k => ?_⟩
  have hphase : (0 + (136 * k.val + fr % 8)) % 136 = fr % 8 := by omega
  have hnumber : (0 + (136 * k.val + fr % 8)) / 136 = k := by omega
  rw [getD_placePilots _ _ _ (by omega) hphase, hnumber, levelOf_pilot]

/-! ## The coded stream (R48 to R52)

The stream is described bit by bit over payload bits given as a function of their index, so that a longer payload extends a shorter
one. -/

/-- The whitener's register before payload bit `i`, from `q` (R48). -/
def whitenReg (q i : Nat) : Nat := iter i (fun _ r => (whitenStep r).2) q

/-- Systematic bit `i` of the payload bits `d`: whitened with the whitener's output `i`. -/
def sysBit (q : Nat) (d : Nat → Bool) (i : Nat) : Bool := d i != (whitenStep (whitenReg q i)).1

/-- The encoder's state before systematic bit `i`, from `c` (R49). -/
def encState (q c : Nat) (d : Nat → Bool) (i : Nat) : Nat := iter i (fun j r => (encStep r (sysBit q d j)).1) c

/-- The coded bits sent for payload bit `i`: its systematic bit, and its parity bit where that is kept (R51, R52). -/
def sentBits (q c : Nat) (d : Nat → Bool) (i : Nat) : List Bool :=
  if i % 128 ∈ [9, 27, 46, 64, 82, 101, 119] then [sysBit q d i, (encStep (encState q c d i) (sysBit q d i)).2] else [sysBit q d i]

theorem keptParity_iff (i : Nat) : keptParity i = true ↔ i % 128 ∈ [9, 27, 46, 64, 82, 101, 119] := List.contains_iff_mem

/-- Bits are encoded in order: a second part goes on from the index, whitener and encoder that the first part leaves. -/
theorem encodeBits_append (i q c : Nat) (l m : List Bool) :
    encodeBits i q c (l ++ m) =
      let x := encodeBits i q c l
      let y := encodeBits (i + l.length) x.2.1 x.2.2 m
      (x.1 ++ y.1, y.2) := by
  induction l generalizing i q c with
  | nil => rfl
  | cons b t ih =>
    simp only [List.cons_append, encodeBits, ih, List.length_cons, Nat.add_assoc, Nat.add_comm 1]
    split <;> rfl

/-- The coded stream of the first `n` payload bits, and the whitener and encoder after them. -/
theorem encodeBits_range (q c : Nat) (d : Nat → Bool) (n : Nat) :
    encodeBits 0 q c ((List.range n).map d) = ((List.range n).flatMap (sentBits q c d), whitenReg q n, encState q c d n) := by
  induction n with
  | zero => rfl
  | succ n ih =>
    have hlast : encodeBits n (whitenReg q n) (encState q c d n) [d n] =
        (sentBits q c d n, whitenReg q (n + 1), encState q c d (n + 1)) := by
      simp only [encodeBits, sentBits, ← keptParity_iff]
      rfl
    simp only [List.range_succ, List.map_append, List.map_cons, List.map_nil, encodeBits_append, ih, List.length_map,
      List.length_range, Nat.zero_add, hlast, List.flatMap_append, List.flatMap_singleton]

/-- A list is its bits in the order of their index. -/
theorem map_getD_range (l : List Bool) : (List.range l.length).map (fun i => l.getD i false) = l :=
  List.ext_getElem (by simp) fun i _ hi => by simp [hi]

/-- The coded stream is as long as the payload and the kept parity bits together. -/
theorem length_encodeBits (i q c : Nat) (l : List Bool) :
    (encodeBits i q c l).1.length = l.length + Nat.count (fun j => keptParity (j + i)) l.length := by
  induction l generalizing i q c with
  | nil => rfl
  | cons b t ih =>
    rw [List.length_cons, Nat.count_succ', Nat.zero_add]
    simp only [Nat.add_right_comm _ 1 i, Nat.add_assoc _ i 1]
    simp only [encodeBits]
    split <;> simp only [List.length_cons, ih] <;> omega

/-- Every block of 128 systematic bits keeps seven parity bits (Table 2-5). -/
theorem count_keptParity_blocks (m : Nat) : Nat.count (fun j => keptParity j) (128 * m) = 7 * m := by
  induction m with
  | zero => exact Nat.count_zero _
  | succ m ih =>
    have hblock : Nat.count (fun j => keptParity (128 * m + j)) 128 = 7 := by
      simp only [keptParity, Nat.mul_add_mod]
      decide
    rw [Nat.mul_succ, Nat.count_add, ih, hblock, Nat.mul_succ]

/-- Settles O13: the stream is read off bit by bit, and its 2,048 bits are sixteen blocks with seven kept parity bits each. -/
theorem puncturedStream : Obligations.PuncturedStream := by
  intro q c l
  have hstream := encodeBits_range q c (fun i => l.getD i false) l.length
  rw [map_getD_range] at hstream
  refine ⟨congrArg Prod.fst hstream, congrArg Prod.snd hstream, fun hl => ?_⟩
  have hblocks : l.length = 128 * 16 := hl
  rw [length_encodeBits, hblocks]
  simp only [Nat.add_zero, count_keptParity_blocks]

end Sys2Proof.Machine

/-! PROOFS. What the shared operations leave: a lane's receive half, responses and the stamp FIFO. `fs.all (fldNe g)` says that the field
`g` is none of the fields `fs` that an operation writes. -/

namespace Sys2Proof.Machine

theorem lane_mapRx (d : Dev) (k : Fin 8) (f : RxLane → RxLane) :
    (d.mapRx k f).lane k = { d.lane k with rx := f (d.lane k).rx } := lane_mapLane d k _

theorem lane_of_lanes {d e : Dev} (h : d.lanes = e.lanes) (k : Nat) : d.lane k = e.lane k := by
  unfold Dev.lane
  rw [h]

/-- What an update makes of the lane's receive half is all that counts of it. -/
theorem mapRx_congr {d : Dev} {k : Fin 8} {f g : RxLane → RxLane} (h : f (d.lane k).rx = g (d.lane k).rx) : d.mapRx k f = d.mapRx k g := by
  have hk : f d.lanes[k.val].rx = g d.lanes[k.val].rx := by simpa [Dev.lane, Vector.getD] using h
  unfold Dev.mapRx Dev.mapLane
  congr 1
  refine Vector.ext fun i hi => ?_
  simp only [Vector.getElem_mapIdx]
  split
  next hik => subst hik; rw [hk]
  next => rfl

/-- Repeated updates keep what each of them keeps. -/
theorem iter_keeps {α β : Type} (p : α → β) {f : Nat → α → α} {n : Nat} (h : ∀ i e, i < n → p (f i e) = p e) (a : α) :
    p (iter n f a) = p a := by
  induction n with
  | zero => rfl
  | succ n ih => exact (h n _ (Nat.lt_succ_self n)).trans (ih fun i e hi => h i e (Nat.lt_succ_of_lt hi))

/-- Different fields of the map have different keys, whatever their channels. -/
theorem key_ne_of_fldNe {f g : Fld} (h : fldNe g f = true) (c ch : Nat) : g.key c ≠ f.key ch := by
  simp only [fldNe, Bool.and_eq_true, decide_eq_true_eq, bne_iff_ne] at h
  obtain ⟨⟨hg, hf⟩, hne⟩ := h
  exact key_ne hg hf (.inr hne)

/-- A write of one of the fields `fs` leaves a field alone that is none of them. -/
theorem rd_wr_of_all (d : Dev) {fs : List Fld} {f g : Fld} (h : fs.all (fldNe g) = true) (hf : f ∈ fs) (ch v c : Nat) :
    (d.wr f ch v).rd g c = d.rd g c := rd_wr_fld d f g ch c v (List.all_eq_true.mp h f hf)

theorem rd_cell (d : Dev) (type : Nat) (body : List Byte) {g : Fld} (c : Nat) (h : fldNe g F.XC_STAT_TXSLEEP = true) :
    (d.cell type body).rd g c = d.rd g c := by
  unfold Dev.cell
  dsimp only
  split
  · rfl
  · exact rd_wr_fld _ _ _ _ _ _ h

theorem lanes_cell (d : Dev) (type : Nat) (body : List Byte) : (d.cell type body).lanes = d.lanes := by
  unfold Dev.cell
  dsimp only
  split <;> rfl

/-- A response is seen in no register but the twin link's TXSLEEP. -/
theorem rd_respond (d : Dev) (src : Src) (op : Nat) (st : Status) (p : List Byte) {g : Fld} (c : Nat)
    (h : fldNe g F.XC_STAT_TXSLEEP = true) : (d.respond src op st p).rd g c = d.rd g c := by
  cases src with
  | twin seq => exact iter_keeps (fun e : Dev => e.rd g c) (fun _ e _ => rd_cell e _ _ c h) _
  | _ => rfl

theorem lanes_respond (d : Dev) (src : Src) (op : Nat) (st : Status) (p : List Byte) : (d.respond src op st p).lanes = d.lanes := by
  cases src with
  | twin seq => exact iter_keeps Dev.lanes (fun _ e _ => lanes_cell e _ _) _
  | _ => rfl

/-- Completing commands keeps whatever delisting a command and answering it keeps. -/
theorem settle_keeps {β : Type} (p : Dev → β) (h : ∀ (d : Dev) a st l, p ((d.unlist a).respond a.src a.op st l) = p d)
    (f : Accepted → Option (Status × List Byte)) (d : Dev) : p (d.settle f) = p d := by
  unfold Dev.settle
  generalize d.mgmt.outst = l
  induction l generalizing d with
  | nil => rfl
  | cons a t ih =>
    refine (ih _).trans ?_
    dsimp only
    split
    · exact h d a _ _
    · rfl

theorem rd_settle (d : Dev) (f : Accepted → Option (Status × List Byte)) {g : Fld} (c : Nat) (h : fldNe g F.XC_STAT_TXSLEEP = true) :
    (d.settle f).rd g c = d.rd g c :=
  settle_keeps (fun e : Dev => e.rd g c) (fun e a _ _ => rd_respond (e.unlist a) _ _ _ _ c h) f d

theorem lanes_settle (d : Dev) (f : Accepted → Option (Status × List Byte)) : (d.settle f).lanes = d.lanes :=
  settle_keeps Dev.lanes (fun e a _ _ => lanes_respond (e.unlist a) _ _ _ _) f d

/-- An entry of the stamp FIFO is seen in TU_FIFOSTAT alone. -/
theorem rd_fifoAt (d : Dev) (src ch tb aux : Nat) (t : Stamp) {g : Fld} (c : Nat)
    (h : [F.TU_FIFOSTAT_COUNT, F.TU_FIFOSTAT_OVF, F.TU_FIFOSTAT_LOST].all (fldNe g) = true) :
    (d.fifoAt src ch tb aux t).rd g c = d.rd g c := by
  unfold Dev.fifoAt
  split
  · rfl
  · split
    · exact rd_wr_of_all _ h (by decide) _ _ _
    · rw [inc_eq_wr, rd_wr_of_all _ h (by decide), set_eq_wr, rd_wr_of_all _ h (by decide)]

theorem lanes_fifoAt (d : Dev) (src ch tb aux : Nat) (t : Stamp) : (d.fifoAt src ch tb aux t).lanes = d.lanes := by
  unfold Dev.fifoAt
  split
  · rfl
  · split <;> rfl

theorem rd_pilotStamp (d : Dev) (k fr : Nat) (tx : Bool) {g : Fld} (c : Nat)
    (h : [F.TU_FIFOSTAT_COUNT, F.TU_FIFOSTAT_OVF, F.TU_FIFOSTAT_LOST].all (fldNe g) = true) :
    (d.pilotStamp k fr tx).rd g c = d.rd g c := by
  unfold Dev.pilotStamp
  split
  · rfl
  · dsimp only
    split <;> exact rd_fifoAt _ _ _ _ _ _ _ h

theorem lanes_pilotStamp (d : Dev) (k fr : Nat) (tx : Bool) : (d.pilotStamp k fr tx).lanes = d.lanes := by
  unfold Dev.pilotStamp
  split
  · rfl
  · dsimp only
    split <;> exact lanes_fifoAt _ _ _ _ _ _

end Sys2Proof.Machine

/-! PROOFS. Chapter 03, the receive front end: its events and the calibration visits. -/

namespace Sys2Proof.Machine

/-! ## Samples (R73 to R78) -/

/-- An over-range or hard sample counts one, opens or restarts the window, and counts a new episode outside a window. -/
theorem pass_hit (f : Front) (lrm : Nat) (settling : Bool) {c : Conv} (h : c.ovr = true ∨ c.hard = true) :
    let g := (f.pass lrm settling c).2
    let long := c.hard || (f.window != 0 && f.hardWin)
    g.window = windowUis lrm long ∧ g.hardWin = long ∧ g.ovrs = f.ovrs + 1 ∧ g.recs = f.recs + (if f.window = 0 then 1 else 0) := by
  have hit : (c.ovr || c.hard) = true := Bool.or_eq_true _ _ ▸ h
  simp only [Front.pass, hit, if_true, b2n, beq_iff_eq, bne, and_self]

/-- What the window state of lane `k` makes of samples: the conversions, and the state after them. -/
def Dev.frontRun (d : Dev) (k : Nat) (l : List RxSample) : List Conv × Front :=
  ({ window := (d.lane k).rx.window, hardWin := (d.lane k).rx.hardWin, hardEp := (d.lane k).rx.hardEp } : Front).run (d.lrm k)
    (d.on F.SA_LSTAT_SETTLING k) (d.on F.SA_LSTAT_INV k) (l.zipIdx.map fun e => (d.adc k (64 * k + ((d.lane k).rx.ph + e.2) % 64), e.1))

/-- What samples add to the counters and flags of lane `k`. -/
def Dev.frontCount (d : Dev) (k : Nat) (f : Front) (hard : Bool) : Dev :=
  let d0 := if f.ovrs = 0 then d else (d.inc F.SA_OVRCNT_COUNT k f.ovrs).set F.SA_LSTAT_OVR k
  let d1 := (d0.inc F.SA_RECCNT_COUNT k f.recs).inc F.SA_HARDCNT_COUNT k f.hards
  if hard then d1.set F.SA_LSTAT_HARDOVR k else d1

/-- Lane `k` after `n` samples converted as `p` says: counters and flags, window state, phase and capture. -/
def Dev.sampled (d : Dev) (k n : Nat) (p : List Conv × Front) : Dev :=
  (d.frontCount k p.2 (p.1.any fun c => c.hard)).mapRx k fun r =>
    { r with window := p.2.window, hardWin := p.2.hardWin, hardEp := p.2.hardEp, ph := (r.ph + n) % 64
             tb := r.tb.map fun c =>
               c.takeAll (d.isC k) (d.on F.SA_LSTAT_SETTLING k) (d.lane k).rx.ph (d.lane k).rx.nextSymbol p.1 }

/-- Samples enter a lane as `sampled` says, and the first symbol of a marked frame is stamped. -/
theorem sample_eq_or (d : Dev) (k : Nat) (l : List RxSample) :
    (d.sample k l).2 = d.sampled k l.length (d.frontRun k l) ∨
      ∃ fr, (d.sample k l).2 = (d.sampled k l.length (d.frontRun k l)).pilotStamp k fr false := by
  unfold Dev.sample
  dsimp only
  split
  next i _ =>
    split
    · exact .inr ⟨i / 1088, rfl⟩
    · exact .inl rfl
  next => exact .inl rfl

theorem lanes_sample (d : Dev) (k : Nat) (l : List RxSample) :
    (d.sample k l).2.lanes = (d.sampled k l.length (d.frontRun k l)).lanes := by
  rcases sample_eq_or d k l with h | ⟨fr, h⟩
  · rw [h]
  · rw [h, lanes_pilotStamp]

theorem rd_sample (d : Dev) (k : Nat) (l : List RxSample) {g : Fld} (c : Nat)
    (hg : [F.TU_FIFOSTAT_COUNT, F.TU_FIFOSTAT_OVF, F.TU_FIFOSTAT_LOST].all (fldNe g) = true) :
    (d.sample k l).2.rd g c = (d.sampled k l.length (d.frontRun k l)).rd g c := by
  rcases sample_eq_or d k l with h | ⟨fr, h⟩
  · rw [h]
  · rw [h, rd_pilotStamp _ _ _ _ _ hg]

theorem lanes_frontCount (d : Dev) (k : Nat) (f : Front) (hard : Bool) : (d.frontCount k f hard).lanes = d.lanes := by
  unfold Dev.frontCount
  dsimp only
  repeat' split
  all_goals rfl

theorem lane_sampled (d : Dev) (k : Fin 8) (n : Nat) (p : List Conv × Front) :
    ((d.sampled k n p).lane k).rx.window = p.2.window ∧ ((d.sampled k n p).lane k).rx.hardWin = p.2.hardWin := by
  rw [Dev.sampled, lane_mapRx]
  exact ⟨rfl, rfl⟩

/-- Over-range samples set OVR and are counted, and so are new episodes. -/
theorem rd_frontCount (d : Dev) (k : Nat) {f : Front} (hard : Bool) (h : f.ovrs ≠ 0) :
    (d.frontCount k f hard).rd F.SA_LSTAT_OVR k = 1 ∧
    (d.frontCount k f hard).rd F.SA_OVRCNT_COUNT k = (d.rd F.SA_OVRCNT_COUNT k + f.ovrs) % 2 ^ 32 ∧
    (d.frontCount k f hard).rd F.SA_RECCNT_COUNT k = (d.rd F.SA_RECCNT_COUNT k + f.recs) % 2 ^ 32 := by
  unfold Dev.frontCount
  simp only [h, if_false, set_eq_wr, inc_eq_wr]
  split
  all_goals
    simp +decide only [rd_wr_fld, rd_wr_same, true_and]
    exact ⟨rfl, rfl⟩

/-- The conversion of lane `k`'s next sample. -/
def Dev.nextConv (d : Dev) (k : Nat) (a : RxSample) : Conv := (d.adc k (64 * k + (d.lane k).rx.ph % 64)).convert a

/-- Whether the window that a sample opens or restarts is hard-overdrive's: it is hard, or falls into such a window. -/
def Dev.longWindow (d : Dev) (k : Nat) (a : RxSample) : Bool :=
  (d.nextConv k a).hard || ((d.lane k).rx.window != 0 && (d.lane k).rx.hardWin)

/-- The window state after one over-range or hard sample. -/
theorem frontRun_hit {d : Dev} {k : Nat} {a : RxSample} (h : (d.nextConv k a).ovr = true ∨ (d.nextConv k a).hard = true) :
    let f := (d.frontRun k [a]).2
    f.window = windowUis (d.lrm k) (d.longWindow k a) ∧ f.hardWin = d.longWindow k a ∧ f.ovrs = 1 ∧
      f.recs = if (d.lane k).rx.window = 0 then 1 else 0 := by
  obtain ⟨hw, hh, ho, hr⟩ := pass_hit
    { window := (d.lane k).rx.window, hardWin := (d.lane k).rx.hardWin, hardEp := (d.lane k).rx.hardEp } (d.lrm k)
    (d.on F.SA_LSTAT_SETTLING k) h
  exact ⟨hw, hh, ho, hr.trans (Nat.zero_add _)⟩

/-- An over-range or hard sample enters a lane. -/
theorem sample_hit (d : Dev) (k : Fin 8) {a : RxSample} (h : (d.nextConv k a).ovr = true ∨ (d.nextConv k a).hard = true) :
    let t := (d.sample k [a]).2
    t.rd F.SA_LSTAT_OVR k = 1 ∧ t.rd F.SA_OVRCNT_COUNT k = (d.rd F.SA_OVRCNT_COUNT k + 1) % 2 ^ 32 ∧
      t.rd F.SA_RECCNT_COUNT k = (d.rd F.SA_RECCNT_COUNT k + (if (d.lane k).rx.window = 0 then 1 else 0)) % 2 ^ 32 ∧
      (t.lane k).rx.window = windowUis (d.lrm k) (d.longWindow k a) ∧ (t.lane k).rx.hardWin = d.longWindow k a := by
  obtain ⟨hw, hh, ho, hr⟩ := frontRun_hit h
  dsimp only
  rw [← hw, ← hh, ← hr, lane_of_lanes (lanes_sample d k [a]) k, rd_sample _ _ _ _ (by decide), rd_sample _ _ _ _ (by decide),
    rd_sample _ _ _ _ (by decide)]
  obtain ⟨hovr, hcnt, hrec⟩ := rd_frontCount d k ((d.frontRun k [a]).1.any fun c => c.hard) (f := (d.frontRun k [a]).2) (by omega)
  rw [ho] at hcnt
  exact ⟨hovr, hcnt, hrec, lane_sampled d k _ _⟩

/-- OVERRANGE_SAMPLE of a lane that can take it: the sample enters; in a data path it joins the word under way. -/
theorem execOverrangeSample_eq {s : State} {k : Fin 8} (a : RxSample) (hd : s.dev.domOn (dLADC k) = true)
    (hp : (s.dev.lane k).rx.part.length < 136) :
    execOverrangeSample k a s = .next (s.put (if (s.dev.lane k).rx.started then
      (s.dev.sample k [a]).2.mapRx k fun r => { r with part := r.part ++ (s.dev.sample k [a]).1 } else (s.dev.sample k [a]).2)) := by
  unfold execOverrangeSample
  rw [lift_put]
  simp only [hd, Nat.not_le.mpr hp, Bool.not_true, decide_false, Bool.or_false, Bool.false_eq_true, if_false]

/-- OVERRANGE_SAMPLE of an over-range or hard sample. -/
theorem overrangeSample_hit {s : State} {k : Fin 8} {a : RxSample} (hd : s.dev.domOn (dLADC k) = true)
    (hp : (s.dev.lane k).rx.part.length < 136) (h : (s.dev.nextConv k a).ovr = true ∨ (s.dev.nextConv k a).hard = true) :
    ∃ t : Dev, exec (.overrangeSample k a) s = .next (s.put t) ∧ t.rd F.SA_LSTAT_OVR k = 1 ∧
      t.rd F.SA_OVRCNT_COUNT k = (s.dev.rd F.SA_OVRCNT_COUNT k + 1) % 2 ^ 32 ∧
      t.rd F.SA_RECCNT_COUNT k = (s.dev.rd F.SA_RECCNT_COUNT k + (if (s.dev.lane k).rx.window = 0 then 1 else 0)) % 2 ^ 32 ∧
      (t.lane k).rx.window = windowUis (s.dev.lrm k) (s.dev.longWindow k a) ∧ (t.lane k).rx.hardWin = s.dev.longWindow k a := by
  refine ⟨_, execOverrangeSample_eq a hd hp, ?_⟩
  split
  · simp only [Dev.rd_mapRx, lane_mapRx]
    exact sample_hit s.dev k h
  · exact sample_hit s.dev k h

/-- REC_WINDOW_END of a lane that nothing watches. -/
theorem recWindowEnd_unwatched {s : State} {k : Fin 8} (hw : (s.dev.lane k).rx.watched = false) :
    exec (.recWindowEnd k) s = .next (s.put (s.dev.mapRx k fun r =>
      { r with window := 0, hardWin := false, hardEp := false, ph := (r.ph + r.window) % 64 })) := by
  show execRecWindowEnd k s = _
  unfold execRecWindowEnd
  rw [lift_put]
  simp only [hw, Bool.false_eq_true, if_false]

/-! ## Signed fields -/

/-- The numbers that `w` bits of two's complement hold. -/
def fits (w : Nat) (x : Int) : Prop := -(2 ^ w : Nat) ≤ 2 * x ∧ 2 * x < (2 ^ w : Nat)

theorem fits_sx (w v : Nat) : fits w (sx w v) := by
  have hm : v % 2 ^ w < 2 ^ w := Nat.mod_lt _ (Nat.two_pow_pos w)
  unfold fits sx
  generalize 2 ^ w = M at hm ⊢
  dsimp only
  split <;> omega

/-- A number that fits is read back from its code. -/
theorem sx_tc {w : Nat} {x : Int} (h : fits w x) : sx w (tc w x % 2 ^ w) = x := by
  have hM := Nat.two_pow_pos w
  unfold fits at h
  unfold sx tc
  generalize 2 ^ w = M at h hM ⊢
  obtain ⟨hlo, hhi⟩ := h
  have h0 : 0 ≤ x % (M : Int) := Int.emod_nonneg _ (by omega)
  have hlt : x % (M : Int) < M := Int.emod_lt_of_pos _ (by omega)
  have hmod : (x % (M : Int)).toNat % M % M = (x % (M : Int)).toNat := by
    rw [Nat.mod_mod, Nat.mod_eq_of_lt (by omega)]
  dsimp only
  rw [hmod]
  have hx : x % (M : Int) = x ∨ x % (M : Int) = x + M := by
    rcases Int.lt_or_le x 0 with hn | hp
    · right
      rw [← Int.add_emod_right, Int.emod_eq_of_lt (by omega) (by omega)]
    · left
      exact Int.emod_eq_of_lt hp (by omega)
  split <;> omega

theorem fits_rdS (d : Dev) (f : Fld) (ch : Nat) : fits f.w (d.rdS f ch) := fits_sx f.w _

/-- A signed field reads the number written where that fits. -/
theorem rdS_wrS_same (d : Dev) {f : Fld} (ch : Nat) {x : Int} (h : fits f.w x) : (d.wrS f ch x).rdS f ch = x := by
  rw [Dev.rdS, Dev.wrS, rd_wr_same, sx_tc h]

/-- A signed field reads the same where its bits do. -/
theorem rdS_congr {d e : Dev} {f : Fld} {ch : Nat} (h : d.rd f ch = e.rd f ch) : d.rdS f ch = e.rdS f ch := by
  rw [Dev.rdS, Dev.rdS, h]

/-! ## Trims and commits (R79 to R86) -/

/-- Where a commit takes an active trim: to its staged value, in an active data path at most `lim` towards it. -/
def trimTarget (limited : Bool) (lim staged active : Int) : Int :=
  if limited then active + clampI (-lim) lim (staged - active) else staged

/-- It fits where both values do, since it lies between them. -/
theorem fits_trimTarget {w : Nat} (limited : Bool) {lim staged active : Int} (hl : 0 ≤ lim) (hs : fits w staged) (ha : fits w active) :
    fits w (trimTarget limited lim staged active) := by
  unfold fits at *
  unfold trimTarget clampI
  repeat' split
  all_goals omega

/-- A signed field takes a number; one that reads it already is not written. -/
def Dev.moveTo (d : Dev) (f : Fld) (ch : Nat) (old new : Int) : Dev := if new = old then d else d.wrS f ch new

theorem rdS_moveTo {d : Dev} {f : Fld} {ch : Nat} {old new : Int} (h : d.rdS f ch = old) (hn : fits f.w new) :
    (d.moveTo f ch old new).rdS f ch = new := by
  unfold Dev.moveTo
  split
  next he => rw [h, he]
  next => exact rdS_wrS_same d ch hn

theorem rd_moveTo (d : Dev) {f g : Fld} {ch c : Nat} (old new : Int) (h : g.key c ≠ f.key ch) :
    (d.moveTo f ch old new).rd g c = d.rd g c := by
  unfold Dev.moveTo
  split
  · rfl
  · exact rd_wr_ne d f g ch c _ h

theorem lanes_moveTo (d : Dev) (f : Fld) (ch : Nat) (old new : Int) : (d.moveTo f ch old new).lanes = d.lanes := by
  unfold Dev.moveTo
  split <;> rfl

/-- Where a commit takes one trim of sub-ADC `ch`. -/
def Dev.trimGoal (d : Dev) (limited : Bool) (ch : Nat) (t : Fld × Fld × Int) : Int :=
  trimTarget limited t.2.2 (d.rdS t.1 ch) (d.rdS t.2.1 ch)

/-- The trims of a sub-ADC in a list moved to their goals, all goals taken from the same device `o`. -/
def Dev.moveTrims (d o : Dev) (limited : Bool) (ch : Nat) (ts : List (Fld × Fld × Int)) : Dev :=
  ts.foldl (fun e t => e.moveTo t.2.1 ch (o.rdS t.2.1 ch) (o.trimGoal limited ch t)) d

/-- A commit of one sub-ADC moves its three trims, and notes the boundary if one has changed. -/
theorem commitPhase_eq (d : Dev) (ch : Nat) (limited : Bool) (boundary : Nat) : ∃ changed : Bool,
    (d.commitPhase ch limited boundary).2 = if changed then (d.moveTrims d limited ch trimFields).wr F.SA_LASTCMT_BOUNDARY ch boundary
      else d.moveTrims d limited ch trimFields := ⟨_, rfl⟩

theorem rd_moveTrims (d o : Dev) (limited : Bool) (ch : Nat) {ts : List (Fld × Fld × Int)} {g : Fld} {c : Nat}
    (h : ∀ t ∈ ts, g.key c ≠ t.2.1.key ch) : (d.moveTrims o limited ch ts).rd g c = d.rd g c := by
  induction ts generalizing d with
  | nil => rfl
  | cons t ts ih =>
    rw [List.forall_mem_cons] at h
    exact (ih _ h.2).trans (rd_moveTo d _ _ h.1)

theorem lanes_moveTrims (d o : Dev) (limited : Bool) (ch : Nat) (ts : List (Fld × Fld × Int)) :
    (d.moveTrims o limited ch ts).lanes = d.lanes := by
  induction ts generalizing d with
  | nil => rfl
  | cons t ts ih => exact (ih _).trans (lanes_moveTo d _ _ _ _)

/-- Each trim of the list reaches its goal, since no other trim of the list shares its field. -/
theorem rdS_moveTrims {d o : Dev} (limited : Bool) (ch : Nat) {ts : List (Fld × Fld × Int)}
    (hne : ts.Pairwise fun t u => fldNe t.2.1 u.2.1 = true) (hok : ∀ t ∈ ts, 0 ≤ t.2.2 ∧ t.1.w = t.2.1.w)
    (hread : ∀ t ∈ ts, d.rdS t.2.1 ch = o.rdS t.2.1 ch) {t : Fld × Fld × Int} (ht : t ∈ ts) :
    (d.moveTrims o limited ch ts).rdS t.2.1 ch = o.trimGoal limited ch t := by
  induction ts generalizing d with
  | nil => cases ht
  | cons u ts ih =>
    rw [List.pairwise_cons] at hne
    rw [List.forall_mem_cons] at hok hread
    obtain ⟨hu, hne⟩ := hne
    have hkey : ∀ t ∈ ts, u.2.1.key ch ≠ t.2.1.key ch := fun t ht => key_ne_of_fldNe (hu t ht) ch ch
    rcases List.mem_cons.mp ht with rfl | ht
    · refine (rdS_congr (rd_moveTrims _ o limited ch hkey)).trans (rdS_moveTo hread.1 ?_)
      obtain ⟨hlim, hw⟩ := hok.1
      exact fits_trimTarget limited hlim (hw ▸ fits_rdS o t.1 ch) (fits_rdS o t.2.1 ch)
    · refine ih hne hok.2 (fun t ht => ?_) ht
      exact (rdS_congr (rd_moveTo d _ _ (hkey t ht).symm)).trans (hread.2 t ht)

theorem trimFields_pairwise : trimFields.Pairwise fun t u => fldNe t.2.1 u.2.1 = true := by decide

theorem trimFields_ok : ∀ t ∈ trimFields, 0 ≤ t.2.2 ∧ t.1.w = t.2.1.w := by decide

/-- The fields that a commit of one sub-ADC writes. -/
def commitFields : List Fld := F.SA_LASTCMT_BOUNDARY :: trimFields.map fun t => t.2.1

theorem active_mem_commitFields {t : Fld × Fld × Int} (ht : t ∈ trimFields) : t.2.1 ∈ commitFields :=
  List.mem_cons_of_mem _ (List.mem_map_of_mem ht)

/-- A field that lies in the map. -/
def Fld.inMap (f : Fld) : Bool := decide (f.addr * 32 + f.lo < 2 ^ 26)

theorem commitFields_inMap : ∀ f ∈ commitFields, f.inMap = true := by decide

theorem trimFields_inMap : ∀ t ∈ trimFields, t.1.inMap = true ∧ t.2.1.inMap = true := by decide

theorem key_ne_of_chan {f g : Fld} (hf : f.inMap = true) (hg : g.inMap = true) {c ch : Nat} (h : c ≠ ch) : g.key c ≠ f.key ch :=
  key_ne (of_decide_eq_true hg) (of_decide_eq_true hf) (.inl h)

theorem rd_commitPhase (d : Dev) (ch : Nat) (limited : Bool) (boundary : Nat) {g : Fld} {c : Nat}
    (h : ∀ f ∈ commitFields, g.key c ≠ f.key ch) : (d.commitPhase ch limited boundary).2.rd g c = d.rd g c := by
  have hm : (d.moveTrims d limited ch trimFields).rd g c = d.rd g c :=
    rd_moveTrims d d limited ch fun t ht => h _ (active_mem_commitFields ht)
  obtain ⟨changed, he⟩ := commitPhase_eq d ch limited boundary
  rw [he]
  split
  · exact (rd_wr_ne _ _ _ _ _ _ (h _ List.mem_cons_self)).trans hm
  · exact hm

theorem lanes_commitPhase (d : Dev) (ch : Nat) (limited : Bool) (boundary : Nat) :
    (d.commitPhase ch limited boundary).2.lanes = d.lanes := by
  obtain ⟨changed, he⟩ := commitPhase_eq d ch limited boundary
  rw [he]
  split <;> exact lanes_moveTrims d d limited ch trimFields

/-- A commit of one sub-ADC takes each of its trims to its goal (R82). -/
theorem rdS_commitPhase (d : Dev) (ch : Nat) (limited : Bool) (boundary : Nat) {t : Fld × Fld × Int} (ht : t ∈ trimFields) :
    (d.commitPhase ch limited boundary).2.rdS t.2.1 ch = d.trimGoal limited ch t := by
  have hm := rdS_moveTrims (d := d) (o := d) limited ch trimFields_pairwise trimFields_ok (fun _ _ => rfl) ht
  have hb : ∀ t ∈ trimFields, fldNe t.2.1 F.SA_LASTCMT_BOUNDARY = true := by decide
  obtain ⟨changed, he⟩ := commitPhase_eq d ch limited boundary
  rw [he]
  split
  · exact (rdS_congr (rd_wr_fld _ _ _ _ _ _ (hb t ht))).trans hm
  · exact hm

/-- The sub-ADCs of phases 0 to `n` − 1 of lane `k` committed one after another. -/
def Dev.commitPhases (d : Dev) (k : Nat) (limited : Bool) (boundary n : Nat) : Dev :=
  (List.range n).foldl (fun e p => (e.commitPhase (64 * k + p) limited boundary).2) d

theorem commitPhases_succ (d : Dev) (k : Nat) (limited : Bool) (boundary n : Nat) :
    d.commitPhases k limited boundary (n + 1) =
      ((d.commitPhases k limited boundary n).commitPhase (64 * k + n) limited boundary).2 := by
  rw [Dev.commitPhases, List.range_succ, List.foldl_append]
  rfl

theorem rd_commitPhases (d : Dev) (k : Nat) (limited : Bool) (boundary : Nat) {n : Nat} {g : Fld} {c : Nat}
    (h : ∀ p, p < n → ∀ f ∈ commitFields, g.key c ≠ f.key (64 * k + p)) : (d.commitPhases k limited boundary n).rd g c = d.rd g c := by
  induction n with
  | zero => rfl
  | succ n ih =>
    rw [commitPhases_succ, rd_commitPhase _ _ _ _ (h n (Nat.lt_succ_self n))]
    exact ih fun p hp => h p (Nat.lt_succ_of_lt hp)

theorem lanes_commitPhases (d : Dev) (k : Nat) (limited : Bool) (boundary n : Nat) :
    (d.commitPhases k limited boundary n).lanes = d.lanes := by
  induction n with
  | zero => rfl
  | succ n ih => rw [commitPhases_succ, lanes_commitPhase, ih]

/-- After the commits each trim of each phase has reached the goal it had before them. -/
theorem rdS_commitPhases (d : Dev) (k : Nat) (limited : Bool) (boundary : Nat) {n p : Nat} (hp : p < n) {t : Fld × Fld × Int}
    (ht : t ∈ trimFields) : (d.commitPhases k limited boundary n).rdS t.2.1 (64 * k + p) = d.trimGoal limited (64 * k + p) t := by
  obtain ⟨hs, ha⟩ := trimFields_inMap t ht
  induction n with
  | zero => cases hp
  | succ n ih =>
    rw [commitPhases_succ]
    rcases Nat.lt_succ_iff_lt_or_eq.mp hp with hlt | rfl
    · have hkey : ∀ f ∈ commitFields, t.2.1.key (64 * k + p) ≠ f.key (64 * k + n) := fun f hf =>
        key_ne_of_chan (commitFields_inMap f hf) ha (by omega)
      exact (rdS_congr (rd_commitPhase _ _ _ _ hkey)).trans (ih hlt)
    · have hkey : ∀ {g : Fld}, g.inMap = true → ∀ q, q < p → ∀ f ∈ commitFields, g.key (64 * k + p) ≠ f.key (64 * k + q) :=
        fun hg q hq f hf => key_ne_of_chan (commitFields_inMap f hf) hg (by omega)
      rw [rdS_commitPhase _ _ _ _ ht, Dev.trimGoal, Dev.trimGoal, rdS_congr (rd_commitPhases d k limited boundary (hkey hs)),
        rdS_congr (rd_commitPhases d k limited boundary (hkey ha))]

/-- A fold that carries a Boolean beside the device updates the device as the fold without it. -/
theorem snd_foldl_or {α β : Type} (h : α → β → Bool × α) (l : List β) (b : Bool) (a : α) :
    (l.foldl (fun (x : Bool × α) p => (x.1 || (h x.2 p).1, (h x.2 p).2)) (b, a)).2 = l.foldl (fun e p => (h e p).2) a := by
  induction l generalizing b a with
  | nil => rfl
  | cons p t ih => exact ih _ _

/-- The flags and counters that a trim commit of a lane writes after its trims. -/
def Dev.commitCounted (d : Dev) (k : Nat) (left : Bool) : Dev :=
  let e := (d.clr F.SA_LCTL_CMTREQ k).inc F.SA_CMTCNT_COUNT k
  if left then (e.set F.SA_LSTAT_CLAMPED k).inc F.SA_CLAMPCNT_COUNT k else e

/-- A trim commit commits the sub-ADCs of all phases and counts; the lane notes its trims and when it committed. -/
theorem trimCommit_eq (d : Dev) (k boundary : Nat) : ∃ left : Bool,
    let e := (d.commitPhases k (d.lane k).active boundary 64).commitCounted k left
    d.trimCommit k boundary = e.mapLane k fun l => { l with trims := e.activeTrims k, rx := { l.rx with lastCmt := l.rx.freeBlocks } } := by
  have hfold := snd_foldl_or (fun e p => e.commitPhase (64 * k + p) (d.lane k).active boundary) (List.range 64) false d
  unfold Dev.trimCommit
  dsimp only
  rw [hfold]
  exact ⟨_, rfl⟩

theorem lanes_commitCounted (d : Dev) (k : Nat) (left : Bool) : (d.commitCounted k left).lanes = d.lanes := by
  cases left <;> rfl

theorem rd_commitCounted (d : Dev) (k : Nat) (left : Bool) {g : Fld} (c : Nat)
    (h : [F.SA_LCTL_CMTREQ, F.SA_CMTCNT_COUNT, F.SA_LSTAT_CLAMPED, F.SA_CLAMPCNT_COUNT].all (fldNe g) = true) :
    (d.commitCounted k left).rd g c = d.rd g c := by
  have hcount : ((d.clr F.SA_LCTL_CMTREQ k).inc F.SA_CMTCNT_COUNT k).rd g c = d.rd g c := by
    rw [inc_eq_wr, rd_wr_of_all _ h (by decide), clr_eq_wr, rd_wr_of_all _ h (by decide)]
  cases left
  · exact hcount
  · rw [Dev.commitCounted, if_pos rfl, inc_eq_wr, rd_wr_of_all _ h (by decide), set_eq_wr, rd_wr_of_all _ h (by decide), hcount]

theorem cmtcnt_commitCounted (d : Dev) (k : Nat) (left : Bool) :
    (d.commitCounted k left).rd F.SA_CMTCNT_COUNT k = (d.rd F.SA_CMTCNT_COUNT k + 1) % 2 ^ 32 := by
  have h : ((d.clr F.SA_LCTL_CMTREQ k).inc F.SA_CMTCNT_COUNT k).rd F.SA_CMTCNT_COUNT k = (d.rd F.SA_CMTCNT_COUNT k + 1) % 2 ^ 32 := by
    rw [inc_eq_wr, rd_wr_same, clr_eq_wr, rd_wr_fld _ _ _ _ _ _ (by decide)]
    rfl
  cases left
  · exact h
  · refine Eq.trans ?_ h
    simp +decide only [Dev.commitCounted, if_true, rd_wr_fld, inc_eq_wr, set_eq_wr]

/-- A trim commit counts one, and takes each trim of each phase to its goal. -/
theorem rd_trimCommit (d : Dev) (k boundary : Nat) :
    (d.trimCommit k boundary).rd F.SA_CMTCNT_COUNT k = (d.rd F.SA_CMTCNT_COUNT k + 1) % 2 ^ 32 ∧
    ∀ p, p < 64 → ∀ t ∈ trimFields,
      (d.trimCommit k boundary).rdS t.2.1 (64 * k + p) = d.trimGoal (d.lane k).active (64 * k + p) t := by
  obtain ⟨left, he⟩ := trimCommit_eq d k boundary
  dsimp only at he
  rw [he]
  refine ⟨?_, fun p hp t ht => ?_⟩
  · rw [Dev.rd_mapLane, cmtcnt_commitCounted, rd_commitPhases]
    exact fun p _ f hf => key_ne_of_fldNe ((by decide : ∀ f ∈ commitFields, fldNe F.SA_CMTCNT_COUNT f = true) f hf) _ _
  · have hfree : ∀ t ∈ trimFields, [F.SA_LCTL_CMTREQ, F.SA_CMTCNT_COUNT, F.SA_LSTAT_CLAMPED, F.SA_CLAMPCNT_COUNT].all
      (fldNe t.2.1) = true := by decide
    exact (rdS_congr (rd_commitCounted _ k left _ (hfree t ht))).trans (rdS_commitPhases d k _ boundary hp ht)

theorem freeBlocks_trimCommit (d : Dev) (k : Fin 8) (boundary : Nat) :
    ((d.trimCommit k boundary).lane k).rx.freeBlocks = (d.lane k).rx.freeBlocks := by
  obtain ⟨left, he⟩ := trimCommit_eq d k boundary
  dsimp only at he
  rw [he, lane_mapLane, lane_of_lanes ((lanes_commitCounted _ _ _).trans (lanes_commitPhases d k _ boundary 64))]

/-- Answering the waiting trim commands is seen in no register but TXSLEEP. -/
theorem rd_trimWaits (d : Dev) (k : Nat) {g : Fld} (c : Nat) (h : fldNe g F.XC_STAT_TXSLEEP = true) :
    (d.trimWaits k).rd g c = d.rd g c := rd_settle (d.mapWait _) _ c h

theorem lanes_trimWaits (d : Dev) (k : Nat) : (d.trimWaits k).lanes = d.lanes := lanes_settle (d.mapWait _) _

/-- A request for the next commit is seen in CMTREQ and CLAMPED. -/
theorem rd_nextCommit (d : Dev) (k : Nat) {g : Fld} (c : Nat) (h : [F.SA_LSTAT_CLAMPED, F.SA_LCTL_CMTREQ].all (fldNe g) = true) :
    (d.nextCommit k).rd g c = d.rd g c := by
  unfold Dev.nextCommit
  split
  · rfl
  · split
    · unfold Dev.calCommit
      rw [Dev.rd_mapRx, set_eq_wr, rd_wr_of_all _ h (by decide), clr_eq_wr, rd_wr_of_all _ h (by decide)]
    · split
      · exact rd_wr_of_all _ h (by decide) _ _ _
      · rfl

theorem freeBlocks_nextCommit (d : Dev) (k : Fin 8) : ((d.nextCommit k).lane k).rx.freeBlocks = (d.lane k).rx.freeBlocks := by
  unfold Dev.nextCommit
  split
  · rfl
  · split
    · unfold Dev.calCommit
      rw [lane_mapRx]
      rfl
    · split <;> rfl

theorem nextCommit_ws (d : Dev) (k : Nat) : (d.nextCommit k).ws = d.ws := by
  unfold Dev.nextCommit
  split
  · rfl
  · split
    · rfl
    · split <;> rfl

/-- A lane for which nobody wants a commit gets none requested. -/
theorem nextCommit_idle {d : Dev} {k : Nat} (hc : d.calWaiting k = false) (ht : d.trimWaiting k = false) : d.nextCommit k = d := by
  unfold Dev.nextCommit
  rw [hc, ht]
  split <;> rfl

/-- The fields that a boundary writes beside the trims: the request for the next commit, and the decoder's. -/
def boundaryFields : List Fld :=
  [F.SA_LSTAT_CLAMPED, F.SA_LCTL_CMTREQ, F.DEC_HFRM_COUNT, F.DEC_STAT_HSEQ, F.DEC_CTL_HSNAP, F.DEC_FRMCNT_COUNT] ++
    (List.range 16).map fun b => F.DEC_HIST_COUNT.at b

theorem rd_histSnap (d : Dev) (k : Nat) {g : Fld} (c : Nat) (h : boundaryFields.all (fldNe g) = true) :
    (d.histSnap k).rd g c = d.rd g c := by
  have hbin : ∀ b, b < 16 → F.DEC_HIST_COUNT.at b ∈ boundaryFields := fun b hb =>
    List.mem_append_right _ (List.mem_map_of_mem (List.mem_range.mpr hb))
  unfold Dev.histSnap
  dsimp only
  rw [Dev.rd_mapTel, Dev.rd_mapRx, clr_eq_wr, rd_wr_of_all _ h (by decide), inc_eq_wr, rd_wr_of_all _ h (by decide),
    rd_wr_of_all _ h (by decide)]
  exact iter_keeps (fun e : Dev => e.rd g c) (fun b e hb => rd_wr_of_all e h (hbin b hb) _ _ _) d

theorem freeBlocks_histSnap (d : Dev) (k : Fin 8) : ((d.histSnap k).lane k).rx.freeBlocks = (d.lane k).rx.freeBlocks := by
  have hbins := iter_keeps Dev.lanes (f := fun b e => e.wr (F.DEC_HIST_COUNT.at b) k ((d.lane k).rx.bins.getD b 0)) (n := 16)
    (fun _ _ _ => rfl) d
  unfold Dev.histSnap
  dsimp only
  rw [Dev.lane_mapTel, lane_mapRx]
  simp only [clr_eq_wr, inc_eq_wr, Dev.lane_wr, lane_of_lanes hbins]

/-- A commit boundary of lane `k` is counted. -/
def Dev.boundaryCounted (d : Dev) (k : Nat) : Dev :=
  d.mapRx k fun r => { r with freeBlocks := r.freeBlocks + 1, blocks := if r.started then r.blocks + 1 else r.blocks }

/-- The boundary's number in SA_LASTCMT: the count since symbol 0 of a running data path, or else the free-running one. -/
def RxLane.boundaryNo (x : RxLane) : Nat := if x.started then x.blocks + 1 else x.freeBlocks + 1

/-- A boundary of lane `k` is counted, and a requested commit is made and counted by those that wait for it. -/
def Dev.boundaryCommit (d : Dev) (k : Nat) : Dev :=
  if d.on F.SA_LCTL_CMTREQ k then ((d.boundaryCounted k).trimCommit k (d.lane k).rx.boundaryNo).trimWaits k else d.boundaryCounted k

/-- What else a boundary brings while LRXD is on: configuration taken over, a snapshot asked for, and, in U modes, the frame count. -/
def Dev.boundaryRx (d : Dev) (k : Nat) (counts : Bool) : Dev :=
  if !d.domOn (dLRXD k) then d
  else
    let d1 := d.mapRx k fun r =>
      { r with bw := d.rd F.LN_TRCTL_BW k, trfrz := d.on F.LN_TRCTL_FREEZE k, twt := d.rd F.DEC_CTL_TWT k
               mth := d.rd F.DEC_CTL_MTH k, hfrm := r.hfrm + 1 }
    let d2 := if d1.on F.DEC_CTL_HSNAP k then d1.histSnap k else d1
    if counts then d2.inc F.DEC_FRMCNT_COUNT k else d2

/-- SA_COMMIT_BOUNDARY of a powered lane. -/
theorem execSaCommitBoundary_eq {s : State} {k : Fin 8} (hd : s.dev.domOn (dLADC k) = true) :
    execSaCommitBoundary k s = .next (s.put (((s.dev.boundaryCommit k).nextCommit k).boundaryRx k
      ((s.dev.lane k).rx.started && !s.dev.isC k))) := by
  unfold execSaCommitBoundary
  rw [lift_put]
  simp only [hd, Bool.not_true, Bool.false_eq_true, if_false]
  rfl

theorem rd_boundaryRx (d : Dev) (k : Nat) (counts : Bool) {g : Fld} (c : Nat) (h : boundaryFields.all (fldNe g) = true) :
    (d.boundaryRx k counts).rd g c = d.rd g c := by
  have hcount : ∀ e : Dev, (e.inc F.DEC_FRMCNT_COUNT k).rd g c = e.rd g c := fun e => rd_wr_of_all e h (by decide) _ _ _
  unfold Dev.boundaryRx
  dsimp only
  split
  · rfl
  · cases counts
    all_goals
      simp only [Bool.false_eq_true, if_false, if_true, hcount]
      split
      · exact rd_histSnap _ k c h
      · rfl

theorem freeBlocks_boundaryRx (d : Dev) (k : Fin 8) (counts : Bool) :
    ((d.boundaryRx k counts).lane k).rx.freeBlocks = (d.lane k).rx.freeBlocks := by
  unfold Dev.boundaryRx
  dsimp only
  split
  · rfl
  · cases counts
    all_goals
      simp only [Bool.false_eq_true, if_false, if_true, inc_eq_wr, Dev.lane_wr]
      split
      · rw [freeBlocks_histSnap, lane_mapRx]
      · rw [lane_mapRx]

theorem freeBlocks_boundaryCommit (d : Dev) (k : Fin 8) :
    ((d.boundaryCommit k).lane k).rx.freeBlocks = (d.lane k).rx.freeBlocks + 1 := by
  have hcounted : ((d.boundaryCounted k).lane k).rx.freeBlocks = (d.lane k).rx.freeBlocks + 1 := by
    rw [Dev.boundaryCounted, lane_mapRx]
  unfold Dev.boundaryCommit
  split
  · rw [lane_of_lanes (lanes_trimWaits _ _), freeBlocks_trimCommit, hcounted]
  · exact hcounted

/-- What a requested commit at a boundary leaves. -/
theorem rd_boundaryCommit_of_request {d : Dev} {k : Fin 8} (h : d.on F.SA_LCTL_CMTREQ k = true) :
    (d.boundaryCommit k).rd F.SA_CMTCNT_COUNT k = (d.rd F.SA_CMTCNT_COUNT k + 1) % 2 ^ 32 ∧
    ∀ p, p < 64 → ∀ t ∈ trimFields,
      (d.boundaryCommit k).rdS t.2.1 (64 * k + p) = d.trimGoal (d.lane k).active (64 * k + p) t := by
  obtain ⟨hcnt, htrim⟩ := rd_trimCommit (d.boundaryCounted k) k (d.lane k).rx.boundaryNo
  have hactive : ((d.boundaryCounted k).lane k).active = (d.lane k).active := by rw [Dev.boundaryCounted, lane_mapRx]
  have hfree : ∀ t ∈ trimFields, fldNe t.2.1 F.XC_STAT_TXSLEEP = true := by decide
  rw [Dev.boundaryCommit, if_pos h]
  refine ⟨(rd_trimWaits _ _ _ (by decide)).trans hcnt, fun p hp t ht => ?_⟩
  rw [rdS_congr (rd_trimWaits _ _ _ (hfree t ht)), htrim p hp t ht, hactive]
  rfl

theorem rd_boundaryCommit_idle {d : Dev} {k : Nat} (h : d.on F.SA_LCTL_CMTREQ k = false) (g : Fld) (c : Nat) :
    (d.boundaryCommit k).rd g c = d.rd g c := by
  rw [Dev.boundaryCommit, h]
  rfl

/-- SA_COMMIT_BOUNDARY of a powered lane: the count, and the trims with and without a request. -/
theorem saCommitBoundary_powered {s : State} {k : Fin 8} (hd : s.dev.domOn (dLADC k) = true) :
    ∃ t : Dev, exec (.saCommitBoundary k) s = .next (s.put t) ∧ (t.lane k).rx.freeBlocks = (s.dev.lane k).rx.freeBlocks + 1 ∧
      (s.dev.on F.SA_LCTL_CMTREQ k = true →
        t.rd F.SA_CMTCNT_COUNT k = (s.dev.rd F.SA_CMTCNT_COUNT k + 1) % 2 ^ 32 ∧
        ∀ p, p < 64 → ∀ f ∈ trimFields, t.rdS f.2.1 (64 * k + p) = s.dev.trimGoal (s.dev.lane k).active (64 * k + p) f) ∧
      (s.dev.on F.SA_LCTL_CMTREQ k = false → t.rd F.SA_CMTCNT_COUNT k = s.dev.rd F.SA_CMTCNT_COUNT k ∧
        ∀ p, p < 64 → ∀ f ∈ trimFields, t.rdS f.2.1 (64 * k + p) = s.dev.rdS f.2.1 (64 * k + p)) := by
  have hread : ∀ {g : Fld} (c : Nat), boundaryFields.all (fldNe g) = true →
      (((s.dev.boundaryCommit k).nextCommit k).boundaryRx k ((s.dev.lane k).rx.started && !s.dev.isC k)).rd g c =
        (s.dev.boundaryCommit k).rd g c := by
    intro g c h
    have hnext : [F.SA_LSTAT_CLAMPED, F.SA_LCTL_CMTREQ].all (fldNe g) = true := by
      rw [List.all_eq_true] at h ⊢
      exact fun f hf => h f ((by decide : ∀ f ∈ [F.SA_LSTAT_CLAMPED, F.SA_LCTL_CMTREQ], f ∈ boundaryFields) f hf)
    rw [rd_boundaryRx _ _ _ _ h, rd_nextCommit _ _ _ hnext]
  have hcnt : boundaryFields.all (fldNe F.SA_CMTCNT_COUNT) = true := by decide
  have htrim : ∀ f ∈ trimFields, boundaryFields.all (fldNe f.2.1) = true := by decide
  refine ⟨_, execSaCommitBoundary_eq hd, ?_, fun hr => ?_, fun hr => ?_⟩
  · rw [freeBlocks_boundaryRx, freeBlocks_nextCommit, freeBlocks_boundaryCommit]
  · obtain ⟨hc, ht⟩ := rd_boundaryCommit_of_request hr
    exact ⟨(hread k hcnt).trans hc, fun p hp f hf => (rdS_congr (hread _ (htrim f hf))).trans (ht p hp f hf)⟩
  · have hidle := rd_boundaryCommit_idle hr
    exact ⟨(hread k hcnt).trans (hidle _ _), fun p _ f hf => rdS_congr ((hread _ (htrim f hf)).trans (hidle _ _))⟩

/-- A boundary with LRXD off, no data path and no commit requested or wanted only counts. -/
theorem saCommitBoundary_idle {s : State} {k : Fin 8} (hd : s.dev.domOn (dLADC k) = true) (hx : s.dev.domOn (dLRXD k) = false)
    (hr : s.dev.on F.SA_LCTL_CMTREQ k = false) (hs : (s.dev.lane k).rx.started = false) (hc : s.dev.calWaiting k = false)
    (ht : s.dev.trimWaiting k = false) :
    exec (.saCommitBoundary k) s = .next (s.put (s.dev.mapRx k fun r => { r with freeBlocks := r.freeBlocks + 1 })) := by
  have hcount : s.dev.boundaryCommit k = s.dev.mapRx k fun r => { r with freeBlocks := r.freeBlocks + 1 } := by
    rw [Dev.boundaryCommit, hr, if_neg Bool.false_ne_true]
    refine mapRx_congr ?_
    rw [hs]
    rfl
  have hcal : (s.dev.boundaryCommit k).calWaiting k = false := by
    rw [hcount, Dev.calWaiting, lane_mapRx]
    exact hc
  have htrim : (s.dev.boundaryCommit k).trimWaiting k = false := by
    rw [hcount]
    exact ht
  refine (execSaCommitBoundary_eq hd).trans ?_
  rw [nextCommit_idle hcal htrim, hcount, Dev.boundaryRx]
  have hx' : (s.dev.mapRx k fun r => { r with freeBlocks := r.freeBlocks + 1 }).domOn (dLRXD k) = false := hx
  rw [hx']
  rfl

/-! ## The AGC (R69, R70) -/

/-- AGC_STEP of a powered lane with AGCEN and no active data path. -/
theorem execAgcStep_eq {s : State} {k : Fin 8} (outer : Nat) (hd : s.dev.domOn (dLADC k) = true) (he : s.dev.on F.SA_AFE_AGCEN k = true)
    (ha : (s.dev.lane k).active = false) :
    execAgcStep k outer s = .next (s.put
      (if outer < agcTarget (s.dev.rd F.SA_AFE_AGCTGT k) then
        (if s.dev.rd F.SA_VGA_GAIN k < 96 then s.dev.bg F.SA_VGA_GAIN k (s.dev.rd F.SA_VGA_GAIN k + 1) else s.dev.set F.SA_LSTAT_AGCLIM k)
      else if agcTarget (s.dev.rd F.SA_AFE_AGCTGT k) < outer then
        (if 0 < s.dev.rd F.SA_VGA_GAIN k then s.dev.bg F.SA_VGA_GAIN k (s.dev.rd F.SA_VGA_GAIN k - 1) else s.dev.set F.SA_LSTAT_AGCLIM k)
      else s.dev)) := by
  unfold execAgcStep
  rw [lift_put]
  simp only [hd, he, ha, Bool.not_true, Bool.or_self, Bool.false_eq_true, if_false]

/-- Below the target GAIN rises by one, or stands at its end and sets AGCLIM. -/
theorem agcStep_below {s : State} {k : Fin 8} {outer : Nat} (hd : s.dev.domOn (dLADC k) = true) (he : s.dev.on F.SA_AFE_AGCEN k = true)
    (ha : (s.dev.lane k).active = false) (ho : outer < agcTarget (s.dev.rd F.SA_AFE_AGCTGT k)) :
    (s.dev.rd F.SA_VGA_GAIN k < 96 → s.dev.pinned F.SA_VGA_GAIN k = false →
      exec (.agcStep k outer) s = .next (s.put (s.dev.wr F.SA_VGA_GAIN k (s.dev.rd F.SA_VGA_GAIN k + 1)))) ∧
    (96 ≤ s.dev.rd F.SA_VGA_GAIN k → exec (.agcStep k outer) s = .next (s.put (s.dev.wr F.SA_LSTAT_AGCLIM k 1))) := by
  have h := execAgcStep_eq outer hd he ha
  rw [if_pos ho] at h
  refine ⟨fun hg hp => h.trans ?_, fun hg => h.trans ?_⟩
  · rw [if_pos hg, bg_of_not_pinned hp]
  · rw [if_neg (Nat.not_lt.mpr hg), set_eq_wr]

/-- Above the target GAIN falls by one, or stands at 0 and sets AGCLIM. -/
theorem agcStep_above {s : State} {k : Fin 8} {outer : Nat} (hd : s.dev.domOn (dLADC k) = true) (he : s.dev.on F.SA_AFE_AGCEN k = true)
    (ha : (s.dev.lane k).active = false) (ho : agcTarget (s.dev.rd F.SA_AFE_AGCTGT k) < outer) :
    (0 < s.dev.rd F.SA_VGA_GAIN k → s.dev.pinned F.SA_VGA_GAIN k = false →
      exec (.agcStep k outer) s = .next (s.put (s.dev.wr F.SA_VGA_GAIN k (s.dev.rd F.SA_VGA_GAIN k - 1)))) ∧
    (s.dev.rd F.SA_VGA_GAIN k = 0 → exec (.agcStep k outer) s = .next (s.put (s.dev.wr F.SA_LSTAT_AGCLIM k 1))) := by
  have h := execAgcStep_eq outer hd he ha
  rw [if_neg (Nat.lt_asymm ho), if_pos ho] at h
  refine ⟨fun hg hp => h.trans ?_, fun hg => h.trans ?_⟩
  · rw [if_pos hg, bg_of_not_pinned hp]
  · rw [if_neg (Nat.not_lt.mpr (Nat.le_of_eq hg)), set_eq_wr]

/-- At the target nothing changes. -/
theorem agcStep_at {s : State} {k : Fin 8} {outer : Nat} (hd : s.dev.domOn (dLADC k) = true) (he : s.dev.on F.SA_AFE_AGCEN k = true)
    (ha : (s.dev.lane k).active = false) (ho : outer = agcTarget (s.dev.rd F.SA_AFE_AGCTGT k)) :
    exec (.agcStep k outer) s = .next s := by
  have h := execAgcStep_eq outer hd he ha
  rw [if_neg (Nat.not_lt.mpr (Nat.le_of_eq ho.symm)), if_neg (Nat.not_lt.mpr (Nat.le_of_eq ho))] at h
  exact h

/-! ## The tap buffer (R87 to R92) -/

/-- The capture that accessor `a` is granted on lane `k`, of a kind that a sample can complete. -/
def Dev.grantCapture (d : Dev) (k : Nat) (a : Accessor) : Capture :=
  let trig := d.rd F.SA_TBCTL_TRIG (tbCh a k) % 3
  { owner := a, mode := d.rd F.SA_TBCTL_MODE (tbCh a k) % 3, trig := trig, phase := d.rd F.SA_TBCTL_PHASE (tbCh a k)
    trigpos := if trig == 0 then 0 else d.rd F.SA_TBCTL_TRIGPOS (tbCh a k), triggered := trig == 0, done := false
    hit := trig == 0, placed := trig == 0 }

/-- The device after that grant, the requests in `rest` still queued. -/
def Dev.tbGranted (d : Dev) (k : Nat) (a : Accessor) (rest : List Accessor) : Dev :=
  ((((((d.inc F.SA_TBSTAT_SEQ k).wr F.SA_TBSTAT_OWNER k (Accessor.idx a + 1)).wr F.SA_TBSTAT_COUNT k 0).clr F.SA_TBSTAT_DONE k).wr
    F.SA_TBSTAT_TRIGGERED k (b2n (d.grantCapture k a).triggered)).wr F.SA_TBSTAT_INV k (d.rd F.SA_LSTAT_INV k)).mapRx k fun r =>
      { r with tb := some (d.grantCapture k a), tbq := rest }

/-- TB_GRANT of a free buffer with a request queued that a sample can complete. -/
theorem execTbGrant_eq {s : State} {k : Fin 8} {a : Accessor} {rest : List Accessor} (hb : (s.dev.lane k).rx.tb = none)
    (hq : (s.dev.lane k).rx.tbq = a :: rest) (hd : s.dev.domOn (dLADC k) = true)
    (hm : s.dev.isC k = true ∨ s.dev.rd F.SA_TBCTL_MODE (tbCh a k) % 3 ≠ 2 ∧ s.dev.rd F.SA_TBCTL_TRIG (tbCh a k) % 3 ≠ 2) :
    execTbGrant k s = .next (s.put (s.dev.tbGranted k a rest)) := by
  have hnever : ((decide (s.dev.rd F.SA_TBCTL_MODE (tbCh a k) % 3 = 2) || decide (s.dev.rd F.SA_TBCTL_TRIG (tbCh a k) % 3 = 2)) &&
      !s.dev.isC k) = false := by
    rcases hm with hc | ⟨hmode, htrig⟩
    · rw [hc, Bool.not_true, Bool.and_false]
    · rw [decide_eq_false hmode, decide_eq_false htrig, Bool.or_self, Bool.false_and]
  unfold execTbGrant
  rw [lift_put]
  simp only [hb, hq, hd, hnever, Bool.not_true, Bool.not_false, Bool.and_true, Bool.false_eq_true, if_false]
  rfl

/-- It gives the buffer to the oldest request. -/
theorem tbGrant_oldest {s : State} {k : Fin 8} {a : Accessor} {rest : List Accessor} (hb : (s.dev.lane k).rx.tb = none)
    (hq : (s.dev.lane k).rx.tbq = a :: rest) (hd : s.dev.domOn (dLADC k) = true)
    (hm : s.dev.isC k = true ∨ s.dev.rd F.SA_TBCTL_MODE (tbCh a k) % 3 ≠ 2 ∧ s.dev.rd F.SA_TBCTL_TRIG (tbCh a k) % 3 ≠ 2) :
    ∃ t : Dev, exec (.tbGrant k) s = .next (s.put t) ∧ (t.lane k).rx.tbq = rest ∧
      (t.lane k).rx.tb.map Capture.owner = some a ∧ t.rd F.SA_TBSTAT_OWNER k = Accessor.idx a + 1 ∧
      t.rd F.SA_TBSTAT_DONE k = 0 ∧ t.rd F.SA_TBSTAT_COUNT k = 0 := by
  have howner : (Accessor.idx a + 1) % 2 ^ F.SA_TBSTAT_OWNER.w = Accessor.idx a + 1 := by cases a <;> rfl
  refine ⟨_, execTbGrant_eq hb hq hd hm, ?_⟩
  unfold Dev.tbGranted
  rw [lane_mapRx]
  simp +decide only [Dev.rd_mapRx, clr_eq_wr, rd_wr_fld, rd_wr_same, howner, Nat.zero_mod, and_self, and_true, true_and]
  rfl

/-- TB_TRIGGER of an armed capture whose trigger has been sampled. -/
theorem tbTrigger_hit {s : State} {k : Fin 8} {c : Capture} {cycle : Bool} (hb : (s.dev.lane k).rx.tb = some c) (hdone : c.done = false)
    (ht : c.triggered = false) (hh : c.hit = true) (htrig : c.trig = if cycle then 2 else 1) :
    exec (.tbTrigger k cycle) s = .next (s.put ((s.dev.wr F.SA_TBSTAT_TRIGGERED k 1).mapRx k fun r =>
      { r with tb := some { c with triggered := true } })) := by
  show execTbTrigger k cycle s = _
  unfold execTbTrigger
  rw [lift_put]
  simp only [hb, hdone, ht, hh, htrig, ne_eq, not_true_eq_false, decide_false, Bool.not_true, Bool.or_self, Bool.false_eq_true, if_false]
  rfl

/-- TB_DONE of a full capture. -/
theorem tbDone_full {s : State} {k : Fin 8} {c : Capture} (hb : (s.dev.lane k).rx.tb = some c) (hdone : c.done = false)
    (hf : c.full = true) : exec (.tbDone k) s = .next (s.put (s.dev.tbComplete k c)) := by
  show execTbDone k s = _
  unfold execTbDone
  rw [lift_put]
  simp only [hb, hdone, hf, Bool.not_true, Bool.or_self, Bool.false_eq_true, if_false]

/-- TB_TRIG_TIMEOUT of a capture without its trigger, old enough for that. -/
theorem tbTrigTimeout_untriggered {s : State} {k : Fin 8} {c : Capture} (hb : (s.dev.lane k).rx.tb = some c) (hdone : c.done = false)
    (hh : c.hit = false) (hold : c.mode = 2 ∨ 4096 ≤ c.ents.length) :
    exec (.tbTrigTimeout k) s = .next (s.put (s.dev.tbComplete k c)) := by
  have hyoung : (decide (c.mode ≠ 2) && decide (c.ents.length < 4096)) = false := by
    rcases hold with hm | hl
    · rw [hm]
      rfl
    · rw [decide_eq_false (Nat.not_lt.mpr hl), Bool.and_false]
  show execTbTrigTimeout k s = _
  unfold execTbTrigTimeout
  rw [lift_put]
  simp only [hb, hdone, hh, hyoung, Bool.or_self, Bool.false_eq_true, if_false]

/-- TB_HOLD_TIMEOUT of a completed capture. -/
theorem tbHoldTimeout_done {s : State} {k : Fin 8} {c : Capture} (hb : (s.dev.lane k).rx.tb = some c) (hdone : c.done = true) :
    exec (.tbHoldTimeout k) s = .next (s.put ((s.dev.mapRx k fun r => { r with tb := none }).wr F.SA_TBSTAT_OWNER k 0)) := by
  show execTbHoldTimeout k s = _
  unfold execTbHoldTimeout
  rw [lift_put]
  simp only [hb, hdone, if_true]
  rfl

/-! ## Calibration visits (R86, R202, R203) -/

/-- What RELEASE can do: nothing, free the buffer with or without the request bit cleared, or withdraw a queued request (R91). -/
theorem tbRelease_cases (d : Dev) (a : Accessor) (k : Nat) :
    d.tbRelease a k = d ∨ d.tbRelease a k = d.tbFree k ∨ d.tbRelease a k = (d.clr F.SA_TBCTL_REQ (tbCh a k)).tbFree k ∨
      d.tbRelease a k = (d.clr F.SA_TBCTL_REQ (tbCh a k)).mapRx k fun r => { r with tbq := r.tbq.erase a } := by
  unfold Dev.tbRelease
  dsimp only
  cases (d.lane k).rx.tbq.contains a
  all_goals
    repeat' split
    all_goals simp only [true_or, or_true]

/-- A release is seen in the request bit and the buffer's owner. -/
theorem rd_tbRelease (d : Dev) (a : Accessor) (k : Nat) {g : Fld} (c : Nat)
    (h : [F.SA_TBCTL_REQ, F.SA_TBSTAT_OWNER].all (fldNe g) = true) : (d.tbRelease a k).rd g c = d.rd g c := by
  have hfree : ∀ e : Dev, (e.tbFree k).rd g c = e.rd g c := fun e => rd_wr_of_all _ h (by decide) _ _ _
  have hclr : (d.clr F.SA_TBCTL_REQ (tbCh a k)).rd g c = d.rd g c := rd_wr_of_all _ h (by decide) _ _ _
  rcases tbRelease_cases d a k with he | he | he | he <;> rw [he]
  · exact hfree d
  · exact (hfree _).trans hclr
  · exact hclr

theorem stageTrim_ws (d : Dev) (stg act : Fld) (ch : Nat) (c : Int) : (d.stageTrim stg act ch c).ws = d.ws := by
  unfold Dev.stageTrim Dev.bgS Dev.bg
  split <;> rfl

theorem rd_stageTrim (d : Dev) {stg g : Fld} (act : Fld) (ch : Nat) (x : Int) (c : Nat) (h : fldNe g stg = true) :
    (d.stageTrim stg act ch x).rd g c = d.rd g c := by
  unfold Dev.stageTrim Dev.bgS Dev.bg
  split
  · rfl
  · exact rd_wr_fld _ _ _ _ _ _ h

theorem calStage_ws (d : Dev) (k ph : Nat) (l : List TapEntry) : (d.calStage k ph l).ws = d.ws := by
  unfold Dev.calStage
  dsimp only
  rw [Dev.mapRx_ws, stageTrim_ws, stageTrim_ws, stageTrim_ws]

/-- A visit stages its lane's trims alone. -/
theorem rd_calStage (d : Dev) (k ph : Nat) (l : List TapEntry) {g : Fld} (c : Nat)
    (h : [F.SA_GAIN_STG, F.SA_OFFS_STG, F.SA_SKEW_STG].all (fldNe g) = true) : (d.calStage k ph l).rd g c = d.rd g c := by
  have hne : ∀ f ∈ [F.SA_GAIN_STG, F.SA_OFFS_STG, F.SA_SKEW_STG], fldNe g f = true := List.all_eq_true.mp h
  unfold Dev.calStage
  dsimp only
  rw [Dev.rd_mapRx, rd_stageTrim _ _ _ _ _ (hne _ (by decide)), rd_stageTrim _ _ _ _ _ (hne _ (by decide)),
    rd_stageTrim _ _ _ _ _ (hne _ (by decide))]

/-- A sweep's end is seen in WS_CALSTAT. -/
theorem rd_sweepCount (d : Dev) {g : Fld} (c : Nat) (h : [F.WS_CALSTAT_SWEEPMS, F.WS_CALSTAT_SWEEPS].all (fldNe g) = true) :
    d.sweepCount.rd g c = d.rd g c := by
  unfold Dev.sweepCount
  dsimp only
  split
  · rw [Dev.rd_mapWs, inc_eq_wr, rd_wr_of_all _ h (by decide), rd_wr_of_all _ h (by decide)]
  · rfl

theorem visit_sweepCount (d : Dev) : d.sweepCount.ws.visit = d.ws.visit := by
  unfold Dev.sweepCount
  dsimp only
  split <;> rfl

/-- CAL_VISIT_START with no visit under way, the gap passed and a lane eligible, in turn. -/
theorem calVisitStart_due {s : State} {k : Fin 8} (hd : s.dev.domOn dWHET = true) (hrun : s.dev.rd F.WS_STAT_STATE = 1)
    (hv : s.dev.ws.visit = none)
    (hgap : ∀ t, s.dev.ws.lastVisit = some t → t * 2 + max 20 (s.dev.rd F.WS_CALCFG_GAP) * 3125 ≤ s.dev.now * 2)
    (hk : s.dev.calLane s.dev.ws.turn = some k.val) :
    ∃ t : Dev, exec .calVisitStart s = .next (s.put t) ∧
      t.ws.visit = some { lane := k, phase := s.dev.rd F.WS_CALLANE_NEXTPH k, since := s.dev.now } ∧ t.ws.turn = (k + 1) % 8 := by
  have hlane : Fin.ofNat 8 k.val = k := Fin.ext (Nat.mod_eq_of_lt k.isLt)
  show ∃ t : Dev, execCalVisitStart s = .next (s.put t) ∧ _
  unfold execCalVisitStart
  rw [lift_put]
  dsimp only
  rw [if_neg ?late, hk]
  case late =>
    cases hl : s.dev.ws.lastVisit with
    | none => simp [hd, hrun, hv]
    | some t => simp [hd, hrun, hv, hgap t hl]
  exact ⟨_, rfl, by rw [Dev.mapWs_ws, hlane], rfl⟩

/-- CAL_VISIT_END of a visit that is void, or whose lane has left eligibility. -/
theorem calVisitEnd_void {s : State} {v : Visit} (hv : s.dev.ws.visit = some v) (hrun : s.dev.rd F.WS_STAT_STATE = 1)
    (hvoid : v.void = true ∨ s.dev.calEligible v.lane = false) :
    exec .calVisitEnd s = .next (s.put ((s.dev.tbRelease .ws v.lane).mapWs fun w => { w with visit := none })) := by
  have hleave : (v.void || !s.dev.calEligible v.lane) = true := by
    rcases hvoid with h | h <;> simp [h]
  show execCalVisitEnd s = _
  unfold execCalVisitEnd
  rw [lift_put]
  simp only [hv, hrun, hleave, ne_eq, not_true_eq_false, if_false, if_true]

/-- The device after the end of a visit whose capture is done: the buffer released, NEXTPH advanced. -/
def Dev.visitDone (d : Dev) (v : Visit) : Dev :=
  ((d.tbRelease .ws v.lane).mapWs fun w => { w with visit := none }).wr F.WS_CALLANE_NEXTPH v.lane ((v.phase + 1) % 64)

theorem visit_visitDone (d : Dev) (v : Visit) : (d.visitDone v).ws.visit = none := rfl

theorem nextph_visitDone (d : Dev) (v : Visit) : (d.visitDone v).rd F.WS_CALLANE_NEXTPH v.lane = (v.phase + 1) % 64 := by
  rw [Dev.visitDone, rd_wr_same]
  exact Nat.mod_mod _ _

theorem rd_visitDone (d : Dev) (v : Visit) {g : Fld} (c : Nat)
    (h : [F.SA_TBCTL_REQ, F.SA_TBSTAT_OWNER, F.WS_CALLANE_NEXTPH].all (fldNe g) = true) : (d.visitDone v).rd g c = d.rd g c := by
  have hfree : [F.SA_TBCTL_REQ, F.SA_TBSTAT_OWNER].all (fldNe g) = true :=
    List.all_eq_true.mpr fun f hf => List.all_eq_true.mp h f (List.mem_append_left [F.WS_CALLANE_NEXTPH] hf)
  rw [Dev.visitDone, rd_wr_of_all _ h (by decide), Dev.rd_mapWs, rd_tbRelease _ _ _ _ hfree]

/-- CAL_VISIT_END with the capture done: corrections staged and the visit counted, or THIN counted. -/
theorem execCalVisitEnd_done {s : State} {v : Visit} {c : Capture} (hv : s.dev.ws.visit = some v) (hrun : s.dev.rd F.WS_STAT_STATE = 1)
    (hvoid : v.void = false) (hel : s.dev.calEligible v.lane = true) (hb : (s.dev.lane v.lane).rx.tb = some c) (ho : c.owner = .ws)
    (hdone : c.done = true) :
    let l := c.ents.filter fun e => e.conv.clean
    execCalVisitEnd s = .next (s.put (if l.length < 1024 then ((s.dev.visitDone v).inc F.WS_CALSTAT2_THIN).sweepCount
      else (((s.dev.visitDone v).calStage v.lane v.phase l).inc F.WS_CALLANE_VISITS v.lane).nextCommit v.lane |>.sweepCount)) := by
  have hcap : (Option.filter (fun c : Capture => c.owner == .ws) (some c)) = some c := by simp [ho]
  unfold execCalVisitEnd
  rw [lift_put]
  simp only [hv, hrun, hvoid, hel, hb, hcap, hdone, ne_eq, not_true_eq_false, Bool.not_true, Bool.or_self, Bool.false_eq_true, if_false]
  rfl

/-- The visit is over, NEXTPH has advanced, and the visit or THIN is counted. -/
theorem calVisitEnd_done {s : State} {v : Visit} {c : Capture} (hv : s.dev.ws.visit = some v) (hrun : s.dev.rd F.WS_STAT_STATE = 1)
    (hvoid : v.void = false) (hel : s.dev.calEligible v.lane = true) (hb : (s.dev.lane v.lane).rx.tb = some c) (ho : c.owner = .ws)
    (hdone : c.done = true) :
    ∃ t : Dev, exec .calVisitEnd s = .next (s.put t) ∧ t.ws.visit = none ∧ t.rd F.WS_CALLANE_NEXTPH v.lane = (v.phase + 1) % 64 ∧
      (1024 ≤ (c.ents.filter fun e => e.conv.clean).length →
        t.rd F.WS_CALLANE_VISITS v.lane = (s.dev.rd F.WS_CALLANE_VISITS v.lane + 1) % 2 ^ 16) ∧
      ((c.ents.filter fun e => e.conv.clean).length < 1024 →
        t.rd F.WS_CALSTAT2_THIN = (s.dev.rd F.WS_CALSTAT2_THIN + 1) % 2 ^ 16) := by
  refine ⟨_, execCalVisitEnd_done hv hrun hvoid hel hb ho hdone, ?_⟩
  generalize hl : (c.ents.filter fun e => e.conv.clean) = l
  by_cases hthin : l.length < 1024
  · rw [if_pos hthin]
    refine ⟨?_, ?_, fun h => absurd hthin (Nat.not_lt.mpr h), fun _ => ?_⟩
    · exact visit_sweepCount _
    · rw [rd_sweepCount _ _ (by decide), inc_eq_wr, rd_wr_fld _ _ _ _ _ _ (by decide), nextph_visitDone]
    · rw [rd_sweepCount _ _ (by decide), inc_eq_wr, rd_wr_same, rd_visitDone _ _ _ (by decide)]
      rfl
  · rw [if_neg hthin]
    refine ⟨?_, ?_, fun _ => ?_, fun h => absurd h hthin⟩
    · rw [visit_sweepCount, nextCommit_ws, inc_eq_wr, Dev.wr_ws, calStage_ws, visit_visitDone]
    · rw [rd_sweepCount _ _ (by decide), rd_nextCommit _ _ _ (by decide), inc_eq_wr, rd_wr_fld _ _ _ _ _ _ (by decide),
        rd_calStage _ _ _ _ _ (by decide), nextph_visitDone]
    · rw [rd_sweepCount _ _ (by decide), rd_nextCommit _ _ _ (by decide), inc_eq_wr, rd_wr_same, rd_calStage _ _ _ _ _ (by decide),
        rd_visitDone _ _ _ (by decide)]
      rfl

/-- Settles O19: one lemma per event. -/
theorem frontEndEvents : Obligations.FrontEndEvents := fun _ _ =>
  ⟨fun _ => overrangeSample_hit, recWindowEnd_unwatched,
    fun _ hd he ha => ⟨agcStep_below hd he ha, agcStep_above hd he ha, agcStep_at hd he ha⟩,
    rfl, saCommitBoundary_powered, saCommitBoundary_idle, fun _ _ => tbGrant_oldest, fun _ _ => tbTrigger_hit,
    fun _ hb hd => ⟨tbDone_full hb hd, tbTrigTimeout_untriggered hb hd⟩, fun _ => tbHoldTimeout_done, calVisitStart_due,
    fun _ => calVisitEnd_void, fun _ _ => calVisitEnd_done⟩

end Sys2Proof.Machine

/-! PROOFS. Chapter 11, the register window, for the commands of the line: what a granted command stores and what its request bit does. -/

namespace Sys2Proof.Machine

/-! ## A granted register command of one channel (R284 to R287) -/

/-- A granted write of one channel stores the register's fields, then does what the rule of the register at that base asks. -/
theorem regRow_base {s : State} {a : Accessor} {addr : Nat} {x : Dev} {r : RegDesc} {m ch b : Nat} (v : Word32)
    (hb : (findReg addr).map (fun p => p.1.base) = some b) (hne : b ≠ 0x78000)
    (h : s.dev.grants a (s.dev.selOf a) addr true = some (x, r, m, [ch])) :
    r.base = b ∧ regRow a addr v s = .next (s.put ((x.stored s.mem a r m v.toNat fullMask ch).writeEffect x a r m ch
      (x.masked s.mem a r m v.toNat fullMask ch) (v.toNat &&& fullMask) (x.freeMask a r m fullMask ch))) := by
  rw [grants_findReg h] at hb
  obtain rfl : r.base = b := Option.some.inj hb
  exact ⟨rfl, regRow_of_grants h hne⟩

/-- Under the full mask a bit is written 1 where the value has it. -/
theorem wr1_fullMask {f : Fld} (h : f.lo < 32) (v : Nat) : wr1 f (v &&& fullMask) = v.testBit f.lo := by
  simp only [wr1, fullMask, Nat.testBit_and, Nat.testBit_two_pow_sub_one, h, decide_true, Bool.and_true]

/-- A one-bit field that only holds a request, of a register that stands alone and has one copy per channel. -/
def Fld.plainRequest (f : Fld) : Bool :=
  f.ty == .w1s && holdsRequest f && f.w == 1 && decide (f.lo < 32) &&
    (findReg f.addr).any fun p => p.2 == 0 && !p.1.perAcc && p.1.fields.contains f

/-- Such a field reads set once its bit is written 1. -/
theorem stored_plainRequest {f : Fld} (hf : f.plainRequest = true) {r : RegDesc} {m : Nat} (h : findReg f.addr = some (r, m)) (d : Dev)
    (mem : Memory) (a : Accessor) {v : Nat} (ch : Nat) (hv : v.testBit f.lo = true) :
    (d.stored mem a r m v fullMask ch).on f ch = true := by
  simp only [Fld.plainRequest, h, Option.any_some, Bool.and_eq_true, Bool.not_eq_true', beq_iff_eq, decide_eq_true_eq,
    List.contains_iff_mem] at hf
  obtain ⟨⟨⟨⟨ht, hq⟩, hw⟩, hlo⟩, ⟨rfl, hacc⟩, hmem⟩ := hf
  have hch : r.chOf a ch = ch := if_neg (by rw [hacc]; exact Bool.false_ne_true)
  have hbit : slice (v &&& fullMask) f.lo 1 = 1 := by
    rw [slice, Nat.pow_one, ← Nat.toNat_testBit, ← wr1, wr1_fullMask hlo, hv]
    rfl
  have hrd : (d.stored mem a r 0 v fullMask ch).rd f ch = 1 := by
    have hw' := rd_stored_field h hmem d mem a v fullMask ch
    rw [Fld.written, ht, hch] at hw'
    refine hw'.trans ?_
    simp only [hq, if_true, hw, hbit, Nat.pow_one]
    exact Nat.or_mod_two_eq_one.mpr (.inr rfl)
  rw [Dev.on, hrd]
  rfl

/-- Where no later-ranked accessor has written the register in this clock, the written value stands bit by bit under the full mask. -/
theorem testBit_masked_fullMask {d : Dev} {a : Accessor} {r : RegDesc} {m ch : Nat} (h : d.kept a r m ch = 0) (mem : Memory) {i : Nat}
    (hi : i < 32) (v : Nat) : (d.masked mem a r m v fullMask ch).testBit i = v.testBit i := by
  have hfree : d.freeMask a r m fullMask ch = 2 ^ 32 - 1 := by rw [Dev.freeMask, h, Nat.and_zero]; rfl
  unfold Dev.masked
  dsimp only
  rw [hfree, Nat.and_two_pow_sub_one_eq_mod, Nat.and_two_pow_sub_one_eq_mod]
  generalize d.peek mem a r m ch = old
  have hold : old - old % 2 ^ 32 = 2 ^ 32 * (old / 2 ^ 32) := by omega
  rw [hold, Nat.testBit_or, Nat.testBit_two_pow_mul, Nat.testBit_mod_two_pow]
  simp [hi]

/-- The row of the equaliser's taps. -/
def rowFfetap : RegDesc := ⟨0x10200, 48, 4, some 0, false, .lrxd, [F.LN_FFETAP_VAL]⟩

theorem findReg_ffetap (tap : Fin 48) : findReg (0x10200 + 4 * tap.val) = some (rowFfetap, tap.val) := by
  decide +revert

/-- A tap written alone reads the value's low bits. -/
theorem rd_stored_ffetap (d : Dev) (mem : Memory) (a : Accessor) (tap : Fin 48) (v ch : Nat) (hk : d.kept a rowFfetap tap ch = 0) :
    (d.stored mem a rowFfetap tap v fullMask ch).rd (F.LN_FFETAP_VAL.at tap) ch = v % 2 ^ F.LN_FFETAP_VAL.w := by
  refine (rd_stored_field (findReg_ffetap tap) (List.mem_singleton.mpr rfl) d mem a v fullMask ch).trans ?_
  have hlow : d.masked mem a rowFfetap tap v fullMask ch % 2 ^ 12 = v % 2 ^ 12 := by
    refine Nat.eq_of_testBit_eq fun i => ?_
    rw [Nat.testBit_mod_two_pow, Nat.testBit_mod_two_pow]
    by_cases hi : i < 12
    · rw [testBit_masked_fullMask hk mem (Nat.lt_trans hi (by decide)) v]
    · rw [decide_eq_false hi, Bool.false_and, Bool.false_and]
  calc F.LN_FFETAP_VAL.written a _ (d.masked mem a rowFfetap tap v fullMask ch) _
      = d.masked mem a rowFfetap tap v fullMask ch / 2 ^ 0 % 2 ^ 12 % 2 ^ 12 := by cases a <;> rfl
    _ = v % 2 ^ 12 := by rw [Nat.pow_zero, Nat.div_one, Nat.mod_mod, hlow]

/-- A register whose rule answers one request bit: written 1 it has its effect, else only the fields change. -/
theorem regRow_request {s : State} {a : Accessor} {addr : Nat} {x : Dev} {r : RegDesc} {m ch b : Nat} {v : Word32} (f : Fld)
    (effect : Dev → Dev) (hlo : f.lo < 32) (hb : (findReg addr).map (fun p => p.1.base) = some b) (hne : b ≠ 0x78000)
    (hrule : r.base = b → ∀ y val act mask, Dev.writeEffect y x a r m ch val act mask = if wr1 f act then effect y else y)
    (h : s.dev.grants a (s.dev.selOf a) addr true = some (x, r, m, [ch])) :
    (v.toNat.testBit f.lo = true → regRow a addr v s = .next (s.put (effect (x.stored s.mem a r m v.toNat fullMask ch)))) ∧
    (v.toNat.testBit f.lo = false → regRow a addr v s = .next (s.put (x.stored s.mem a r m v.toNat fullMask ch))) := by
  obtain ⟨hbase, hrow⟩ := regRow_base v hb hne h
  rw [hrow, hrule hbase, wr1_fullMask hlo]
  exact ⟨fun hv => by rw [hv]; rfl, fun hv => by rw [hv]; rfl⟩

/-- A register of one request that is only held: the fields change, and the request reads set once it is written 1. -/
theorem regRow_plainRequest {s : State} {a : Accessor} {x : Dev} {r : RegDesc} {m ch b : Nat} {v : Word32} {f : Fld}
    (hf : f.plainRequest = true) (hb : (findReg f.addr).map (fun p => p.1.base) = some b) (hne : b ≠ 0x78000)
    (hrule : r.base = b → ∀ y val act mask, Dev.writeEffect y x a r m ch val act mask = y)
    (h : s.dev.grants a (s.dev.selOf a) f.addr true = some (x, r, m, [ch])) :
    regRow a f.addr v s = .next (s.put (x.stored s.mem a r m v.toNat fullMask ch)) ∧
    (v.toNat.testBit f.lo = true → (x.stored s.mem a r m v.toNat fullMask ch).on f ch = true) := by
  obtain ⟨hbase, hrow⟩ := regRow_base v hb hne h
  rw [hrow, hrule hbase]
  exact ⟨rfl, stored_plainRequest hf (grants_findReg h) x s.mem a ch⟩

/-- A write of the front end's fields starts settling on an active lane where it changes RANGE, PEAK or GAIN (R70). -/
theorem writeEffect_afe {r : RegDesc} (hb : r.base = 0x20000 ∨ r.base = 0x20004) (y o : Dev) (a : Accessor) (m ch v act mask : Nat) :
    y.writeEffect o a r m ch v act mask =
      if o.rd F.SA_AFE_RANGE ch = y.rd F.SA_AFE_RANGE ch ∧ o.rd F.SA_AFE_PEAK ch = y.rd F.SA_AFE_PEAK ch ∧
        o.rd F.SA_VGA_GAIN ch = y.rd F.SA_VGA_GAIN ch then y else if (y.lane ch).active then y.set F.SA_LSTAT_SETTLING ch else y := by
  rcases hb with hb | hb <;> simp [Dev.writeEffect, hb, Dev.afeChanged, and_assoc]

/-- SA_AFE_WRITE stores its register's fields under the rule of both. -/
theorem regRow_afe {s : State} {a : Accessor} {x : Dev} {r : RegDesc} {m ch : Nat} (v : Word32) (vga : Bool)
    (h : s.dev.grants a (s.dev.selOf a) (if vga then 0x20004 else 0x20000) true = some (x, r, m, [ch])) :
    let y := x.stored s.mem a r m v.toNat fullMask ch
    regRow a (if vga then 0x20004 else 0x20000) v s = .next (s.put
      (if x.rd F.SA_AFE_RANGE ch = y.rd F.SA_AFE_RANGE ch ∧ x.rd F.SA_AFE_PEAK ch = y.rd F.SA_AFE_PEAK ch ∧
        x.rd F.SA_VGA_GAIN ch = y.rd F.SA_VGA_GAIN ch then y else if (y.lane ch).active then y.set F.SA_LSTAT_SETTLING ch else y)) := by
  cases vga
  · obtain ⟨hb, hrow⟩ := regRow_base v (b := 0x20000) rfl (by decide) h
    exact hrow.trans (by rw [writeEffect_afe (.inl hb)])
  · obtain ⟨hb, hrow⟩ := regRow_base v (b := 0x20004) rfl (by decide) h
    exact hrow.trans (by rw [writeEffect_afe (.inr hb)])

/-- LN_FFETAP_WRITE stores the tap and clears its accumulator; written alone the tap reads the value. -/
theorem regRow_ffetap {s : State} {a : Accessor} {x : Dev} {r : RegDesc} {m ch : Nat} (v : Word32) (tap : Fin 48)
    (h : s.dev.grants a (s.dev.selOf a) (0x10200 + 4 * tap.val) true = some (x, r, m, [ch])) :
    let y := x.stored s.mem a r m v.toNat fullMask ch
    regRow a (0x10200 + 4 * tap.val) v s = .next (s.put (y.tapWritten ch tap.val)) ∧
      (x.kept a r m ch = 0 → y.rd (F.LN_FFETAP_VAL.at tap.val) ch = v.toNat % 2 ^ F.LN_FFETAP_VAL.w) := by
  have hrow := (grants_findReg h).symm.trans (findReg_ffetap tap)
  cases hrow
  exact ⟨regRow_of_grants h (by decide), rd_stored_ffetap x s.mem a tap v.toNat ch⟩

/-- Settles O55: each command stores its register's fields, and its register's own rule reads the request bit off the value written. -/
theorem lineRegisterCommands : Obligations.LineRegisterCommands := by
  intro s acc v x r m ch
  refine ⟨fun vga hg => regRow_afe v vga hg, fun hg => ?cmtreq, fun hg => ?req, fun hg => ?release, fun tap hg => regRow_ffetap v tap hg,
    fun hg => ?hsnap, fun hg => ?txCmtreq, fun hg => ?start, fun hg => ?retrain, fun hg => ?snap⟩
  case cmtreq =>
    exact regRow_plainRequest (f := F.SA_LCTL_CMTREQ) (by decide) rfl (by decide)
      (fun hb _ _ _ _ => by simp [Dev.writeEffect, hb]) hg
  case hsnap =>
    exact regRow_plainRequest (f := F.DEC_CTL_HSNAP) (by decide) rfl (by decide)
      (fun hb _ _ _ _ => by simp [Dev.writeEffect, hb]) hg
  case txCmtreq =>
    exact regRow_plainRequest (f := F.TX_CTL_CMTREQ) (by decide) rfl (by decide)
      (fun hb _ _ _ _ => by simp [Dev.writeEffect, hb]) hg
  case req =>
    exact regRow_request F.SA_TBCTL_REQ (fun y => y.tbReq acc ch) (by decide) rfl (by decide)
      (fun hb _ _ _ _ => by simp [Dev.writeEffect, hb]) hg
  case release =>
    exact regRow_request F.SA_TBREL_RELEASE (fun y => y.tbRelease acc ch) (by decide) rfl (by decide)
      (fun hb _ _ _ _ => by simp [Dev.writeEffect, hb]) hg
  case start =>
    exact regRow_request F.TX_OBSCTL_START Dev.obsStart (by decide) rfl (by decide)
      (fun hb _ _ _ _ => by simp [Dev.writeEffect, hb]) hg
  case retrain =>
    exact regRow_request F.LN_CTL_RETRAIN (fun y => (y.retrainRequest ch).fallback ch) (by decide) rfl (by decide)
      (fun hb _ _ _ _ => by simp [Dev.writeEffect, hb]) hg
  case snap =>
    exact regRow_request F.TM_CLCTL_SNAP (fun y => y.clSnapReq ch) (by decide) rfl (by decide)
      (fun hb _ _ _ _ => by simp [Dev.writeEffect, hb]) hg

end Sys2Proof.Machine

/-! PROOFS. What a CMIS selection, and with it the look at a data path's activation, leaves in the registers: only fields of `selectFields`
change. -/

namespace Sys2Proof.Machine

/-- The fields that carrying out a selection (R39) or answering a command may write: TXSLEEP, the families and domains, the outcome bits
of a lane, its optics loop, the Colanders' interleave, and what firmware stages before activation (R432). -/
def selectFields : List Fld :=
  [F.XC_STAT_TXSLEEP, F.PW_CLKSTAT_H0FAM, F.PW_CLKSTAT_H1FAM, F.PW_DREQ0_LRXA, F.PW_DREQ0_LADC, F.PW_DREQ0_LRXD, F.PW_DREQ0_LTXD,
    F.PW_DREQ1_LDAC, F.PW_DREQ1_HRX, F.PW_DREQ1_HTXL, F.PW_DREQ2_HTXH, F.PW_DREQ2_SYS, F.PW_STAT_TRANS, F.LN_STAT_FOREIGN,
    F.LN_STAT_NOSIG, F.LN_STAT_NOAGREE, F.OC_BHOLD_CODE, F.OC_MACTL_EN, F.TM_CLCTL_ILV, F.SA_AFE_RANGE, F.SA_AFE_PEAK, F.LN_TGT_ALPHA,
    F.SA_GAIN_STG, F.SA_OFFS_STG, F.SA_SKEW_STG, F.SA_LCTL_CMTREQ, F.TX_LEVEL_V1STG, F.TX_LEVEL_V3STG, F.TX_CTL_CMTREQ] ++
  (List.range 9).map F.TX_FFETAP_STG.at ++ (List.range 5).map F.TX_DPDH1_STG.at ++ (List.range 5).map F.TX_DPDH3_STG.at

theorem ffetapStg_mem_selectFields : ∀ i < 9, F.TX_FFETAP_STG.at i ∈ selectFields := by decide

theorem dpdStg_mem_selectFields : ∀ m < 5, F.TX_DPDH1_STG.at m ∈ selectFields ∧ F.TX_DPDH3_STG.at m ∈ selectFields := by decide

theorem dreqFld_mem_selectFields (i : Nat) : (dreqFld i).1 ∈ selectFields := by
  unfold dreqFld
  repeat' split
  all_goals
    dsimp only
    decide

/-- Updates folded over a list keep what each of them keeps. -/
theorem foldl_keeps {α β γ : Type} (p : α → γ) {f : α → β → α} (h : ∀ e b, p (f e b) = p e) (l : List β) (a : α) :
    p (l.foldl f a) = p a := by
  induction l generalizing a with
  | nil => rfl
  | cons b t ih => exact (ih _).trans (h a b)

/-- Background updates of fields other than `g` leave `g` alone. -/
theorem rd_bg_of_all (d : Dev) {fs : List Fld} {f g : Fld} (h : fs.all (fldNe g) = true) (hf : f ∈ fs) (ch v c : Nat) :
    (d.bg f ch v).rd g c = d.rd g c := by
  unfold Dev.bg
  split
  · rfl
  · exact rd_wr_of_all d h hf ch v c

section
variable {g : Fld} (c : Nat) (hg : selectFields.all (fldNe g) = true)
include hg

theorem rd_wake (d : Dev) (i : Nat) : (d.wake i).rd g c = d.rd g c := by
  have hreq : (d.setDreq i true).rd g c = d.rd g c := rd_wr_of_all d hg (dreqFld_mem_selectFields i) _ _ _
  unfold Dev.wake
  dsimp only
  split
  · exact hreq
  · exact (rd_wr_of_all _ hg (by decide) _ _ _).trans hreq

theorem rd_wakeAll (d : Dev) (l : List Nat) : (d.wakeAll l).rd g c = d.rd g c :=
  foldl_keeps (fun e : Dev => e.rd g c) (rd_wake c hg) l d

theorem rd_loopIdle (d : Dev) (k : Nat) : (d.loopIdle k).rd g c = d.rd g c := by
  unfold Dev.loopIdle
  dsimp only
  rw [rd_bg_of_all _ hg (by decide), rd_bg_of_all _ hg (by decide), Dev.rd_mapLoop]

theorem rd_loopStart (d : Dev) (k : Nat) : (d.loopStart k).rd g c = d.rd g c := by
  unfold Dev.loopStart
  dsimp only
  split
  · rw [Dev.rd_mapLoop]
    split
    · exact rd_loopIdle c hg d k
    · rfl
  · rw [Dev.rd_mapLane, rd_bg_of_all _ hg (by decide), Dev.rd_mapLoop, rd_bg_of_all _ hg (by decide), rd_bg_of_all _ hg (by decide)]

theorem rd_loopDisable (d : Dev) (k : Nat) : (d.loopDisable k).rd g c = d.rd g c := by
  unfold Dev.loopDisable
  split
  · split
    · rfl
    · exact rd_loopIdle c hg d k
  · split
    · exact rd_loopStart c hg d k
    · rfl

theorem rd_stageTrims (d : Dev) (k : Nat) : (d.stageTrims k).rd g c = d.rd g c :=
  foldl_keeps (fun e : Dev => e.rd g c) (fun e t => by
    rw [rd_bg_of_all _ hg (by decide), rd_bg_of_all _ hg (by decide), rd_bg_of_all _ hg (by decide)]) _ d

theorem rd_txStageSet (d : Dev) (k : Nat) (l : List Nat) : (d.txStageSet k l).rd g c = d.rd g c := by
  unfold Dev.txStageSet
  split
  · rfl
  · dsimp only
    refine (iter_keeps (fun e : Dev => e.rd g c) (fun m e hm => ?_) _).trans
      ((iter_keeps (fun e : Dev => e.rd g c) (fun i e hi => rd_bg_of_all e hg (ffetapStg_mem_selectFields i hi) _ _ _) _).trans ?_)
    · obtain ⟨h1, h3⟩ := dpdStg_mem_selectFields m hm
      exact (rd_bg_of_all _ hg h3 _ _ _).trans (rd_bg_of_all e hg h1 _ _ _)
    · rw [rd_bg_of_all _ hg (by decide), rd_bg_of_all _ hg (by decide)]

theorem rd_txStageBoard (d : Dev) (k : Nat) : (d.txStageBoard k).rd g c = d.rd g c := by
  unfold Dev.txStageBoard
  split
  · rfl
  · refine (iter_keeps (fun e : Dev => e.rd g c) (fun i e hi => rd_bg_of_all e hg (ffetapStg_mem_selectFields i hi) _ _ _) _).trans ?_
    rw [rd_bg_of_all _ hg (by decide), rd_bg_of_all _ hg (by decide)]

theorem rd_prepare (d : Dev) (k : Nat) : (d.prepare k).rd g c = d.rd g c := by
  unfold Dev.prepare
  dsimp only
  rw [Dev.rd_mapLane, Dev.txCmtReq, set_eq_wr, rd_wr_of_all _ hg (by decide), rd_txStageBoard c hg, rd_txStageSet c hg, set_eq_wr,
    rd_wr_of_all _ hg (by decide), rd_stageTrims c hg]
  split
  · rfl
  · rw [rd_bg_of_all _ hg (by decide), rd_bg_of_all _ hg (by decide), rd_bg_of_all _ hg (by decide)]

theorem rd_prepareReady (d : Dev) : d.prepareReady.rd g c = d.rd g c := by
  refine foldl_keeps (fun e : Dev => e.rd g c) (fun e p => ?_) _ d
  split
  · rfl
  · refine foldl_keeps (fun x : Dev => x.rd g c) (fun x k => ?_) _ e
    split
    · exact rd_prepare c hg x k
    · rfl

theorem rd_setFam (d : Dev) (h u : Nat) : (d.setFam h u).rd g c = d.rd g c := by
  unfold Dev.setFam
  split <;> exact rd_wr_of_all d hg (by decide) _ _ _

theorem rd_fwCfg_ilv (d : Dev) (dom ch v : Nat) : (d.fwCfg dom F.TM_CLCTL_ILV ch v).rd g c = d.rd g c := by
  unfold Dev.fwCfg
  split
  · exact rd_bg_of_all _ hg (by decide) _ _ _
  · rfl

/-- Carrying out a selection writes `selectFields` alone. -/
theorem rd_selectPath (d : Dev) (p : Path) : (d.selectPath p).rd g c = d.rd g c := by
  have hfld : ∀ {f : Fld}, f ∈ selectFields → fldNe g f = true := List.all_eq_true.mp hg _
  have hlane : ∀ (e : Dev) k, (((e.putOutcome k none).mapLane k fun l => { l with prepared := false }).loopDisable k).rd g c = e.rd g c :=
    fun e k => by
      rw [rd_loopDisable c hg, Dev.rd_mapLane, putOutcome_rd _ _ _ _ _ (hfld (by decide)) (hfld (by decide)) (hfld (by decide))]
  have hhosts := foldl_keeps (fun e : Dev => e.rd g c) (fun e n => rd_fwCfg_ilv c hg e (dHTX n) n (1 + Config.ilv p.mode % 3)) p.hosts
  have hhalves := foldl_keeps (fun e : Dev => e.rd g c) (fun e h => rd_setFam c hg e h (famOf p.lrm)) p.halves
  unfold Dev.selectPath
  dsimp only
  rw [rd_prepareReady c hg, rd_wakeAll c hg]
  exact (hhosts _).trans ((foldl_keeps (fun e : Dev => e.rd g c) hlane p.lanes _).trans (hhalves _))

theorem rd_appselTake (d : Dev) (r : AppReq) : (d.appselTake r).rd g c = d.rd g c := by
  unfold Dev.appselTake
  split
  · rfl
  · split
    · exact rd_selectPath c hg d _
    · rfl

theorem rd_appselRun (d : Dev) (l : List AppReq) : (d.appselRun l).rd g c = d.rd g c := by
  induction l generalizing d with
  | nil => rfl
  | cons r t ih =>
    unfold Dev.appselRun
    split
    · rfl
    · exact (ih _).trans (rd_appselTake c hg d r)

theorem rd_settlePaths (d : Dev) : d.settlePaths.rd g c = d.rd g c :=
  (rd_appselRun c hg _ _).trans (rd_settle d _ c (List.all_eq_true.mp hg _ (by decide)))

/-- The look at a path's activation writes `selectFields` alone. -/
theorem rd_plainActive (d : Dev) (p : Path) : (d.plainActive p).rd g c = d.rd g c := by
  unfold Dev.plainActive
  split
  · exact rd_settlePaths c hg _
  · rfl

end

end Sys2Proof.Machine

/-! PROOFS. Chapter 05, the transmit path. Its statement fails at a state whose register store holds a value wider than its field, which no
write produces: a commit cuts what it copies to the width of the active copy. -/

namespace Sys2Proof.Machine

/-- Lane 0 with LTXD on, a commit requested, and 128 in the store as the staged level of the 7-bit field V1STG. -/
def wideStagedLevel : State :=
  State.reset.put ((({ Dev.initial with regs := [(F.TX_LEVEL_V1STG.key 0, 128)] } : Dev).wr F.PW_DON0_LTXD 0 1).set F.TX_CTL_CMTREQ 0)

/-- The commit boundary leaves that lane's active level 0: 128 modulo 2 to the 7. -/
theorem txCommitBoundary_wideStagedLevel : ∃ t : Dev, exec (.txCommitBoundary 0 0 0) wideStagedLevel = .next (wideStagedLevel.put t) ∧
    t.rd F.TX_LEVEL_V1ACT 0 = 0 := ⟨_, rfl, by decide⟩

/-- Refutes O18: at TX_COMMIT_BOUNDARY a staged level of 128, wider than its field, becomes the active level 0. The statement is about
every state, and a state may hold such a value, though no write leaves one (`rd_wr_same`). -/
theorem not_transmitPath : ¬ Obligations.TransmitPath := by
  intro h
  obtain ⟨hboundary, -⟩ := h wideStagedLevel (.spi 0) 0 0
  obtain ⟨y, hy, hcommit, -⟩ := hboundary 0 0 (by decide)
  obtain ⟨hlevel, -⟩ := hcommit (by decide)
  obtain ⟨t, ht, hact⟩ := txCommitBoundary_wideStagedLevel
  have hstg : wideStagedLevel.dev.rd F.TX_LEVEL_V1STG 0 = 128 := by decide
  have ht' := congrArg State.dev (Host.Outcome.next.inj (ht.symm.trans hy))
  simp only [State.put_dev] at ht'
  have hkept : t.rd F.TX_LEVEL_V1ACT 0 = y.rd F.TX_LEVEL_V1ACT 0 := by
    rw [ht', Dev.settleWait, rd_settle _ _ _ (by decide)]
    split
    · exact rd_plainActive 0 (by decide) y _
    · rfl
  have habsurd : (0 : Nat) = 128 := calc
    0 = t.rd F.TX_LEVEL_V1ACT 0 := hact.symm
    _ = y.rd F.TX_LEVEL_V1ACT 0 := hkept
    _ = wideStagedLevel.dev.rd F.TX_LEVEL_V1STG 0 := hlevel
    _ = 128 := hstg
  exact absurd habsurd (by decide)

end Sys2Proof.Machine

/-! PROOFS. Chapter 06, the host lanes: loss, return, slip and realignment, and the HOST commands. -/

namespace Sys2Proof.Machine

/-! ## Loss and return of the host's clock (R155) -/

/-- The device after host lane `n` lost its clock; SIGDET takes a free value. -/
def Dev.hostLost (d : Dev) (n : Nat) : Dev :=
  (((((d.freeVal 1).2.clr F.HL_STAT_CDRLOCK n).clr F.HL_STAT_TXLOCK n).wr F.HL_STAT_SIGDET n (d.freeVal 1).1).set F.HL_STAT_LOSS n).inc
    F.HL_SLIPCNT_LOSSCNT n |>.mapHost n fun h => { h with lost := true }

theorem execHostCdrLoss_eq {s : State} {n : Fin 16} {p : Path} (hp : s.dev.hostPath n = some p)
    (hl : s.dev.on F.HL_STAT_CDRLOCK n = true) : execHostCdrLoss n s = .next (s.put (s.dev.hostLost n)) := by
  unfold execHostCdrLoss
  rw [lift_put]
  simp only [hp, hl, Option.isNone_some, Bool.not_true, Bool.or_self, Bool.false_eq_true, if_false]
  rfl

/-- A register write leaves the host lanes' own state alone. -/
theorem host_wr (d : Dev) (f : Fld) (ch v n : Nat) : (d.wr f ch v).host n = d.host n := rfl

/-- A free value is read from no register. -/
theorem rd_freeVal (d : Dev) (w : Nat) (f : Fld) (c : Nat) : (d.freeVal w).2.rd f c = d.rd f c := rfl

theorem rd_hostLost (d : Dev) (n : Nat) :
    (d.hostLost n).rd F.HL_STAT_CDRLOCK n = 0 ∧ (d.hostLost n).rd F.HL_STAT_TXLOCK n = 0 ∧ (d.hostLost n).rd F.HL_STAT_LOSS n = 1 ∧
    (d.hostLost n).rd F.HL_SLIPCNT_LOSSCNT n = (d.rd F.HL_SLIPCNT_LOSSCNT n + 1) % 2 ^ F.HL_SLIPCNT_LOSSCNT.w := by
  simp +decide only [Dev.hostLost, Dev.rd_mapHost, set_eq_wr, clr_eq_wr, inc_eq_wr, rd_wr_fld, rd_wr_same, rd_freeVal, and_self]

theorem hostCdrLoss_locked {s : State} {n : Fin 16} {p : Path} (hp : s.dev.hostPath n = some p)
    (hl : s.dev.on F.HL_STAT_CDRLOCK n = true) :
    ∃ t : Dev, exec (.hostCdrLoss n) s = .next (s.put t) ∧ t.rd F.HL_STAT_CDRLOCK n = 0 ∧ t.rd F.HL_STAT_TXLOCK n = 0 ∧
      t.rd F.HL_STAT_LOSS n = 1 ∧
      t.rd F.HL_SLIPCNT_LOSSCNT n = (s.dev.rd F.HL_SLIPCNT_LOSSCNT n + 1) % 2 ^ F.HL_SLIPCNT_LOSSCNT.w ∧
      (t.host n).lost = true ∧ t.lanes = s.dev.lanes := by
  obtain ⟨hlock, htx, hloss, hcnt⟩ := rd_hostLost s.dev n
  refine ⟨_, execHostCdrLoss_eq hp hl, hlock, htx, hloss, hcnt, ?_, rfl⟩
  rw [Dev.hostLost, host_mapHost]

/-- The device with host lane `n` locked to the host's clock again. -/
def Dev.hostFound (d : Dev) (n : Nat) : Dev :=
  ((d.set F.HL_STAT_CDRLOCK n).set F.HL_STAT_SIGDET n).mapHost n fun h => { h with lost := false }

theorem rotates_hostFound (d : Dev) (n : Nat) : (d.hostFound n).rotates n = d.rotates n := rfl

theorem execHostCdrReturn_eq {s : State} {n : Fin 16} {p : Path} (hp : s.dev.hostPath n = some p) (hl : (s.dev.host n).lost = true) :
    execHostCdrReturn n s =
      .next (s.put (if s.dev.rotates n then (s.dev.hostFound n).set F.HL_STAT_TXLOCK n else s.dev.hostFound n)) := by
  unfold execHostCdrReturn
  rw [lift_put]
  simp only [hp, hl, Option.isNone_some, Bool.not_true, Bool.or_self, Bool.false_eq_true, if_false]
  rfl

theorem rd_hostFound (d : Dev) (n : Nat) :
    (d.hostFound n).rd F.HL_STAT_CDRLOCK n = 1 ∧ (d.hostFound n).rd F.HL_STAT_SIGDET n = 1 ∧
    (d.hostFound n).rd F.HL_STAT_TXLOCK n = d.rd F.HL_STAT_TXLOCK n ∧ (d.hostFound n).rd F.HL_STAT_LOSS n = d.rd F.HL_STAT_LOSS n := by
  simp +decide only [Dev.hostFound, Dev.rd_mapHost, set_eq_wr, rd_wr_fld, rd_wr_same, and_self]

theorem hostCdrReturn_lost {s : State} {n : Fin 16} {p : Path} (hp : s.dev.hostPath n = some p) (hl : (s.dev.host n).lost = true) :
    ∃ t : Dev, exec (.hostCdrReturn n) s = .next (s.put t) ∧ t.rd F.HL_STAT_CDRLOCK n = 1 ∧ t.rd F.HL_STAT_SIGDET n = 1 ∧
      t.rd F.HL_STAT_TXLOCK n = (if s.dev.rotates n then 1 else s.dev.rd F.HL_STAT_TXLOCK n) ∧
      t.rd F.HL_STAT_LOSS n = s.dev.rd F.HL_STAT_LOSS n ∧ (t.host n).lost = false ∧ t.lanes = s.dev.lanes := by
  obtain ⟨hlock, hsig, htx, hloss⟩ := rd_hostFound s.dev n
  have hlost : ((s.dev.hostFound n).host n).lost = false := by rw [Dev.hostFound, host_mapHost]
  refine ⟨_, execHostCdrReturn_eq hp hl, ?_⟩
  by_cases hr : s.dev.rotates n = true
  · have hother : ∀ g : Fld, fldNe g F.HL_STAT_TXLOCK = true →
        ((s.dev.hostFound n).set F.HL_STAT_TXLOCK n).rd g n = (s.dev.hostFound n).rd g n := fun g => rd_wr_fld _ _ _ _ _ _
    simp only [hr, if_true]
    exact ⟨(hother _ (by decide)).trans hlock, (hother _ (by decide)).trans hsig, rd_wr_same _ _ _ _,
      (hother _ (by decide)).trans hloss, (congrArg _ (host_wr _ _ _ _ _)).trans hlost, Dev.wr_lanes _ _ _ _⟩
  · simp only [hr, Bool.false_eq_true, if_false]
    exact ⟨hlock, hsig, htx, hloss, hlost, rfl⟩

/-! ## Slip and realignment (R151, R152, R156) -/

/-- The device with host lane `n` slipped and waiting for its realignment. -/
def Dev.hostSlipped (d : Dev) (n : Nat) : Dev :=
  ((((d.set F.HL_STAT_SLIP n).inc F.HL_SLIPCNT_SLIPCNT n).clr F.HL_STAT_ALIGNED n).wr F.HL_LATTX_LAT n 0).mapHost n fun h =>
    { h with realign := true }

theorem execHostSlip_eq {s : State} {n : Fin 16} {p : Path} (hp : s.dev.hostPath n = some p)
    (ha : s.dev.on F.HL_STAT_ALIGNED n = true) :
    execHostSlip n s =
      .next (s.put (if n.val % 2 = 0 then (s.dev.hostSlipped n).wr F.LN_LATTX_LAT (n.val / 2) 0 else s.dev.hostSlipped n)) := by
  unfold execHostSlip
  rw [lift_put]
  simp only [hp, ha, Option.isNone_some, Bool.not_true, Bool.or_self, Bool.false_eq_true, if_false]
  rfl

theorem rd_hostSlipped (d : Dev) (n : Nat) :
    (d.hostSlipped n).rd F.HL_STAT_SLIP n = 1 ∧ (d.hostSlipped n).rd F.HL_STAT_ALIGNED n = 0 ∧
    (d.hostSlipped n).rd F.HL_SLIPCNT_SLIPCNT n = (d.rd F.HL_SLIPCNT_SLIPCNT n + 1) % 2 ^ F.HL_SLIPCNT_SLIPCNT.w ∧
    (d.hostSlipped n).rd F.HL_LATTX_LAT n = 0 := by
  simp +decide only [Dev.hostSlipped, Dev.rd_mapHost, set_eq_wr, clr_eq_wr, inc_eq_wr, rd_wr_fld, rd_wr_same, Nat.zero_mod, and_self]

theorem hostSlip_aligned {s : State} {n : Fin 16} {p : Path} (hp : s.dev.hostPath n = some p)
    (ha : s.dev.on F.HL_STAT_ALIGNED n = true) :
    ∃ t : Dev, exec (.hostSlip n) s = .next (s.put t) ∧ t.rd F.HL_STAT_SLIP n = 1 ∧ t.rd F.HL_STAT_ALIGNED n = 0 ∧
      t.rd F.HL_SLIPCNT_SLIPCNT n = (s.dev.rd F.HL_SLIPCNT_SLIPCNT n + 1) % 2 ^ F.HL_SLIPCNT_SLIPCNT.w ∧
      t.rd F.HL_LATTX_LAT n = 0 ∧ (t.host n).realign = true ∧ t.lanes = s.dev.lanes := by
  obtain ⟨hslip, halign, hcnt, hlat⟩ := rd_hostSlipped s.dev n
  have hre : ((s.dev.hostSlipped n).host n).realign = true := by rw [Dev.hostSlipped, host_mapHost]
  refine ⟨_, execHostSlip_eq hp ha, ?_⟩
  split
  · have hother : ∀ g : Fld, fldNe g F.LN_LATTX_LAT = true →
        ((s.dev.hostSlipped n).wr F.LN_LATTX_LAT (n.val / 2) 0).rd g n = (s.dev.hostSlipped n).rd g n := fun g => rd_wr_fld _ _ _ _ _ _
    exact ⟨(hother _ (by decide)).trans hslip, (hother _ (by decide)).trans halign, (hother _ (by decide)).trans hcnt,
      (hother _ (by decide)).trans hlat, (congrArg _ (host_wr _ _ _ _ _)).trans hre, Dev.wr_lanes _ _ _ _⟩
  · exact ⟨hslip, halign, hcnt, hlat, hre, rfl⟩

/-- A datapath clock has some host UI and at most 136 (Table 6-1), so that a crossing phase and a pad fit their 8 bits. -/
theorem wordUis_pos_le (lrm : Nat) : 0 < wordUis lrm ∧ wordUis lrm ≤ 136 := by
  unfold wordUis
  split <;> decide

/-- A transmit latency fits the 32 bits of its register (R32). -/
theorem latTx_lt (lrm v : Nat) : latTx lrm v < 2 ^ 32 := by
  have hnominal : (latNominal lrm).1 ≤ 83100000 := by
    unfold latNominal
    split <;> decide
  unfold latTx latBand
  omega

/-- The device with the pad of host lane `n` set again. -/
def Dev.hostRepadded (d : Dev) (n lrm phi : Nat) : Dev := (d.hostPad n lrm phi).mapHost n fun h => { h with realign := false }

theorem rd_hostRepadded (d : Dev) (n lrm phi : Nat) :
    (d.hostRepadded n lrm phi).rd F.HL_STAT_ALIGNED n = 1 ∧
    (d.hostRepadded n lrm phi).rd F.HL_ALIGN_PHASE n = phi % wordUis lrm ∧
    (d.hostRepadded n lrm phi).rd F.HL_ALIGN_PAD n = wordUis lrm - 1 - phi % wordUis lrm := by
  obtain ⟨hpos, hle⟩ := wordUis_pos_le lrm
  have hphi := Nat.mod_lt phi hpos
  have hphase : phi % wordUis lrm % 2 ^ F.HL_ALIGN_PHASE.w = phi % wordUis lrm :=
    Nat.mod_eq_of_lt (show phi % wordUis lrm < 256 by omega)
  have hpad : (wordUis lrm - 1 - phi % wordUis lrm) % 2 ^ F.HL_ALIGN_PAD.w = wordUis lrm - 1 - phi % wordUis lrm :=
    Nat.mod_eq_of_lt (show wordUis lrm - 1 - phi % wordUis lrm < 256 by omega)
  simp +decide only [Dev.hostRepadded, Dev.hostPad, Dev.rd_mapHost, set_eq_wr, rd_wr_fld, rd_wr_same, hphase, hpad, and_self]

/-- The device with the latencies after a realignment of host lane `n`: those of a lane that trains or loops its payload back stay; host
lane 2k sets its lane's, and that of host lane 2k + 1 follows; host lane 2k + 1 sets its own (R152). -/
def Dev.hostRelatched (d : Dev) (n lrm lat : Nat) : Dev :=
  if d.on F.LN_STAT_TRAINING (n / 2) || d.farLoop (n / 2) then d
  else if n % 2 = 0 then
    ((d.wr F.HL_LATTX_LAT n (latTx lrm lat)).wr F.LN_LATTX_LAT (n / 2) (latTx lrm lat)).wr F.HL_LATTX_LAT (n + 1)
      (if d.rd F.HL_LATTX_LAT (n + 1) = 0 then 0 else latOdd (latTx lrm lat) (d.rd F.HL_LATTX_LAT (n + 1)))
  else
    d.wr F.HL_LATTX_LAT n (latOdd (if d.rd F.HL_LATTX_LAT (n - 1) = 0 then latTx lrm lat else d.rd F.HL_LATTX_LAT (n - 1)) lat)

theorem execHostRealignDone_eq {s : State} {n : Fin 16} {p : Path} (phi lat : Nat) (hp : s.dev.hostPath n = some p)
    (hr : (s.dev.host n).realign = true) (hl : s.dev.on F.HL_STAT_CDRLOCK n = true) :
    execHostRealignDone n phi lat s = .next (s.put ((s.dev.hostRepadded n p.lrm phi).hostRelatched n p.lrm lat)) := by
  unfold execHostRealignDone
  rw [lift_put]
  simp only [hp, hr, hl, Bool.not_true, Bool.or_self, Bool.false_eq_true, if_false]
  rfl

/-- Setting the latencies keeps whatever a write of HL_LATTX or LN_LATTX keeps. -/
theorem hostRelatched_keeps {α : Type} (p : Dev → α)
    (h : ∀ (e : Dev), ∀ f ∈ [F.HL_LATTX_LAT, F.LN_LATTX_LAT], ∀ c v, p (e.wr f c v) = p e)
    (d : Dev) (n lrm lat : Nat) : p (d.hostRelatched n lrm lat) = p d := by
  unfold Dev.hostRelatched
  split
  · rfl
  · split
    · rw [h _ _ (by decide), h _ _ (by decide), h _ _ (by decide)]
    · exact h _ _ (by decide) _ _

theorem rd_hostRelatched (d : Dev) (n lrm lat : Nat) {g : Fld} (c : Nat) (h : [F.HL_LATTX_LAT, F.LN_LATTX_LAT].all (fldNe g) = true) :
    (d.hostRelatched n lrm lat).rd g c = d.rd g c :=
  hostRelatched_keeps (fun e => e.rd g c) (fun e _ hf ch v => rd_wr_of_all e h hf ch v c) d n lrm lat

theorem host_hostRelatched (d : Dev) (n lrm lat m : Nat) : (d.hostRelatched n lrm lat).host m = d.host m :=
  hostRelatched_keeps (fun e => e.host m) (fun e f _ ch v => host_wr e f ch v m) d n lrm lat

theorem farLoop_hostRelatched (d : Dev) (n lrm lat k : Nat) : (d.hostRelatched n lrm lat).farLoop k = d.farLoop k :=
  hostRelatched_keeps (fun e => e.farLoop k) (fun _ _ _ _ _ => rfl) d n lrm lat

/-- Host lane 2k of a lane that neither trains nor loops back reports its lane's latency. -/
theorem lattx_hostRelatched_even {d : Dev} {n : Nat} (lrm lat : Nat) (he : n % 2 = 0) (ht : d.on F.LN_STAT_TRAINING (n / 2) = false)
    (hf : d.farLoop (n / 2) = false) :
    (d.hostRelatched n lrm lat).rd F.HL_LATTX_LAT n = latTx lrm lat ∧
    (d.hostRelatched n lrm lat).rd F.LN_LATTX_LAT (n / 2) = latTx lrm lat := by
  have hfit : ∀ f : Fld, f.w = 32 → latTx lrm lat % 2 ^ f.w = latTx lrm lat := fun f hw => by
    rw [hw]
    exact Nat.mod_eq_of_lt (latTx_lt lrm lat)
  simp only [Dev.hostRelatched, ht, hf, he, Bool.or_self, Bool.false_eq_true, if_false, if_true]
  constructor
  · rw [rd_wr_chan _ _ _ (by decide) (Nat.ne_of_lt (Nat.lt_succ_self n)), rd_wr_fld _ _ _ _ _ _ (by decide), rd_wr_same, hfit _ rfl]
  · rw [rd_wr_fld _ _ _ _ _ _ (by decide), rd_wr_same, hfit _ rfl]

theorem hostRealignDone_locked {s : State} {n : Fin 16} {p : Path} (phi lat : Nat) (hp : s.dev.hostPath n = some p)
    (hr : (s.dev.host n).realign = true) (hl : s.dev.on F.HL_STAT_CDRLOCK n = true) :
    ∃ t : Dev, exec (.hostRealignDone n phi lat) s = .next (s.put t) ∧ t.rd F.HL_STAT_ALIGNED n = 1 ∧
      t.rd F.HL_ALIGN_PHASE n = phi % wordUis p.lrm ∧ t.rd F.HL_ALIGN_PAD n = wordUis p.lrm - 1 - phi % wordUis p.lrm ∧
      (t.host n).realign = false ∧
      (n.val % 2 = 0 → t.on F.LN_STAT_TRAINING (n / 2) = false → t.farLoop (n / 2) = false →
        t.rd F.HL_LATTX_LAT n = latTx p.lrm lat ∧ t.rd F.LN_LATTX_LAT (n / 2) = latTx p.lrm lat) := by
  obtain ⟨halign, hphase, hpad⟩ := rd_hostRepadded s.dev n p.lrm phi
  refine ⟨_, execHostRealignDone_eq phi lat hp hr hl, (rd_hostRelatched _ _ _ _ _ (by decide)).trans halign,
    (rd_hostRelatched _ _ _ _ _ (by decide)).trans hphase, (rd_hostRelatched _ _ _ _ _ (by decide)).trans hpad, ?_, fun he ht hf => ?_⟩
  · rw [host_hostRelatched, Dev.hostRepadded, host_mapHost]
  · rw [Dev.on, rd_hostRelatched _ _ _ _ _ (by decide)] at ht
    rw [farLoop_hostRelatched] at hf
    exact lattx_hostRelatched_even p.lrm lat he ht hf

/-! ## HOST.STAT.GET and HOST.EQ.GET (Tables 6-6 and 6-7) -/

section
variable {s : State} {src : Src} {hlane : Byte}

theorem hostStatGet_completes (h : s.dev.admits src 0xA200 .q = true) (hn : hlane.toNat ≤ 15) :
    let x := s.dev.arrives 0xA200
    execHostStatGet src hlane s = .next (s.put (x.completes (x.entry src 0xA200 .q) x
      (be 2 (x.regWord 0x30004 hlane.toNat) ++ be 1 (x.rd F.HL_STAT_RATE hlane.toNat) ++ be 1 (x.host hlane.toNat).state ++
      be 1 (x.rd F.HL_ALIGN_PHASE hlane.toNat) ++ be 1 (x.rd F.HL_ALIGN_PAD hlane.toNat) ++
      be 2 (x.rd F.HL_SLIPCNT_SLIPCNT hlane.toNat) ++ be 2 (x.rd F.HL_SLIPCNT_LOSSCNT hlane.toNat) ++ zeros 2 ++
      be 4 (x.rd F.HL_LATTX_LAT hlane.toNat)))) := by
  unfold execHostStatGet
  rw [lift_put, kci_completes h]
  exact if_neg (Nat.not_lt.mpr hn)

theorem hostStatGet_badParam (h : s.dev.admits src 0xA200 .q = true) (hn : 15 < hlane.toNat) :
    execHostStatGet src hlane s =
      .next (s.put ((s.dev.arrives 0xA200).declines ((s.dev.arrives 0xA200).entry src 0xA200 .q) .badParam)) := by
  unfold execHostStatGet
  rw [lift_put, kci_declines h]
  exact if_pos hn

theorem hostEqGet_completes (h : s.dev.admits src 0xA201 .q = true) (hn : hlane.toNat ≤ 15) :
    let x := s.dev.arrives 0xA201
    ∃ p, execHostEqGet src hlane s = .next (s.put (x.completes (x.entry src 0xA201 .q) x p)) ∧ p.length = 12 ∧
      p.take 1 = be 1 (x.hostCfg (dHTX hlane.toNat) F.HL_TXEQ_PRE2 hlane.toNat) := by
  refine ⟨?payload, ?run, ?length, ?first⟩
  case run =>
    unfold execHostEqGet
    rw [lift_put, kci_completes h]
    exact if_neg (Nat.not_lt.mpr hn)
  case length => rfl
  case first => rfl

theorem hostEqGet_badParam (h : s.dev.admits src 0xA201 .q = true) (hn : 15 < hlane.toNat) :
    execHostEqGet src hlane s =
      .next (s.put ((s.dev.arrives 0xA201).declines ((s.dev.arrives 0xA201).entry src 0xA201 .q) .badParam)) := by
  unfold execHostEqGet
  rw [lift_put, kci_declines h]
  exact if_pos hn

/-! ## HOST.EQ.SET (Table 6-8) -/

theorem keepOr_of_ne {v keep : Nat} (h : v ≠ keep) (old : Nat) : keepOr v keep old = v := if_neg h

theorem keepOr_keep (keep old : Nat) : keepOr keep keep old = old := if_pos rfl

theorem okKeep_of_le {v hi : Nat} (h : v ≤ hi) : okKeep v hi = true := by simp only [okKeep, h, decide_true, Bool.true_or]

theorem cfgKeep_of_ne {v keep : Nat} (h : v ≠ keep) (d : Dev) (dom : Nat) (f : Fld) (ch : Nat) :
    d.cfgKeep dom f ch v keep = d.cfg dom f ch v := if_neg h

theorem cfgKeep_keep (d : Dev) (dom : Nat) (f : Fld) (ch keep : Nat) : d.cfgKeep dom f ch keep keep = d := if_pos rfl

theorem okKeep_keep (hi : Nat) : okKeep 0xFF hi = true := by simp only [okKeep, beq_self_eq_true, Bool.or_true]

theorem hostEqSet_amp {x : Dev} {amp : Byte} (h : s.dev.admits src 0xA202 .c = true) (hx : s.dev.arrives 0xA202 = x)
    (hn : hlane.toNat ≤ 15) (ha : amp.toNat ≤ 3) (hused : x.hostUsed hlane.toNat = true)
    (hsum : x.hostCfg (dHTX hlane.toNat) F.HL_TXEQ_PRE2 hlane.toNat + x.hostCfg (dHTX hlane.toNat) F.HL_TXEQ_PRE1 hlane.toNat +
      x.hostCfg (dHTX hlane.toNat) F.HL_TXEQ_POST1 hlane.toNat ≤ 40) :
    execHostEqSet src hlane 0xFF 0xFF 0xFF amp 0xFF 0xFF 0xFF 0xFF s = .next (s.put (x.completes (x.entry src 0xA202 .c)
      ((x.cfg (dHTX hlane.toNat) F.HL_TXEQ_AMP hlane.toNat amp.toNat).hostApply hlane.toNat) [])) := by
  have hkeep : (0xFF : Byte).toNat = 0xFF := rfl
  have hne : amp.toNat ≠ 0xFF := by omega
  subst hx
  unfold execHostEqSet
  rw [lift_put, kci_completes h]
  simp only [hkeep, okKeep_keep, okKeep_of_le ha, keepOr_keep, cfgKeep_keep, cfgKeep_of_ne hne, hused, Nat.not_lt.mpr hn,
    Nat.not_lt.mpr hsum, decide_false, Bool.not_true, Bool.or_self, Bool.false_eq_true, if_false]

theorem hostEqSet_notReady {x : Dev} {amp : Byte} (h : s.dev.admits src 0xA202 .c = true) (hx : s.dev.arrives 0xA202 = x)
    (hn : hlane.toNat ≤ 15) (ha : amp.toNat ≤ 3) (hused : x.hostUsed hlane.toNat = false) :
    execHostEqSet src hlane 0 0 0 amp 0xFF 0xFF 0xFF 0xFF s =
      .next (s.put (x.declines (x.entry src 0xA202 .c) .notReady)) := by
  have hkeep : (0xFF : Byte).toNat = 0xFF := rfl
  have hzero : (0 : Byte).toNat = 0 := rfl
  have hsum : ∀ old, keepOr 0 0xFF old = 0 := keepOr_of_ne (by decide)
  subst hx
  unfold execHostEqSet
  rw [lift_put, kci_declines h]
  simp only [hkeep, hzero, okKeep_keep, okKeep_of_le ha, okKeep_of_le (Nat.zero_le _), hsum, hused, Nat.not_lt.mpr hn,
    decide_false, Bool.not_true, Bool.not_false, Bool.or_self, if_true]
  rfl

theorem hostEqSet_badSum {amp ctle vga dfe1 adapt pre2 pre1 post1 : Byte} (h : s.dev.admits src 0xA202 .c = true)
    (h2 : pre2.toNat ≠ 255) (h1 : pre1.toNat ≠ 255) (hp : post1.toNat ≠ 255) (hsum : 40 < pre2.toNat + pre1.toNat + post1.toNat) :
    execHostEqSet src hlane pre2 pre1 post1 amp ctle vga dfe1 adapt s =
      .next (s.put ((s.dev.arrives 0xA202).declines ((s.dev.arrives 0xA202).entry src 0xA202 .c) .badParam)) := by
  unfold execHostEqSet
  rw [lift_put, kci_declines h]
  simp only [keepOr_of_ne h2, keepOr_of_ne h1, keepOr_of_ne hp, hsum, decide_true, Bool.or_true, if_true]

end

/-- Settles O22: one lemma per event and per answer of a command. -/
theorem hostLanes : Obligations.HostLanes := fun _ _ _ _ =>
  ⟨fun _ => hostCdrLoss_locked, fun _ => hostCdrReturn_lost, fun _ => hostSlip_aligned, fun _ => hostRealignDone_locked,
    fun h => ⟨hostStatGet_completes h, hostStatGet_badParam h⟩, fun h => ⟨hostEqGet_completes h, hostEqGet_badParam h⟩,
    fun h hn => ⟨fun _ => hostEqSet_amp h rfl hn, fun _ => hostEqSet_notReady h rfl hn, fun _ _ _ _ _ _ _ _ => hostEqSet_badSum h⟩⟩

end Sys2Proof.Machine

/-! PROOFS. Chapter 07, line bring-up: retrains, the timeouts, the activation report and the stop of a lane. -/

namespace Sys2Proof.Machine

/-! ## Commands that act on the device alone -/

/-- A lifted update answers with the device that it comes to. -/
theorem lift_eq_put {f : Dev → Dev} {s : State} {e : Dev} (h : f s.dev = e) : lift f s = .next (s.put e) := by rw [lift_put, h]

/-- One that leaves the device as it is changes nothing. -/
theorem lift_eq_self {f : Dev → Dev} {s : State} (h : f s.dev = s.dev) : lift f s = .next s := lift_eq_put h

/-! ## Restarts of bring-up (R166, R173, R175) -/

/-- The fields that a restart at SEARCH or UTRAIN may write. -/
def restartFields : List Fld :=
  [F.LN_STAT_STEP, F.LN_STAT_TRAINING, F.LN_LATTX_LAT, F.LN_LATRX_LAT, F.HL_LATTX_LAT, F.LN_CTL_RETRAIN, F.LN_STAT_BCNLOCK,
    F.LN_TRSTAT_LOCK, F.DEC_STAT_MODE, F.HL_STAT_HTXIDLE, F.LN_LQF_VALID, F.LN_LQF_BLOCKS, F.SA_LSTAT_ALIGNED]

/-- What a lane reads at the restart of its bring-up at step `st`. -/
def Dev.restartedAt (d : Dev) (k st : Nat) : Prop :=
  d.stepOf k = st ∧ d.rd F.LN_CTL_RETRAIN k = 0 ∧ d.rd F.LN_TRSTAT_LOCK k = 0

/-- A register write outside the three registers of a restart leaves it in place. -/
theorem restartedAt_wr {d : Dev} {k st : Nat} (h : d.restartedAt k st) {f : Fld}
    (hf : [F.LN_STAT_STEP, F.LN_CTL_RETRAIN, F.LN_TRSTAT_LOCK].all (fldNe · f) = true) (ch v : Nat) : (d.wr f ch v).restartedAt k st := by
  simp only [List.all_cons, List.all_nil, Bool.and_true, Bool.and_eq_true] at hf
  obtain ⟨hstep, hretrain, hlock⟩ := hf
  obtain ⟨h1, h2, h3⟩ := h
  exact ⟨(rd_wr_fld _ _ _ _ _ _ hstep).trans h1, (rd_wr_fld _ _ _ _ _ _ hretrain).trans h2, (rd_wr_fld _ _ _ _ _ _ hlock).trans h3⟩

theorem rd_searchEntry (d : Dev) (k : Nat) {st : Nat} (h : st < 16) :
    (d.searchEntry k st).rd F.LN_STAT_STEP k = st ∧ (d.searchEntry k st).rd F.LN_CTL_RETRAIN k = 0 :=
  ⟨(rd_wr_fld _ _ _ _ _ _ (by decide)).trans (setStep_rd d k st h).1, rd_wr_same _ _ _ _⟩

/-- A stopped receiver has no lock. -/
theorem lock_rxStop (d : Dev) (k : Nat) : (d.rxStop k).rd F.LN_TRSTAT_LOCK k = 0 := by
  unfold Dev.rxStop Dev.mapRx
  rw [fixHosts_rd _ _ _ _ (by decide), hostUnlol_rd _ _ _ _ (by decide), Dev.rd_mapLane, Dev.rd_mapLane,
    rd_wr_fld _ _ _ _ _ _ (by decide)]
  exact rd_wr_same _ _ _ _

/-- The receiver's stop completes the restart of a lane that has entered its step. -/
theorem restartedAt_rxStop {d : Dev} {k st : Nat} (hs : d.rd F.LN_STAT_STEP k = st) (hr : d.rd F.LN_CTL_RETRAIN k = 0) :
    (d.rxStop k).restartedAt k st :=
  ⟨(rxStop_rd d k _ k (by decide) (by decide) (by decide)).trans hs, (rxStop_rd d k _ k (by decide) (by decide) (by decide)).trans hr,
    lock_rxStop d k⟩

/-- The device of a restart at SEARCH, but for the transmitter. -/
def Dev.searchRx (d : Dev) (k : Nat) : Dev := ((d.searchEntry k 2).clr F.LN_STAT_BCNLOCK k).rxStop k

/-- The rest of the restart acts on the lane's transmitter, which no register shows. -/
theorem rd_toSearch (d : Dev) (k : Nat) (g : Fld) (c : Nat) : (d.toSearch k).rd g c = (d.searchRx k).rd g c := by
  unfold Dev.toSearch
  dsimp only
  split <;> rfl

theorem restartedAt_toSearch (d : Dev) (k : Nat) : (d.toSearch k).restartedAt k 2 := by
  obtain ⟨hstep, hretrain⟩ := rd_searchEntry d k (show 2 < 16 by decide)
  have h : (d.searchRx k).restartedAt k 2 :=
    restartedAt_rxStop ((rd_wr_fld _ _ _ _ _ _ (by decide)).trans hstep) ((rd_wr_fld _ _ _ _ _ _ (by decide)).trans hretrain)
  simpa only [Dev.restartedAt, Dev.stepOf, rd_toSearch] using h

theorem restartedAt_restartUtrain (d : Dev) (k : Nat) : (d.restartUtrain k).restartedAt k 8 := by
  obtain ⟨hstep, hretrain⟩ := rd_searchEntry d k (show 8 < 16 by decide)
  have hstop : ((d.searchEntry k 8).rxStop k).restartedAt k 8 := restartedAt_rxStop hstep hretrain
  have hbegin : (((((d.searchEntry k 8).rxStop k).clr F.LN_LQF_VALID k).wr F.LN_LQF_BLOCKS k 0).wr F.DEC_STAT_MODE k 2).restartedAt k 8 :=
    restartedAt_wr (restartedAt_wr (restartedAt_wr hstop (by decide) _ _) (by decide) _ _) (by decide) _ _
  exact restartedAt_wr (f := F.SA_LSTAT_ALIGNED) hbegin (by decide) k 1

section
variable {g : Fld} (c : Nat) (hg : restartFields.all (fldNe g) = true)
include hg

theorem rd_searchEntry_other (d : Dev) (k st : Nat) : (d.searchEntry k st).rd g c = d.rd g c := by
  have hfld : ∀ {f : Fld}, f ∈ restartFields → fldNe g f = true := List.all_eq_true.mp hg _
  exact (rd_wr_of_all _ hg (by decide) _ _ _).trans (setStep_rd_other d k st g c (hfld (by decide)) (hfld (by decide)) (hfld (by decide))
    (hfld (by decide)) (hfld (by decide)))

theorem rd_rxStop_other (d : Dev) (k : Nat) : (d.rxStop k).rd g c = d.rd g c := by
  have hfld : ∀ {f : Fld}, f ∈ restartFields → fldNe g f = true := List.all_eq_true.mp hg _
  exact rxStop_rd d k g c (hfld (by decide)) (hfld (by decide)) (hfld (by decide))

theorem rd_toSearch_other (d : Dev) (k : Nat) : (d.toSearch k).rd g c = d.rd g c := by
  rw [rd_toSearch, Dev.searchRx, rd_rxStop_other c hg, clr_eq_wr, rd_wr_of_all _ hg (by decide), rd_searchEntry_other c hg]

theorem rd_restartUtrain_other (d : Dev) (k : Nat) : (d.restartUtrain k).rd g c = d.rd g c := by
  unfold Dev.restartUtrain Dev.rxBegin
  rw [Dev.rd_mapLane, set_eq_wr, rd_wr_of_all _ hg (by decide), Dev.rd_mapRx, rd_wr_of_all _ hg (by decide),
    rd_wr_of_all _ hg (by decide), clr_eq_wr, rd_wr_of_all _ hg (by decide), rd_rxStop_other c hg, rd_searchEntry_other c hg]

end

/-! ## A retrain (R175) -/

/-- The device of a retrain before its bring-up restarts. -/
def Dev.retrainCounted (d : Dev) (k : Nat) : Dev :=
  ((((((d.inc F.LN_RTCNT_RETRAINS k).set F.LN_STAT_RTEV k).ptnrDrop k false).dropMarks k).newBringup k)).mapLane k fun l =>
    { l with alarm := l.alarm ||| 32 }

theorem dropMarks_paths (d : Dev) (k : Nat) : (d.dropMarks k).paths = d.paths := by
  unfold Dev.dropMarks
  dsimp only
  split <;> rfl

theorem putOutcome_paths (d : Dev) (k : Nat) (o : Option Nat) : (d.putOutcome k o).paths = d.paths := rfl

theorem isC_congr {d e : Dev} (h : d.paths = e.paths) (k : Nat) : d.isC k = e.isC k := by
  unfold Dev.isC Dev.lrm Dev.pathOf
  rw [h]

theorem isC_retrainCounted (d : Dev) (k : Nat) : (d.retrainCounted k).isC k = d.isC k := by
  refine isC_congr ?_ k
  rw [Dev.retrainCounted, Dev.mapLane_paths, Dev.newBringup, Dev.mapLane_paths, putOutcome_paths, dropMarks_paths]
  rfl

/-- A retrain restarts at SEARCH in a C mode, with the inversion ended, and at UTRAIN in a U mode. -/
theorem retrain_eq (d : Dev) (k : Nat) : d.retrain k =
    if d.isC k then ((d.retrainCounted k).clr F.SA_LSTAT_INV k).toSearch k else (d.retrainCounted k).restartUtrain k := by
  rw [← isC_retrainCounted]
  rfl

theorem rd_dropMarks (d : Dev) (k : Nat) {g : Fld} (c : Nat) (h : fldNe g F.TU_FIFOSTAT_COUNT = true) : (d.dropMarks k).rd g c = d.rd g c := by
  unfold Dev.dropMarks
  dsimp only
  rw [Dev.rd_mapTt]
  split
  · rfl
  · exact rd_wr_fld _ _ _ _ _ _ h

/-- What a retrain writes beside its restart: the count, RTEV, the outcome bits, the FIFO's count and the inversion. -/
theorem rd_retrainCounted (d : Dev) (k : Nat) {g : Fld} (c : Nat)
    (h : [F.TU_FIFOSTAT_COUNT, F.LN_STAT_FOREIGN, F.LN_STAT_NOSIG, F.LN_STAT_NOAGREE].all (fldNe g) = true) :
    (d.retrainCounted k).rd g c = ((d.inc F.LN_RTCNT_RETRAINS k).set F.LN_STAT_RTEV k).rd g c := by
  have hfld : ∀ {f : Fld}, f ∈ _ → fldNe g f = true := List.all_eq_true.mp h _
  rw [Dev.retrainCounted, Dev.rd_mapLane, Dev.newBringup, Dev.rd_mapLane,
    putOutcome_rd _ _ _ _ _ (hfld (by decide)) (hfld (by decide)) (hfld (by decide)), rd_dropMarks _ _ _ (hfld (by decide))]
  rfl

/-- A field that neither a restart nor the inversion's end writes reads after a retrain as once it is counted. -/
theorem rd_retrain (d : Dev) (k : Nat) {g : Fld} (c : Nat)
    (h : ([F.SA_LSTAT_INV, F.TU_FIFOSTAT_COUNT, F.LN_STAT_FOREIGN, F.LN_STAT_NOSIG, F.LN_STAT_NOAGREE] ++ restartFields).all (fldNe g) = true) :
    (d.retrain k).rd g c = ((d.inc F.LN_RTCNT_RETRAINS k).set F.LN_STAT_RTEV k).rd g c := by
  rw [List.all_append, Bool.and_eq_true, List.all_cons, Bool.and_eq_true] at h
  obtain ⟨⟨hinv, hcount⟩, hrestart⟩ := h
  rw [retrain_eq, ← rd_retrainCounted d k c hcount]
  split
  · rw [rd_toSearch_other c hrestart, clr_eq_wr, rd_wr_fld _ _ _ _ _ _ hinv]
  · exact rd_restartUtrain_other c hrestart _ k

theorem restartedAt_retrain (d : Dev) (k : Nat) : (d.retrain k).restartedAt k (if d.isC k then 2 else 8) := by
  rw [retrain_eq]
  split
  · exact restartedAt_toSearch _ k
  · exact restartedAt_restartUtrain _ k

/-- Settles O17: a retrain is counted, and then its bring-up restarts at the mode's step. -/
theorem retrainEffect : Obligations.RetrainEffect := by
  intro d k
  obtain ⟨hstep, hretrain, hlock⟩ := restartedAt_retrain d k
  refine ⟨(rd_retrain d k k (by decide)).trans ?count, (rd_retrain d k k (by decide)).trans ?fail,
    (rd_retrain d k k (by decide)).trans (rd_wr_same _ _ _ _), hretrain, hlock, hstep⟩
  case count => exact (rd_wr_fld _ _ _ _ _ _ (by decide)).trans (rd_wr_same _ _ _ _)
  case fail => exact (rd_wr_fld _ _ _ _ _ _ (by decide)).trans (rd_wr_fld _ _ _ _ _ _ (by decide))

/-! ## The ends of a bring-up (Table 7-4) -/

/-- A lane waits for SRCHTO in a step before frame 0. -/
def Dev.searching (d : Dev) (k : Nat) : Prop := (d.lane k).srch = true ∧ 2 ≤ d.stepOf k ∧ d.stepOf k ≤ 4

/-- SRCHTO_EXPIRY in SEARCH to AGREED gives the outcome that the flags select, and restarts on NOAGREE. -/
theorem execSrchtoExpiry_eq {s : State} {k : Fin 8} (h : s.dev.searching k) {o : Nat}
    (ho : (if !s.dev.on F.LN_STAT_SIGDET k then 2 else if s.dev.on F.LN_STAT_MISMATCH k then 3 else
      if (s.dev.lane k).heard then 7 else 1) = o) :
    let e := (s.dev.mapLane k fun l => { l with srch := false }).putOutcome k (some o)
    execSrchtoExpiry k s = .next (s.put ((if o = 7 then e.toSearch k else e).fallback k).settlePaths) := by
  obtain ⟨hs, hlo, hhi⟩ := h
  refine lift_eq_put ?_
  simp only [hs, Nat.not_lt.mpr hlo, Nat.not_lt.mpr hhi, decide_false, Bool.not_true, Bool.or_self, Bool.false_eq_true, if_false, ho]

/-- TRNTO_EXPIRY of a lane that trains sets TRAINTO, gives outcome 4 and restarts. -/
theorem execTrntoExpiry_eq {s : State} {k : Fin 8} (ht : (s.dev.lane k).trn = true)
    (hst : s.dev.stepOf k = 5 ∨ s.dev.stepOf k = 6 ∨ s.dev.stepOf k = 8) :
    let e := (s.dev.set F.LN_STAT_TRAINTO k).putOutcome k (some 4)
    execTrntoExpiry k s =
      .next (s.put (if s.dev.stepOf k = 8 then (e.writeTaps k).restartUtrain k else e.toSearch k).settlePaths) := by
  have hin : (s.dev.stepOf k == 5 || s.dev.stepOf k == 6 || s.dev.stepOf k == 8) = true := by
    rcases hst with h | h | h <;> rw [h] <;> rfl
  refine lift_eq_put ?_
  simp only [ht, hin, Bool.not_true, Bool.or_self, Bool.false_eq_true, if_false]

theorem execRetrainDelayExpiry_eq {s : State} {k : Fin 8} (hl : (s.dev.lane k).lolTimer = true)
    (hlock : s.dev.on F.LN_TRSTAT_LOCK k = false) (hlo : 5 ≤ s.dev.stepOf k) (hhi : s.dev.stepOf k ≤ 7) :
    execRetrainDelayExpiry k s = .next (s.put (if s.dev.on F.LN_CTL_AUTORT k then s.dev.retrain k else s.dev)) := by
  refine lift_eq_put ?_
  simp only [hl, hlock, hlo, hhi, Bool.not_false, Bool.true_and, decide_true, Bool.and_true]

/-- DATAPATH_ACTIVATED of a group with a bring-up, all its lanes ACTIVE and measured. -/
theorem execDatapathActivated_eq {s : State} {k : Fin 8} {p : Path} {lats : List LatReport}
    (hp : (s.dev.paths.find? fun q => q.first == k.val) = some p) (hb : p.bringup = true) (hr : p.reported = false) (h3 : p.state ≠ 3)
    (hact : (p.lanes.all fun j => s.dev.stepOf j == 7) = true)
    (hall : (p.lanes.all fun j => lats.any fun r : LatReport => r.lane.val == j) = true) :
    let d1 := lats.foldl (fun e r => if p.lanes.contains r.lane.val then e.putLat r.lane.val p.lrm r else e) s.dev
    let d2 := d1.mapPath p.first fun q => { q with state := 2, reported := true }
    execDatapathActivated k lats s = .next (s.put (if s.dev.capOut p then d2 else d2.sendCap p).settlePaths) := by
  refine lift_eq_put ?_
  simp only [hp, hb, hr, hact, hall, h3, decide_false, Bool.not_true, Bool.or_self, Bool.false_eq_true, if_false]

/-! ## The stop of a lane (R40) -/

/-- The taps of lane `k`, which firmware remembers per mode (R104). -/
def Dev.tapsNow (d : Dev) (k : Nat) : List Nat := (List.range 48).map fun i => d.rd ((F.LN_FFETAP_VAL).at i) k

/-- What the lane sends, receives and remembers ends before it takes step OFF. -/
def Dev.laneQuiet (d : Dev) (k : Nat) (p : Path) : Dev :=
  let e := if p.bringup && (d.stepOf k != 7 || !p.reported) && (d.lane k).outcome != some 5 then d.putOutcome k (some 6) else d
  ((((((e.ptnrDrop k true).dropMarks k).txFlush k (d.txCfg k)).wr F.TX_STAT_STATE k 0).clr F.TX_STAT_SQACT k).mapTx k fun t =>
    { t with pend := none, blk := 0, switch := 0, switched := false, streaming := false }).mapRx k fun r =>
      { r.idle with taps := if (d.lane k).wasActive then vset r.taps p.lrm fun _ => d.tapsNow k else r.taps }

/-- The line side of a lane in step OFF. -/
def Dev.lineOff (d : Dev) (k : Nat) : Dev :=
  let e := (d.setStep k 0).mapLane k fun l =>
    { l with active := false, prepared := false, srch := false, trn := false, lolTimer := false, heard := false, capSent := false }
  ((((e.clr F.LN_TRSTAT_LOCK k).wr F.DEC_STAT_MODE k 0).clr F.SA_LSTAT_ALIGNED k).clr F.LN_STAT_BCNLOCK k).zeroLat k

/-- The host lanes `hosts` of lane `k` idle. -/
def Dev.hostsOff (d : Dev) (k : Nat) (hosts : List Nat) : Dev :=
  ((hosts.foldl (fun e n => ((e.clr F.HL_STAT_ALIGNED n).clr F.HL_STAT_TXLOCK n).mapHost n fun h =>
    { h with realign := false, lost := false, lolIdle := false }) d).hostState (2 * k) 0).hostState (2 * k + 1) 0

theorem execDatapathStop_eq {s : State} {k : Fin 8} {p : Path} (hp : s.dev.pathOf k = some p) (h3 : p.state = 3)
    (ha : (s.dev.lane k).active = true) :
    execDatapathStop k s =
      .next (s.put (((((s.dev.laneQuiet k p).lineOff k).hostsOff k (hostsOfLane p.lrm k)).tbEnd k false).pathStopped p.first)) := by
  refine lift_eq_put ?_
  simp only [hp, h3, ha, ne_eq, not_true_eq_false, decide_false, Bool.not_true, Bool.or_self, Bool.false_eq_true, if_false]
  rfl

/-- Idling host lanes is seen in their own status alone. -/
theorem rd_hostsOff (d : Dev) (k : Nat) (hosts : List Nat) {g : Fld} (c : Nat)
    (h : [F.HL_STAT_ALIGNED, F.HL_STAT_TXLOCK, F.HL_STAT_HTXIDLE].all (fldNe g) = true) : (d.hostsOff k hosts).rd g c = d.rd g c := by
  have hidle : fldNe g F.HL_STAT_HTXIDLE = true := List.all_eq_true.mp h _ (by decide)
  rw [Dev.hostsOff, hostState_rd _ _ _ _ _ hidle, hostState_rd _ _ _ _ _ hidle]
  refine foldl_keeps (fun e : Dev => e.rd g c) (fun e n => ?_) hosts d
  rw [Dev.rd_mapHost, clr_eq_wr, rd_wr_of_all _ h (by decide), clr_eq_wr, rd_wr_of_all _ h (by decide)]

/-- A stopped lane is in OFF, without latencies, lock or alignment. -/
theorem rd_lineOff (d : Dev) (k : Nat) :
    (d.lineOff k).rd F.LN_STAT_STEP k = 0 ∧ (d.lineOff k).rd F.LN_LATTX_LAT k = 0 ∧ (d.lineOff k).rd F.LN_LATRX_LAT k = 0 ∧
    (d.lineOff k).rd F.LN_TRSTAT_LOCK k = 0 ∧ (d.lineOff k).rd F.SA_LSTAT_ALIGNED k = 0 := by
  have hstep := (setStep_rd d k 0 (by decide)).1
  simp +decide only [Dev.lineOff, Dev.zeroLat, clr_eq_wr, Dev.rd_mapLane, rd_wr_fld, rd_wr_same, Nat.zero_mod, hstep, and_self]

/-- It stays so while its host lanes idle. -/
theorem rd_stopped (d : Dev) (k : Nat) (hosts : List Nat) :
    let t := (d.lineOff k).hostsOff k hosts
    t.rd F.LN_STAT_STEP k = 0 ∧ t.rd F.LN_LATTX_LAT k = 0 ∧ t.rd F.LN_LATRX_LAT k = 0 ∧ t.rd F.LN_TRSTAT_LOCK k = 0 ∧
      t.rd F.SA_LSTAT_ALIGNED k = 0 := by
  dsimp only
  rw [rd_hostsOff _ _ _ _ (by decide), rd_hostsOff _ _ _ _ (by decide), rd_hostsOff _ _ _ _ (by decide), rd_hostsOff _ _ _ _ (by decide),
    rd_hostsOff _ _ _ _ (by decide)]
  exact rd_lineOff d k

/-- Settles O16: each event's effect, with the outcome that the flags of the lane select. -/
theorem bringupEnds : Obligations.BringupEnds := by
  intro s k
  refine ⟨fun hs hst => ?search, fun ht hst => ?train, fun ht hst => ?utrain, fun hl hlock hlo hhi => ?delay,
    fun p lats hp hb hr h3 hact hall => execDatapathActivated_eq hp hb hr h3 hact hall,
    fun p hp h3 ha => ⟨_, execDatapathStop_eq hp h3 ha, rd_stopped _ _ _⟩⟩
  case search =>
    have h : s.dev.searching k := ⟨hs, by omega⟩
    refine ⟨fun hsig => execSrchtoExpiry_eq h (o := 2) ?_, fun hsig hmis => execSrchtoExpiry_eq h (o := 3) ?_,
      fun hsig hmis hheard => execSrchtoExpiry_eq h (o := 7) ?_, fun hsig hmis hheard => execSrchtoExpiry_eq h (o := 1) ?_⟩
    · rw [hsig]; rfl
    · rw [hsig, hmis]; rfl
    · rw [hsig, hmis, hheard]; rfl
    · rw [hsig, hmis, hheard]; rfl
  case train =>
    have hne : s.dev.stepOf k ≠ 8 := by omega
    refine (execTrntoExpiry_eq ht ?_).trans ?_
    · omega
    · rw [if_neg hne]
  case utrain =>
    refine (execTrntoExpiry_eq ht (.inr (.inr hst))).trans ?_
    rw [if_pos hst]
  case delay =>
    have h := execRetrainDelayExpiry_eq hl hlock hlo hhi
    exact ⟨fun ha => h.trans (by rw [ha]; rfl), fun ha => h.trans (by rw [ha]; rfl)⟩

end Sys2Proof.Machine

/-! PROOFS. Chapter 07, the Partner channel: what is sent and when firmware presents it. -/

namespace Sys2Proof.Machine

/-! ## The transmitter's half of a lane -/

theorem lane_mapTx (d : Dev) (k : Fin 8) (f : TxLane → TxLane) : (d.mapTx k f).lane k = { d.lane k with tx := f (d.lane k).tx } :=
  lane_mapLane d k _

/-! ## The calendar and the retries (R185) -/

/-- PTNR_PACKET_TX_START between packets: the first booked packet starts once its frame has come. -/
theorem execPtnrPacketTxStart_eq {s : State} {k : Fin 8} {b : Booking} {r : List Booking} (hc : (s.dev.lane k).tx.calendar = b :: r)
    (hf : s.dev.frames k = true) (hn : (s.dev.lane k).tx.cur = none) :
    execPtnrPacketTxStart k s = .next (s.put (if (s.dev.lane k).tx.frame < b.start then s.dev else
      s.dev.mapTx k fun x => { x with calendar := r, cur := some b, raw := ptnrRaw b.type b.seq b.payload })) := by
  refine lift_eq_put ?_
  simp only [hc, hf, hn, Option.isSome_none, Bool.not_true, Bool.or_self, Bool.false_or, decide_eq_true_eq]

theorem presentAgain_ready {d : Dev} {k : Nat} {r : Nat × List Byte} (h1 : r.1 = 1) (hst : d.stepOf k = 6) :
    d.presentAgain k r = d.present k 1 r.2 := by
  simp only [Dev.presentAgain, h1, hst, if_true]

/-- An ALARM whose affected lane sends frames goes on that lane. -/
theorem presentAgain_alarm {d : Dev} {k : Nat} {r : Nat × List Byte} (h8 : r.1 = 8) (hf : d.frames (r.2.getD 2 0).toNat = true) :
    d.presentAgain k r = d.present (r.2.getD 2 0).toNat 8 r.2 := by
  simp only [Dev.presentAgain, h8, hf, decide_true, Bool.and_self, if_true]
  rfl

/-- A CAP goes on the management lane. -/
theorem presentAgain_cap {d : Dev} {k j : Nat} {p : Path} {r : Nat × List Byte} (h2 : r.1 = 2) (hp : d.pathOf k = some p)
    (hj : d.mgmtLane p = some j) : d.presentAgain k r = d.present j 2 r.2 := by
  simp only [Dev.presentAgain, h2, hp, Option.bind_some, hj]
  rfl

/-- The device with lane `k`'s refused packets taken off its list. -/
def Dev.retryTaken (d : Dev) (k : Nat) : Dev := d.mapTx k fun x => { x with retry := [] }

/-- PTNR_RETRY_TIMER of one waiting packet presents it again, with none waiting any more. -/
theorem execPtnrRetryTimer_single {s : State} {k : Fin 8} {r : Nat × List Byte} (h : (s.dev.lane k).tx.retry = [r]) :
    execPtnrRetryTimer k s = .next (s.put ((s.dev.retryTaken k).presentAgain k r)) := by
  refine lift_eq_put ?_
  simp only [h, List.foldl_cons, List.foldl_nil]
  rfl

/-! ## The messages of firmware's timers (R182 to R184, R345) -/

theorem eqhintTimer_presents {s : State} {k : Fin 8} {deltas : List (BitVec 8)} (hl : deltas.length = 9) (hst : s.dev.stepOf k = 7)
    (hh : s.dev.on F.LN_PTCTL_HINTTX k = true) (hf : s.dev.farFeature k 1 = true) :
    execEqhintTimer k deltas s = .next (s.put (s.dev.present k 3 (deltas ++ be 1 (s.dev.lane k).tx.main ++ zeros 2))) := by
  have hown : ownFeat.testBit 0 = true := rfl
  have htake : (deltas ++ zeros 9).take 9 = deltas := List.take_left' hl
  refine lift_eq_put ?_
  simp only [hst, hh, hf, hown, htake, decide_true, Bool.and_self, if_true]

theorem eqhintTimer_off {s : State} {k : Fin 8} (deltas : List (BitVec 8)) (hh : s.dev.on F.LN_PTCTL_HINTTX k = false) :
    execEqhintTimer k deltas s = .next s :=
  lift_eq_self (by simp only [hh, Bool.and_false, Bool.false_and, Bool.false_eq_true, if_false])

theorem lvlhintTimer_presents {s : State} {k : Fin 8} (hst : s.dev.stepOf k = 7) (hh : s.dev.on F.LN_PTCTL_HINTTX k = true)
    (hf : s.dev.feature k 2 = true) :
    execLvlhintTimer k s = .next (s.put (s.dev.present k 4 (be 4 (s.dev.levelWord k) ++ zeros 4))) := by
  refine lift_eq_put ?_
  simp only [hst, hh, hf, decide_true, Bool.and_self, if_true]

theorem lvlhintTimer_off {s : State} {k : Fin 8} (hh : s.dev.on F.LN_PTCTL_HINTTX k = false) : execLvlhintTimer k s = .next s :=
  lift_eq_self (by simp only [hh, Bool.and_false, Bool.false_and, Bool.false_eq_true, if_false])

theorem alarmTimer_presents {s : State} {k : Fin 8} (hc : s.dev.isC k = true) (ha : (s.dev.lane k).active = true)
    (hb : s.dev.alarmBits k ≠ 0) : execAlarmTimer k s = .next (s.put (s.dev.sendAlarm k)) := by
  refine lift_eq_put ?_
  simp only [hc, ha, bne_iff_ne.mpr hb, Bool.and_self, if_true]

theorem alarmTimer_quiet {s : State} {k : Fin 8} (hb : s.dev.alarmBits k = 0) : execAlarmTimer k s = .next s :=
  lift_eq_self (by simp only [hb, bne_self_eq_false, Bool.and_false, Bool.false_eq_true, if_false])

theorem length_be (n v : Nat) : (be n v).length = n := by
  induction n with
  | zero => rfl
  | succ n ih => exact congrArg Nat.succ ih

/-- The TELEM payload: eight lanes of four bytes, the die temperature, and six zero bytes. -/
theorem length_telem (f : Nat → Nat × Nat) (t : Nat) :
    (((List.range 8).flatMap fun j => be 2 (f j).1 ++ be 2 (f j).2) ++ be 2 t ++ zeros 2 ++ zeros 4).length = 40 := by
  simp only [List.length_append, List.length_flatMap, length_be, zeros, List.length_replicate]
  rfl

theorem telemTimer_presents {s : State} {k : Fin 8} {p : Path} {j : Nat} (hp : (s.dev.paths.find? fun p => p.first == k.val) = some p)
    (hj : s.dev.mgmtLane p = some j) (hm : p.lrm < 2) (ht : s.dev.on F.LN_PTCTL_TELEM p.first = true) (hf : s.dev.feature j 4 = true) :
    ∃ pay, execTelemTimer k s = .next (s.put (s.dev.present j 9 pay)) ∧ pay.length = 40 := by
  refine ⟨?payload, ?run, ?length⟩
  case run =>
    refine lift_eq_put ?_
    simp only [hp, hj, hm, ht, hf, decide_true, Bool.and_self, if_true]
    rfl
  case length =>
    exact length_telem (fun i => (if (s.dev.tel.getD i {}).valid then (s.dev.tel.getD i {}).lqf else 0, (s.dev.tel.getD i {}).snrp)) _

theorem telemTimer_off {s : State} {k : Fin 8} {p : Path} {j : Nat} (hp : (s.dev.paths.find? fun p => p.first == k.val) = some p)
    (hj : s.dev.mgmtLane p = some j) (ht : s.dev.on F.LN_PTCTL_TELEM p.first = false) : execTelemTimer k s = .next s :=
  lift_eq_self (by simp only [hp, hj, ht, Bool.and_false, Bool.false_and, Bool.false_eq_true, if_false])

/-- TTSTAMP_SEND of an ACTIVE lane after PER marked cycles. -/
theorem ttstampSend_presents {s : State} {k : Fin 8} {a b : Mark} (he : s.dev.on F.TU_TTCTL_EN k = true) (hst : s.dev.stepOf k = 7)
    (hc : s.dev.isC k = true) (hb : (s.dev.tt k).barred = false) (h1 : 1 ≤ s.dev.rd F.TU_TTCTL_PER k)
    (hper : s.dev.rd F.TU_TTCTL_PER k ≤ (s.dev.tt k).since) (hn : (s.dev.tt k).newest = some (a, b)) :
    execTtstampSend k s =
      .next (s.put ((s.dev.present k 0x10 (s.dev.ttPayload k a b)).mapTt k fun x => { x with since := 0 })) := by
  have hdue : ¬ (s.dev.tt k).since < max 1 (s.dev.rd F.TU_TTCTL_PER k) := by omega
  refine lift_eq_put ?_
  simp only [he, hst, hc, hb, hdue, hn, bne_self_eq_false, decide_false, Bool.not_true, Bool.or_self, Bool.false_eq_true, if_false]

theorem ttstampSend_off {s : State} {k : Fin 8} (he : s.dev.on F.TU_TTCTL_EN k = false) : execTtstampSend k s = .next s :=
  lift_eq_self (by simp only [he, Bool.not_false, Bool.true_or, if_true])

/-! ## A step of the hints (R130, R184) -/

/-- The first `n` taps that owe take their parts. -/
def Dev.hintTaps (d : Dev) (k : Nat) (part : Nat → Int) (n : Nat) : Dev :=
  iter n (fun i e =>
    let f := (F.TX_FFETAP_STG).at i
    if part i = 0 then e else e.wrS f k (clampI (-512) 511 (e.rdS f k + part i))) d

theorem hintTaps_succ (d : Dev) (k : Nat) (part : Nat → Int) (n : Nat) :
    d.hintTaps k part (n + 1) = if part n = 0 then d.hintTaps k part n else (d.hintTaps k part n).wrS (F.TX_FFETAP_STG.at n) k
      (clampI (-512) 511 ((d.hintTaps k part n).rdS (F.TX_FFETAP_STG.at n) k + part n)) := rfl

/-- Taps with different numbers are different fields. -/
theorem ffetapStg_ne {i j : Nat} (hi : i < 9) (hj : j < 9) (h : i ≠ j) : fldNe (F.TX_FFETAP_STG.at i) (F.TX_FFETAP_STG.at j) = true := by
  have hall : ∀ i < 9, ∀ j < 9, i ≠ j → fldNe (F.TX_FFETAP_STG.at i) (F.TX_FFETAP_STG.at j) = true := by decide
  exact hall i hi j hj h

/-- A tap from `n` on is not yet reached. -/
theorem rd_hintTaps_later (d : Dev) (k : Nat) (part : Nat → Int) {n i : Nat} (hn : n ≤ i) (hi : i < 9) :
    (d.hintTaps k part n).rd (F.TX_FFETAP_STG.at i) k = d.rd (F.TX_FFETAP_STG.at i) k := by
  induction n with
  | zero => rfl
  | succ n ih =>
    rw [hintTaps_succ]
    split
    · exact ih (by omega)
    · exact (rd_wr_fld _ _ _ _ _ _ (ffetapStg_ne hi (by omega) (by omega))).trans (ih (by omega))

theorem fits_clampI (x : Int) : fits 10 (clampI (-512) 511 x) := by
  unfold fits clampI
  split
  · omega
  · split <;> omega

/-- Each tap below `n` has taken its part, limited to the tap's range. -/
theorem rdS_hintTaps (d : Dev) (k : Nat) (part : Nat → Int) {n i : Nat} (hi : i < n) (hn : n ≤ 9) :
    (d.hintTaps k part n).rdS (F.TX_FFETAP_STG.at i) k =
      if part i = 0 then d.rdS (F.TX_FFETAP_STG.at i) k else clampI (-512) 511 (d.rdS (F.TX_FFETAP_STG.at i) k + part i) := by
  induction n with
  | zero => omega
  | succ n ih =>
    rw [hintTaps_succ]
    by_cases hin : i = n
    · subst hin
      have hlater := rdS_congr (rd_hintTaps_later d k part (Nat.le_refl i) (show i < 9 by omega))
      split
      · exact hlater
      · rw [rdS_wrS_same _ _ (fits_clampI _), hlater]
    · have hlt : i < n := by omega
      split
      · exact ih hlt (by omega)
      · exact (rdS_congr (rd_wr_fld _ _ _ _ _ _ (ffetapStg_ne (by omega) (by omega) hin))).trans (ih hlt (by omega))

theorem lane_hintTaps (d : Dev) (k : Nat) (part : Nat → Int) (n j : Nat) : (d.hintTaps k part n).lane j = d.lane j :=
  iter_keeps (fun e : Dev => e.lane j) (fun i e _ => by dsimp only; split <;> rfl) d

/-- The device after a hint step: the taps staged, their parts no longer owed, and a commit requested. -/
def Dev.hintStepped (d : Dev) (k : Nat) : Dev :=
  ((d.hintTaps k (d.hintTap k) 9).mapTx k fun x =>
    { x with hint := (List.range 9).map fun i => x.hint.getD i 0 - d.hintTap k i }).txCmtReq k

/-- The list of the taps' parts holds each of them at its place. -/
theorem getD_hintParts (d : Dev) (k : Nat) {i : Nat} (hi : i < 9) : ((List.range 9).map (d.hintTap k)).getD i 0 = d.hintTap k i := by
  simp [hi]

theorem iter_congr {α : Type} {f g : Nat → α → α} {n : Nat} (h : ∀ i e, i < n → f i e = g i e) (a : α) : iter n f a = iter n g a := by
  induction n with
  | zero => rfl
  | succ n ih =>
    unfold iter
    rw [ih fun i e hi => h i e (Nat.lt_succ_of_lt hi), h n _ (Nat.lt_succ_self n)]

theorem execHintStepCommit_eq {s : State} {k : Fin 8} (hd : s.dev.domOn (dLTXD k) = true) (ha : (s.dev.lane k).active = true)
    (hs : s.dev.txSpaced k = true) (ho : ∃ i, i < 9 ∧ s.dev.hintTap k i ≠ 0) :
    execHintStepCommit k s = .next (s.put (s.dev.hintStepped k)) := by
  obtain ⟨i, hi, hne⟩ := ho
  have howes : ((List.range 9).map (s.dev.hintTap k)).all (· == 0) = false := by
    rw [List.all_eq_false]
    exact ⟨_, List.mem_map_of_mem (List.mem_range.mpr hi), by simpa using hne⟩
  have htaps : iter 9 (fun i e =>
      let f := (F.TX_FFETAP_STG).at i
      if ((List.range 9).map (s.dev.hintTap k)).getD i 0 = 0 then e
      else e.wrS f k (clampI (-512) 511 (e.rdS f k + ((List.range 9).map (s.dev.hintTap k)).getD i 0))) s.dev =
        s.dev.hintTaps k (s.dev.hintTap k) 9 :=
    iter_congr (fun i e hi => by simp only [getD_hintParts _ _ hi]) s.dev
  have hhint : ∀ x : TxLane, ((List.range 9).map fun i => x.hint.getD i 0 - ((List.range 9).map (s.dev.hintTap k)).getD i 0) =
      (List.range 9).map fun i => x.hint.getD i 0 - s.dev.hintTap k i := fun x =>
    List.map_congr_left fun i hi => by rw [getD_hintParts _ _ (List.mem_range.mp hi)]
  refine lift_eq_put ?_
  simp only [hd, ha, hs, howes, htaps, hhint, Bool.not_true, Bool.or_self, Bool.false_eq_true, if_false]
  rfl

theorem hintStepCommit_owed {s : State} {k : Fin 8} (hd : s.dev.domOn (dLTXD k) = true) (ha : (s.dev.lane k).active = true)
    (hs : s.dev.txSpaced k = true) (ho : ∃ i, i < 9 ∧ s.dev.hintTap k i ≠ 0) :
    ∃ t : Dev, exec (.hintStepCommit k) s = .next (s.put t) ∧
      (t.lane k).tx.hint = ((List.range 9).map fun i => (s.dev.lane k).tx.hint.getD i 0 - s.dev.hintTap k i) ∧
      t.rd F.TX_CTL_CMTREQ k = 1 ∧
      ∀ i, i < 9 → t.rdS ((F.TX_FFETAP_STG).at i) k = (if s.dev.hintTap k i = 0 then s.dev.rdS ((F.TX_FFETAP_STG).at i) k
        else clampI (-512) 511 (s.dev.rdS ((F.TX_FFETAP_STG).at i) k + s.dev.hintTap k i)) := by
  refine ⟨_, execHintStepCommit_eq hd ha hs ho, ?hint, rd_wr_same _ _ _ _, fun i hi => ?tap⟩
  case hint =>
    rw [Dev.hintStepped, Dev.txCmtReq, set_eq_wr, Dev.lane_wr, lane_mapTx, lane_hintTaps]
  case tap =>
    have hreq : ∀ i < 9, fldNe (F.TX_FFETAP_STG.at i) F.TX_CTL_CMTREQ = true := by decide
    exact (rdS_congr (rd_wr_fld _ _ _ _ _ _ (hreq i hi))).trans (rdS_hintTaps s.dev k _ hi (Nat.le_refl 9))

theorem hintStepCommit_notSpaced {s : State} {k : Fin 8} (hs : s.dev.txSpaced k = false) : execHintStepCommit k s = .next s :=
  lift_eq_self (by simp only [hs, Bool.not_false, Bool.or_true, Bool.true_or, if_true])

/-- Settles O23: one lemma per event and case of its conditions. -/
theorem partnerSend : Obligations.PartnerSend := by
  intro s k
  refine ⟨fun b r hc hf hn => ?start, ⟨rfl, fun r hr => ?retry⟩,
    fun deltas hl => ⟨eqhintTimer_presents hl, eqhintTimer_off deltas⟩, lvlhintTimer_presents, lvlhintTimer_off,
    alarmTimer_presents, alarmTimer_quiet,
    fun p j hp hj hm => ⟨telemTimer_presents hp hj hm, telemTimer_off hp hj⟩,
    fun a b => ttstampSend_presents, ttstampSend_off, hintStepCommit_owed, hintStepCommit_notSpaced⟩
  case start =>
    have h := execPtnrPacketTxStart_eq hc hf hn
    exact ⟨fun hle => h.trans (by rw [if_neg (Nat.not_lt.mpr hle)]), fun hlt => h.trans (by rw [if_pos hlt]; rfl)⟩
  case retry =>
    have hagain : ∀ {e : Dev}, (s.dev.retryTaken k).presentAgain k r = e → execPtnrRetryTimer k s = .next (s.put e) := fun h =>
      (execPtnrRetryTimer_single hr).trans (congrArg _ (congrArg _ h))
    exact ⟨fun h1 hst => hagain (presentAgain_ready h1 hst), fun h8 hf => hagain (presentAgain_alarm h8 hf),
      fun p j h2 hp hj => hagain (presentAgain_cap h2 hp hj)⟩

end Sys2Proof.Machine

/-! PROOFS. Chapter 07, the Partner channel: matching, bad packets, and what each received type does. -/

namespace Sys2Proof.Machine

/-! ## Matching and bad packets (R180, R181) -/

/-- The device with lane `k`'s reception dropped. -/
def Dev.rxDropped (d : Dev) (k : Nat) : Dev := d.mapRx k fun r => { r with soft := none }

/-- PREAMBLE_MATCH of a lane that has 64 raw bits: at the threshold a reception starts, and one in progress is aborted. -/
theorem execPreambleMatch_eq {s : State} {k : Fin 8} (hf : s.dev.frames k = true) (hl : (s.dev.lane k).rx.corr.length = 64) :
    execPreambleMatch k s = .next (s.put (if agreement (s.dev.lane k).rx.corr < pcth (s.dev.rd F.DEC_PCTH_PCTH k) then s.dev else
      (if (s.dev.lane k).rx.soft.isSome then s.dev.inc F.DEC_PABORT_COUNT k else s.dev).mapRx k fun r => { r with soft := some [] })) := by
  refine lift_eq_put ?_
  simp only [hf, hl, Nat.lt_irrefl, decide_false, Bool.not_true, Bool.or_self, Bool.false_or, decide_eq_true_eq]

/-- PTNR_BAD_PACKET of a reception drops it and counts it where its check failed. -/
theorem execPtnrBadPacket_eq {s : State} {k : Fin 8} {l : List Int} (hs : (s.dev.lane k).rx.soft = some l) {f : Fld}
    (h : rxPacket l = .badHeader ∧ f = F.DEC_PFALSE_COUNT ∨ (rxPacket l = .badLen ∨ rxPacket l = .badCrc) ∧ f = F.DEC_PCRCERR_COUNT) :
    execPtnrBadPacket k s = .next (s.put ((s.dev.rxDropped k).inc f k)) := by
  refine lift_eq_put ?_
  simp only [hs]
  obtain ⟨hr, rfl⟩ | ⟨hr | hr, rfl⟩ := h <;> rw [hr] <;> rfl

/-! ## A received packet -/

/-- The device once a valid packet has left lane `k`'s reception and is counted. -/
def Dev.received (d : Dev) (k : Nat) : Dev := (d.rxDropped k).inc F.DEC_PRXCNT_COUNT k

/-- A reception shows in no register but the count of packets. -/
theorem rd_received (d : Dev) (k : Nat) {g : Fld} (c : Nat) (h : fldNe g F.DEC_PRXCNT_COUNT = true) : (d.received k).rd g c = d.rd g c :=
  rd_wr_fld _ _ _ _ _ _ h

/-- A packet of a type that the event takes is received and handed on. -/
theorem receive_packet {d : Dev} {k : Nat} {l : List Int} {type seq raw : Nat} {c : List Byte} (hs : (d.lane k).rx.soft = some l)
    (hr : rxPacket l = .packet type seq c raw) (hf : d.frames k = true) {p : Nat → Bool} (hp : p type = true)
    (f : Nat → Nat → List Byte → Nat → Dev → Dev) :
    d.receive k p f = f type seq c ((d.lane k).rx.frame - 1 - (l.length - raw)) (d.received k) := by
  unfold Dev.receive
  simp only [hs, hr, hf, hp, Bool.and_self, if_true]
  rfl

/-- An entry of the stamp FIFO powers no domain up or down. -/
theorem domOn_fifoPush (d : Dev) (src ch tb aux i : Nat) : (d.fifoPush src ch tb aux).domOn i = d.domOn i := by
  unfold Dev.fifoPush Dev.fifoAt
  split
  · rfl
  · split
    · exact domOn_wr _ _ _ _ _ (by decide)
    · rw [inc_eq_wr, domOn_wr _ _ _ _ _ (by decide), set_eq_wr, domOn_wr _ _ _ _ _ (by decide)]

section
variable {s : State} {k : Fin 8} {l : List Int} {type seq raw : Nat} {c : List Byte} (hs : (s.dev.lane k).rx.soft = some l)
  (hr : rxPacket l = .packet type seq c raw) (hf : s.dev.frames k = true)
include hs hr hf

/-- READY before the lane's own READY is held. -/
theorem ptnrReadyRx_held (ht : type = 1) (hst : s.dev.stepOf k = 5) :
    execPtnrReadyRx k s = .next (s.put ((s.dev.received k).mapRx k fun r => { r with farReady := true })) := by
  have hstep : (s.dev.received k).stepOf k ≠ 6 := by
    rw [Dev.stepOf, rd_received _ _ _ (by decide), ← Dev.stepOf, hst]
    decide
  exact lift_eq_put ((receive_packet hs hr hf (by rw [ht]; rfl) _).trans (if_neg hstep))

/-- READY in READY makes the lane ACTIVE. -/
theorem ptnrReadyRx_active (ht : type = 1) (hst : s.dev.stepOf k = 6) :
    execPtnrReadyRx k s = .next (s.put (((s.dev.received k).mapRx k fun r => { r with farReady := true }).enterActive k)) := by
  have hstep : (s.dev.received k).stepOf k = 6 := (rd_received _ _ _ (by decide)).trans hst
  exact lift_eq_put ((receive_packet hs hr hf (by rw [ht]; rfl) _).trans (if_pos hstep))

theorem ptnrCapRx_group {p : Path} (ht : type = 2) (hp : s.dev.pathOf k = some p) :
    execPtnrCapRx k s = .next (s.put (p.lanes.foldl (fun x j => (x.mapRx j fun r => { r with farCap := c }).mapTt j fun t =>
      { t with barred := !(capFeat c).testBit 3 }) (s.dev.received k))) := by
  have hpath : (s.dev.received k).pathOf k = some p := hp
  refine lift_eq_put ((receive_packet hs hr hf (by rw [ht]; rfl) _).trans ?_)
  simp only [hpath]

theorem ptnrEqhintRx_joins (ht : type = 3) (hx : (s.dev.received k).on F.LN_PTCTL_HINTRX k = true)
    (hfar : (s.dev.received k).farFeature k 0 = true) :
    execPtnrEqhintRx k s = .next (s.put ((s.dev.received k).mapTx k fun x =>
      { x with hint := addDeltas x.hint ((List.range 9).map fun i => (c.getD i 0).toInt) })) := by
  have hown : ownFeat.testBit 1 = true := rfl
  refine lift_eq_put ((receive_packet hs hr hf (by rw [ht]; rfl) _).trans ?_)
  simp only [hx, hfar, hown, Bool.and_self, if_true]

theorem ptnrLvlhintRx_off (ht : type = 4) (hx : (s.dev.received k).on F.LN_PTCTL_HINTRX k = false) :
    execPtnrLvlhintRx k s = .next (s.put (s.dev.received k)) := by
  refine lift_eq_put ((receive_packet hs hr hf (by rw [ht]; rfl) _).trans ?_)
  simp only [hx, Bool.false_and, Bool.false_eq_true, if_false]

/-- Where a level hint takes V1STG from `v`, with V3STG at `v3`: by 1 LSB towards a far-end ratio of 1/3. -/
def hintedLevel (c : List Byte) (v3 v : Nat) : Nat :=
  let inner := 3 * (fieldAt c 2 1 + fieldAt c 1 1)
  let outer := fieldAt c 3 1 + fieldAt c 0 1
  if inner < outer then satN (min 127 v3) (v + 1) else if outer < inner then v - 1 else v

theorem ptnrLvlhintRx_on (ht : type = 4) (hx : (s.dev.received k).on F.LN_PTCTL_HINTRX k = true)
    (h2 : (s.dev.received k).feature k 2 = true) (hp : (s.dev.received k).pinned F.TX_LEVEL_V1STG k = false) :
    let got := s.dev.received k
    let w := hintedLevel c (got.rd F.TX_LEVEL_V3STG k) (got.rd F.TX_LEVEL_V1STG k)
    (w ≠ got.rd F.TX_LEVEL_V1STG k → execPtnrLvlhintRx k s = .next (s.put ((got.wr F.TX_LEVEL_V1STG k w).txCmtReq k))) ∧
    (w = got.rd F.TX_LEVEL_V1STG k → execPtnrLvlhintRx k s = .next (s.put got)) := by
  have hexec : ∀ {e : Dev}, _ = e → execPtnrLvlhintRx k s = .next (s.put e) := fun h =>
    lift_eq_put ((receive_packet hs hr hf (by rw [ht]; rfl) _).trans h)
  refine ⟨fun hw => hexec (if_pos ?_), fun hw => hexec (if_neg ?_)⟩
  · rw [hx, h2, hp]
    exact Bool.and_eq_true_iff.mpr ⟨bne_iff_ne.mpr hw, rfl⟩
  · rw [hx, h2]
    exact fun h => bne_iff_ne.mp (Bool.and_eq_true_iff.mp h).1 hw

/-- An ALARM reaches the local lane whose far end is the affected lane, or else the lane it came on. -/
theorem execPtnrAlarmRx_eq (ht : type = 8) {j : Nat}
    (hj : ((match (s.dev.received k).pathOf k with | some p => p.lanes | none => []).find? fun j =>
      (s.dev.received k).rd F.LN_FEID_LANE j == fieldAt c 2 1).getD k = j) :
    let got := s.dev.received k
    execPtnrAlarmRx k s = .next (s.put ((got.wr F.LN_FEALM_LIVE j (fieldAt c 0 1)).wr F.LN_FEALM_LATCH j
      (got.rd F.LN_FEALM_LATCH j ||| fieldAt c 0 1))) := by
  subst hj
  exact lift_eq_put (receive_packet hs hr hf (by rw [ht]; rfl) _)

theorem execPtnrTelemRx_eq (ht : type = 9) : execPtnrTelemRx k s = .next (s.put (s.dev.received k)) :=
  lift_eq_put (receive_packet hs hr hf (by rw [ht]; rfl) _)

/-- A TTSTAMP is stamped; with EN = 0 that is all, with EN = 1 its exchange follows. -/
theorem execPtnrTtstampRx_eq (ht : type = 0x10) (hd : (s.dev.received k).domOn dTIME = true) :
    let e1 := (s.dev.received k).fifoPush 3 k ((s.dev.received k).rd F.TU_TTCTL_TB k) seq
    let y := e1.ttReceive k c
    execPtnrTtstampRx k s = .next (s.put (if (s.dev.received k).on F.TU_TTCTL_EN k then
      (if y.1 && y.2.rd F.TU_TTCTL_ROLE k = 2 && !(y.2.tt k).barred && y.2.stepOf k = 7 then y.2.present k 0x11 (y.2.ttReport k) else y.2)
      else e1)) := by
  have hen : ∀ src ch tb aux, ((s.dev.received k).fifoPush src ch tb aux).on F.TU_TTCTL_EN k = (s.dev.received k).on F.TU_TTCTL_EN k :=
    fun _ _ _ _ => congrArg (· != 0) (rd_fifoAt _ _ _ _ _ _ _ (by decide))
  refine lift_eq_put ((receive_packet hs hr hf (by rw [ht]; rfl) _).trans ?_)
  simp only [hd, if_true, domOn_fifoPush, hen, Bool.not_true, Bool.false_or]
  cases (s.dev.received k).on F.TU_TTCTL_EN k <;> rfl

theorem execPtnrTtrptRx_eq (ht : type = 0x11 ∨ type = 0x12 ∨ type = 0x13) : execPtnrTtrptRx k s = .next (s.put (s.dev.received k)) :=
  lift_eq_put (receive_packet hs hr hf (by rcases ht with h | h | h <;> rw [h] <;> rfl) _)

/-- A HOST packet joins the FIFO unless that is full or closed. -/
theorem execPtnrHostRx_eq (h : hostType type = true) :
    execPtnrHostRx k s = .next (s.put ((s.dev.received k).mapRx k fun r =>
      if 8 ≤ r.fifo.length || !(s.dev.received k).on F.LN_PTCTL_HOSTRX k then { r with rxovf := (r.rxovf + 1) % 2 ^ 32 }
      else { r with fifo := r.fifo ++ [{ type := type, seq := seq, payload := c,
                                         frame := ((s.dev.lane k).rx.frame - 1 - (l.length - raw)) % 2 ^ 32 }] })) :=
  lift_eq_put (receive_packet hs hr hf h _)

theorem execPtnrReservedRx_eq (h : reservedType type = true) :
    execPtnrReservedRx k s = .next (s.put ((s.dev.received k).mapRx k fun r => { r with badtype := (r.badtype + 1) % 2 ^ 32 })) :=
  lift_eq_put (receive_packet hs hr hf h _)

end

theorem hostType_iff (t : Nat) : hostType t = true ↔ 0x40 ≤ t ∧ t ≤ 0x7F := by
  simp only [hostType, Bool.and_eq_true, decide_eq_true_eq]

/-- Settles O24: a packet that a reception holds is received, and its type's event takes it on. -/
theorem partnerReceive : Obligations.PartnerReceive := by
  intro s k
  refine ⟨fun hf hl => ?preamble, fun l hs => ⟨fun h => execPtnrBadPacket_eq hs (.inl ⟨h, rfl⟩),
    fun h => execPtnrBadPacket_eq hs (.inr ⟨.inl h, rfl⟩), fun h => execPtnrBadPacket_eq hs (.inr ⟨.inr h, rfl⟩)⟩,
    fun l type seq c raw hs hr hf => ⟨ptnrReadyRx_held hs hr hf, ptnrReadyRx_active hs hr hf, fun _ => ptnrCapRx_group hs hr hf,
      ptnrEqhintRx_joins hs hr hf, ptnrLvlhintRx_off hs hr hf, ptnrLvlhintRx_on hs hr hf,
      fun ht hp => execPtnrAlarmRx_eq hs hr hf ht ?alone, fun p ht hp hj => execPtnrAlarmRx_eq hs hr hf ht ?group,
      execPtnrTelemRx_eq hs hr hf, fun ht hd he => ?ttOff, fun ht hd he => ?ttOn, execPtnrTtrptRx_eq hs hr hf,
      fun hlo hhi hx => ?host, fun hlo hhi hx => ?closed, execPtnrReservedRx_eq hs hr hf⟩⟩
  case preamble =>
    have h := execPreambleMatch_eq hf hl
    exact ⟨fun hle => h.trans (by rw [if_neg (Nat.not_lt.mpr hle)]), fun hlt => h.trans (by rw [if_pos hlt]; rfl)⟩
  case alone =>
    have hp' : (s.dev.received k).pathOf k = none := hp
    rw [hp']
    rfl
  case group =>
    have hp' : (s.dev.received k).pathOf k = some p := hp
    have hj' : (p.lanes.find? fun j => (s.dev.received k).rd F.LN_FEID_LANE j == fieldAt c 2 1) = some k.val := hj
    simp only [hp', hj', Option.getD_some]
  case ttOff => exact (execPtnrTtstampRx_eq hs hr hf ht hd).trans (congrArg _ (congrArg _ (if_neg (ne_true_of_eq_false he))))
  case ttOn => exact (execPtnrTtstampRx_eq hs hr hf ht hd).trans (congrArg _ (congrArg _ (if_pos he)))
  case host =>
    refine (execPtnrHostRx_eq hs hr hf ((hostType_iff _).mpr ⟨hlo, hhi⟩)).trans ?_
    have hx' : (s.dev.received k).on F.LN_PTCTL_HOSTRX k = true := hx
    simp only [hx', Bool.not_true, Bool.or_false, decide_eq_true_eq]
    rfl
  case closed =>
    refine (execPtnrHostRx_eq hs hr hf ((hostType_iff _).mpr ⟨hlo, hhi⟩)).trans ?_
    have hx' : (s.dev.received k).on F.LN_PTCTL_HOSTRX k = false := hx
    simp only [hx', Bool.not_false, Bool.or_true, if_true]
    rfl

end Sys2Proof.Machine

/-! PROOFS. Chapter 07, the Partner channel: the LINE.PTNR commands. -/

namespace Sys2Proof.Machine

section
variable {s : State} {src : Src} {lane : Byte} {x : Dev}

/-! ## LINE.PTNR.SEND (Tables 7-10 and 7-11) -/

section
variable {type : Byte} {len : BitVec 16} {pay : List Byte} (h : s.dev.admits src 0xA160 .c = true) (hx : s.dev.arrives 0xA160 = x)
include h hx

/-- A packet that the lane can take within 30 µs is booked, or refused as BUSY where the calendar has no room. -/
theorem linePtnrSend_books (hn : lane.toNat ≤ 7) (hl : len.toNat ≤ 256) (hp : pay.length = len.toNat)
    (ht : hostType type.toNat = true) (hst : x.stepOf lane.toNat = 7) (hc : x.isC lane.toNat = true)
    (hf : x.feature lane.toNat 5 = true) (hus : ptnrFrames len.toNat * frameNum (x.lrm lane.toNat) ≤ 30000 * 425) :
    let e := x.entry src 0xA160 .c
    execLinePtnrSend src lane type len pay s = .next (s.put (match x.book lane.toNat type.toNat pay 30000 with
      | (some (seq, ns), y) => x.completes e y (be 1 seq ++ be 1 0 ++ be 2 ns)
      | (none, y) => y.respondBusy e.src e.op 1)) := by
  subst hx
  refine lift_eq_put ((kci_of_admits _ h).trans ?_)
  rcases hb : (s.dev.arrives 0xA160).book lane.toNat type.toNat pay 30000 with ⟨_ | ⟨seq, ns⟩, y⟩
  all_goals
    simp only [Dev.runBody, ht, hst, hc, hf, hp, hb, Nat.not_lt.mpr hn, Nat.not_lt.mpr hl, Nat.not_lt.mpr hus, ne_eq, not_true_eq_false,
      decide_false, Bool.not_true, Bool.or_self, Bool.false_eq_true, if_false]

theorem linePtnrSend_notReady (hn : lane.toNat ≤ 7) (hl : len.toNat ≤ 256) (hp : pay.length = len.toNat)
    (ht : hostType type.toNat = true) (hst : x.stepOf lane.toNat ≠ 7) :
    execLinePtnrSend src lane type len pay s = .next (s.put (x.declines (x.entry src 0xA160 .c) .notReady)) := by
  subst hx
  refine lift_eq_put (kci_declines h ?_)
  simp only [ht, hst, hp, Nat.not_lt.mpr hn, Nat.not_lt.mpr hl, ne_eq, not_true_eq_false, not_false_eq_true, decide_false, decide_true,
    Bool.not_true, Bool.or_self, Bool.true_or, Bool.false_eq_true, if_false, if_true]

theorem linePtnrSend_badParam (ht : hostType type.toNat = false) :
    execLinePtnrSend src lane type len pay s = .next (s.put (x.declines (x.entry src 0xA160 .c) .badParam)) := by
  subst hx
  refine lift_eq_put (kci_declines h ?_)
  simp only [ht, Bool.not_false, Bool.or_true, Bool.true_or, if_true]

end

/-! ## LINE.PTNR.RECV (Table 7-12) -/

/-- An operand of RECV that the path's room admits is not refused for it. -/
theorem recvOperands_ok {max : BitVec 16} (hn : lane.toNat ≤ 7) (hm : srcRoom src = 118 → 0 < max.toNat ∧ max.toNat ≤ 106) :
    (7 < lane.toNat || (srcRoom src = 118 && (max.toNat = 0 || 106 < max.toNat)) : Bool) = false := by
  rw [Bool.eq_false_iff]
  intro hb
  simp only [Bool.or_eq_true, Bool.and_eq_true, decide_eq_true_eq] at hb
  omega

section
variable {flags : Byte} {offset max : BitVec 16} (h : s.dev.admits src 0xA161 .q = true) (hx : s.dev.arrives 0xA161 = x)
  (hn : lane.toNat ≤ 7) (hm : srcRoom src = 118 → 0 < max.toNat ∧ max.toNat ≤ 106)
include h hx hn hm

theorem linePtnrRecv_empty (hq : (x.lane lane.toNat).rx.fifo = []) (ho : offset.toNat = 0) :
    execLinePtnrRecv src lane flags offset max s = .next (s.put (x.completes (x.entry src 0xA161 .q) x (zeros 12))) := by
  subst hx
  refine lift_eq_put (kci_completes h ?_)
  simp only [recvOperands_ok hn hm, hq, ho, Nat.lt_irrefl, Bool.false_eq_true, if_false]

/-- A read of the oldest entry; without KEEP the entry goes once its end is read. -/
theorem linePtnrRecv_entry {p : RxPacket} {r : List RxPacket} (hq : (x.lane lane.toNat).rx.fifo = p :: r)
    (ho : offset.toNat ≤ p.payload.length) :
    let n := if max.toNat = 0 then p.payload.length - offset.toNat else min max.toNat (p.payload.length - offset.toNat)
    let left := if flags.toNat.testBit 0 = false ∧ offset.toNat + n = p.payload.length then r else p :: r
    execLinePtnrRecv src lane flags offset max s =
      .next (s.put (x.completes (x.entry src 0xA161 .q) (x.mapRx lane.toNat fun y => { y with fifo := left })
        (be 1 left.length ++ be 1 p.type ++ be 2 p.payload.length ++ be 1 p.seq ++ be 1 0 ++ be 2 n ++ be 4 p.frame ++
          bytesAt p.payload offset.toNat n))) := by
  subst hx
  refine lift_eq_put (kci_completes h ?_)
  simp only [recvOperands_ok hn hm, hq, Nat.not_lt.mpr ho, Bool.false_eq_true, if_false, Bool.and_eq_true, Bool.not_eq_true', beq_iff_eq]

end

/-! ## LINE.PTNR.STAT.GET (Table 7-13) -/

theorem linePtnrStatGet_completes (h : s.dev.admits src 0xA162 .q = true) (hx : s.dev.arrives 0xA162 = x) (hn : lane.toNat ≤ 7) :
    ∃ p, execLinePtnrStatGet src lane s = .next (s.put (x.completes (x.entry src 0xA162 .q) x p)) ∧ p.length = 44 ∧
      p.take 12 = be 4 (x.lane lane.toNat).tx.txpkt ++ be 4 (x.lane lane.toNat).tx.txdrop ++ be 4 (x.lane lane.toNat).tx.refused := by
  subst hx
  refine ⟨?payload, ?run, ?length, ?first⟩
  case run =>
    refine lift_eq_put (kci_completes h ?_)
    dsimp only
    exact if_neg (Nat.not_lt.mpr hn)
  case length => rfl
  case first => rfl

end

/-- Settles O25: one lemma per command and answer. -/
theorem partnerCommands : Obligations.PartnerCommands := fun _ _ _ hn =>
  ⟨fun _ _ _ h hl hp => ⟨linePtnrSend_books h rfl hn hl hp, linePtnrSend_notReady h rfl hn hl hp, linePtnrSend_badParam h rfl⟩,
    fun h _ _ _ hm => ⟨linePtnrRecv_empty h rfl hn hm, fun _ _ => linePtnrRecv_entry h rfl hn hm⟩,
    fun h => linePtnrStatGet_completes h rfl hn⟩

end Sys2Proof.Machine

/-! PROOFS. Chapter 08, the Whetstone's memory windows: numbers in memory, and a window word written and read back. -/

namespace Sys2Proof.Machine

/-! ## Little-endian numbers in memory (R243) -/

/-- A number written into memory leaves every byte outside its own alone. -/
theorem memGet_memPutLe_outside {n a b : Nat} (m : Memory) (v : Nat) (h : b < a ∨ a + n ≤ b) :
    memGet (memPutLe n m a v) b = memGet m b := by
  induction n generalizing m a v with
  | zero => rfl
  | succ n ih => exact (ih (memPut m a _) (v / 256) (by omega)).trans (memGet_memPut_ne m _ (by omega))

/-- A number reads back modulo what its bytes hold. -/
theorem memGetLe_memPutLe (n : Nat) (m : Memory) (a v : Nat) : memGetLe n (memPutLe n m a v) a = v % 256 ^ n := by
  induction n generalizing m a v with
  | zero => rw [Nat.pow_zero, Nat.mod_one]; rfl
  | succ n ih =>
    have hlow : memGet (memPutLe n (memPut m a (BitVec.ofNat 8 v)) (a + 1) (v / 256)) a = BitVec.ofNat 8 v :=
      (memGet_memPutLe_outside _ _ (.inl (Nat.lt_succ_self a))).trans (memGet_memPut_same m a _)
    calc memGetLe (n + 1) (memPutLe (n + 1) m a v) a
        = (BitVec.ofNat 8 v).toNat + 256 * (v / 256 % 256 ^ n) := by rw [memPutLe, memGetLe, hlow, ih]
      _ = v % 256 ^ (n + 1) := by rw [Nat.pow_succ', Nat.mod_mul, BitVec.toNat_ofNat]

theorem memGetLe_lt (n : Nat) (m : Memory) (a : Nat) : memGetLe n m a < 256 ^ n := by
  induction n generalizing a with
  | zero => exact Nat.one_pos
  | succ n ih =>
    have hb := (memGet m a).isLt
    have ht := ih (a + 1)
    rw [memGetLe, Nat.pow_succ']
    omega

/-! ## A window word (R207) -/

theorem programByte_lt (d : Dev) (off : Nat) : d.programByte off < 256 := by
  unfold Dev.programByte
  split
  · exact (Config.program off).isLt
  · decide

theorem programWord_lt (d : Dev) (a : Nat) : d.programWord a < 2 ^ 32 := by
  unfold Dev.programWord
  split
  · have h0 := programByte_lt d (a - pmBase)
    have h1 := programByte_lt d (a - pmBase + 1)
    have h2 := programByte_lt d (a - pmBase + 2)
    have h3 := programByte_lt d (a - pmBase + 3)
    omega
  · decide

/-- A 32-bit value replaces an old value of 32 bits whole under the full mask. -/
theorem merge_fullMask {old v : Nat} (ho : old < 2 ^ 32) (hv : v < 2 ^ 32) : (old - (old &&& fullMask)) ||| (v &&& fullMask) = v := by
  rw [fullMask, Nat.and_two_pow_sub_one_eq_mod, Nat.and_two_pow_sub_one_eq_mod, Nat.mod_eq_of_lt ho, Nat.mod_eq_of_lt hv,
    Nat.sub_self, Nat.zero_or]

/-- An open window reads the word at its bus address, relative to the loaded program. -/
theorem wsMemRead_open {d : Dev} {addr a : Nat} (hw : d.wsWindow addr = some a) (ho : d.wsOpen = true) (m : Memory) :
    d.wsMemRead m addr = memGetLe 4 m a ^^^ d.programWord a := by
  simp only [Dev.wsMemRead, hw, ho, if_true]

/-- A write through an open window to a word that may be written stores it and mends it. -/
theorem wsMemWrite_open {d : Dev} {addr a : Nat} (hw : d.wsWindow addr = some a) (ho : d.wsOpen = true)
    (hl : a < pmBase ∨ d.lc = 0 ∨ d.lc = 1 ∨ d.lc = 4) (m : Memory) (v : Nat) :
    d.wsMemWrite m addr v = (memPutLe 4 m a (v ^^^ d.programWord a), d.mended (winMem a).1 (winMem a).2) := by
  have hc : (pmBase ≤ a && !(d.lc == 0 || d.lc == 1 || d.lc == 4)) = false := by
    simp only [Bool.and_eq_false_iff, decide_eq_false_iff_not, Nat.not_le, Bool.not_eq_false', Bool.or_eq_true, beq_iff_eq]
    omega
  simp only [Dev.wsMemWrite, hw, ho, hc, Bool.not_true, Bool.false_eq_true, if_false]

/-- A register row that reaches an open window writes the window's word whole. -/
theorem regRow_window {s : State} {acc : Accessor} {addr v : Word32} {a : Nat} (hr : s.dev.reachable acc = true) (he : s.dev.expert = true)
    (hw : (s.dev.busAccess acc addr.toNat 3).wsWindow addr.toNat = some a) (ho : (s.dev.busAccess acc addr.toNat 3).wsOpen = true) :
    regRow acc addr.toNat v s = .next { s with
      mem := ((s.dev.busAccess acc addr.toNat 3).wsMemWrite s.mem addr.toNat v.toNat).1
      dev := ((s.dev.busAccess acc addr.toNat 3).wsMemWrite s.mem addr.toNat v.toNat).2 } := by
  unfold regRow Dev.access Dev.regWrite
  rw [liftMem_next]
  generalize s.dev.busAccess acc addr.toNat 3 = x at *
  have hd : x.domOn dWHET = true := (Bool.and_eq_true_iff.mp ho).1
  have hold : x.wsMemRead s.mem addr.toNat < 2 ^ 32 := by
    rw [wsMemRead_open hw ho]
    exact Nat.xor_lt_two_pow (memGetLe_lt 4 s.mem a) (programWord_lt x a)
  simp only [hr, he, hw, ho, hd, merge_fullMask hold v.isLt, Bool.not_true, Bool.and_false, Bool.false_eq_true, if_false]

/-- Settles O9: the write stores the word relative to the loaded program, and the read takes the program off again. -/
theorem windowReadsBack : Obligations.WindowReadsBack := by
  intro s acc addr v a hr he x hw ho hl
  have hword : v.toNat ^^^ x.programWord a < 256 ^ 4 := Nat.xor_lt_two_pow (n := 32) v.isLt (programWord_lt x a)
  refine ⟨memPutLe 4 s.mem a (v.toNat ^^^ x.programWord a), ?_, ?_, fun b hb => memGet_memPutLe_outside _ _ hb⟩
  · refine (regRow_window hr he hw ho).trans ?_
    rw [wsMemWrite_open hw ho hl]
  · rw [wsMemRead_open hw ho, memGetLe_memPutLe, Nat.mod_eq_of_lt hword, Nat.xor_assoc, Nat.xor_self, Nat.xor_zero]

end Sys2Proof.Machine

/-! PROOFS. Chapter 08, the Whetstone's core: traps at the fetch, what an instruction leaves of a register bank, and instructions that a
REP repeats. -/

namespace Sys2Proof.Machine

/-! ## Instructions that trap before they run (R193, Table 12-2) -/

section
variable {s : State} {b : Nat} (ht : s.dev.wsTask = some b)
include ht

/-- An instruction whose word is bad is not run. -/
theorem wsMem_of_fetchBad (r : Bool) (f : Nat → Nat → Memory → Dev → WsRes) (hf : s.dev.fetchBad b = true) :
    wsMem r f s = .next (s.put (s.dev.fetchTrap b)) := by
  unfold wsMem
  rw [liftMem_next]
  simp only [Dev.wsExec, ht, hf, if_true]
  rfl

/-- An instruction that traps with memory as it was. -/
theorem wsMem_trap_put (r : Bool) (f : Nat → Nat → Memory → Dev → WsRes) {d : Dev} {c : Nat} (hr : (s.dev.bank b).rep = 0)
    (hf : s.dev.fetchBad b = false) (h : f b 0 s.mem s.dev = .trap s.mem d c) :
    wsMem r f s = .next (s.put (d.wsTrap c (s.dev.bank b).pc)) := wsMem_of_trap r f ht hr hf h

/-- An instruction that runs to its end with memory as it was. -/
theorem wsMem_done_put (r : Bool) (f : Nat → Nat → Memory → Dev → WsRes) {d : Dev} (hr : (s.dev.bank b).rep = 0)
    (hf : s.dev.fetchBad b = false) (h : f b 0 s.mem s.dev = .done s.mem d) :
    wsMem r f s = .next (s.put (d.wsNext b)) := wsMem_of_done r f ht hr hf h

/-- A flow-control instruction after a REP, or whose word is bad, is not run. -/
theorem wsFlow_of_trap (f : Nat → Dev → Dev) (h : (s.dev.bank b).rep ≠ 0 ∨ s.dev.fetchBad b = true) :
    wsFlow f s = .next (s.put (if s.dev.fetchBad b then s.dev.fetchTrap b else s.dev.wsTrap 3 (((s.dev.bank b).pc + 65535) % 65536))) := by
  unfold wsFlow
  rw [lift_put]
  simp only [ht]
  split
  next => rfl
  next hb => rw [if_pos (h.resolve_right hb)]

end

/-! ## A register bank after an update -/

theorem bank_mapBank (d : Dev) {b : Nat} (h : b < 5) (f : Bank → Bank) : (d.mapBank b f).bank b = f (d.bank b) := by
  simp [Dev.mapBank, Dev.bank, Vector.getD, vset, h]

/-- What an update of banks keeps of each bank stays of every bank. -/
theorem bank_mapBank_keeps {β : Type} (p : Bank → β) {f : Bank → Bank} (hf : ∀ k, p (f k) = p k) (d : Dev) (b j : Nat) :
    p ((d.mapBank b f).bank j) = p (d.bank j) := by
  by_cases hj : j < 5
  · by_cases hb : j = b
    · rw [← hb, bank_mapBank d hj, hf]
    · simp [Dev.mapBank, Dev.bank, Vector.getD, vset, hj, hb]
  · simp [Dev.mapBank, Dev.bank, Vector.getD, hj]

@[simp] theorem Dev.bank_wr (d : Dev) (f : Fld) (ch v b : Nat) : (d.wr f ch v).bank b = d.bank b := rfl

theorem acc40_ws (d : Dev) (x : Int) : (d.acc40 x).2.ws = d.ws := by
  unfold Dev.acc40
  dsimp only
  split <;> rfl

/-- A write of an accumulator half keeps what does not depend on the accumulators. -/
theorem putAcc_keeps {β : Type} (p : Bank → β) (hp : ∀ k ac, p { k with ac := ac } = p k) (d : Dev) (b h : Nat) (x : Int) :
    p ((d.putAcc b h x).bank b) = p (d.bank b) := by
  refine (bank_mapBank_keeps p (fun k => hp k _) (d.acc40 x).2 b b).trans ?_
  rw [Dev.bank, acc40_ws]
  rfl

theorem wsStatus_keeps {β : Type} (p : Bank → β) (hp : ∀ k z n, p { k with z := z, n := n } = p k) (d : Dev) (b : Nat) (v : Int) :
    p ((d.wsStatus b v).bank b) = p (d.bank b) := bank_mapBank_keeps p (fun k => hp k _ _) d b b

/-- An arithmetic result in an accumulator half keeps what depends neither on the accumulators nor on the status. -/
theorem aluPut_acc_keeps {β : Type} (p : Bank → β) (hac : ∀ k ac, p { k with ac := ac } = p k)
    (hst : ∀ k z n, p { k with z := z, n := n } = p k) (d : Dev) (b : Nat) (x : Fin 4) (v : Int) :
    p ((d.aluPut b (.acc x) v).bank b) = p (d.bank b) :=
  (wsStatus_keeps p hst _ b _).trans (putAcc_keeps p hac d b x.val v)

theorem wsSwitch_bank (d : Dev) (b : Nat) : d.wsSwitch.bank b = d.bank b := by
  unfold Dev.wsSwitch
  split <;> rfl

/-- After an instruction its REP is over and the PC has moved past it. -/
theorem bank_wsNext (d : Dev) {b : Nat} (h : b < 5) :
    (d.wsNext b).bank b = { d.bank b with rep := 0, pc := ((d.bank b).pc + 1) % 65536 } := by
  unfold Dev.wsNext
  rw [wsSwitch_bank, bank_mapBank _ h, Dev.bank_wr]

/-! ## Repeated instructions (R193) -/

/-- Updates that do not depend on their number are an iteration. -/
theorem iter_eq_iterate {α : Type} (g : α → α) (n : Nat) (a : α) : iter n (fun _ => g) a = g^[n] a := by
  induction n with
  | zero => rfl
  | succ n ih => rw [iter, ih, Function.iterate_succ_apply']

/-- A repetition of a register instruction is its iteration: each execution acts on the result of the one before. -/
theorem wsRepeat_done (g : Dev → Dev) (n i : Nat) (m : Memory) (d : Dev) :
    wsRepeat n (fun _ m e => .done m (g e)) i m d = .done m (iter n (fun _ => g) d) := by
  induction n generalizing i d with
  | zero => rfl
  | succ n ih =>
    rw [iter_eq_iterate, Function.iterate_succ_apply, ← iter_eq_iterate]
    exact ih (i + 1) (g d)

/-- After a REP of `n` a repeatable register instruction executes `n` times, and the PC moves past it once. -/
theorem wsReg_repeated {s : State} {b n : Nat} (f : Nat → Dev → Dev) (ht : s.dev.wsTask = some b) (hr : (s.dev.bank b).rep = n)
    (hn : n ≠ 0) (hf : s.dev.fetchBad b = false) : wsReg true f s = .next (s.put ((iter n (fun _ => f b) s.dev).wsNext b)) := by
  unfold wsReg
  rw [lift_put]
  simp only [Dev.wsExec, ht, hr, hn, hf, wsRepeat_done, Bool.not_true, Bool.and_false, Bool.false_eq_true, if_false]

/-- Settles O40: a repetition is an iteration of one execution, which moves no PC. -/
theorem repeatedInstruction : Obligations.RepeatedInstruction := by
  intro s b n x y ht hr hn hf
  have hadd : exec (.add (.acc x) (.acc y)) s = _ := wsReg_repeated _ ht hr hn hf
  refine ⟨hadd, wsReg_repeated _ ht hr hn hf, wsReg_repeated _ ht hr hn hf, fun hb => ⟨_, hadd, ?_⟩⟩
  rw [bank_wsNext _ hb]
  refine ⟨rfl, congrArg (fun p => (p + 1) % 65536) ?_⟩
  exact iter_keeps (fun d : Dev => (d.bank b).pc) (fun _ d _ => aluPut_acc_keeps Bank.pc (fun _ _ => rfl) (fun _ _ _ => rfl) d b x _) s.dev

end Sys2Proof.Machine

/-! PROOFS. Chapter 08, the Whetstone's multiplies: the operand pair of a product, and what the six instructions do with it. -/

namespace Sys2Proof.Machine

/-! ## The operands (R189, R192) -/

/-- An operand's value and the device that has taken it: the latch, or the word its address register names, which fills the latch and moves
the register on. -/
def Dev.operand (d : Dev) (m : Memory) (b : Nat) (isX wide : Bool) (o : Option (Nat × PostStep)) : (Nat × Nat) × Dev :=
  match o with
  | none => (if isX then (d.bank b).xl else (d.bank b).yl, d)
  | some (a, st) =>
    let at_ := (d.bank b).byteAt a wide
    let v := (memGetLe 2 m at_, if wide then memGetLe 2 m (at_ + 2) else 0)
    (v, d.mapBank b fun k =>
      let z := { k with a := vset k.a a fun _ => k.postMod a st }
      if isX then { z with xl := v } else { z with yl := v })

/-- The word an operand loads is not known to be uncorrectable. -/
def Dev.operandGood (d : Dev) (b : Nat) (wide : Bool) (o : Option (Nat × PostStep)) : Bool :=
  match o with
  | none => true
  | some (a, _) => !d.isBad (memOfA a) ((d.bank b).byteAt a wide % 65536)

/-- A pair of words as the Q15 numbers a multiply takes. -/
def q15Pair (v : Nat × Nat) : Int × Int := (q15 v.1, q15 v.2)

/-- A protected access that finds no error goes on. -/
theorem wsEcc_good {a addr : Nat} (kind : Nat) (m : Memory) {d : Dev} (f : Dev → WsRes) (h : d.isBad (memOfA a) addr = false) :
    wsEcc .ok a addr kind m d f = f d := by
  simp only [wsEcc, h, Bool.false_eq_true, if_false]

/-- An uncorrectable word aborts the access. -/
theorem wsEcc_ue (a addr kind : Nat) (m : Memory) (d : Dev) (f : Dev → WsRes) :
    wsEcc .ue a addr kind m d f = .trap m (d.eccEvent (memOfA a) true 1 kind addr) 2 := by
  simp only [wsEcc, ite_self]

theorem wsOperand_good {b : Nat} {o : Option (Nat × PostStep)} {wide : Bool} (isX : Bool) (m : Memory) {d : Dev}
    (f : (Int × Int) → Dev → WsRes) (h : d.operandGood b wide o = true) :
    wsOperand b o wide isX .ok m d f = f (q15Pair (d.operand m b isX wide o).1) (d.operand m b isX wide o).2 := by
  cases o with
  | none => rfl
  | some p =>
    obtain ⟨a, st⟩ := p
    have hg : d.isBad (memOfA a) ((d.bank b).byteAt a wide % 65536) = false := (Bool.not_eq_true' _).mp h
    unfold wsOperand
    dsimp only
    rw [wsEcc_good 1 m _ hg]
    rfl

/-- A multiply whose loads find no error takes X, then Y. -/
theorem wsPair_good {b : Nat} (i : Nat) {x : XSrc} {y : YSrc} {wide : Bool} {m : Memory} {d : Dev}
    (f : (Int × Int) → (Int × Int) → Dev → WsRes) (hx : d.operandGood b wide (xParts x) = true)
    (hy : (d.operand m b true wide (xParts x)).2.operandGood b wide (yParts y) = true) :
    wsPair b i x y wide [] m d f =
      let px := d.operand m b true wide (xParts x)
      let py := px.2.operand m b false wide (yParts y)
      f (q15Pair px.1) (q15Pair py.1) py.2 := by
  unfold wsPair
  simp only [List.getD_nil]
  rw [wsOperand_good true m _ hx, wsOperand_good false m _ hy]

/-- An X load that finds an uncorrectable word aborts the multiply. -/
theorem wsPair_ue (b : Nat) (a : Fin 4) (st : PostStep) (y : YSrc) (wide : Bool) (rest : List Ecc) (m : Memory) (d : Dev)
    (f : (Int × Int) → (Int × Int) → Dev → WsRes) :
    wsPair b 0 (.load a st) y wide (.ue :: rest) m d f =
      .trap m (d.eccEvent .x true 1 1 ((d.bank b).byteAt a.val wide % 65536)) 2 := by
  have hm : memOfA a.val = .x := if_pos a.isLt
  unfold wsPair wsOperand
  simp only [Nat.zero_mul, List.getD_cons_zero, xParts, wsEcc_ue, hm]

/-! ## The products -/

section
variable {s : State} {b : Nat} (ht : s.dev.wsTask = some b)
include ht

section
variable (hr : (s.dev.bank b).rep = 0) (hf : s.dev.fetchBad b = false)
include hr hf

/-- A complex multiply: both halves of the accumulator change by twice the product, of the conjugate of y where that is asked. -/
theorem wsComplex_good (ac : Fin 2) {x : XSrc} {y : YSrc} (conj keep : Bool) (hx : s.dev.operandGood b true (xParts x) = true)
    (hy : (s.dev.operand s.mem b true true (xParts x)).2.operandGood b true (yParts y) = true) :
    let px := s.dev.operand s.mem b true true (xParts x)
    let py := px.2.operand s.mem b false true (yParts y)
    let u := q15Pair px.1
    let v := q15Pair py.1
    let vi := if conj then -v.2 else v.2
    let old := fun h => if keep then (py.2.bank b).ac.getD h 0 else 0
    wsComplex ac x y [] conj keep s = .next (s.put (((py.2.putAcc b (2 * ac.val)
      (old (2 * ac.val) + (u.1 * v.1 - u.2 * vi) * 2)).putAcc b (2 * ac.val + 1)
      (old (2 * ac.val + 1) + (u.1 * vi + u.2 * v.1) * 2)).wsNext b)) :=
  wsMem_done_put ht true _ hr hf (wsPair_good 0 _ hx hy)

/-- A real multiply: one half changes by twice the product, under its sign. -/
theorem wsReal_good (h : Fin 4) {x : XSrc} {y : YSrc} (sign : Int) (keep : Bool) (hx : s.dev.operandGood b false (xParts x) = true)
    (hy : (s.dev.operand s.mem b true false (xParts x)).2.operandGood b false (yParts y) = true) :
    let px := s.dev.operand s.mem b true false (xParts x)
    let py := px.2.operand s.mem b false false (yParts y)
    let old := if keep then (py.2.bank b).ac.getD h.val 0 else 0
    wsReal h x y [] sign keep s = .next (s.put ((py.2.putAcc b h.val
      (old + sign * (q15 px.1.1 * q15 py.1.1 * 2))).wsNext b)) :=
  wsMem_done_put ht true _ hr hf (wsPair_good 0 _ hx hy)

theorem wsComplex_ue (ac : Fin 2) (a : Fin 4) (st : PostStep) (y : YSrc) (rest : List Ecc) (conj keep : Bool) :
    wsComplex ac (.load a st) y (.ue :: rest) conj keep s = .next (s.put
      ((s.dev.eccEvent .x true 1 1 ((s.dev.bank b).byteAt a.val true % 65536)).wsTrap 2 (s.dev.bank b).pc)) :=
  wsMem_trap_put ht true _ hr hf (wsPair_ue b a st y true rest s.mem s.dev _)

theorem wsReal_ue (h : Fin 4) (a : Fin 4) (st : PostStep) (y : YSrc) (rest : List Ecc) (sign : Int) (keep : Bool) :
    wsReal h (.load a st) y (.ue :: rest) sign keep s = .next (s.put
      ((s.dev.eccEvent .x true 1 1 ((s.dev.bank b).byteAt a.val false % 65536)).wsTrap 2 (s.dev.bank b).pc)) :=
  wsMem_trap_put ht true _ hr hf (wsPair_ue b a st y false rest s.mem s.dev _)

end

end

/-- Settles O36: the complex and the real multiplies each in one form, of which the instructions are instances. -/
theorem whetstoneMultiply : Obligations.WhetstoneMultiply := by
  intro s b
  refine ⟨fun ht hr hf => ⟨fun ac x y => ?complex, fun h x y => ?real, fun ac h a st y rest => ?ue⟩,
    fun ht hf ac h x y e => ?fetch, fun ht ac h x y e => ?idle⟩
  case complex =>
    intro px py u v d re im hx hy
    have hop := fun conj keep => wsComplex_good ht hr hf ac (x := x) (y := y) conj keep hx hy
    exact ⟨hop false true, hop true true, hop false false⟩
  case real =>
    intro px py p d hx hy
    have hop := fun sign keep => wsReal_good ht hr hf h (x := x) (y := y) sign keep hx hy
    exact ⟨hop 1 true, hop (-1) true, hop 1 false⟩
  case ue =>
    have hc := wsComplex_ue ht hr hf ac a st y rest
    have hm := wsReal_ue ht hr hf h a st y rest
    exact ⟨hc false true, hc true true, hc false false, hm 1 true, hm (-1) true, hm 1 false⟩
  case fetch =>
    have hop := fun f => wsMem_of_fetchBad ht true f hf
    exact ⟨hop _, hop _, hop _, hop _, hop _, hop _⟩
  case idle =>
    have hop := fun f => wsMem_idle true f ht
    exact ⟨hop _, hop _, hop _, hop _, hop _, hop _⟩

end Sys2Proof.Machine

/-! PROOFS. Chapter 08, the Whetstone's arithmetic: results that fit, results the spec leaves open, and the instructions that write them. -/

namespace Sys2Proof.Machine

/-! ## Results (R189, log entry 3) -/

/-- A value of a 16-bit integer register. -/
def fits16 (v : Int) : Prop := -32768 ≤ v ∧ v ≤ 32767

theorem range_of_fits16 {v : Int} (h : fits16 v) : -(2 ^ 15) ≤ v ∧ v < 2 ^ 15 := by
  obtain ⟨hlo, hhi⟩ := h
  omega

/-- What a free value leaves in an integer register and the status. -/
def Dev.intFree (d : Dev) (b : Nat) (x : Fin 8) : Dev :=
  ((d.freeVal 16).2.mapBank b fun z => { z with r := vset z.r x.val fun _ => (d.freeVal 16).1 }).wsStatus b (q15 (d.freeVal 16).1)

theorem aluPut_int_fits (d : Dev) (b : Nat) (x : Fin 8) {v : Int} (h : fits16 v) :
    d.aluPut b (.int x) v = (d.mapBank b fun z => { z with r := vset z.r x.val fun _ => tc 16 v }).wsStatus b v := by
  have hc : (-32768 ≤ v && v ≤ 32767 : Bool) = true := by rw [Bool.and_eq_true, decide_eq_true_eq, decide_eq_true_eq]; exact h
  exact if_pos hc

theorem aluPut_int_free (d : Dev) (b : Nat) (x : Fin 8) {v : Int} (h : ¬fits16 v) : d.aluPut b (.int x) v = d.intFree b x := by
  have hc : ¬(-32768 ≤ v && v ≤ 32767 : Bool) = true := by rw [Bool.and_eq_true, decide_eq_true_eq, decide_eq_true_eq]; exact h
  exact if_neg hc

/-- A result in an integer register: written where it fits, else a free value. -/
theorem int_result {s : State} {b : Nat} {x : Fin 8} {act : State → Host.Outcome State Fault Refusal} {v : Int}
    (h : act s = .next (s.put ((s.dev.aluPut b (.int x) v).wsNext b))) :
    (fits16 v → act s = .next (s.put
      (((s.dev.mapBank b fun z => { z with r := vset z.r x.val fun _ => tc 16 v }).wsStatus b v).wsNext b))) ∧
    (¬fits16 v → act s = .next (s.put ((s.dev.intFree b x).wsNext b))) :=
  ⟨fun hv => h.trans (by rw [aluPut_int_fits _ _ _ hv]), fun hv => h.trans (by rw [aluPut_int_free _ _ _ hv])⟩

/-- An arithmetic result in an integer register keeps what depends neither on the integer registers nor on the status. -/
theorem aluPut_int_keeps {β : Type} (p : Bank → β) (hr : ∀ k r, p { k with r := r } = p k)
    (hst : ∀ k z n, p { k with z := z, n := n } = p k) (d : Dev) (b : Nat) (x : Fin 8) (v : Int) :
    p ((d.aluPut b (.int x) v).bank b) = p (d.bank b) := by
  by_cases h : fits16 v
  · rw [aluPut_int_fits d b x h]
    exact (wsStatus_keeps p hst _ b v).trans (bank_mapBank_keeps p (fun k => hr k _) d b b)
  · rw [aluPut_int_free d b x h]
    exact (wsStatus_keeps p hst _ b _).trans (bank_mapBank_keeps p (fun k => hr k _) (d.freeVal 16).2 b b)

/-! ## The instructions -/

section
variable {s : State} {b : Nat} (ht : s.dev.wsTask = some b) (hr : (s.dev.bank b).rep = 0) (hf : s.dev.fetchBad b = false)
include ht hr hf

/-- Operands of one kind give their result; of different kinds, a free value. -/
theorem wsAlu2_eq (dst src : AluReg) (f : Int → Int → Int) :
    wsAlu2 dst src f s = .next (s.put ((if aluSame dst src then
      s.dev.aluPut b dst (f ((s.dev.bank b).alu dst) ((s.dev.bank b).alu src)) else s.dev.aluFree b dst).wsNext b)) :=
  wsReg_of_task true _ ht hr hf

theorem execShl_zero {dst : AluReg} (c : Count) (hv : (s.dev.bank b).alu dst = 0) :
    execShl dst c s = .next (s.put ((s.dev.aluPut b dst 0).wsNext b)) := by
  refine (wsReg_of_task true _ ht hr hf).trans ?_
  simp only [hv, if_true]

/-- A shift that keeps the value within the destination's width multiplies it. -/
theorem execShl_fits {dst : AluReg} {c : Count} (hv : (s.dev.bank b).alu dst ≠ 0) (hc : (s.dev.bank b).count c < 40)
    (hlo : -(2 ^ (aluWidth dst - 1)) ≤ (s.dev.bank b).alu dst * 2 ^ (s.dev.bank b).count c)
    (hhi : (s.dev.bank b).alu dst * 2 ^ (s.dev.bank b).count c < 2 ^ (aluWidth dst - 1)) :
    execShl dst c s = .next (s.put ((s.dev.aluPut b dst ((s.dev.bank b).alu dst * 2 ^ (s.dev.bank b).count c)).wsNext b)) := by
  refine (wsReg_of_task true _ ht hr hf).trans ?_
  simp only [hv, Nat.not_le.mpr hc, hlo, hhi, decide_true, Bool.and_self, if_true, if_false]

theorem execShl_lost {dst : AluReg} {c : Count} (hv : (s.dev.bank b).alu dst ≠ 0) (hc : 40 ≤ (s.dev.bank b).count c) :
    execShl dst c s = .next (s.put ((s.dev.aluFree b dst).wsNext b)) := by
  refine (wsReg_of_task true _ ht hr hf).trans ?_
  simp only [hv, hc, if_true, if_false]

end

/-- After a free result in an accumulator half the PC has moved on and the integer registers are as before. -/
theorem aluFree_acc_wsNext (d : Dev) {b : Nat} (hb : b < 5) (x : Fin 4) :
    (((d.aluFree b (.acc x)).wsNext b).bank b).pc = ((d.bank b).pc + 1) % 65536 ∧
      (((d.aluFree b (.acc x)).wsNext b).bank b).r = (d.bank b).r := by
  have hpc := aluPut_acc_keeps Bank.pc (fun _ _ => rfl) (fun _ _ _ => rfl) (d.freeVal 40).2 b x (sx 40 (d.freeVal 40).1)
  have hr := aluPut_acc_keeps Bank.r (fun _ _ => rfl) (fun _ _ _ => rfl) (d.freeVal 40).2 b x (sx 40 (d.freeVal 40).1)
  rw [bank_wsNext _ hb]
  exact ⟨congrArg (fun p => (p + 1) % 65536) hpc, hr⟩

/-- After one in an integer register the PC has moved on and the accumulators are as before. -/
theorem aluFree_int_wsNext (d : Dev) {b : Nat} (hb : b < 5) (x : Fin 8) :
    (((d.aluFree b (.int x)).wsNext b).bank b).pc = ((d.bank b).pc + 1) % 65536 ∧
      (((d.aluFree b (.int x)).wsNext b).bank b).ac = (d.bank b).ac := by
  have hpc := aluPut_int_keeps Bank.pc (fun _ _ => rfl) (fun _ _ _ => rfl) (d.freeVal 16).2 b x (sx 16 (d.freeVal 16).1)
  have hac := aluPut_int_keeps Bank.ac (fun _ _ => rfl) (fun _ _ _ => rfl) (d.freeVal 16).2 b x (sx 16 (d.freeVal 16).1)
  rw [bank_wsNext _ hb]
  exact ⟨congrArg (fun p => (p + 1) % 65536) hpc, hac⟩

/-- Settles O37: every instruction writes its result by `Dev.aluPut`, whose result depends on whether the value fits. -/
theorem whetstoneArithmetic : Obligations.WhetstoneArithmetic := by
  intro s b
  refine ⟨fun ht hr hf => ⟨fun x y => ?acc, fun x y => ?int, fun hb x y => ?mixed⟩, fun ht x y n l h => ?idle⟩
  case acc =>
    have halu := wsAlu2_eq ht hr hf (.acc x) (.acc y)
    have hreg := fun f => wsReg_of_task true f ht hr hf
    exact ⟨halu _, halu _, hreg _, hreg _, fun c hv => execShl_zero ht hr hf c hv,
      fun c hv hc hlo hhi => execShl_fits ht hr hf (dst := .acc x) hv hc hlo hhi, fun c => ⟨hreg _, hreg _⟩, hreg _⟩
  case int =>
    obtain ⟨hadd, hadd'⟩ := int_result (act := exec (.add (.int x) (.int y))) (wsAlu2_eq ht hr hf _ _ _)
    obtain ⟨hsub, hsub'⟩ := int_result (act := exec (.sub (.int x) (.int y))) (wsAlu2_eq ht hr hf _ _ _)
    obtain ⟨hneg, hneg'⟩ := int_result (act := exec (.neg (.int x))) (wsReg_of_task true _ ht hr hf)
    obtain ⟨habs, habs'⟩ := int_result (act := exec (.abs (.int x))) (wsReg_of_task true _ ht hr hf)
    refine ⟨hadd, hadd', hsub, hsub', hneg, hneg', habs, habs', fun c hv hc hfit => ?_, fun c hfit => ?_⟩
    · obtain ⟨hlo, hhi⟩ := range_of_fits16 hfit
      exact (int_result (execShl_fits ht hr hf (dst := .int x) hv hc hlo hhi)).1 hfit
    · exact (int_result (act := exec (.shr (.int x) c false)) (wsReg_of_task true _ ht hr hf)).1 hfit
  case mixed =>
    obtain ⟨hpc, hr'⟩ := aluFree_acc_wsNext s.dev hb x
    obtain ⟨hpc', hac⟩ := aluFree_int_wsNext s.dev hb y
    exact ⟨⟨_, wsAlu2_eq ht hr hf _ _ _, hpc, hr'⟩, ⟨_, wsAlu2_eq ht hr hf _ _ _, hpc', hac⟩,
      fun c hv hc => ⟨_, execShl_lost ht hr hf (dst := .acc x) hv hc, hpc, hr'⟩⟩
  case idle =>
    have hop := fun f => wsReg_idle true f ht
    exact ⟨hop _, hop _, hop _, hop _, hop _, hop _, hop _⟩

end Sys2Proof.Machine

/-! PROOFS. Chapter 08, the Whetstone's loads, stores and moves: what each writes where its words are good, and the traps of the others. -/

namespace Sys2Proof.Machine

/-- The bank after a post-modify that uses the register's old base, length and modifier (R191). -/
def Bank.stepped (k x : Bank) (a : Nat) (st : PostStep) : Bank := { x with a := vset x.a a fun _ => k.postMod a st }

/-- An access of the width `wide` is legal for the register. -/
def widthOk (wide : Bool) (r : WReg) : Bool := if wide then wideReg r else narrowReg r

section
variable {s : State} {b : Nat} (ht : s.dev.wsTask = some b) (hr : (s.dev.bank b).rep = 0) (hf : s.dev.fetchBad b = false)
  {wide : Bool} (a : Fin 8) (st : PostStep) {r : WReg}
include ht hr hf

/-! ## Illegal widths and uncorrectable words -/

theorem execLd_illegal (hw : widthOk wide r = false) (e : List Ecc) :
    execLd wide a st r e s = .next (s.put (s.dev.wsTrap 3 (s.dev.bank b).pc)) :=
  wsMem_trap_put ht true _ hr hf (if_pos (congrArg not hw))

theorem execSt_illegal (hw : widthOk wide r = false) (e : List Ecc) :
    execSt wide a st r e s = .next (s.put (s.dev.wsTrap 3 (s.dev.bank b).pc)) :=
  wsMem_trap_put ht wide _ hr hf (if_pos (congrArg not hw))

theorem execLd_ue (hn : narrowReg r = true) (e : List Ecc) :
    execLd false a st r (.ue :: e) s = .next (s.put
      ((s.dev.eccEvent (memOfA a.val) true 1 1 ((s.dev.bank b).byteAt a.val false % 65536)).wsTrap 2 (s.dev.bank b).pc)) := by
  refine wsMem_trap_put ht true _ hr hf ?_
  simp only [hn, wsEcc_ue, List.getD_cons_zero, Bool.not_true, Bool.false_eq_true, if_false]

theorem execSt_ue (hn : narrowReg r = true) (e : List Ecc) :
    execSt false a st r (.ue :: e) s = .next (s.put
      ((s.dev.eccEvent (memOfA a.val) true 1 2 ((s.dev.bank b).byteAt a.val false % 65536)).wsTrap 2 (s.dev.bank b).pc)) := by
  refine wsMem_trap_put ht false _ hr hf ?_
  simp only [hn, wsEcc_ue, List.getD_cons_zero, Bool.not_true, Bool.false_eq_true, if_false]

/-! ## Loads -/

theorem execLd_narrow (hg : s.dev.isBad (memOfA a.val) ((s.dev.bank b).byteAt a.val false % 65536) = false) (hn : narrowReg r = true) :
    execLd false a st r [] s = .next (s.put ((s.dev.mapBank b fun x =>
      ((s.dev.bank b).stepped x a.val st).write (memGetLe 2 s.mem ((s.dev.bank b).byteAt a.val false)) r).wsNext b)) := by
  refine wsMem_done_put ht true _ hr hf ?_
  simp only [hn, List.getD_nil, wsEcc_good 1 s.mem _ hg, Bool.not_true, Bool.not_false, Bool.false_eq_true, if_false, if_true]
  rfl

section
variable (hg : s.dev.isBad (memOfA a.val) ((s.dev.bank b).byteAt a.val true % 65536) = false)
include hg

theorem execLd_complex (n : Fin 2) :
    execLd true a st (.ac n) [] s = .next (s.put ((s.dev.mapBank b fun x =>
      (((s.dev.bank b).stepped x a.val st).write (memGetLe 2 s.mem ((s.dev.bank b).byteAt a.val true)) (.ac n)).write
        (memGetLe 2 s.mem ((s.dev.bank b).byteAt a.val true + 2)) (.half ⟨2 * n.val + 1, by omega⟩)).wsNext b)) := by
  refine wsMem_done_put ht true _ hr hf ?_
  simp only [wideReg, List.getD_nil, wsEcc_good 1 s.mem _ hg, Bool.not_true, Bool.false_eq_true, if_false, if_true]
  rfl

theorem execLd_pair (r : Fin 8) :
    execLd true a st (.int r) [] s = .next (s.put ((s.dev.mapBank b fun x =>
      (((s.dev.bank b).stepped x a.val st).write (memGetLe 2 s.mem ((s.dev.bank b).byteAt a.val true)) (.int r)).write
        (memGetLe 2 s.mem ((s.dev.bank b).byteAt a.val true + 2)) (.int (r + 1))).wsNext b)) := by
  refine wsMem_done_put ht true _ hr hf ?_
  simp only [wideReg, List.getD_nil, wsEcc_good 1 s.mem _ hg, Bool.not_true, Bool.false_eq_true, if_false, if_true]
  rfl

end

/-! ## Stores -/

theorem execSt_narrow (hg : s.dev.isBad (memOfA a.val) ((s.dev.bank b).byteAt a.val false % 65536) = false) (hn : narrowReg r = true) :
    execSt false a st r [] s = .next { s with
      mem := memPutLe 2 s.mem ((s.dev.bank b).byteAt a.val false) (s.dev.wsRead b r).1
      dev := ((s.dev.wsRead b r).2.mapBank b fun x => (s.dev.bank b).stepped x a.val st).wsNext b } := by
  refine wsMem_of_done false _ ht hr hf ?_
  simp only [hn, List.getD_nil, wsEcc_good 2 s.mem _ hg, Bool.not_true, Bool.not_false, Bool.false_eq_true, if_false, if_true]
  rfl

theorem execSt_complex (n : Fin 2) (e : List Ecc) :
    let p := s.dev.wsRead b (.ac n)
    let q := p.2.wsRead b (.half ⟨2 * n.val + 1, by omega⟩)
    let at_ := (s.dev.bank b).byteAt a.val true
    execSt true a st (.ac n) e s = .next { s with
      mem := memPutLe 2 (memPutLe 2 s.mem at_ p.1) (at_ + 2) q.1
      dev := ((q.2.mended (memOfA a.val) (at_ % 65536)).mapBank b fun x => (s.dev.bank b).stepped x a.val st).wsNext b } := by
  intro p q at_
  refine wsMem_of_done true _ ht hr hf ?_
  simp only [wideReg, Bool.not_true, Bool.false_eq_true, if_false, if_true]
  rfl

theorem execSt_pair (r : Fin 8) (e : List Ecc) :
    let at_ := (s.dev.bank b).byteAt a.val true
    execSt true a st (.int r) e s = .next { s with
      mem := memPutLe 2 (memPutLe 2 s.mem at_ ((s.dev.bank b).r.getD r.val 0)) (at_ + 2) ((s.dev.bank b).r.getD (r + 1).val 0)
      dev := ((s.dev.mended (memOfA a.val) (at_ % 65536)).mapBank b fun x => (s.dev.bank b).stepped x a.val st).wsNext b } :=
  wsMem_of_done true _ ht hr hf rfl

/-! ## Moves -/

/-- One execution of a move of 16 bits, whatever its registers. -/
theorem execMov_narrow {x y : WReg} (hx : narrowReg x = true) (hy : narrowReg y = true) (hh : ¬∃ g h, x = .half g ∧ y = .half h) :
    execMov x y s = .next (s.put (((s.dev.wsRead b y).2.mapBank b fun z => z.write (s.dev.wsRead b y).1 x).wsNext b)) := by
  refine wsMem_done_put ht true _ hr hf ?_
  split
  next => cases hx
  next g h => exact (hh ⟨g, h, rfl, rfl⟩).elim
  next => simp only [hx, hy, Bool.not_true, Bool.or_self, Bool.false_eq_true, if_false]

/-- A move between a whole accumulator and another kind is illegal. -/
theorem execMov_illegal {x y : WReg} (h : narrowReg x ≠ narrowReg y) :
    execMov x y s = .next (s.put (s.dev.wsTrap 3 (s.dev.bank b).pc)) := by
  refine wsMem_trap_put ht true _ hr hf ?_
  split
  next => exact (h rfl).elim
  next => exact (h rfl).elim
  next =>
    refine if_pos ?_
    cases hx : narrowReg x
    · rfl
    · cases hy : narrowReg y
      · rfl
      · exact (h (hx.trans hy.symm)).elim

end

/-- Settles O38: one lemma per width and kind of register; a store's frame is that of the two bytes it writes. -/
theorem whetstoneMoves : Obligations.WhetstoneMoves := by
  intro s b
  refine ⟨fun ht hr hf => ⟨fun a st => ⟨fun hg r hn => ?narrow, fun hg => ?wideLoad, execSt_pair ht hr hf a st,
    execSt_complex ht hr hf a st, fun r e => ?illegal, fun r e hn => ?ue⟩, fun x y => ?half, fun x y => ?whole,
    fun x y hx hy hh => execMov_narrow ht hr hf hx hy hh, fun x y h => execMov_illegal ht hr hf h⟩, fun ht w a st x y e => ?idle⟩
  case narrow =>
    have hst := execSt_narrow ht hr hf a st hg hn
    refine ⟨execLd_narrow ht hr hf a st hg hn, hst, fun t h q hq => ?_⟩
    cases hst.symm.trans h
    exact memGet_memPutLe_outside _ _ hq
  case wideLoad => exact ⟨execLd_complex ht hr hf a st hg, execLd_pair ht hr hf a st hg⟩
  case illegal =>
    exact ⟨fun hn => ⟨execLd_illegal ht hr hf (wide := false) a st hn e, execSt_illegal ht hr hf (wide := false) a st hn e⟩,
      fun hw => ⟨execLd_illegal ht hr hf (wide := true) a st hw e, execSt_illegal ht hr hf (wide := true) a st hw e⟩⟩
  case ue => exact ⟨execLd_ue ht hr hf a st hn e, execSt_ue ht hr hf a st hn e⟩
  case half => exact wsMem_done_put ht true _ hr hf rfl
  case whole => exact wsMem_done_put ht true _ hr hf rfl
  case idle => exact ⟨wsMem_idle _ _ ht, wsMem_idle _ _ ht, wsMem_idle _ _ ht⟩

end Sys2Proof.Machine

/-! PROOFS. Chapter 08, the Whetstone's flow control: REP, branches, waits and yields of the executing task, the halt at a boundary, and the
wakes. -/

namespace Sys2Proof.Machine

/-- The device of a flow-control instruction's own effect: the PC has moved on. -/
def Dev.pcNext (d : Dev) (b : Nat) : Dev := d.mapBank b fun x => { x with pc := (x.pc + 1) % 65536 }

/-- The task gives up its slot until what it waits for comes. -/
def Dev.waits (d : Dev) (b : Nat) (w : WsWait) : Dev := (d.mapBank b fun x => { x with ready := false, waiting := some w }).lend

section
variable {s : State} {b : Nat} (ht : s.dev.wsTask = some b)
include ht

/-- A REP after a REP, or whose word is bad, is not run. -/
theorem execRep_of_trap (c : Count) (h : (s.dev.bank b).rep ≠ 0 ∨ s.dev.fetchBad b = true) :
    execRep c s = .next (s.put (if s.dev.fetchBad b then s.dev.fetchTrap b else s.dev.wsTrap 3 (((s.dev.bank b).pc + 65535) % 65536))) := by
  unfold execRep
  rw [lift_put]
  simp only [ht]
  split
  next => rfl
  next hb => rw [if_pos (h.resolve_right hb)]

section
variable (hr : (s.dev.bank b).rep = 0) (hf : s.dev.fetchBad b = false)
include hr hf

/-- A flow-control instruction acts on the device whose PC has moved on. -/
theorem wsFlow_pcNext (f : Nat → Dev → Dev) : wsFlow f s = .next (s.put (f b (s.dev.pcNext b))) := wsFlow_of_task f ht hr hf

/-- The repeat count is set, and the PC moves on to the instruction to repeat (R193). -/
theorem execRep_eq (c : Count) : execRep c s = .next (s.put ((s.dev.set F.WS_STAT_REPACT).mapBank b fun x =>
    { x with rep := if (s.dev.bank b).count c % 65536 = 0 then 65536 else (s.dev.bank b).count c % 65536, pc := (x.pc + 1) % 65536 })) := by
  refine lift_eq_put ?_
  simp only [ht, hf, hr, ne_eq, not_true_eq_false, Bool.false_eq_true, if_false]

theorem execJmp_eq (t : BitVec 16) : execJmp t s = .next (s.put ((s.dev.pcNext b).mapBank b fun x => { x with pc := t.toNat })) :=
  wsFlow_pcNext ht hr hf _

/-- JSR keeps the address of the instruction after it. -/
theorem execJsr_eq (t : BitVec 16) :
    execJsr t s = .next (s.put ((s.dev.pcNext b).mapBank b fun x => { x with pc := t.toNat, ret := x.pc :: x.ret })) :=
  wsFlow_pcNext ht hr hf _

/-- A branch whose condition holds goes to its target, another goes on. -/
theorem execBcc_taken {c : Cond} (t : BitVec 16) (h : ((s.dev.pcNext b).bank b).holds c = true) :
    execBcc c t s = .next (s.put ((s.dev.pcNext b).mapBank b fun x => { x with pc := t.toNat })) :=
  (wsFlow_pcNext ht hr hf _).trans (by rw [if_pos h])

theorem execBcc_untaken {c : Cond} (t : BitVec 16) (h : ((s.dev.pcNext b).bank b).holds c = false) :
    execBcc c t s = .next (s.put (s.dev.pcNext b)) :=
  (wsFlow_pcNext ht hr hf _).trans (by rw [h]; rfl)

/-- RTS goes to the last return address and drops it. -/
theorem execRts_kept {r : Nat} {rest : List Nat} (h : ((s.dev.pcNext b).bank b).ret = r :: rest) :
    execRts s = .next (s.put ((s.dev.pcNext b).mapBank b fun x => { x with pc := r, ret := rest })) :=
  (wsFlow_pcNext ht hr hf _).trans (by simp only [h])

/-- With no return address kept the target is a free value (log entry 3). -/
theorem execRts_empty (h : ((s.dev.pcNext b).bank b).ret = []) :
    execRts s = .next (s.put (((s.dev.pcNext b).freeVal 16).2.mapBank b fun x => { x with pc := ((s.dev.pcNext b).freeVal 16).1 })) :=
  (wsFlow_pcNext ht hr hf _).trans (by simp only [h])

/-- WAITEV of an event already seen takes it and goes on. -/
theorem execWaitev_seen {ev : WsEvent} (h : ((s.dev.pcNext b).bank b).seen.contains ev = true) :
    execWaitev (.event ev) s = .next (s.put ((s.dev.pcNext b).mapBank b fun x => { x with seen := x.seen.erase ev })) :=
  (wsFlow_pcNext ht hr hf _).trans (by simp only [h, if_true])

theorem execWaitev_unseen {ev : WsEvent} (h : ((s.dev.pcNext b).bank b).seen.contains ev = false) :
    execWaitev (.event ev) s = .next (s.put ((s.dev.pcNext b).waits b (.event ev))) :=
  (wsFlow_pcNext ht hr hf _).trans (by simp only [h, Bool.false_eq_true, if_false, Dev.waits])

theorem execWaitev_delay (n : Nat) : execWaitev (.delay n) s = .next (s.put ((s.dev.pcNext b).waits b (.delay n))) :=
  wsFlow_pcNext ht hr hf _

/-- YIELD of a task that is no loop ends its work for the round. -/
theorem execYield_task (h : 2 ≤ b) :
    execYield s = .next (s.put ((s.dev.pcNext b).mapBank b fun x => { x with ready := false }).lend) :=
  (wsFlow_pcNext ht hr hf _).trans (congrArg (fun d : Dev => Host.Outcome.next (s.put d.lend)) (if_neg (Nat.not_lt.mpr h)))

/-- YIELD of a loop ends its execution too: the one under way, or else the oldest that has overrun. -/
theorem execYield_loop (h : b < 2) :
    execYield s = .next (s.put (((s.dev.pcNext b).mapBank b fun x => { x with ready := false }).mapWs fun w =>
      match w.running with
      | some _ => { w with running := none }
      | none => { w with overran := w.overran.drop 1 }).lend) :=
  (wsFlow_pcNext ht hr hf _).trans (congrArg (fun d : Dev => Host.Outcome.next (s.put d.lend)) (if_pos h))

end

end

theorem execRep_idle {s : State} (ht : s.dev.wsTask = none) (c : Count) : execRep c s = .next s :=
  lift_eq_self (by simp only [ht])

/-- What holds of a flow-control instruction whatever its effect holds of each of them. -/
theorem flow_of_forall {s : State} {o : Host.Outcome State Fault Refusal} (h : ∀ f, wsFlow f s = o) :
    (∀ a, execJmp a s = o ∧ execJsr a s = o ∧ ∀ c, execBcc c a s = o) ∧ execRts s = o ∧ (∀ w, execWaitev w s = o) ∧
      execYield s = o ∧ execHalt s = o :=
  ⟨fun _ => ⟨h _, h _, fun _ => h _⟩, h _, fun _ => h _, h _, h _⟩

/-! ## The halt at a boundary (R205) -/

/-- A halted core is HALTED, whoever asked for the halt. -/
theorem state_wsHalt (d : Dev) : d.wsHalt.rd F.WS_STAT_STATE = 2 := by
  unfold Dev.wsHalt Dev.settleWait
  rw [rd_settle _ _ _ (by decide), Dev.rd_mapWs]
  split
  all_goals simp +decide only [clr_eq_wr, rd_wr_fld, rd_wr_same]

/-- A requested halt takes effect where no REP is under way. -/
theorem wsHalted_requested {s : State} (hst : s.dev.rd F.WS_STAT_STATE = 1) (hq : s.dev.on F.WS_CTL_HALTREQ = true)
    (hb : ∀ j, s.dev.wsTask = some j → (s.dev.bank j).rep = 0) : execWsHalted s = .next (s.put s.dev.wsHalt) := by
  refine lift_eq_put ?_
  cases ht : s.dev.wsTask with
  | none => simp only [hst, hq, decide_true, Bool.not_false, Bool.and_self, if_true]
  | some j => simp only [hst, hq, hb j ht, bne_self_eq_false, decide_true, Bool.not_false, Bool.and_self, if_true]

theorem wsHalted_unrequested {s : State} (hq : s.dev.on F.WS_CTL_HALTREQ = false) : execWsHalted s = .next s := by
  refine lift_eq_self ?_
  simp only [hq, Bool.and_false, Bool.false_and, Bool.false_eq_true, if_false]

/-! ## Wakes (R197) -/

section
variable {s : State} (hd : s.dev.domOn dWHET = true)
include hd

theorem waitevWake_event (ev : WsEvent) :
    execWaitevWake (.event ev) s = .next (s.put (s.dev.mapWs fun w => { w with banks := w.banks.map fun b => b.wake ev })) :=
  lift_eq_put (by simp only [Dev.wsEvent, hd, Bool.not_true, Bool.false_eq_true, if_false])

theorem waitevWake_delay (k : TaskKind) : execWaitevWake (.delay k) s = .next (s.put (s.dev.mapBank (kindIdx k) Bank.elapse)) :=
  lift_eq_put (by simp only [hd, Bool.not_true, Bool.false_eq_true, if_false])

end

/-- Settles O39: one lemma per instruction and case; after a REP or a bad fetch all share one trap. -/
theorem whetstoneFlow : Obligations.WhetstoneFlow := by
  intro s b
  refine ⟨fun ht hr hf => ?run, fun ht h => ?trap, fun ht => ?idle,
    fun hst hq hb => ⟨wsHalted_requested hst hq hb, state_wsHalt s.dev⟩,
    fun hq => wsHalted_unrequested hq, fun hd => ⟨waitevWake_event hd, waitevWake_delay hd⟩⟩
  case run =>
    exact ⟨execRep_eq ht hr hf, fun t => ⟨execJmp_eq ht hr hf t, execJsr_eq ht hr hf t,
        fun c => ⟨execBcc_taken ht hr hf t, execBcc_untaken ht hr hf t⟩⟩,
      fun r rest => execRts_kept ht hr hf, execRts_empty ht hr hf, fun ev => ⟨execWaitev_seen ht hr hf, execWaitev_unseen ht hr hf⟩,
      execWaitev_delay ht hr hf, execYield_task ht hr hf, execYield_loop ht hr hf, wsFlow_pcNext ht hr hf _⟩
  case trap => exact ⟨fun n => execRep_of_trap ht n h, flow_of_forall fun f => wsFlow_of_trap ht f h⟩
  case idle => exact ⟨execRep_idle ht, flow_of_forall fun f => wsFlow_idle f ht⟩

end Sys2Proof.Machine

/-! PROOFS. Chapter 11, the register window, for the commands of the Whetstone, the optics, the pattern generator and the vote. -/

namespace Sys2Proof.Machine

/-! ## The value of a write that stands alone -/

theorem and_fullMask (v : Word32) : v.toNat &&& fullMask = v.toNat := by
  rw [fullMask, Nat.and_two_pow_sub_one_eq_mod, Nat.mod_eq_of_lt v.isLt]

/-- Where no later-ranked accessor has written the register in this clock, all its bits may be written. -/
theorem freeMask_alone {d : Dev} {a : Accessor} {r : RegDesc} {m ch : Nat} (h : d.kept a r m ch = 0) :
    d.freeMask a r m fullMask ch = fullMask := by
  rw [Dev.freeMask, h, Nat.and_zero, Nat.sub_zero]

/-- A field of the word then takes its bits of the value. -/
theorem slice_masked_fullMask {d : Dev} {a : Accessor} {r : RegDesc} {m ch : Nat} (h : d.kept a r m ch = 0) (mem : Memory) {lo w : Nat}
    (hw : lo + w ≤ 32) (v : Nat) : slice (d.masked mem a r m v fullMask ch) lo w = slice v lo w := by
  refine Nat.eq_of_testBit_eq fun i => ?_
  rw [slice, slice, Nat.testBit_mod_two_pow, Nat.testBit_mod_two_pow, Nat.testBit_div_two_pow, Nat.testBit_div_two_pow]
  by_cases hi : i < w
  · rw [testBit_masked_fullMask h mem (by omega) v]
  · rw [decide_eq_false hi, Bool.false_and, Bool.false_and]

/-! ## Registers with a rule of their own

In each lemma `x` is the device with the access counted, and the register stands at the base that the command names. -/

section
variable {s : State} {a : Accessor} {x : Dev} {r : RegDesc} {m ch : Nat} (v : Word32)

/-- WS_CTL asks for a halt, a run or a swap of the round table, each by its bit (R201, R205, R206). -/
theorem regRow_wsCtl (h : s.dev.grants a (s.dev.selOf a) 0x100000 true = some (x, r, m, [ch])) :
    let y := x.stored s.mem a r m v.toNat fullMask ch
    let d1 := if v.toNat.testBit F.WS_CTL_HALTREQ.lo then y.wsHaltReq else y
    let d2 := if v.toNat.testBit F.WS_CTL_RUN.lo then d1.wsRun else d1
    regRow a 0x100000 v s = .next (s.put (if v.toNat.testBit F.WS_CTL_RTSWAP.lo then d2.set F.WS_CTL_RTSWAP else d2)) := by
  obtain ⟨hb, hrow⟩ := regRow_base v (b := 0x100000) rfl (by decide) h
  rw [hrow, ← wr1_fullMask (f := F.WS_CTL_HALTREQ) (by decide), ← wr1_fullMask (f := F.WS_CTL_RUN) (by decide),
    ← wr1_fullMask (f := F.WS_CTL_RTSWAP) (by decide)]
  simp [Dev.writeEffect, hb]

/-- PG_CTL starts and stops the stream, each by its bit (R247). -/
theorem regRow_pgCtl (h : s.dev.grants a (s.dev.selOf a) 0x70000 true = some (x, r, m, [ch])) :
    let y := x.stored s.mem a r m v.toNat fullMask ch
    let d1 := if v.toNat.testBit F.PG_CTL_START.lo then y.pgCtlStart else y
    regRow a 0x70000 v s = .next (s.put (if v.toNat.testBit F.PG_CTL_STOP.lo then d1.pgCtlStop else d1)) := by
  obtain ⟨hb, hrow⟩ := regRow_base v (b := 0x70000) rfl (by decide) h
  rw [hrow, ← wr1_fullMask (f := F.PG_CTL_START) (by decide), ← wr1_fullMask (f := F.PG_CTL_STOP) (by decide)]
  simp [Dev.writeEffect, hb]

/-- OC_BCTL written alone turns the bias channel on or off and sets its range (R214, R215). -/
theorem regRow_bctl (h : s.dev.grants a (s.dev.selOf a) 0x60000 true = some (x, r, m, [ch])) (hk : x.kept a r m ch = 0) :
    regRow a 0x60000 v s = .next (s.put (((x.stored s.mem a r m v.toNat fullMask ch).biasEn ch
      (v.toNat.testBit F.OC_BCTL_EN.lo)).biasRange ch (slice v.toNat F.OC_BCTL_RANGE.lo F.OC_BCTL_RANGE.w))) := by
  obtain ⟨hb, hrow⟩ := regRow_base v (b := 0x60000) rfl (by decide) h
  rw [hrow, freeMask_alone hk, ← slice_masked_fullMask hk s.mem (by decide), ← testBit_masked_fullMask hk s.mem (by decide)]
  simp [Dev.writeEffect, hb, fullMask, F.OC_BCTL_EN]

/-- OC_OSPITX written alone queues the frame (R233). -/
theorem regRow_ospiTx (h : s.dev.grants a (s.dev.selOf a) 0x60108 true = some (x, r, m, [ch])) (hk : x.kept a r m ch = 0) :
    regRow a 0x60108 v s = .next (s.put ((x.stored s.mem a r m v.toNat fullMask ch).ospiTx a v.toNat)) := by
  obtain ⟨hb, hrow⟩ := regRow_base v (b := 0x60108) rfl (by decide) h
  rw [hrow, freeMask_alone hk, and_fullMask]
  simp [Dev.writeEffect, hb, fullMask]

/-- A read of OC_OSPIRX drives the accessor's oldest answer and takes it. -/
theorem readRow_ospiRx (h : s.dev.grants a { unit := 0, index := 0 } 0x6010C false = some (x, r, m, [ch])) :
    readRow a 0 0 0x6010C s = .next (s.put ((x.ospiRx a).deliver a (x.ospiWord a))) := by
  have hb : r.base = 0x6010C := by
    have hr : (findReg 0x6010C).map (fun p => p.1.base) = some 0x6010C := rfl
    rw [grants_findReg h] at hr
    exact Option.some.inj hr
  rw [readRow_of_grants h]
  simp [Dev.readEffect, Dev.peek, hb]

/-- MI_VWR with GO writes the vote word for the management core, for no other accessor (R308). -/
theorem regRow_vwr (h : s.dev.grants a (s.dev.selOf a) 0xB0048 true = some (x, r, m, [ch])) (hv : v.toNat.testBit F.MI_VWR_GO.lo = true) :
    let y := x.stored s.mem a r m v.toNat fullMask ch
    regRow a 0xB0048 v s = .next (s.put (if a = .mgmt then
      { y with vote := y.vote.setFlops (slice v.toNat F.MI_VWR_INDEX.lo F.MI_VWR_INDEX.w) (y.rd F.MI_VWDATA_DATA) } else y)) := by
  obtain ⟨hb, hrow⟩ := regRow_base v (b := 0xB0048) rfl (by decide) h
  have hgo : wr1 F.MI_VWR_GO v.toNat = true := hv
  rw [hrow, and_fullMask]
  simp [Dev.writeEffect, hb, hgo]

end

/-- Only the management core has a user mode. -/
theorem userOf_of_ne {a : Accessor} (h : a ≠ .mgmt) (u : Bool) : userOf a u = false :=
  Bool.and_eq_false_iff.mpr (.inr (beq_eq_false_iff_ne.mpr h))

/-- Outside user mode MI_VWR_GO is a write of its register. -/
theorem execMiVwrGo_supervisor {a : Accessor} {u : Bool} (h : userOf a u = false) (v : Word32) (s : State) :
    execMiVwrGo a u v s = regRow a 0xB0048 v s := by
  unfold execMiVwrGo
  rw [h, if_neg Bool.false_ne_true]

/-- In user mode the management core's write of MI_VWR counts as an access and does no more. -/
theorem execMiVwrGo_user {s : State} (v : Word32) (h : s.dev.domOn dMGMT = true) :
    execMiVwrGo .mgmt true v s = .next (s.put (s.dev.busAccess .mgmt 0xB0048 3 true)) := by
  have hu : userOf .mgmt true = true := rfl
  unfold execMiVwrGo
  rw [if_pos hu]
  exact lift_eq_put (if_pos h)

/-- Settles O56: each command stores its register's fields, and its register's own rule reads the request bits off the value written. -/
theorem engineRegisterCommands : Obligations.EngineRegisterCommands := by
  intro s acc v x r m ch
  refine ⟨fun hg => ?wsCtl, fun hg => ?strobe, fun hg hk => ⟨regRow_bctl v hg hk, regRow_bctl v hg hk⟩, fun hg => ?earm,
    fun hg hv => ?inject, fun hg hv => ?calreq, fun hg hk => regRow_ospiTx v hg hk, fun hg => readRow_ospiRx hg, fun hg => ?pgCtl,
    fun hg hv => ?jump, fun hg => ?ready, fun hg hv => ?cal, fun hg hv => ?vote, fun hd => execMiVwrGo_user v hd⟩
  case wsCtl =>
    have hrow := regRow_wsCtl v hg
    dsimp only at hrow
    refine ⟨fun h0 h1 h2 => hrow.trans ?_, fun h0 h1 h2 => hrow.trans ?_, fun h0 h1 h2 => hrow.trans ?_⟩
    all_goals simp only [h0, h1, h2, Bool.false_eq_true, if_true, if_false]
  case pgCtl =>
    have hrow := regRow_pgCtl v hg
    dsimp only at hrow
    refine ⟨fun h0 h1 => hrow.trans ?_, fun h0 h1 => hrow.trans ?_⟩
    all_goals simp only [h0, h1, Bool.false_eq_true, if_true, if_false]
  case strobe =>
    have hrule : r.base = 0x60010 → ∀ y val act mask, Dev.writeEffect y x acc r m ch val act mask = y :=
      fun hb _ _ _ _ => by simp [Dev.writeEffect, hb]
    obtain ⟨hrow, hsw0⟩ := regRow_plainRequest (f := F.OC_STRB_SW0) (v := v) (by decide) rfl (by decide) hrule hg
    exact ⟨hrow, hsw0, stored_plainRequest (f := F.OC_STRB_SW1) (by decide) (grants_findReg hg) x s.mem acc ch⟩
  case earm =>
    exact regRow_plainRequest (f := F.OC_NCOCTL_EARM) (by decide) rfl (by decide)
      (fun hb _ _ _ _ => by simp [Dev.writeEffect, hb]) hg
  case inject =>
    exact (regRow_request F.OC_MAINJ_REQ (fun y => y.madcInject ch) (by decide) rfl (by decide)
      (fun hb _ _ _ _ => by simp [Dev.writeEffect, hb]) hg).1 hv
  case calreq =>
    exact (regRow_request F.OC_MACTL_CALREQ (fun y => y.madcCalReq ch) (by decide) rfl (by decide)
      (fun hb _ _ _ _ => by simp [Dev.writeEffect, hb]) hg).1 hv
  case jump =>
    exact (regRow_request F.PG_JMP_REQ Dev.pgJump (by decide) rfl (by decide)
      (fun hb _ _ _ _ => by simp [Dev.writeEffect, hb]) hg).1 hv
  case ready =>
    have hrule : r.base = 0x70048 → ∀ y val act mask, Dev.writeEffect y x acc r m ch val act mask = y :=
      fun hb _ _ _ _ => by simp [Dev.writeEffect, hb]
    obtain ⟨hrow, hrdy0⟩ := regRow_plainRequest (f := F.PG_SEGSTRM_RDY0) (v := v) (by decide) rfl (by decide) hrule hg
    exact ⟨hrow, hrdy0, stored_plainRequest (f := F.PG_SEGSTRM_RDY1) (by decide) (grants_findReg hg) x s.mem acc ch⟩
  case cal =>
    exact (regRow_request F.PG_SYNCCTL_CAL Dev.pgCal (by decide) rfl (by decide)
      (fun hb _ _ _ _ => by simp [Dev.writeEffect, hb]) hg).1 hv
  case vote =>
    have hrow := regRow_vwr v hg hv
    dsimp only at hrow
    refine ⟨fun ha => ?_, fun ha u => ?_⟩
    · exact (execMiVwrGo_supervisor (Bool.false_and _) v s).trans (hrow.trans (by rw [if_pos ha]))
    · exact (execMiVwrGo_supervisor (userOf_of_ne ha u) v s).trans (hrow.trans (by rw [if_neg ha]))

end Sys2Proof.Machine

/-! PROOFS. Chapter 09, the events of the optics. Their statement fails at a state whose register store holds a value wider than its field,
which no write produces: a pass that goes on to its next entry leaves BUSY as it stands. -/

namespace Sys2Proof.Machine

/-- MADC on, and converter 0 before the first of a pass's two entries, with 2 in the store as its 1-bit field BUSY. -/
def wideBusy : State :=
  State.reset.put ((({ Dev.initial with regs := [(F.OC_MASTAT_BUSY.key 0, 2)] } : Dev).setDon dMADC true).mapMadc 0 fun m =>
    { m with seq := [(0, 0, 0), (0, 0, 0)] })

/-- The end of that entry's conversion leaves BUSY at 2, and the pass goes on (R225). -/
theorem madcConversionDone_wideBusy : ∃ t : Dev, exec (.madcConversionDone 0 0) wideBusy = .next (wideBusy.put t) ∧
    t.rd F.OC_MASTAT_BUSY 0 = 2 ∧ (t.conv 0).done = 1 := ⟨_, rfl, by decide, by decide⟩

/-- Refutes O42: at MADC_CONVERSION_DONE before the last entry BUSY reads 1 only where it read 1 before, and the statement asks of the state
before no more than that it is not 0. A state may hold 2 there, though no write leaves it (`rd_wr_same`). -/
theorem not_opticsEvents : ¬ Obligations.OpticsEvents := by
  intro h
  obtain ⟨-, -, -, -, -, -, -, -, -, -, hentry, -⟩ := h wideBusy 0 0
  obtain ⟨y, hy, -, hnext, -⟩ := hentry 0 (0, 0, 0) (by decide) (by decide) (by decide) (by decide) (by decide)
  obtain ⟨hbusy, -⟩ := hnext (by decide)
  obtain ⟨t, ht, hwide, -⟩ := madcConversionDone_wideBusy
  have hty : t = y := congrArg State.dev (Host.Outcome.next.inj (ht.symm.trans hy))
  have habsurd : (2 : Nat) = 1 := calc
    2 = t.rd F.OC_MASTAT_BUSY 0 := hwide.symm
    _ = y.rd F.OC_MASTAT_BUSY 0 := by rw [hty]
    _ = 1 := hbusy
  exact absurd habsurd (by decide)

end Sys2Proof.Machine

/-! PROOFS. Chapter 10, the pattern generator: which commands can change memory. Every other command either acts on the device alone or reaches
memory only to read it, and a register row at a fixed address lies in no memory window. -/

namespace Sys2Proof.Machine

/-! ## Meanings that leave memory as it was -/

/-- A meaning after which memory is as it was. -/
def KeepsMem (act : Act) : Prop := ∀ s t : State, act s = .next t → t.mem = s.mem

/-- A meaning that replaces the device and nothing else. -/
theorem keepsMem_of_put {act : Act} {f : State → Dev} (h : ∀ s, act s = .next (s.put (f s))) : KeepsMem act := fun s _ ht =>
  Host.Outcome.next.inj ((h s).symm.trans ht) ▸ rfl

theorem keepsMem_lift (f : Dev → Dev) : KeepsMem (lift f) := keepsMem_of_put (lift_put f)

theorem keepsMem_liftMem {f : Memory → Dev → Memory × Dev} (h : ∀ m d, (f m d).1 = m) : KeepsMem (liftMem f) :=
  fun s _ ht => Host.Outcome.next.inj ht ▸ h s.mem s.dev

theorem keepsMem_ite {c : Prop} [Decidable c] {f g : Act} (hf : KeepsMem f) (hg : KeepsMem g) : KeepsMem (if c then f else g) := by
  split
  · exact hf
  · exact hg

/-! ## Rows at addresses outside the memory windows -/

/-- An address that lies neither in the window of pattern RAM (R243) nor in those of the Whetstone's memories (R207). -/
abbrev outsideWindows (addr : Nat) : Prop := addr < 0x78000 ∨ 0x80000 ≤ addr ∧ addr < 0x110000

theorem wsWindow_outside (d : Dev) {addr : Nat} (h : outsideWindows addr) : d.wsWindow addr = none := by
  unfold outsideWindows at h
  unfold Dev.wsWindow
  simp only [Bool.and_eq_true, decide_eq_true_eq]
  rw [if_neg (by omega), if_neg (by omega), if_neg (by omega)]

theorem ramWindow_ends : regTable.all (fun r => r.base != 0x78000 || decide (r.base + r.stride * r.count ≤ 0x80000)) = true := by decide

/-- An address outside the windows finds no word of pattern RAM. -/
theorem findReg_outside {addr m : Nat} {r : RegDesc} (hf : findReg addr = some (r, m)) (h : outsideWindows addr) : r.base ≠ 0x78000 := by
  intro hb
  obtain ⟨hl, ha, hm⟩ := findReg_some hf
  obtain ⟨r', hr, he⟩ := Option.map_eq_some_iff.mp hf
  obtain rfl : r' = r := congrArg Prod.fst he
  have hend := List.all_eq_true.mp ramWindow_ends _ (List.mem_of_find?_eq_some hr)
  simp only [RegDesc.laidOut, Bool.and_eq_true, decide_eq_true_eq] at hl
  obtain ⟨⟨-, hs⟩, -⟩ := hl
  simp only [hb, bne_self_eq_false, Bool.false_or, decide_eq_true_eq] at hend ha
  have hlt : r'.stride * m < r'.stride * r'.count := Nat.mul_lt_mul_of_pos_left hm hs
  unfold outsideWindows at h
  omega

/-- A hit names the register that the address finds. -/
theorem findReg_of_hit {d : Dev} {sel : Sel} {addr m : Nat} {w : Bool} {r : RegDesc} {chs : List Nat}
    (h : d.hit sel addr w = .reg r m chs) : findReg addr = some (r, m) := by
  unfold Dev.hit at h
  split at h
  next => cases h
  next hf =>
    rw [hf]
    repeat' split at h
    all_goals cases h
    all_goals rfl

theorem mem_regWrite_outside (d : Dev) (m : Memory) (a : Accessor) (sel : Sel) {addr : Nat} (v mask : Nat) (h : outsideWindows addr) :
    (d.regWrite m a sel addr v mask).1 = m := by
  unfold Dev.regWrite
  generalize d.busAccess a addr 3 = x
  simp only [wsWindow_outside x h]
  split
  next => rfl
  next hit => exact if_neg (findReg_outside (findReg_of_hit hit) h)

theorem mem_access_outside (d : Dev) (m : Memory) (a : Accessor) {addr : Nat} (v : Nat) (h : outsideWindows addr) :
    (d.access m a addr v).1 = m := by
  unfold Dev.access
  split
  · rfl
  · split
    · rfl
    · exact mem_regWrite_outside d m a _ v fullMask h

theorem keepsMem_regRow (a : Accessor) {addr : Nat} (v : Word32) (h : outsideWindows addr) : KeepsMem (regRow a addr v) :=
  keepsMem_liftMem fun m d => mem_access_outside d m a v.toNat h

theorem keepsMem_readRow (a : Accessor) (unit ch addr : Nat) : KeepsMem (readRow a unit ch addr) := keepsMem_liftMem fun _ _ => rfl

theorem keepsMem_writeRow (a : Accessor) (unit ch : Nat) {addr : Nat} (v : Word32) (h : outsideWindows addr) :
    KeepsMem (writeRow a unit ch addr v) := by
  refine keepsMem_liftMem fun m d => ?_
  split
  · rfl
  · exact mem_regWrite_outside d m a _ v.toNat fullMask h

/-! ## The Whetstone's instructions that only read memory -/

theorem mem_ite {c : Prop} [Decidable c] {x y : WsRes} {m : Memory} (hx : x.mem = m) (hy : y.mem = m) :
    (if c then x else y).mem = m := by
  split
  · exact hx
  · exact hy

/-- An instruction whose every execution leaves memory as it was does so however often it repeats (R193). -/
theorem mem_wsRepeat {f : Nat → Memory → Dev → WsRes} (h : ∀ i m d, (f i m d).mem = m) (n i : Nat) (m : Memory) (d : Dev) :
    (wsRepeat n f i m d).mem = m := by
  induction n generalizing i m d with
  | zero => rfl
  | succ n ih =>
    have h1 := h i m d
    unfold wsRepeat
    split
    next m1 d1 he =>
      rw [he] at h1
      exact (ih (i + 1) m1 d1).trans h1
    next => exact h1

theorem mem_wsExec (d : Dev) (m : Memory) (r : Bool) {f : Nat → Nat → Memory → Dev → WsRes} (h : ∀ b i m d, (f b i m d).mem = m) :
    (d.wsExec m r f).1 = m := by
  unfold Dev.wsExec
  split
  · rfl
  next b _ =>
    have hr := mem_wsRepeat (h b) (if (d.bank b).rep = 0 then 1 else (d.bank b).rep) 0 m d
    dsimp only
    split
    · rfl
    · split
      · rfl
      · generalize wsRepeat _ (f b) 0 m d = res at hr ⊢
        cases res <;> exact hr

theorem keepsMem_wsMem (r : Bool) {f : Nat → Nat → Memory → Dev → WsRes} (h : ∀ b i m d, (f b i m d).mem = m) : KeepsMem (wsMem r f) :=
  keepsMem_liftMem fun m d => mem_wsExec d m r h

theorem mem_wsEcc (e : Ecc) (a addr kind : Nat) (m : Memory) (d : Dev) {f : Dev → WsRes} (h : ∀ x, (f x).mem = m) :
    (wsEcc e a addr kind m d f).mem = m := by
  unfold wsEcc
  split
  · exact h _
  · exact h _
  · rfl

theorem mem_wsOperand (b : Nat) (load : Option (Nat × PostStep)) (wide isX : Bool) (e : Ecc) (m : Memory) (d : Dev)
    {f : (Int × Int) → Dev → WsRes} (h : ∀ v x, (f v x).mem = m) : (wsOperand b load wide isX e m d f).mem = m := by
  unfold wsOperand
  split
  · exact h _ _
  · exact mem_wsEcc _ _ _ _ _ _ fun _ => h _ _

theorem mem_wsPair (b i : Nat) (x : XSrc) (y : YSrc) (wide : Bool) (ecc : List Ecc) (m : Memory) (d : Dev)
    {f : (Int × Int) → (Int × Int) → Dev → WsRes} (h : ∀ u v z, (f u v z).mem = m) : (wsPair b i x y wide ecc m d f).mem = m := by
  unfold wsPair
  exact mem_wsOperand _ _ _ _ _ _ _ fun _ _ => mem_wsOperand _ _ _ _ _ _ _ fun _ _ => h _ _ _

theorem keepsMem_wsComplex (ac : Fin 2) (x : XSrc) (y : YSrc) (ecc : List Ecc) (conj keep : Bool) :
    KeepsMem (wsComplex ac x y ecc conj keep) := keepsMem_wsMem _ fun _ _ _ _ => mem_wsPair _ _ _ _ _ _ _ _ fun _ _ _ => rfl

theorem keepsMem_wsReal (half : Fin 4) (x : XSrc) (y : YSrc) (ecc : List Ecc) (sign : Int) (keep : Bool) :
    KeepsMem (wsReal half x y ecc sign keep) := keepsMem_wsMem _ fun _ _ _ _ => mem_wsPair _ _ _ _ _ _ _ _ fun _ _ _ => rfl

theorem keepsMem_execLd (wide : Bool) (a : Fin 8) (step : PostStep) (dst : WReg) (ecc : List Ecc) :
    KeepsMem (execLd wide a step dst ecc) := keepsMem_wsMem _ fun _ _ _ _ => mem_ite rfl (mem_wsEcc _ _ _ _ _ _ fun _ => rfl)

theorem keepsMem_execMov (dst src : WReg) : KeepsMem (execMov dst src) := by
  refine keepsMem_wsMem _ fun b i m d => ?_
  split
  · rfl
  · rfl
  · split <;> rfl

/-! ## The other commands with a part in memory -/

theorem keepsMem_execDomainWakeDone {i : Fin 80} (h : i.val ≠ dWHET) : KeepsMem (execDomainWakeDone i) := by
  refine keepsMem_liftMem fun m d => ?_
  simp only [if_neg h]
  split <;> rfl

theorem keepsMem_execRegRead (addr : Word32) (n : Nat) : KeepsMem (execRegRead addr n) := by
  refine keepsMem_liftMem fun m d => ?_
  split <;> rfl

theorem keepsMem_execExpRegRd (src : Src) (addr : Word32) (n : Byte) : KeepsMem (execExpRegRd src addr n) := keepsMem_liftMem fun _ _ => rfl

/-! ## Commands that bring other commands -/

/-- The opcodes of the KCI commands that can change memory: PAT.RAM.WRITE, EXP.REG.WR and EXP.PIN. -/
def memOpcodes : List Nat := [0xA402, 0xAA11, 0xAA20]

/-- Every request but those of the three opcodes acts on the device alone, or reads memory (EXP.REG.RD). -/
theorem keepsMem_requestTable : ∀ r ∈ requestTable, r.1 ∉ memOpcodes → ∀ src p, KeepsMem (r.2 src p) := by
  simp only [requestTable, List.forall_mem_append, List.forall_mem_cons, List.not_mem_nil, false_imp_iff, implies_true, and_true]
  repeat' apply And.intro
  all_goals intro hop src p
  any_goals exact keepsMem_lift _
  · exact absurd (by decide) hop
  · exact keepsMem_execExpRegRd _ _ _
  · exact absurd (by decide) hop
  · exact absurd (by decide) hop

theorem keepsMem_stdTable : ∀ r ∈ stdTable, ∀ i p, KeepsMem (r.2 i p) := by
  simp only [stdTable, List.forall_mem_cons, List.not_mem_nil, false_imp_iff, implies_true, and_true]
  repeat' apply And.intro
  all_goals exact fun _ _ => keepsMem_lift _

theorem keepsMem_runRequest (src : Src) {op : Nat} (p : List Byte) (hop : op ∉ memOpcodes) : KeepsMem (runRequest src op p) := by
  intro s t
  unfold runRequest
  split
  · exact keepsMem_lift _ s t
  · split
    next hr =>
      split
      · have hkey := List.find?_some hr
        exact keepsMem_requestTable _ (List.mem_of_find?_eq_some hr) (by rwa [beq_iff_eq.mp hkey]) src p s t
      · exact keepsMem_lift _ s t
    · exact keepsMem_lift _ s t

theorem keepsMem_runFrame (src : Src) {fr : List Byte} (hop : fieldAt fr 0 2 ∉ memOpcodes) : KeepsMem (runFrame src fr) := by
  intro s t
  unfold runFrame
  split
  · exact keepsMem_runRequest src _ hop s t
  · exact keepsMem_lift _ s t

theorem keepsMem_execKciWrite {fr : List Byte} (hop : fieldAt fr 0 2 ∉ memOpcodes) : KeepsMem (execKciWrite fr) := by
  intro s t
  unfold execKciWrite
  split
  · exact keepsMem_lift _ s t
  · split
    · exact keepsMem_lift _ s t
    · exact keepsMem_runFrame _ hop s t

theorem keepsMem_execCdbCommandIdWrite (i : Fin 2) {op : BitVec 16} (lpl : List Byte) (chk : Byte) (hop : op.toNat ∉ memOpcodes) :
    KeepsMem (execCdbCommandIdWrite i op lpl chk) := by
  intro s t
  unfold execCdbCommandIdWrite
  dsimp only
  split
  · exact keepsMem_lift id s t
  · split
    · exact keepsMem_lift _ s t
    · split
      · exact keepsMem_lift _ s t
      · split
        · exact keepsMem_runRequest _ _ hop s t
        · split
          next hr => exact keepsMem_stdTable _ (List.mem_of_find?_eq_some hr) i lpl s t
          next => exact keepsMem_lift _ s t

theorem keepsMem_execMailboxRelayCell (seq : Byte) {msg : RelayMsg} (hop : ∀ fr, msg = .command fr → fieldAt fr 0 2 ∉ memOpcodes) :
    KeepsMem (execMailboxRelayCell seq msg) := by
  intro s t ht
  unfold execMailboxRelayCell at ht
  split at ht
  next fr =>
    split at ht
    · exact keepsMem_runFrame _ (hop fr rfl) { s with dev := s.dev.taken seq 7 } t ht
    · exact keepsMem_lift _ s t ht
  next => exact keepsMem_lift _ s t ht

/-! ## Every command -/

/-- Settles O4: the commands named are left out, three of them where the opcode they bring is not one of the three that can change memory. -/
theorem memoryFrame : Obligations.MemoryFrame := by
  intro c s t ht hne
  have hc : ¬ KeepsMem (exec c) := fun hk => hne (hk s t ht)
  clear ht hne
  cases c
  case patRamWrite | sramInitDone | bistStep | wsRestartDone | st | registerWrite | regWrite | rdreg | wrreg | wrregComplete | rreqCell |
      expRegWr | expPin => simp
  case domainWakeDone i =>
    have hi : i.val = dWHET := by_contra fun h => hc (keepsMem_execDomainWakeDone h)
    simp [Fin.ext_iff, hi]
  case wsMemoryWindowAccess acc addr w =>
    cases w with
    | none => exact absurd (keepsMem_readRow acc 0 0 addr.toNat) hc
    | some v => simp
  case kciWrite fr =>
    have hop : fieldAt fr 0 2 ∈ memOpcodes := by_contra fun h => hc (keepsMem_execKciWrite h)
    simpa [memOpcodes] using hop
  case cdbCommandIdWrite i op lpl chk =>
    have hop : op.toNat ∈ memOpcodes := by_contra fun h => hc (keepsMem_execCdbCommandIdWrite i lpl chk h)
    simpa [memOpcodes] using hop
  case mailboxRelayCell q msg =>
    obtain ⟨fr, rfl, hop⟩ : ∃ fr, msg = .command fr ∧ fieldAt fr 0 2 ∈ memOpcodes :=
      by_contra fun h => hc (keepsMem_execMailboxRelayCell q fun fr hm hop => h ⟨fr, hm, hop⟩)
    simpa [memOpcodes] using hop
  case saAfeWrite acc vga v =>
    exact absurd (keepsMem_regRow acc v (by split <;> decide)) hc
  case lnFfetapWrite acc tap v =>
    exact absurd (keepsMem_regRow acc v (by unfold outsideWindows; omega)) hc
  case saLctlCmtreq | saTbctlReq | saTbrelRelease | decCtlHsnap | txCtlCmtreq | txObsctlStart |
      lnCtlRetrain | wsCtlHaltreq | wsCtlRun | wsCtlRtswap | ocStrbSw | ocBctlEnWrite | ocBctlRangeWrite | ocNcoctlEarm |
      ocMainjReq | ocMactlCalreq | ocOspitxWrite | pgCtlStart | pgCtlStop | pgJmpReq | pgSegstrmRdy | pgSyncctlCal | tmClctlSnap |
      tuFifoctlSwstamp | xcHbKick | xcCtlDetach => exact absurd (keepsMem_regRow _ _ (by decide)) hc
  case ocOspirxRead | tuFifohdrRead | tuTnsRead => exact absurd (keepsMem_readRow _ _ _ _) hc
  case tuRatehiWrite | tuRateloWrite | tuOffsetWrite => exact absurd (keepsMem_writeRow _ _ _ _ (by decide)) hc
  case miVwrGo => exact absurd (keepsMem_ite (keepsMem_lift _) (keepsMem_regRow _ _ (by decide))) hc
  case tlCnthiWrite | tlCntloWrite =>
    exact absurd (keepsMem_ite (keepsMem_lift _) (keepsMem_regRow _ _ (by unfold outsideWindows; omega))) hc
  case tlCntloRead => exact absurd (keepsMem_ite (keepsMem_lift _) (keepsMem_readRow _ _ _ _)) hc
  case cmac | cmacj | cmul => exact absurd (keepsMem_wsComplex _ _ _ _ _ _) hc
  case mac | msu | mpy => exact absurd (keepsMem_wsReal _ _ _ _ _ _) hc
  case ld w a st r e => exact absurd (keepsMem_execLd w a st r e) hc
  case mov x y => exact absurd (keepsMem_execMov x y) hc
  case regRead a n => exact absurd (keepsMem_execRegRead a n) hc
  case expRegRd src a n => exact absurd (keepsMem_execExpRegRd src a n) hc
  all_goals exact absurd (keepsMem_of_put fun _ => rfl) hc

end Sys2Proof.Machine

/-! PROOFS. Chapter 10, the pattern generator: the bytes of pattern RAM, and the PAT commands. -/

namespace Sys2Proof.Machine

/-! ## Bytes of pattern RAM (R243)

They are listed in memory relative to the pattern that a MEM self-test left (R410): a write adds that pattern, a read takes it off again. -/

/-- A write to pattern RAM leaves every byte outside its own alone. -/
theorem memGet_ramWrite_outside (p : Pg) (m : Memory) {off a : Nat} {l : List Byte}
    (h : a < patBase + off ∨ patBase + off + l.length ≤ a) : memGet (p.ramWrite m off l) a = memGet m a := by
  induction l generalizing m off with
  | nil => rfl
  | cons b t ih =>
    rw [List.length_cons] at h
    exact (ih _ (by omega)).trans (memGet_memPut_ne m _ (by omega))

theorem ramByte_of_stored {p : Pg} {m : Memory} {off : Nat} {b : Byte}
    (h : memGet m (patBase + off) = if p.march = 0 then b else b ^^^ Config.marchByte p.march off) : p.ramByte m off = b.toNat := by
  unfold Pg.ramByte
  rw [h]
  split
  · exact Nat.xor_zero _
  · rw [BitVec.toNat_xor, Nat.xor_assoc, Nat.xor_self, Nat.xor_zero]

/-- A byte written to pattern RAM reads back. -/
theorem ramByte_ramWrite (p : Pg) (m : Memory) {off i : Nat} {l : List Byte} (h : i < l.length) :
    p.ramByte (p.ramWrite m off l) (off + i) = (l.getD i 0).toNat := by
  induction l generalizing m off i with
  | nil => exact absurd h (Nat.not_lt_zero i)
  | cons b t ih =>
    cases i with
    | zero =>
      rw [Nat.add_zero, Pg.ramWrite]
      refine ramByte_of_stored (b := b) ?_
      exact (memGet_ramWrite_outside p _ (.inl (Nat.lt_succ_self _))).trans (memGet_memPut_same m _ _)
    | succ i =>
      rw [← Nat.add_assoc, Nat.add_right_comm]
      exact ih _ (Nat.lt_of_succ_lt_succ h)

/-! ## PAT.RAM.WRITE -/

/-- The device after an admitted PAT.RAM.WRITE: its words are good again, and READY's half is marked. -/
def Dev.ramFilled (d : Dev) (granule count ready : Nat) : Dev :=
  let y := iter (16 * count) (fun j z => z.mended .pattern (64 * granule + 4 * j)) d
  if ready = 0 then y else y.set (rdyFld ((ready - 1) % 2)) ((ready - 1) / 2)

section
variable {s : State} {src : Src} (granule : BitVec 16) (count ready : Byte) (data : List Byte) (h : s.dev.admits src 0xA402 .c = true)
include h

theorem patRamWrite_stores (hok : patRamOk src granule.toNat count.toNat ready.toNat data.length = true)
    (hr : s.dev.on F.GLB_STAT_SRAMRDY = true) :
    execPatRamWrite src granule count ready data s = .next { s with
      mem := s.dev.pg.ramWrite s.mem (64 * granule.toNat) data
      dev := (s.dev.arrives 0xA402).completes ((s.dev.arrives 0xA402).entry src 0xA402 .c)
        ((s.dev.arrives 0xA402).ramFilled granule.toNat count.toNat ready.toNat) [] } := by
  have hx : (s.dev.arrives 0xA402).on F.GLB_STAT_SRAMRDY = true := by rw [Dev.on, arrives_rd]; exact hr
  unfold execPatRamWrite
  rw [liftMem_next]
  simp only [hok, hr, h, Bool.and_self, Bool.not_true, Bool.false_eq_true, if_true, if_false]
  rw [kci_completes h (if_neg (by rw [hx]; decide))]
  rfl

theorem patRamWrite_turnedAway {st : Status}
    (hst : patRamOk src granule.toNat count.toNat ready.toNat data.length = false ∧ st = .badParam ∨
      patRamOk src granule.toNat count.toNat ready.toNat data.length = true ∧ s.dev.on F.GLB_STAT_SRAMRDY = false ∧ st = .notReady) :
    execPatRamWrite src granule count ready data s =
      .next (s.put ((s.dev.arrives 0xA402).declines ((s.dev.arrives 0xA402).entry src 0xA402 .c) st)) := by
  have hx : (s.dev.arrives 0xA402).on F.GLB_STAT_SRAMRDY = s.dev.on F.GLB_STAT_SRAMRDY := by rw [Dev.on, arrives_rd, Dev.on]
  unfold execPatRamWrite
  rw [liftMem_next]
  rcases hst with ⟨hok, rfl⟩ | ⟨hok, hr, rfl⟩
  · simp only [hok, Bool.false_and, Bool.not_false, Bool.false_eq_true, if_true, if_false]
    rw [kci_declines h rfl]
    rfl
  · simp only [hok, hr, Bool.and_false, Bool.false_and, Bool.not_true, Bool.false_eq_true, if_false]
    rw [kci_declines h (if_pos (by rw [hx, hr]; decide))]
    rfl

end

/-- Settles O8: what is stored reads back, and the store reaches no byte outside its own. -/
theorem patternRamBytes : Obligations.PatternRamBytes := fun s _ granule count ready data h hok hr =>
  ⟨_, patRamWrite_stores granule count ready data h hok hr, fun _ hi => ramByte_ramWrite s.dev.pg s.mem hi,
    fun _ ha => memGet_ramWrite_outside s.dev.pg s.mem ha⟩

/-! ## The other PAT commands -/

section
variable {s : State} {src : Src}

theorem patSegSet_completes {seg type stream : Byte} {start len : BitVec 16} (h : s.dev.admits src 0xA400 .c = true)
    (hs : seg.toNat ≤ 63) (ht : type.toNat ≤ 7) (hm : stream.toNat ≤ 1) (hl : 16 ≤ len.toNat) (hb : start.toNat ≤ 16383)
    (he : start.toNat + (stream.toNat + 1) * len.toNat ≤ 16384) :
    let x := s.dev.arrives 0xA400
    execPatSegSet src seg type stream start len s = .next (s.put (x.completes (x.entry src 0xA400 .c)
      ((((x.cfg dMGMT F.PG_SEGBASE_START seg.toNat start.toNat).cfg dMGMT F.PG_SEGBASE_TYPE seg.toNat type.toNat).cfg dMGMT
        F.PG_SEGBASE_STREAM seg.toNat stream.toNat).cfg dMGMT F.PG_SEGLEN_LEN seg.toNat len.toNat) [])) := by
  have hlen : len.toNat ≤ (stream.toNat + 1) * len.toNat := Nat.le_mul_of_pos_left _ (Nat.succ_pos _)
  refine lift_eq_put (kci_completes h (if_neg ?_))
  simp only [Bool.or_eq_true, Bool.and_eq_true, decide_eq_true_eq]
  omega

/-- A segment shorter than 16 granules, or one of TYPE 0 that ends beyond the RAM, is turned away (R244). -/
theorem patSegSet_badParam {seg type stream : Byte} {start len : BitVec 16} (h : s.dev.admits src 0xA400 .c = true)
    (hbad : len.toNat < 16 ∨ type.toNat = 0 ∧ 16384 < start.toNat + (stream.toNat + 1) * len.toNat) :
    execPatSegSet src seg type stream start len s =
      .next (s.put ((s.dev.arrives 0xA400).declines ((s.dev.arrives 0xA400).entry src 0xA400 .c) .badParam)) := by
  refine lift_eq_put (kci_declines h (if_pos ?_))
  simp only [Bool.or_eq_true, Bool.and_eq_true, decide_eq_true_eq]
  omega

theorem patSeqSet_completes {entry seg next flags : Byte} {loop : Word32} (h : s.dev.admits src 0xA401 .c = true)
    (hs : seg.toNat ≤ 63) (hf : flags.toNat ≤ 31) (hl : loop.toNat < 2 ^ 24) :
    let x := s.dev.arrives 0xA401
    execPatSeqSet src entry seg next flags loop s = .next (s.put (x.completes (x.entry src 0xA401 .c)
      (((((x.cfg dMGMT ((F.PG_SEQA_SEG).at entry.toNat 8) 0 seg.toNat).cfg dMGMT ((F.PG_SEQA_MARK).at entry.toNat 8) 0 flags.toNat).cfg
        dMGMT ((F.PG_SEQA_END).at entry.toNat 8) 0 (flags.toNat / 16)).cfg dMGMT ((F.PG_SEQA_NEXT).at entry.toNat 8) 0 next.toNat).cfg
        dMGMT ((F.PG_SEQB_LOOP).at entry.toNat 8) 0 loop.toNat) [])) := by
  refine lift_eq_put (kci_completes h (if_neg ?_))
  simp only [Bool.or_eq_true, decide_eq_true_eq]
  omega

theorem patSeqSet_badParam {entry seg next flags : Byte} {loop : Word32} (h : s.dev.admits src 0xA401 .c = true)
    (hf : 31 < flags.toNat) :
    execPatSeqSet src entry seg next flags loop s =
      .next (s.put ((s.dev.arrives 0xA401).declines ((s.dev.arrives 0xA401).entry src 0xA401 .c) .badParam)) := by
  refine lift_eq_put (kci_declines h (if_pos ?_))
  simp only [Bool.or_eq_true, decide_eq_true_eq]
  exact .inl (.inr hf)

/-- Without an A11 group no stream can be stopped (R247). -/
theorem patRun_noGroup {entry : Byte} (h : s.dev.admits src 0xA403 .c = true) (ha : (s.dev.arrives 0xA403).a11 = none) :
    execPatRun src 2 entry 0 s =
      .next (s.put ((s.dev.arrives 0xA403).declines ((s.dev.arrives 0xA403).entry src 0xA403 .c) .notReady)) :=
  lift_eq_put (kci_declines h (if_pos ha))

theorem patRun_stop {entry : Byte} (h : s.dev.admits src 0xA403 .c = true) (ha : (s.dev.arrives 0xA403).a11 ≠ none) :
    let x := s.dev.arrives 0xA403
    execPatRun src 2 entry 0 s = .next (s.put (x.completes (x.entry src 0xA403 .c) x.pgCtlStop [])) :=
  lift_eq_put (kci_completes h (if_neg ha))

theorem patRun_jump {entry : Byte} (h : s.dev.admits src 0xA403 .c = true) (ha : (s.dev.arrives 0xA403).a11 ≠ none) :
    let x := s.dev.arrives 0xA403
    execPatRun src 3 entry 0 s =
      .next (s.put (x.completes (x.entry src 0xA403 .c) ((x.wr F.PG_JMP_TARGET 0 entry.toNat).pgJump) [])) :=
  lift_eq_put (kci_completes h (if_neg ha))

theorem patRun_start {entry sync : Byte} (h : s.dev.admits src 0xA403 .c = true) (ha : (s.dev.arrives 0xA403).a11 ≠ none)
    (hs : sync.toNat ≤ 1) :
    let x := s.dev.arrives 0xA403
    x.segValid (x.rd ((F.PG_SEQA_SEG).at entry.toNat 8)) = true → execPatRun src 1 entry sync s =
      .next (s.put (x.completes (x.entry src 0xA403 .c)
        (((x.wr F.PG_CTL_ENTRY 0 entry.toNat).wr F.PG_CTL_SYNCARM 0 sync.toNat).pgCtlStart) [])) := by
  intro x hv
  refine lift_eq_put (kci_completes h ((if_neg ?_).trans (if_neg ha)))
  have hsync : decide (1 < sync.toNat) = false := decide_eq_false (Nat.not_lt.mpr hs)
  simp only [x, hv, hsync]
  decide

theorem patRun_unknownAction {entry : Byte} (h : s.dev.admits src 0xA403 .c = true) :
    execPatRun src 4 entry 0 s =
      .next (s.put ((s.dev.arrives 0xA403).declines ((s.dev.arrives 0xA403).entry src 0xA403 .c) .badParam)) :=
  lift_eq_put (kci_declines h rfl)

theorem patMkSet_completes {mk en ref width : Byte} {ofs : Word32} {adj : BitVec 16} (h : s.dev.admits src 0xA404 .c = true)
    (hm : mk.toNat ≤ 3) (ho : ofs.toNat < 2 ^ 22) (hw : 0 < width.toNat) (he : en.toNat ≤ 1)
    (hr : ref.toNat / 16 = 8 ∨ ref.toNat ≤ 7) (hlo : -2000 ≤ adj.toInt) (hhi : adj.toInt ≤ 2000) :
    let x := s.dev.arrives 0xA404
    execPatMkSet src mk en ref width ofs adj s = .next (s.put (x.completes (x.entry src 0xA404 .c)
      ((((((x.cfg dMGMT ((F.PG_MKCFG_EN).at mk.toNat 8) 0 en.toNat).cfg dMGMT ((F.PG_MKCFG_REF).at mk.toNat 8) 0 (ref.toNat / 128)).cfg
        dMGMT ((F.PG_MKCFG_REFIDX).at mk.toNat 8) 0 (ref.toNat % 16)).cfg dMGMT ((F.PG_MKCFG_WIDTH).at mk.toNat 8) 0 width.toNat).cfg
        dMGMT ((F.PG_MKOFS_OFS).at mk.toNat 8) 0 ofs.toNat).cfg dMGMT ((F.PG_MKCFG_ADJ).at mk.toNat 8) 0 adj.toNat) [])) := by
  refine lift_eq_put (kci_completes h (if_neg ?_))
  simp only [Bool.or_eq_true, Bool.and_eq_true, decide_eq_true_eq, bne_iff_ne]
  omega

theorem patMkSet_noWidth {mk width : Byte} {ofs : Word32} (h : s.dev.admits src 0xA404 .c = true) (hw : width.toNat = 0) :
    execPatMkSet src mk 1 0 width ofs 0 s =
      .next (s.put ((s.dev.arrives 0xA404).declines ((s.dev.arrives 0xA404).entry src 0xA404 .c) .badParam)) := by
  refine lift_eq_put (kci_declines h (if_pos ?_))
  simp only [hw, decide_true, Bool.or_true, Bool.true_or]

theorem patSyncCal_noGroup {delay : Byte} (h : s.dev.admits src 0xA405 .c = true) (ha : (s.dev.arrives 0xA405).a11 = none) :
    execPatSyncCal src 1 delay s =
      .next (s.put ((s.dev.arrives 0xA405).declines ((s.dev.arrives 0xA405).entry src 0xA405 .c) .notReady)) :=
  lift_eq_put (kci_declines h (if_pos ha))

theorem patSyncCal_slave {delay : Byte} (h : s.dev.admits src 0xA405 .c = true) (ha : (s.dev.arrives 0xA405).a11 ≠ none) :
    let x := s.dev.arrives 0xA405
    execPatSyncCal src 2 delay s = .next (s.put (x.completes (x.entry src 0xA405 .c)
      ((x.wr F.PG_SYNCCTL_ROLE 0 2).wr F.PG_SYNCCTL_DELAY 0 delay.toNat)
      (be 2 (x.rd F.PG_SYNCSTAT_RT) ++ be 1 (x.rd F.PG_SYNCSTAT_ARRPH)))) :=
  lift_eq_put (kci_completes h (if_neg ha))

theorem patSyncCal_master {delay : Byte} (h : s.dev.admits src 0xA405 .c = true) (ha : (s.dev.arrives 0xA405).a11 ≠ none) :
    let x := s.dev.arrives 0xA405
    execPatSyncCal src 1 delay s = .next (s.put ((((x.wr F.PG_SYNCCTL_ROLE 0 1).wr F.PG_SYNCCTL_DELAY 0 delay.toNat).pgCal).holds
      (x.entry src 0xA405 .c) .patCal)) :=
  lift_eq_put (kci_holds h (if_neg ha))

theorem patStatGet_completes (h : s.dev.admits src 0xA406 .q = true) :
    let x := s.dev.arrives 0xA406
    execPatStatGet src s = .next (s.put (x.completes (x.entry src 0xA406 .q) x (be 4 x.pgStatWord ++ be 4 (x.rd F.PG_PLAY_COUNT) ++
      be 4 (x.rd F.PG_UNDCNT_COUNT) ++ be 4 (x.rd F.PG_SYNCSTAT_ARRPH + 2 ^ 8 * x.rd F.PG_SYNCSTAT_SKEWWARN +
        2 ^ 9 * x.rd F.PG_SYNCSTAT_CALDONE + 2 ^ 16 * x.rd F.PG_SYNCSTAT_RT)))) :=
  lift_eq_put (kci_completes h rfl)

end

/-- Settles O33: one lemma per answer of a command. -/
theorem patternCommands : Obligations.PatternCommands := by
  intro s src
  refine ⟨fun seg type stream start len h => ?seg, fun entry seg next flags loop h => ?seq, fun granule count ready data h => ?ram,
    fun entry h => ?run, fun mk width ofs h => ?mk, fun delay h => ?cal, fun h => patStatGet_completes h⟩
  case seg =>
    exact ⟨patSegSet_completes h, fun hl => patSegSet_badParam h (.inl hl), fun ht he => patSegSet_badParam h (.inr ⟨ht, he⟩)⟩
  case seq => exact ⟨patSeqSet_completes h, patSeqSet_badParam h⟩
  case ram =>
    dsimp only
    rw [Dev.on, arrives_rd]
    exact ⟨fun hok hr => patRamWrite_stores granule count ready data h hok hr,
      fun hok hr => patRamWrite_turnedAway granule count ready data h (.inr ⟨hok, hr, rfl⟩),
      fun hok => patRamWrite_turnedAway granule count ready data h (.inl ⟨hok, rfl⟩)⟩
  case run =>
    refine ⟨patRun_noGroup h, fun ha => ?_, patRun_unknownAction h⟩
    have ha' := Option.isSome_iff_ne_none.mp ha
    exact ⟨patRun_stop h ha', patRun_jump h ha', fun _ hs => patRun_start h ha' hs⟩
  case mk =>
    exact fun hm ho => ⟨fun en ref adj => patMkSet_completes h hm ho, patMkSet_noWidth h⟩
  case cal =>
    refine ⟨patSyncCal_noGroup h, fun ha => ?_⟩
    have ha' := Option.isSome_iff_ne_none.mp ha
    exact ⟨patSyncCal_slave h ha', patSyncCal_master h ha'⟩

end Sys2Proof.Machine

/-! PROOFS. Chapter 10, the pattern generator: granules, the end of a play, markers and the calibration of SYNC. -/

namespace Sys2Proof.Machine

/-! ## Steps that one of them sets and all others keep -/

/-- What one update of a repetition brings about and all others keep holds at its end. -/
theorem iter_reaches {α : Type} {P : α → Prop} {f : Nat → α → α} {n m : Nat} (hm : m < n) (hset : ∀ e, P (f m e))
    (hkeep : ∀ i e, P e → P (f i e)) (a : α) : P (iter n f a) := by
  induction n with
  | zero => exact absurd hm (Nat.not_lt_zero m)
  | succ n ih =>
    by_cases h : m = n
    · subst h
      exact hset _
    · exact hkeep n _ (ih (by omega))

theorem getD_vset_true {n : Nat} (v : Vector Bool n) {i j : Nat} (hj : j < n) (h : i = j ∨ v.getD j false = true) :
    (vset v i fun _ => true).getD j false = true := by
  by_cases hij : j = i
  · subst hij
    simp [vset, Vector.getD, hj]
  · simpa [vset, Vector.getD, hj, hij] using h.resolve_left (Ne.symm hij)

/-! ## What an ECC event leaves (R302) -/

/-- The fields that an ECC event may write; TL_STAT.OVF where it wraps a Tally counter (R327). -/
def eccFields : List Fld :=
  [F.MI_ECCCNT_UE, F.MI_ECCCNT_CE, F.MI_ECCLAST_MEM, F.MI_ECCLAST_UE, F.MI_ECCLAST_MASTER, F.MI_ECCLAST_KIND, F.MI_ECCADDR_ADDR,
    F.TL_STAT_OVF]

section
variable {β : Type} (p : Dev → β) (hwr : ∀ (e : Dev) f ch v, f ∈ eccFields → p (e.wr f ch v) = p e)
  (htally : ∀ (e : Dev) t, p { e with tally := t } = p e)
include hwr htally

theorem tallyEvent_keeps (d : Dev) (event n : Nat) (master : Option Nat) (user : Bool) (cls : Nat) (addr : Option Nat) :
    p (d.tallyEvent event n master user cls addr) = p d := by
  unfold Dev.tallyEvent
  split
  · rfl
  · refine iter_keeps p (fun i e _ => ?_) d
    split
    · unfold Dev.tallyAdd
      dsimp only
      split
      · exact (hwr _ F.TL_STAT_OVF _ _ (by decide)).trans (htally e _)
      · exact htally e _
    · rfl

/-- It is seen in its fields, in the Tally counters and among the words known to be bad, nowhere else. -/
theorem eccEvent_keeps (hbad : ∀ (e : Dev) l, p { e with bad := l } = p e) (d : Dev) (mem : MemId) (ue : Bool) (master kind addr : Nat) :
    p (d.eccEvent mem ue master kind addr) = p d := by
  have hmark : ∀ e : Dev, p (e.markBad mem addr) = p e := fun e => by
    unfold Dev.markBad
    split
    · rfl
    · exact hbad e _
  unfold Dev.eccEvent Dev.incSat
  cases ue with
  | true => simp +decide only [if_true, hmark, hwr]
  | false => simp +decide only [if_false, tallyEvent_keeps p hwr htally, hwr]

end

theorem rd_eccEvent (d : Dev) (mem : MemId) (ue : Bool) (master kind addr : Nat) {g : Fld} (c : Nat)
    (h : eccFields.all (fldNe g) = true) : (d.eccEvent mem ue master kind addr).rd g c = d.rd g c :=
  eccEvent_keeps (fun e => e.rd g c) (fun e _ ch v hf => rd_wr_of_all e h hf ch v c) (fun _ _ => rfl) (fun _ _ => rfl) d _ _ _ _ _

theorem pg_eccEvent (d : Dev) (mem : MemId) (ue : Bool) (master kind addr : Nat) : (d.eccEvent mem ue master kind addr).pg = d.pg :=
  eccEvent_keeps Dev.pg (fun _ _ _ _ _ => rfl) (fun _ _ => rfl) (fun _ _ => rfl) d _ _ _ _ _

/-! ## A granule (R243, R248, R252) -/

/-- What the granule's symbols leave of the generator: all but the generators and the host outputs. -/
theorem granule_keeps {β : Type} (p : Pg → β) (hp : ∀ (g : Pg) a b, p { g with idleGen := a, gens := b } = p g) (g : Pg) (m : Memory)
    (half hi lo : Nat) : p (g.granule m half hi lo).2 = p g := by
  unfold Pg.granule
  split
  · exact hp g _ g.gens
  · split
    · rfl
    · exact hp g g.idleGen _

/-- The host outputs' part in a granule is seen in the host lanes, and in the generator's symbols and patterns for them. -/
theorem pgHosts_keeps {β : Type} (p : Dev → β) (hh : ∀ (e : Dev) n f, p (e.mapHost n f) = p e)
    (hp : ∀ (e : Dev) a b c, p (e.mapPg fun g => { g with hostSyms := a, hostWait := b, hostGens := c }) = p e)
    (d : Dev) (half hi lo : Nat) (l : List Nat) : p (d.pgHosts half hi lo l) = p d := by
  unfold Dev.pgHosts
  split
  · rfl
  · split
    · rfl
    · refine foldl_keeps p (fun e n => ?_) _ d
      dsimp only
      split
      · exact hp e _ e.pg.hostWait e.pg.hostGens
      · split
        · exact (hh _ n _).trans (hp e _ _ _)
        · exact (hh _ n _).trans (hp e _ _ e.pg.hostGens)

/-- The markers that fall due are seen in the generator's own list of them alone. -/
theorem pgMarks_keeps {β : Type} (p : Dev → β) (hp : ∀ (e : Dev) a b, p (e.mapPg fun g => { g with due := a, mkSym := b }) = p e) (d : Dev) :
    p d.pgMarks = p d := by
  unfold Dev.pgMarks
  split
  · rfl
  · refine iter_keeps p (fun i e _ => ?_) d
    dsimp only
    split
    · exact hp e _ _
    · rfl

/-- A marker falls due in the granule that holds its OFS (R252). -/
theorem due_pgMarks {d : Dev} (m : Fin 4) (hi : d.pg.idle = false) (he : d.on ((F.PG_MKCFG_EN).at m 8) = true)
    (hm : d.pg.play.mark.testBit m = true) (ho : d.rd ((F.PG_MKOFS_OFS).at m 8) / 256 + 1 = d.pg.gran) :
    d.pgMarks.pg.due.getD m false = true := by
  unfold Dev.pgMarks
  rw [hi, if_neg Bool.false_ne_true]
  refine iter_reaches (P := fun e : Dev => e.pg.due.getD m false = true) m.isLt (fun e => ?_) (fun i e hdue => ?_) d
  · simp only [he, hm, ho, beq_self_eq_true, Bool.and_self, if_true]
    exact getD_vset_true _ m.isLt (.inl rfl)
  · dsimp only
    split
    · exact getD_vset_true _ m.isLt (.inr hdue)
    · exact hdue

/-- The device once the granule's symbols have entered the stream. -/
def Dev.granuleTaken (d : Dev) (m : Memory) : Dev :=
  let r := d.pg.granule m (d.rd F.PG_BUILTIN_HALF) (d.rd F.PG_BUILTIN_HI) (d.rd F.PG_BUILTIN_LO)
  let recent := d.pg.recent ++ r.1
  d.mapPg fun _ => { r.2 with
    jump := match d.pg.jump with
      | some (2, t) => some (if d.pg.gran + 1 < d.pg.length then 0 else 1, t)
      | j => j
    gran := d.pg.gran + 1, pos := d.pg.pos + 256, recent := recent.drop (recent.length - 4096) }

/-- Whether the play in progress reads pattern RAM. -/
def Pg.fromRam (g : Pg) : Bool := !g.idle && g.play.type == 0

/-- The byte of pattern RAM at which its next granule begins. -/
def Pg.granuleAt (g : Pg) : Nat := 64 * (g.play.start + g.play.len * (g.play.half.getD 0) + g.gran)

/-- What the read of a granule's words finds (R243, R302): `ram` says that it reads RAM, from the byte `at_` on. -/
def Dev.granuleEcc (d : Dev) (ram : Bool) (at_ : Nat) (ecc : Ecc) (word : Fin 16) : Dev :=
  let known := (List.range 16).find? fun j => d.isBad .pattern (at_ + 4 * j)
  let a := at_ + 4 * (known.getD word.val)
  if ram && (ecc == .ue || known.isSome) then (d.set F.PG_STAT_ECCU).eccEvent .pattern true 12 3 a
  else if ram && ecc == .ce then d.eccEvent .pattern false 12 3 a else d

theorem execPgGranuleStart_eq {s : State} (ecc : Ecc) (word : Fin 16) (hs : 2 ≤ s.dev.rd F.PG_STAT_STATE)
    (hg : s.dev.pg.gran < s.dev.pg.length) :
    execPgGranuleStart ecc word s = .next (s.put ((((s.dev.granuleTaken s.mem).granuleEcc s.dev.pg.fromRam s.dev.pg.granuleAt ecc word).pgHosts
      (s.dev.rd F.PG_BUILTIN_HALF) (s.dev.rd F.PG_BUILTIN_HI) (s.dev.rd F.PG_BUILTIN_LO)
      (s.dev.pg.granule s.mem (s.dev.rd F.PG_BUILTIN_HALF) (s.dev.rd F.PG_BUILTIN_HI) (s.dev.rd F.PG_BUILTIN_LO)).1).pgMarks)) := by
  refine lift_eq_put (if_neg ?_)
  simp only [Bool.or_eq_true, decide_eq_true_eq]
  omega

theorem granuleTaken_keeps {β : Type} (p : Pg → β) (hp : ∀ (g : Pg) a b, p { g with idleGen := a, gens := b } = p g)
    (hq : ∀ (g : Pg) a b c e, p { g with jump := a, gran := b, pos := c, recent := e } = p g) (d : Dev) (m : Memory) :
    p (d.granuleTaken m).pg = p d.pg := (hq _ _ _ _ _).trans (granule_keeps p hp _ _ _ _ _)

theorem pg_granuleEcc (d : Dev) (ram : Bool) (at_ : Nat) (ecc : Ecc) (word : Fin 16) : (d.granuleEcc ram at_ ecc word).pg = d.pg := by
  unfold Dev.granuleEcc
  dsimp only
  split
  · exact pg_eccEvent _ _ _ _ _ _
  · split
    · exact pg_eccEvent _ _ _ _ _ _
    · rfl

theorem rd_granuleEcc (d : Dev) (ram : Bool) (at_ : Nat) (ecc : Ecc) (word : Fin 16) {g : Fld} (c : Nat)
    (h : (F.PG_STAT_ECCU :: eccFields).all (fldNe g) = true) : (d.granuleEcc ram at_ ecc word).rd g c = d.rd g c := by
  rw [List.all_cons, Bool.and_eq_true] at h
  unfold Dev.granuleEcc
  dsimp only
  split
  · rw [rd_eccEvent _ _ _ _ _ _ _ h.2, set_eq_wr, rd_wr_fld _ _ _ _ _ _ h.1]
  · split
    · exact rd_eccEvent _ _ _ _ _ _ _ h.2
    · rfl

theorem eccu_granuleEcc_ue (d : Dev) (at_ : Nat) (word : Fin 16) : (d.granuleEcc true at_ .ue word).rd F.PG_STAT_ECCU = 1 := by
  unfold Dev.granuleEcc
  simp only [beq_self_eq_true, Bool.true_or, Bool.and_self, if_true]
  rw [rd_eccEvent _ _ _ _ _ _ _ (by decide), set_eq_wr, rd_wr_same]
  rfl

theorem eccu_granuleEcc_good {d : Dev} {ram : Bool} {at_ : Nat} {ecc : Ecc} (word : Fin 16)
    (h : ram = false ∨ ecc ≠ .ue ∧ ∀ j, j < 16 → d.isBad .pattern (at_ + 4 * j) = false) :
    (d.granuleEcc ram at_ ecc word).rd F.PG_STAT_ECCU = d.rd F.PG_STAT_ECCU := by
  have hc : (ram && (ecc == .ue || ((List.range 16).find? fun j => d.isBad .pattern (at_ + 4 * j)).isSome)) = false := by
    rcases h with rfl | ⟨he, hb⟩
    · rfl
    · have hnone : (List.range 16).find? (fun j => d.isBad .pattern (at_ + 4 * j)) = none :=
        List.find?_eq_none.mpr fun j hj => by simp only [hb j (List.mem_range.mp hj), Bool.false_eq_true, not_false_eq_true]
      rw [hnone, beq_eq_false_iff_ne.mpr he, Option.isSome_none, Bool.or_self, Bool.and_false]
  unfold Dev.granuleEcc
  simp only [hc, Bool.false_eq_true, if_false]
  split
  · exact rd_eccEvent _ _ _ _ _ _ _ (by decide)
  · rfl

theorem markerFields_ne (m : Fin 4) : (F.PG_STAT_ECCU :: eccFields).all (fldNe ((F.PG_MKCFG_EN).at m 8)) = true ∧
    (F.PG_STAT_ECCU :: eccFields).all (fldNe ((F.PG_MKOFS_OFS).at m 8)) = true := by
  revert m
  decide

/-- What a granule's start leaves (R243, R252): where it stands, ECCU, and the markers due. -/
theorem pgGranuleStart_starts {s : State} (ecc : Ecc) (word : Fin 16) (m : Fin 4) (hs : 2 ≤ s.dev.rd F.PG_STAT_STATE)
    (hg : s.dev.pg.gran < s.dev.pg.length) :
    ∃ t : Dev, execPgGranuleStart ecc word s = .next (s.put t) ∧ t.pg.gran = s.dev.pg.gran + 1 ∧ t.pg.pos = s.dev.pg.pos + 256 ∧
      (ecc = .ue → s.dev.pg.fromRam = true → t.rd F.PG_STAT_ECCU = 1) ∧
      (s.dev.pg.fromRam = false ∨ (ecc ≠ .ue ∧ ∀ j, j < 16 → s.dev.isBad .pattern (s.dev.pg.granuleAt + 4 * j) = false) →
        t.rd F.PG_STAT_ECCU = s.dev.rd F.PG_STAT_ECCU) ∧
      (s.dev.pg.idle = false → s.dev.on ((F.PG_MKCFG_EN).at m 8) = true → s.dev.pg.play.mark.testBit m = true →
        s.dev.rd ((F.PG_MKOFS_OFS).at m 8) / 256 = s.dev.pg.gran → t.pg.due.getD m false = true) := by
  refine ⟨_, execPgGranuleStart_eq ecc word hs hg, ?_⟩
  generalize he : (s.dev.granuleTaken s.mem).granuleEcc s.dev.pg.fromRam s.dev.pg.granuleAt ecc word = e
  generalize hh : e.pgHosts _ _ _ _ = t
  have hpg : e.pg = (s.dev.granuleTaken s.mem).pg := by rw [← he]; exact pg_granuleEcc _ _ _ _ _
  have hgran : t.pg.gran = s.dev.pg.gran + 1 := by rw [← hh, pgHosts_keeps (·.pg.gran) (fun _ _ _ => rfl) fun _ _ _ _ => rfl, hpg]; rfl
  have hpos : t.pg.pos = s.dev.pg.pos + 256 := by rw [← hh, pgHosts_keeps (·.pg.pos) (fun _ _ _ => rfl) fun _ _ _ _ => rfl, hpg]; rfl
  have hplay : (t.pg.idle, t.pg.play) = (s.dev.pg.idle, s.dev.pg.play) := by
    rw [← hh, pgHosts_keeps (fun d => (d.pg.idle, d.pg.play)) (fun _ _ _ => rfl) fun _ _ _ _ => rfl, hpg]
    exact granuleTaken_keeps (fun g => (g.idle, g.play)) (fun _ _ _ => rfl) (fun _ _ _ _ _ => rfl) _ _
  have hread : ∀ f, t.rd f = e.rd f := fun f => by rw [← hh]; exact pgHosts_keeps (·.rd f) (fun _ _ _ => rfl) (fun _ _ _ _ => rfl) _ _ _ _ _
  have hmarks : ∀ f, t.pgMarks.rd f = e.rd f := fun f => (pgMarks_keeps (·.rd f) (fun _ _ _ => rfl) t).trans (hread f)
  refine ⟨?gran, ?pos, fun hu hr => ?ue, fun hgood => ?good, fun hidle hen hmark hofs => ?due⟩
  case gran => exact (pgMarks_keeps (·.pg.gran) (fun _ _ _ => rfl) t).trans hgran
  case pos => exact (pgMarks_keeps (·.pg.pos) (fun _ _ _ => rfl) t).trans hpos
  case ue => rw [hmarks, ← he, hu, hr]; exact eccu_granuleEcc_ue _ _ _
  case good => rw [hmarks, ← he]; exact eccu_granuleEcc_good word hgood
  case due =>
    have hfield : ∀ f : Fld, (F.PG_STAT_ECCU :: eccFields).all (fldNe f) = true → t.rd f = s.dev.rd f := fun f hf => by
      rw [hread, ← he]; exact rd_granuleEcc _ _ _ _ _ _ hf
    obtain ⟨hi, hp⟩ := Prod.mk.inj hplay
    refine due_pgMarks m (hi.trans hidle) ?_ (by rw [hp]; exact hmark) ?_
    · rw [Dev.on, hfield _ (markerFields_ne m).1]; exact hen
    · rw [hfield _ (markerFields_ne m).2, hofs, hgran]

/-! ## The end of a play (R246 to R251) -/

/-- The device after the stream has stopped, before the host outputs send what their DELAY still holds. -/
def Dev.pgHalted (d : Dev) : Dev :=
  (((d.wr F.PG_STAT_STATE 0 0).clr F.PG_CTL_STOP).clr F.PG_JMP_REQ).mapPg fun p =>
    { p with jump := none, stopReq := false, idle := false, gran := 0, hostSyms := p.hostWait, hostWait := Vector.replicate 16 [] }

/-- Beyond that a stop does what one host output after another does when it sends its last symbols and goes to electrical idle. -/
theorem pgStop_keeps {β : Type} (p : Dev → β) (h : ∀ (e : Dev) n l, p ((e.hostSend n l true).hostState n 0) = p e) (d : Dev) :
    p d.pgStop = p d.pgHalted := by
  unfold Dev.pgStop
  dsimp only
  split
  · split
    · exact foldl_keeps p (fun e n => h e n _) _ d.pgHalted
    · rfl
  · rfl

theorem rd_pgStop (d : Dev) {g : Fld} (c : Nat) (h : fldNe g F.HL_STAT_HTXIDLE = true) : d.pgStop.rd g c = d.pgHalted.rd g c :=
  pgStop_keeps (fun e => e.rd g c) (fun e n l => hostState_rd (e.hostSend n l true) n 0 g c h) d

theorem pg_hostState (d : Dev) (n st : Nat) : (d.hostState n st).pg = d.pg := by
  unfold Dev.hostState
  split <;> rfl

theorem pg_pgStop (d : Dev) : d.pgStop.pg = d.pgHalted.pg := pgStop_keeps Dev.pg (fun e n l => pg_hostState (e.hostSend n l true) n 0) d

/-- A stopped stream is IDLE, with no STOP and no jump asked for (R247); PLAY_COUNT stands. -/
theorem pgStop_halts (d : Dev) : d.pgStop.rd F.PG_STAT_STATE = 0 ∧ d.pgStop.rd F.PG_CTL_STOP = 0 ∧ d.pgStop.rd F.PG_JMP_REQ = 0 ∧
    d.pgStop.rd F.PG_PLAY_COUNT = d.rd F.PG_PLAY_COUNT ∧ d.pgStop.pg.jump = none := by
  rw [pg_pgStop, rd_pgStop _ _ (by decide), rd_pgStop _ _ (by decide), rd_pgStop _ _ (by decide), rd_pgStop _ _ (by decide)]
  simp +decide only [Dev.pgHalted, Dev.rd_mapPg, clr_eq_wr, rd_wr_fld, rd_wr_same, Nat.zero_mod, Dev.mapPg_pg, and_self]

/-- The plays of the present visit once the one in progress is counted. -/
def Dev.plays (d : Dev) : Nat := satN (2 ^ 32 - 1) (d.rd F.PG_PLAY_COUNT + 1)

/-- The device with the play in progress over: its half is done and it is counted. -/
def Dev.playOver (d : Dev) : Dev := (d.pgHalfDone d.pg.play).wr F.PG_PLAY_COUNT 0 d.plays

theorem playOver_pg (d : Dev) : d.playOver.pg.stopReq = d.pg.stopReq ∧ d.playOver.pg.jump = d.pg.jump := by
  unfold Dev.playOver Dev.pgHalfDone
  split <;> exact ⟨rfl, rfl⟩

section
variable {d : Dev} (go : Dev → Dev)

theorem pgAfter_stop (h : d.pg.stopReq = true) : d.pgAfter go = d.pgStop := if_pos h

theorem pgAfter_plain (h : d.pg.stopReq = false) (hj : d.pg.jump = none) : d.pgAfter go = go d := by
  simp only [Dev.pgAfter, h, hj, Bool.false_eq_true, if_false]

theorem pgAfter_jump {i : Nat} (h : d.pg.stopReq = false) (hj : d.pg.jump = some (0, i)) :
    d.pgAfter go = ((d.clr F.PG_JMP_REQ).mapPg fun g => { g with jump := none }).pgBegin i true false := by
  simp only [Dev.pgAfter, h, hj, Bool.false_eq_true, if_false]

end

/-- What follows a play that is over: the entry again, the next one, or the end of the stream (R246). -/
def Play.following (p : Play) (n : Nat) (e : Dev) : Dev :=
  if p.loop = 0 || n < p.loop then e.pgBegin p.entry false false
  else if p.stop then e.pgStop
  else e.pgBegin p.next true false

theorem following_again {p : Play} {n : Nat} (h : p.loop = 0 ∨ n < p.loop) (e : Dev) : p.following n e = e.pgBegin p.entry false false :=
  if_pos (by simpa only [Bool.or_eq_true, decide_eq_true_eq] using h)

theorem following_last {p : Play} {n : Nat} (h : p.loop ≠ 0) (hn : p.loop ≤ n) (e : Dev) :
    p.following n e = if p.stop then e.pgStop else e.pgBegin p.next true false :=
  if_neg (by simp only [Bool.or_eq_true, decide_eq_true_eq]; omega)

theorem following_end {p : Play} {n : Nat} (h : p.loop ≠ 0) (hn : p.loop ≤ n) (hp : p.stop = true) (e : Dev) :
    p.following n e = e.pgStop := (following_last h hn e).trans (if_pos hp)

theorem following_next {p : Play} {n : Nat} (h : p.loop ≠ 0) (hn : p.loop ≤ n) (hp : p.stop = false) (e : Dev) :
    p.following n e = e.pgBegin p.next true false := (following_last h hn e).trans (if_neg (by rw [hp]; decide))

section
variable {s : State}

theorem pgPlayEnd_early (h : s.dev.pg.gran < s.dev.pg.length) : execPgPlayEnd s = .next s :=
  lift_eq_self (if_pos (by simp only [h, decide_true, Bool.or_true]))

variable (hs : 2 ≤ s.dev.rd F.PG_STAT_STATE) (hg : s.dev.pg.length ≤ s.dev.pg.gran)
include hs hg

theorem execPgPlayEnd_eq : execPgPlayEnd s = .next (s.put (if s.dev.pg.idle then
    s.dev.pgAfter fun e => e.pgBegin s.dev.pg.play.entry false true
    else s.dev.playOver.pgAfter (s.dev.pg.play.following s.dev.plays))) := by
  refine lift_eq_put (if_neg ?_)
  simp only [Bool.or_eq_true, decide_eq_true_eq]
  omega

/-- A stall without a request goes on (R251). -/
theorem pgPlayEnd_stalled (hi : s.dev.pg.idle = true) (hstop : s.dev.pg.stopReq = false) (hj : s.dev.pg.jump = none) :
    execPgPlayEnd s = .next (s.put (s.dev.pgBegin s.dev.pg.play.entry false true)) := by
  rw [execPgPlayEnd_eq hs hg, if_pos hi, pgAfter_plain _ hstop hj]

theorem pgPlayEnd_stop (hi : s.dev.pg.idle = false) (hstop : s.dev.pg.stopReq = true) :
    execPgPlayEnd s = .next (s.put s.dev.playOver.pgStop) := by
  rw [execPgPlayEnd_eq hs hg, hi, if_neg Bool.false_ne_true, pgAfter_stop _ ((playOver_pg s.dev).1.trans hstop)]

theorem pgPlayEnd_follows {t : Dev} (hi : s.dev.pg.idle = false) (hstop : s.dev.pg.stopReq = false) (hj : s.dev.pg.jump = none)
    (ht : s.dev.pg.play.following s.dev.plays s.dev.playOver = t) : execPgPlayEnd s = .next (s.put t) := by
  obtain ⟨hs1, hj1⟩ := playOver_pg s.dev
  rw [execPgPlayEnd_eq hs hg, hi, if_neg Bool.false_ne_true, pgAfter_plain _ (hs1.trans hstop) (hj1.trans hj), ht]

theorem pgPlayEnd_jump {i : Nat} (hi : s.dev.pg.idle = false) (hstop : s.dev.pg.stopReq = false) (hj : s.dev.pg.jump = some (0, i)) :
    execPgPlayEnd s = .next (s.put (((s.dev.playOver.clr F.PG_JMP_REQ).mapPg fun g => { g with jump := none }).pgBegin i true false)) := by
  obtain ⟨hs1, hj1⟩ := playOver_pg s.dev
  rw [execPgPlayEnd_eq hs hg, hi, if_neg Bool.false_ne_true, pgAfter_jump _ (hs1.trans hstop) (hj1.trans hj)]

end

/-! ## Markers (R252) -/

/-- A due marker raised: it is due no more, and falls WIDTH × 64 UI after its symbol has left the reference output. -/
def Dev.markRaised (d : Dev) (m : Nat) : Dev := d.mapPg fun g =>
  { g with due := vset g.due m (fun _ => false), high := vset g.high m (fun _ => true),
           mkEnd := vset g.mkEnd m fun _ => g.mkSym.getD m 0 + (d.markSpan m).1 + (d.markSpan m).2 }

section
variable {s : State} {m : Fin 4}

theorem markerPulse_notDue (h : s.dev.pg.due.getD m false = false) : execMarkerPulse m s = .next s :=
  lift_eq_self (if_pos (by rw [h]; rfl))

theorem execMarkerPulse_due (h : s.dev.pg.due.getD m false = true) : execMarkerPulse m s = .next (s.put
    (if s.dev.pg.high.getD m false then (s.dev.markRaised m).set F.PG_STAT_MKMERGE
      else (s.dev.markRaised m).fifoPush 4 m (s.dev.rd F.TU_FIFOCTL_TB) 0)) :=
  lift_eq_put (if_neg (by rw [h]; decide))

theorem markerPulse_raises (h : s.dev.pg.due.getD m false = true) (hh : s.dev.pg.high.getD m false = false) :
    execMarkerPulse m s = .next (s.put ((s.dev.markRaised m).fifoPush 4 m (s.dev.rd F.TU_FIFOCTL_TB) 0)) := by
  rw [execMarkerPulse_due h, hh, if_neg Bool.false_ne_true]

theorem markerPulse_merges (h : s.dev.pg.due.getD m false = true) (hh : s.dev.pg.high.getD m false = true) :
    execMarkerPulse m s = .next (s.put ((s.dev.markRaised m).set F.PG_STAT_MKMERGE)) := by
  rw [execMarkerPulse_due h, if_pos hh]

theorem markerPulseEnd_lowers (h : s.dev.rd F.PG_STAT_STATE < 2 ∨ s.dev.pg.mkEnd.getD m 0 ≤ s.dev.pg.pos) :
    execMarkerPulseEnd m s = .next (s.put (s.dev.mapPg fun g => { g with high := vset g.high m fun _ => false })) := by
  refine lift_eq_put (if_neg ?_)
  simp only [Bool.and_eq_true, decide_eq_true_eq]
  omega

end

/-! ## The calibration of SYNC (R257) -/

theorem pg_arrival (d : Dev) (ph : Nat) : (d.arrival ph).pg = d.pg := by
  unfold Dev.arrival
  dsimp only
  split <;> rfl

theorem pg_cell (d : Dev) (type : Nat) (body : List Byte) : (d.cell type body).pg = d.pg := by
  unfold Dev.cell
  dsimp only
  split <;> rfl

theorem pg_respond (d : Dev) (src : Src) (op : Nat) (st : Status) (p : List Byte) : (d.respond src op st p).pg = d.pg := by
  cases src with
  | twin seq => exact iter_keeps Dev.pg (fun _ e _ => pg_cell e _ _) _
  | _ => rfl

theorem pg_settle (d : Dev) (f : Accepted → Option (Status × List Byte)) : (d.settle f).pg = d.pg :=
  settle_keeps Dev.pg (fun e a _ _ => pg_respond (e.unlist a) _ _ _ _) f d

/-- One of the owed edges is made, with its round trip. -/
def Dev.calEdge (d : Dev) (rt : BitVec 16) : Dev :=
  (d.arrival ((d.rd F.PG_SYNCCTL_LAUNCH + rt.toNat) % 64)).mapPg fun g =>
    { g with calLeft := d.pg.calLeft - 1, edges := g.edges + 1, trips := d.pg.trips ++ [rt.toNat] }

/-- The calibration's end: RT reports the mean round trip, LAUNCH takes its value, and the command that waits completes. -/
def Dev.calEnd (d : Dev) (mean : Nat) : Dev :=
  let e := (((d.wr F.PG_SYNCSTAT_RT 0 mean).wr F.PG_SYNCCTL_LAUNCH 0 ((32 + 64 - mean % 64) % 64)).set
    F.PG_SYNCSTAT_CALDONE).clr F.PG_SYNCCTL_CAL
  e.settleWait .patCal .ok (be 2 mean ++ be 1 (e.rd F.PG_SYNCSTAT_ARRPH))

theorem pg_calEnd (d : Dev) (mean : Nat) : (d.calEnd mean).pg = d.pg := pg_settle _ _

theorem calEnd_rd (d : Dev) (mean : Nat) : (d.calEnd mean).rd F.PG_SYNCSTAT_CALDONE = 1 ∧ (d.calEnd mean).rd F.PG_SYNCCTL_CAL = 0 := by
  unfold Dev.calEnd Dev.settleWait
  dsimp only
  rw [rd_settle _ _ _ (by decide), rd_settle _ _ _ (by decide)]
  simp +decide only [clr_eq_wr, set_eq_wr, rd_wr_fld, rd_wr_same, and_self]

section
variable {s : State} (rt : BitVec 16)

theorem syncCalEdge_unowed (h : s.dev.pg.calLeft = 0) : execSyncCalEdge rt s = .next s := lift_eq_self (if_pos h)

/-- Once a calibration is under way an edge is counted, and the last of them ends it. -/
theorem execSyncCalEdge_owed (h : s.dev.pg.calLeft ≠ 0) : execSyncCalEdge rt s = .next (s.put
    (if s.dev.pg.calLeft ≠ 1 then s.dev.calEdge rt
      else (s.dev.calEdge rt).calEnd (rneDiv ((s.dev.pg.trips ++ [rt.toNat]).foldl (· + ·) 0 : Nat) 16).toNat)) := by
  refine lift_eq_put ((if_neg h).trans ?_)
  simp only [Dev.calEdge, Dev.calEnd, Dev.mapPg, pg_arrival]

theorem syncCalEdge_counts (h : 1 < s.dev.pg.calLeft) : execSyncCalEdge rt s = .next (s.put (s.dev.calEdge rt)) := by
  rw [execSyncCalEdge_owed rt (by omega), if_pos (by omega)]

theorem syncCalEdge_last (h : s.dev.pg.calLeft = 1) : ∃ t : Dev, execSyncCalEdge rt s = .next (s.put t) ∧ t.pg.calLeft = 0 ∧
    t.rd F.PG_SYNCSTAT_CALDONE = 1 ∧ t.rd F.PG_SYNCCTL_CAL = 0 := by
  refine ⟨_, (execSyncCalEdge_owed rt (by omega)).trans (by rw [if_neg (not_not.mpr h)]), ?_, calEnd_rd _ _⟩
  rw [pg_calEnd, Dev.calEdge, Dev.mapPg_pg, h]

end

/-- Settles O32: one lemma per event and case. -/
theorem patternEvents : Obligations.PatternEvents := by
  intro s m
  refine ⟨fun ecc word hs hg => pgGranuleStart_starts ecc word m hs hg, pgPlayEnd_early, ?play, ?mark, markerPulseEnd_lowers,
    fun rt => ⟨syncCalEdge_unowed rt, syncCalEdge_counts rt, syncCalEdge_last rt⟩⟩
  case mark => exact ⟨markerPulse_raises, markerPulse_merges, markerPulse_notDue⟩
  case play =>
    intro n p y hs hg
    refine ⟨pgPlayEnd_stalled hs hg, fun hi => ⟨fun hstop => ?stop,
      fun hstop hj => ⟨fun h => ?again, fun h hn hp => ?next, fun h hn hp => ?last⟩, fun i => pgPlayEnd_jump hs hg hi⟩⟩
    case stop =>
      obtain ⟨hst, hctl, hreq, hcount, hjump⟩ := pgStop_halts s.dev.playOver
      exact ⟨pgPlayEnd_stop hs hg hi hstop, hst, hctl, hreq, hcount.trans (rd_wr_same _ _ _ _), hjump⟩
    case again => exact pgPlayEnd_follows hs hg hi hstop hj (following_again h _)
    case next => exact pgPlayEnd_follows hs hg hi hstop hj (following_next h hn hp _)
    case last => exact pgPlayEnd_follows hs hg hi hstop hj (following_end h hn hp _)

end Sys2Proof.Machine

/-! PROOFS. Chapter 11, the management interface: the CRC and the frames of the quad SPI port. -/

namespace Sys2Proof.Machine

/-! ## CRC-16/CCITT (R272) -/

/-- The CRC register after a bit string, from a value on. -/
def crcBits (c : Nat) (l : List Bool) : Nat := l.foldl (crcStep 16 0x1021) c

theorem crcBits_append (c : Nat) (l m : List Bool) : crcBits c (l ++ m) = crcBits (crcBits c l) m := List.foldl_append

theorem crc16_append (l m : List Byte) : crc16 (l ++ m) = crcBits (crc16 l) (bytesBits m) := by
  unfold crc16 bytesBits
  rw [List.flatMap_append]
  exact crcBits_append _ _ _

/-- One bit by comparison of the bit shifted out and the data bit. -/
theorem crcStep_eq (c n i : Nat) : crcStep 16 0x1021 c (n.testBit i) =
    if c / 2 ^ 15 % 2 = n / 2 ^ i % 2 then 2 * c % 2 ^ 16 else (2 * c % 2 ^ 16) ^^^ 0x1021 := by
  unfold crcStep
  simp only [Nat.testBit_eq_decide_div_mod_eq, Nat.reduceSub]
  have hc := Nat.mod_two_eq_zero_or_one (c / 2 ^ 15)
  have hn := Nat.mod_two_eq_zero_or_one (n / 2 ^ i)
  generalize c / 2 ^ 15 % 2 = p at hc ⊢
  generalize n / 2 ^ i % 2 = q at hn ⊢
  rcases hc with rfl | rfl <;> rcases hn with rfl | rfl <;> rfl

/-- Settles O11: a byte's eight bits go through the register one by one, the most significant first. -/
theorem crcOfR272 : Obligations.CrcOfR272 := by
  refine ⟨rfl, fun l b => ?_, by decide +kernel⟩
  rw [crc16_append]
  simp only [crcBits, bytesBits, List.flatMap_cons, List.flatMap_nil, List.append_nil, bitsMsb, List.foldl_cons, List.foldl_nil, crcStep_eq]

/-! ## Single-bit errors

A step loses nothing: the lowest bit of its result tells whether the polynomial was added, and so what was shifted in. -/

theorem crcStep_lt (c : Nat) (b : Bool) : crcStep 16 0x1021 c b < 2 ^ 16 := by
  have h : 2 * c % 2 ^ 16 < 2 ^ 16 := Nat.mod_lt _ (by decide)
  dsimp only [crcStep]
  split
  · exact Nat.xor_lt_two_pow h (by decide)
  · exact h

theorem testBit_zero_crcStep (c : Nat) (b : Bool) : (crcStep 16 0x1021 c b).testBit 0 = (c.testBit 15 != b) := by
  have h : (2 * c % 2 ^ 16).testBit 0 = false := by rw [Nat.testBit_mod_two_pow, Nat.testBit_zero]; simp
  dsimp only [crcStep]
  cases c.testBit (16 - 1) != b
  · exact h
  · rw [if_pos rfl, Nat.testBit_xor, h]
    rfl

/-- Equal results come from equal registers shifted by bits that meet the registers' top bits in the same way. -/
theorem shift_eq_of_crcStep_eq {c c' : Nat} {b b' : Bool} (h : crcStep 16 0x1021 c b = crcStep 16 0x1021 c' b') :
    2 * c % 2 ^ 16 = 2 * c' % 2 ^ 16 ∧ (c.testBit 15 != b) = (c'.testBit 15 != b') := by
  have ht := congrArg (Nat.testBit · 0) h
  simp only [testBit_zero_crcStep] at ht
  refine ⟨?_, ht⟩
  unfold crcStep at h
  simp only [Nat.reduceSub, ht] at h
  split at h
  · exact Nat.xor_left_injective h
  · exact h

theorem crcStep_injective {c c' : Nat} {b : Bool} (hc : c < 2 ^ 16) (hc' : c' < 2 ^ 16)
    (h : crcStep 16 0x1021 c b = crcStep 16 0x1021 c' b) : c = c' := by
  obtain ⟨hs, ht⟩ := shift_eq_of_crcStep_eq h
  have hb : c.testBit 15 = c'.testBit 15 := by simpa using ht
  rw [Nat.testBit_eq_decide_div_mod_eq, Nat.testBit_eq_decide_div_mod_eq, decide_eq_decide] at hb
  omega

theorem crcStep_flip (c : Nat) (b : Bool) : crcStep 16 0x1021 c b ≠ crcStep 16 0x1021 c (!b) := by
  intro h
  have ht := (shift_eq_of_crcStep_eq h).2
  cases b <;> simp at ht

theorem crcBits_injective {c c' : Nat} (l : List Bool) (hc : c < 2 ^ 16) (hc' : c' < 2 ^ 16) (h : crcBits c l = crcBits c' l) : c = c' := by
  induction l generalizing c c' with
  | nil => exact h
  | cons b t ih => exact crcStep_injective hc hc' (ih (crcStep_lt c b) (crcStep_lt c' b) h)

theorem crcBits_lt {c : Nat} (l : List Bool) (hc : c < 2 ^ 16) : crcBits c l < 2 ^ 16 := by
  induction l generalizing c with
  | nil => exact hc
  | cons b t ih => exact ih (crcStep_lt c b)

theorem bitsMsb_congr {n v w : Nat} (h : ∀ j < n, w.testBit j = v.testBit j) : bitsMsb n w = bitsMsb n v := by
  induction n with
  | zero => rfl
  | succ n ih => rw [bitsMsb, bitsMsb, h n (Nat.lt_succ_self n), ih fun j hj => h j (Nat.lt_succ_of_lt hj)]

/-- Numbers that differ in one of the bits sent leave different registers. -/
theorem crcBits_flip (c : Nat) {n k v w : Nat} (hk : k < n) (h : ∀ j < n, w.testBit j = (v.testBit j != decide (j = k))) :
    crcBits c (bitsMsb n v) ≠ crcBits c (bitsMsb n w) := by
  induction n generalizing c with
  | zero => exact absurd hk (Nat.not_lt_zero k)
  | succ n ih =>
    have hn := h n (Nat.lt_succ_self n)
    intro he
    rcases Nat.lt_succ_iff_lt_or_eq.mp hk with hlt | rfl
    · rw [decide_eq_false hlt.ne', Bool.bne_false] at hn
      simp only [bitsMsb, crcBits, List.foldl_cons, hn] at he
      exact ih _ hlt (fun j hj => h j (Nat.lt_succ_of_lt hj)) he
    · have hrest : bitsMsb k w = bitsMsb k v := bitsMsb_congr fun j hj => by
        rw [h j (Nat.lt_succ_of_lt hj), decide_eq_false hj.ne, Bool.bne_false]
      rw [decide_eq_true rfl, Bool.bne_true] at hn
      simp only [bitsMsb, crcBits, List.foldl_cons, hn, hrest] at he
      exact crcStep_flip c _ (crcBits_injective _ (crcStep_lt _ _) (crcStep_lt _ _) he)

theorem testBit_flip (x : Byte) (b : Fin 8)  (j : Nat) (_ : j < 8) :
    (x ^^^ (1 <<< b.val)).toNat.testBit j = (x.toNat.testBit j != decide (j = b.val)) := by
  have hb : (1 <<< b.val : Nat) < 2 ^ 8 := by
    rw [Nat.one_shiftLeft]
    exact Nat.pow_lt_pow_right (by decide) b.isLt
  rw [BitVec.toNat_xor, Nat.testBit_xor, BitVec.natCast_eq_ofNat, BitVec.toNat_ofNat, Nat.mod_eq_of_lt hb, Nat.one_shiftLeft,
    Nat.testBit_two_pow]
  simp only [eq_comm (a := b.val), Bool.bne_eq_xor]

/-- A byte string with one bit inverted has another CRC. -/
theorem crc16_set_flip (l : List Byte) {i : Nat} (b : Fin 8) (hi : i < l.length) :
    crc16 (l.set i (l.getD i 0 ^^^ (1 <<< b.val))) ≠ crc16 l := by
  intro he
  have hl : l = l.take i ++ [l.getD i 0] ++ l.drop (i + 1) := by
    rw [List.append_assoc, List.singleton_append, List.getD_eq_getElem _ _ hi, List.getElem_cons_drop, List.take_append_drop]
  have hs : l.set i (l.getD i 0 ^^^ (1 <<< b.val)) = l.take i ++ [l.getD i 0 ^^^ (1 <<< b.val)] ++ l.drop (i + 1) := by
    rw [List.set_eq_take_append_cons_drop, if_pos hi, List.append_assoc, List.singleton_append]
  rw [hs] at he
  conv_rhs at he => rw [hl]
  rw [crc16_append, crc16_append, crc16_append (l.take i ++ [l.getD i 0]), crc16_append (l.take i)] at he
  have hc : crc16 (l.take i) < 2 ^ 16 := crcBits_lt _ (by decide)
  refine crcBits_flip (crc16 (l.take i)) b.isLt (testBit_flip (l.getD i 0) b) ?_
  simpa [bytesBits] using (crcBits_injective _ (crcBits_lt _ hc) (crcBits_lt _ hc) he).symm

/-! ## Request frames (R264, R271, R273) -/

theorem fieldAt_set (l : List Byte) {i o n : Nat} (x : Byte) (h : o + n ≤ i) : fieldAt (l.set i x) o n = fieldAt l o n := by
  unfold fieldAt bytesAt
  rw [List.drop_set, if_neg (by omega), List.take_set_of_le (by omega)]

/-- What step 1 of R273 asks of a frame. -/
theorem frameOk_iff (fr : List Byte) : frameOk fr = true ↔
    fr.length = 8 + fieldAt fr 4 2 ∧ crc16 (fr.take 6 ++ fr.drop 8) = fieldAt fr 6 2 ∧ fieldAt fr 3 1 = 0 := by
  simp only [frameOk, Bool.and_eq_true, beq_iff_eq, and_assoc]

/-- A good frame with one bit of its payload inverted is no good frame. -/
theorem not_frameOk_flip {fr : List Byte} {i : Nat} (b : Fin 8) (h : frameOk fr = true) (hi : 8 ≤ i) (hl : i < fr.length) :
    ¬ frameOk (fr.set i (fr.getD i 0 ^^^ (1 <<< b.val))) = true := by
  rw [frameOk_iff] at h ⊢
  obtain ⟨-, hcrc, -⟩ := h
  rintro ⟨-, hflip, -⟩
  have hlen : (fr.take 6).length = 6 := List.length_take_of_le (by omega)
  have hat : (fr.take 6 ++ fr.drop 8).getD (i - 2) 0 = fr.getD i 0 := by
    rw [List.getD_append_right _ _ _ _ (by omega), hlen, List.getD_eq_getElem?_getD, List.getElem?_drop,
      show 8 + (i - 2 - 6) = i by omega, List.getD_eq_getElem?_getD]
  refine crc16_set_flip (fr.take 6 ++ fr.drop 8) (i := i - 2) b (by simp; omega) ?_
  rw [hat, List.set_append_right _ _ (by omega), hlen, show i - 2 - 6 = i - 8 by omega]
  rw [fieldAt_set _ _ (by omega), List.take_set_of_le (by omega), List.drop_set, if_neg (by omega)] at hflip
  exact hflip.trans hcrc.symm

section
variable {s : State} {fr : List Byte}

theorem kciWrite_down (h : s.dev.spiUp = false) : execKciWrite fr s = .next (s.put (s.dev.drive [])) := by
  simp only [execKciWrite, h, Bool.not_false, if_true, lift_put]

/-- A write with 8 responses waiting, or of fewer than 8 bytes, is discarded (R264). -/
theorem kciWrite_discarded (h : s.dev.spiUp = true) (hd : 8 ≤ s.dev.mgmt.rspq.length ∨ fr.length < 8) :
    execKciWrite fr s = .next (s.put (s.dev.mapMgmt fun m => { m with reqdrop := true })) := by
  have hd' : (decide (8 ≤ s.dev.mgmt.rspq.length) || decide (fr.length < 8)) = true := by simpa using hd
  simp only [execKciWrite, h, Bool.not_true, Bool.false_eq_true, if_false, hd', if_true, lift_put]

variable (h : s.dev.spiUp = true) (hq : s.dev.mgmt.rspq.length < 8) (hl : 8 ≤ fr.length)
include h hq hl

theorem kciWrite_taken : execKciWrite fr s = runFrame (.spi (fr.getD 2 0)) fr s := by
  simp only [execKciWrite, h, decide_eq_false (Nat.not_le.mpr hq), decide_eq_false (Nat.not_lt.mpr hl), Bool.not_true, Bool.or_false,
    Bool.false_eq_true, if_false]

theorem kciWrite_runs (hf : frameOk fr = true) :
    execKciWrite fr s = runRequest (.spi (fr.getD 2 0)) (fieldAt fr 0 2) (fr.drop 8) s :=
  (kciWrite_taken h hq hl).trans (if_pos hf)

theorem kciWrite_badFrame (hf : ¬ frameOk fr = true) : execKciWrite fr s =
    .next (s.put ((s.dev.respond (.spi (fr.getD 2 0)) (fieldAt fr 0 2) .badParam []).inc F.GLB_KCICNT_CRCERR)) :=
  (kciWrite_taken h hq hl).trans (if_neg hf)

end

/-- Settles O7: the inverted bit changes the CRC, and neither the header nor the CRC field. -/
theorem singleBitErrors : Obligations.SingleBitErrors := by
  intro s fr i b h hq hl hlen hflags hcrc hi hil
  have hf : frameOk fr = true := (frameOk_iff fr).mpr ⟨hlen, hcrc, hflags⟩
  refine ⟨kciWrite_runs h hq hl hf, ?_⟩
  have hseq : (fr.set i (fr.getD i 0 ^^^ (1 <<< b.val))).getD 2 0 = fr.getD 2 0 := by
    rw [List.getD_eq_getElem?_getD, List.getElem?_set_ne (show i ≠ 2 by omega), List.getD_eq_getElem?_getD]
  have hbad := kciWrite_badFrame h hq (fr := fr.set i (fr.getD i 0 ^^^ (1 <<< b.val))) (by rwa [List.length_set])
    (not_frameOk_flip b hf hi hil)
  rwa [fieldAt_set _ _ (by omega), hseq] at hbad

/-! ## The response queue (R264) -/

theorem rspq_respond_spi {d : Dev} (h : d.mgmt.rspq.length < 8) (seq : Byte) (op : Nat) (st : Status) (p : List Byte) :
    (d.respond (.spi seq) op st p).mgmt.rspq = d.mgmt.rspq ++ [rspFrame op seq st p] := by
  simp only [Dev.respond, Dev.mapMgmt_mgmt, Mgmt.pushRsp, if_pos h]

section
variable {s : State}

theorem kciRead_down (h : s.dev.spiUp = false) (w : Bool) : execKciRead w s = .next (s.put (s.dev.drive [])) :=
  lift_eq_put (by simp only [h, Bool.not_false, if_true])

variable (h : s.dev.spiUp = true)
include h

theorem kciRead_empty (hq : s.dev.mgmt.rspq = []) (w : Bool) : execKciRead w s = .next (s.put (s.dev.drive emptyFrame)) :=
  lift_eq_put (by simp only [h, hq, Bool.not_true, Bool.false_eq_true, if_false])

/-- A whole read takes the oldest response, and a response that waits for a place joins the queue's end. -/
theorem kciRead_whole {fr : List Byte} {t : List (List Byte)} (hq : s.dev.mgmt.rspq = fr :: t) : execKciRead true s =
    .next (s.put ((s.dev.drive fr).mapMgmt fun m => { m with rspq := t ++ m.rsphold.take 1, rsphold := m.rsphold.drop 1 })) :=
  lift_eq_put (by simp only [h, hq, Bool.not_true, Bool.false_eq_true, if_false, if_true])

theorem kciRead_cutShort {fr : List Byte} {t : List (List Byte)} (hq : s.dev.mgmt.rspq = fr :: t) :
    execKciRead false s = .next (s.put (s.dev.drive fr)) :=
  lift_eq_put (by simp only [h, hq, Bool.not_true, Bool.false_eq_true, if_false])

end

/-- Settles O10: what joins the queue, what leaves it, and what finds it full. -/
theorem responseQueue : Obligations.ResponseQueue := by
  intro s h
  exact ⟨fun seq op st p hq => rspq_respond_spi hq seq op st p, fun _ _ hq => ⟨kciRead_whole h hq, kciRead_cutShort h hq⟩,
    fun w hq => kciRead_empty h hq w, fun _ hq => kciWrite_discarded h (.inl hq.ge)⟩

end Sys2Proof.Machine

/-! PROOFS. Chapter 11, the management interface: KCI requests, the record stream and the legacy window. -/

namespace Sys2Proof.Machine

/-! ## KCI requests (R271, R273) -/

section
variable {s : State} (h : s.dev.phase = .fw)
include h

theorem runRequest_known {src : Src} {op : Nat} {p : List Byte} {cls : Cls} {rule : LenRule} {act : Src → List Byte → Act}
    (hk : kciRow op = some (cls, rule)) (hr : (requestTable.find? fun r => r.1 == op) = some (op, act)) :
    runRequest src op p s = if rule.fits p then act src p s else .next (s.put (s.dev.respond src op .badParam [])) := by
  unfold runRequest
  rw [h, hk, hr]
  simp [refuseRequest, lift_put]

theorem runRequest_unknown {src : Src} {op : Nat} {p : List Byte} (hk : kciRow op = none) :
    runRequest src op p s = .next (s.put (s.dev.respond src op .unsupported [])) := by
  unfold runRequest
  rw [h, hk]
  rfl

end

/-- Every command has a class, a length rule and a request table. -/
theorem requestTable_opcodes : requestTable.map (fun r => r.1) = kciTable.map (fun r => r.1) := rfl

/-! ## STATUS and EXPORT_READ (R262, R320) -/

section
variable {s : State}

theorem status_down (h : s.dev.spiUp = false) : execStatus s = .next (s.put (s.dev.drive [])) :=
  lift_eq_put (by simp only [h, Bool.not_false, if_true])

theorem status_drives (h : s.dev.spiUp = true) : execStatus s =
    .next (s.put ((s.dev.drive [BitVec.ofNat 8 s.dev.spiStatus]).mapMgmt fun m => { m with reqdrop := false })) :=
  lift_eq_put (by simp only [h, Bool.not_true, Bool.false_eq_true, if_false])

variable (w : Bool)

theorem exportRead_down (h : s.dev.spiUp = false) : execExportRead w s = .next (s.put (s.dev.drive [])) :=
  lift_eq_put (by simp only [h, Bool.not_false, if_true])

theorem exportRead_noSession (h : s.dev.spiUp = true) (hs : s.dev.pot.session = none) :
    execExportRead w s = .next (s.put (s.dev.drive (exportChunk 0 4 []))) :=
  lift_eq_put (by simp only [h, hs, Bool.not_true, Bool.false_eq_true, if_false])

variable {q : Session} (h : s.dev.spiUp = true) (hs : s.dev.pot.session = some q) (hf : s.dev.fwRun = true) (hp : s.dev.potReady = true)
include h hs hf hp

/-- After a read that was cut short the same chunk comes again. -/
theorem exportRead_again {c : List Byte} (ha : q.again = some c) : execExportRead w s = .next (s.put ((s.dev.drive c).mapPot fun p =>
    { p with session := some { q with again := if w then none else some c } })) :=
  lift_eq_put (by simp only [h, hs, hf, hp, ha, Bool.not_true, Bool.or_self, Bool.false_eq_true, if_false])

theorem exportRead_record (ha : q.again = none) (hm : q.mode = 0) :
    let r := q.nextRecord s.dev.pot.records
    let c := exportChunk q.chunk r.1 r.2.1
    execExportRead w s = .next (s.put ((s.dev.drive c).mapPot fun p =>
      { p with session := some { r.2.2 with chunk := q.chunk + 1, again := if w then none else some c } })) :=
  lift_eq_put (by simp only [h, hs, hf, hp, ha, hm, Bool.not_true, Bool.or_self, Bool.false_eq_true, if_false, if_true])

end

/-! ## The legacy window (R291 to R293) -/

section
variable {s : State} (addr data : BitVec 16)

theorem legOn_drive (d : Dev) (l : List Byte) : (d.drive l).legOn = d.legOn := rfl

theorem legOn_down {d : Dev} (h : d.spiUp = false) : d.legOn = false := by
  unfold Dev.legOn
  rw [h]
  rfl

theorem legWrite_down (h : s.dev.spiUp = false) : execLegWrite addr data s = .next (s.put (s.dev.drive [])) :=
  lift_eq_put (by simp only [legOn_drive, legOn_down h, Bool.not_false, if_true])

theorem legRead_down (h : s.dev.spiUp = false) : execLegRead addr s = .next (s.put (s.dev.drive [])) :=
  lift_eq_put (by simp only [legOn_down h, Bool.not_false, if_true])

/-- A legacy write joins the queue, and its value takes the place of the cached one. -/
def Dev.legPosted (d : Dev) (addr data : Nat) : Dev := ((d.drive []).mapMgmt fun m => { m with
  legq := m.legq ++ [(addr, data)], legCache := (m.legCache.filter fun e => e.1 != addr) ++ [(addr, data)] }).legDepth

theorem legCache_legPosted (d : Dev) (addr data : Nat) :
    ((d.legPosted addr data).mgmt.legCache.find? fun c => c.1 == addr) = some (addr, data) := by
  show List.find? _ ((d.mgmt.legCache.filter fun e => e.1 != addr) ++ [(addr, data)]) = _
  rw [List.find?_append, List.find?_filter, List.find?_eq_none.mpr (by simp), List.find?_cons_of_pos (by simp)]
  rfl

theorem qdepth_legPosted (d : Dev) (addr data : Nat) :
    (d.legPosted addr data).rd F.GLB_LEGSTAT_QDEPTH = (d.mgmt.legq.length + 1) % 2 ^ F.GLB_LEGSTAT_QDEPTH.w := by
  unfold Dev.legPosted Dev.legDepth
  rw [rd_wr_same, Dev.mapMgmt_mgmt, List.length_append]
  rfl

variable (h : s.dev.legOn = true)
include h

theorem legWrite_queues (hq : s.dev.mgmt.legq.length < 64) :
    execLegWrite addr data s = .next (s.put (s.dev.legPosted addr.toNat data.toNat)) := by
  have hq' : ¬ 64 ≤ (s.dev.drive []).mgmt.legq.length := Nat.not_le.mpr hq
  exact lift_eq_put (by simp only [legOn_drive, h, Bool.not_true, Bool.false_eq_true, if_false, hq', Dev.legPosted])

theorem legWrite_drops (hq : 64 ≤ s.dev.mgmt.legq.length) :
    execLegWrite addr data s = .next (s.put ((s.dev.drive []).set F.GLB_LEGSTAT_DROP)) := by
  have hq' : 64 ≤ (s.dev.drive []).mgmt.legq.length := hq
  exact lift_eq_put (by simp only [legOn_drive, h, Bool.not_true, Bool.false_eq_true, if_false, hq', if_true])

theorem legRead_fixed (hc : 2 ≤ (legacyCov addr.toNat).1) :
    execLegRead addr s = .next (s.put (s.dev.drive (be 2 (legacyCov addr.toNat).2))) :=
  lift_eq_put (by simp only [h, hc, Bool.not_true, Bool.false_eq_true, if_false, if_true])

theorem legRead_cached (hc : (legacyCov addr.toNat).1 < 2) {c : Nat × Nat}
    (hf : (s.dev.mgmt.legCache.find? fun c => c.1 == addr.toNat) = some c) :
    execLegRead addr s = .next (s.put (s.dev.drive (be 2 c.2))) :=
  lift_eq_put (by simp only [h, Nat.not_le.mpr hc, hf, Bool.not_true, Bool.false_eq_true, if_false])

theorem legRead_free (hc : (legacyCov addr.toNat).1 < 2) (hf : (s.dev.mgmt.legCache.find? fun c => c.1 == addr.toNat) = none) :
    let v := s.dev.freeVal 16
    execLegRead addr s = .next (s.put ((v.2.drive (be 2 v.1)).mapMgmt fun m => { m with legCache := m.legCache ++ [(addr.toNat, v.1)] })) :=
  lift_eq_put (by simp only [h, Nat.not_le.mpr hc, hf, Bool.not_true, Bool.false_eq_true, if_false])

end

section
variable {s : State} (h : s.dev.fwRun = true)
include h

theorem legacyWriteApply_oldest {q : Nat × Nat} {t : List (Nat × Nat)} (hq : s.dev.mgmt.legq = q :: t) : execLegacyWriteApply s =
    .next (s.put ((((s.dev.mapMgmt fun m => { m with legq := t }).legDepth).inc F.GLB_LEGSTAT_WRITES).legEffect q.1)) :=
  lift_eq_put (by simp only [h, hq, Bool.not_true, Bool.false_eq_true, if_false])

theorem legacyCacheRefresh_drops : execLegacyCacheRefresh s = .next (s.put (s.dev.mapMgmt fun m =>
    { m with legCache := m.legCache.filter fun e => m.legq.any fun q => q.1 == e.1 })) :=
  lift_eq_put (by simp only [h, Bool.not_true, Bool.false_eq_true, if_false])

end

/-- A write to a fixed or ignored register has no effect. -/
theorem legEffect_fixed (d : Dev) {a : Nat} (h : 2 ≤ (legacyCov a).1) : d.legEffect a = d := if_pos h

section
variable {s : State} {src : Src}

theorem sysLegacySet_on (h : s.dev.admits src 0xA010 .c = true) : let x := s.dev.arrives 0xA010
    execSysLegacySet src 1 s = .next (s.put (x.completes (x.entry src 0xA010 .c) (x.wr F.GLB_STAT_LEGACY 0 1) [])) :=
  lift_eq_put (kci_completes h rfl)

theorem sysLegacySet_off (h : s.dev.admits src 0xA010 .c = true) : let x := s.dev.arrives 0xA010
    execSysLegacySet src 0 s = .next (s.put (x.completes (x.entry src 0xA010 .c)
      (((x.wr F.GLB_STAT_LEGACY 0 0).mapMgmt fun m => { m with legq := [], legCache := [] }).legDepth) [])) :=
  lift_eq_put (kci_completes h rfl)

theorem sysLegacySet_badParam (h : s.dev.admits src 0xA010 .c = true) {b : Byte} (hb : 1 < b.toNat) : let x := s.dev.arrives 0xA010
    execSysLegacySet src b s = .next (s.put (x.declines (x.entry src 0xA010 .c) .badParam)) :=
  lift_eq_put (kci_declines h (if_pos hb))

theorem sysLegacyCovGet_completes (addr : BitVec 16) (h : s.dev.admits src 0xA011 .q = true) : let x := s.dev.arrives 0xA011
    execSysLegacyCovGet src addr s = .next (s.put (x.completes (x.entry src 0xA011 .q) x
      (be 1 (legacyCov addr.toNat).1 ++ be 2 (legacyCov addr.toNat).2))) :=
  lift_eq_put (kci_completes h rfl)

end

/-- Settles O44: one lemma per transaction and event. -/
theorem managementPorts : Obligations.ManagementPorts := by
  intro s src
  refine ⟨status_drives, fun fr h => ?frame, fun h => ⟨fun op p cls rule act hk hr => runRequest_known h hk hr,
      fun op p hk => runRequest_unknown h hk, fun b c => ?named⟩, requestTable_opcodes,
    fun h => ⟨kciRead_empty h, fun fr t hq => ⟨kciRead_whole h hq, kciRead_cutShort h hq⟩⟩,
    fun h w => ⟨exportRead_noSession w h, fun q c hs hf hp ha => exportRead_again w h hs hf hp ha,
      fun q hs hf hp ha hm => exportRead_record w h hs hf hp ha hm⟩,
    fun addr data h => ?window, fun q t h hq => ?apply, legacyCacheRefresh_drops,
    fun h => ⟨sysLegacySet_on h, sysLegacySet_off h, fun b hb => sysLegacySet_badParam h hb⟩,
    fun addr h => sysLegacyCovGet_completes addr h,
    fun h => ⟨status_down h, fun _ => kciWrite_down h, fun w => ⟨kciRead_down h w, exportRead_down w h⟩,
      fun a v => ⟨legWrite_down a v h, legRead_down a h⟩⟩⟩
  case frame =>
    intro good
    have hgood := frameOk_iff fr
    exact ⟨kciWrite_discarded h, fun hq hl hb => kciWrite_badFrame h hq hl (mt hgood.mp hb),
      fun hq hl hg => kciWrite_runs h hq hl (hgood.mpr hg)⟩
  case named =>
    exact ⟨(runRequest_known h rfl rfl).trans (if_pos rfl), (runRequest_known h rfl rfl).trans (if_pos rfl),
      (runRequest_known h rfl rfl).trans (if_pos rfl)⟩
  case window =>
    exact ⟨fun hq => ⟨_, legWrite_queues addr data h hq, rfl, rfl, qdepth_legPosted _ _ _, legCache_legPosted _ _ _⟩,
      legWrite_drops addr data h, legRead_fixed addr h, fun c hc hf => legRead_cached addr h hc hf, legRead_free addr h⟩
  case apply =>
    have ha := legacyWriteApply_oldest h hq
    exact ⟨ha, fun hc => ha.trans (by rw [legEffect_fixed _ hc])⟩

end Sys2Proof.Machine

/-! PROOFS. Chapter 11, the management interface: applets and expert access. -/

namespace Sys2Proof.Machine

/-! ## SYS.APPLET.LOAD (R294, R380) -/

section
variable {s : State} {src : Src} {slot : Byte} {size : BitVec 16} {offset : Word32} {data h : List Byte}
  (ha : s.dev.admits src 0xA020 .f = true) (hs : slot.toNat ≤ 3) (h0 : 0 < size.toNat) (h1 : size.toNat ≤ 960)
  (hc : ∀ i, src = .cdb i → size.toNat ≤ 112) (hd : data.length = size.toNat)
  (hh : (offset.toNat = 0 ∧ h = []) ∨
    (offset.toNat ≠ 0 ∧ (s.dev.arrives 0xA020).mgmt.upload = some ⟨slot.toNat, h⟩ ∧ h.length = offset.toNat))
  (hn : h.length + size.toNat ≤ 262144)
include ha hs h0 h1 hc hd hh hn

/-- A block that follows what has come before it, `h`: it joins it, and the last one has the whole image verified. -/
theorem sysAppletLoad_block {last : Byte} (hl : last.toNat ≤ 1) :
    let x := s.dev.arrives 0xA020
    let e := x.entry src 0xA020 .f
    let y := x.mapMgmt fun m => { m with upload := none }
    execSysAppletLoad src slot last size offset data s = .next (s.put
      (if last.toNat = 0 then x.completes e (x.mapMgmt fun m => { m with upload := some ⟨slot.toNat, h ++ data⟩ }) []
       else if x.appletOk (h ++ data) then x.completes e (y.appletInstall slot.toNat (h ++ data)) []
       else y.respond src 0xA020 .denied [])) := by
  intro x e y
  have hok : ∀ (c : Bool) (n : Nat), c = false → n + size.toNat ≤ 262144 → ¬ (decide (3 < slot.toNat) || decide (1 < last.toNat) || decide (size.toNat = 0) ||
      decide (960 < size.toNat) || decide (data.length ≠ size.toNat) || c || decide (262144 < n + size.toNat)) = true := by
    rintro _ n rfl hn
    simp only [Bool.or_eq_true, decide_eq_true_eq, Bool.false_eq_true, or_false]
    omega
  refine lift_eq_put ((kci_of_admits _ ha).trans ?_)
  unfold Dev.runBody
  rcases hh with ⟨ho, rfl⟩ | ⟨ho, hu, hlen⟩
  case' inl => simp only [ho, if_true]
  case' inr => simp only [ho, if_false, hu, hlen, decide_true, Bool.and_self, if_true]
  all_goals
    rw [if_neg (hok _ _ ?_ (by omega))]
    · split_ifs <;> rfl
    · cases src with
      | cdb i => exact decide_eq_false (Nat.not_lt.mpr (hc i rfl))
      | _ => rfl

end

/-! ## SYS.APPLET.CTL and SYS.APPLET.LIST (Tables 11-13 and 11-14) -/

section
variable {s : State} {src : Src} {slot : Byte} (h : s.dev.admits src 0xA021 .c = true)
include h

theorem sysAppletCtl_badSlot (hs : 3 < slot.toNat) : let x := s.dev.arrives 0xA021
    execSysAppletCtl src slot 2 s = .next (s.put (x.declines (x.entry src 0xA021 .c) .badParam)) :=
  lift_eq_put (kci_declines h (if_pos (by simp only [hs, decide_true, Bool.true_or])))

variable (hs : slot.toNat ≤ 3)
include hs

/-- Applets run in DEPLOYED only (Table 16-2). -/
theorem sysAppletCtl_notDeployed (hl : (s.dev.arrives 0xA021).lc ≠ 3) : let x := s.dev.arrives 0xA021
    execSysAppletCtl src slot 1 s = .next (s.put (x.declines (x.entry src 0xA021 .c) .notReady)) :=
  lift_eq_put (kci_declines h (by simp [Nat.not_lt.mpr hs, hl]))

variable (h0 : ((s.dev.arrives 0xA021).applet slot.toNat).state ≠ 0)
include h0

theorem sysAppletCtl_stop : let x := s.dev.arrives 0xA021
    execSysAppletCtl src slot 2 s = .next (s.put (x.completes (x.entry src 0xA021 .c)
      (x.mapApplet slot.toNat fun a => { a with state := 1, restart := false }) [])) :=
  lift_eq_put (kci_completes h (by simp [Nat.not_lt.mpr hs, h0]))

theorem sysAppletCtl_erase : let x := s.dev.arrives 0xA021
    execSysAppletCtl src slot 3 s = .next (s.put (x.completes (x.entry src 0xA021 .c)
      ((x.mapApplet slot.toNat fun _ => {}).mapPot fun p =>
        { p with conf := p.conf.filter fun e => e.src != 0x700 + slot.toNat, prior := p.prior.filter fun e => e.src != 0x700 + slot.toNat })
      [])) :=
  lift_eq_put (kci_completes h (by simp [Nat.not_lt.mpr hs, h0]))

theorem sysAppletCtl_run (hl : (s.dev.arrives 0xA021).lc = 3) (h2 : ((s.dev.arrives 0xA021).applet slot.toNat).state ≠ 2) :
    let x := s.dev.arrives 0xA021
    execSysAppletCtl src slot 1 s = .next (s.put (x.completes (x.entry src 0xA021 .c) (x.appletStart slot.toNat) [])) :=
  lift_eq_put (kci_completes h (by simp [Nat.not_lt.mpr hs, h0, hl, h2]))

end

/-- An applet whose image has been verified, or verifies now, runs. -/
theorem appletStart_runs {d : Dev} {n : Nat} (h : (d.applet n).checked = true ∨ d.appletOk (d.applet n).image = true) :
    d.appletStart n = d.mapApplet n fun a => { a with state := 2, checked := true, restart := false, window := none } :=
  if_neg (by rcases h with h | h <;> simp [h])

/-- SYS.APPLET.LIST's payload: 8 bytes for each slot. -/
def Dev.appletRows (d : Dev) : List Byte := [0, 1, 2, 3].flatMap fun n =>
  be 1 (d.applet n).state ++ be 1 (satN 255 (d.appletStops n).length) ++ be 2 0 ++ be 4 (d.applet n).version

theorem length_appletRows (d : Dev) : d.appletRows.length = 32 := by
  simp [Dev.appletRows, be]

theorem take_appletRows (d : Dev) : d.appletRows.take 1 = be 1 (d.applet 0).state := by
  simp [Dev.appletRows, be]

theorem sysAppletList_completes {s : State} {src : Src} (h : s.dev.admits src 0xA022 .q = true) : let x := s.dev.arrives 0xA022
    execSysAppletList src s = .next (s.put (x.completes (x.entry src 0xA022 .q) x x.appletRows)) :=
  lift_eq_put (kci_completes h rfl)

/-! ## Faults, restarts and preemption of applets (R295, R296) -/

section
variable {s : State} {k : Fin 4}

theorem appletFault_stops (h : s.dev.fwRun = true) (h2 : (s.dev.applet k).state = 2) : execAppletFault k s =
    .next (s.put ((s.dev.mapApplet k fun a => { a with
      stops := s.dev.now :: s.dev.appletStops k, restart := decide ((s.dev.appletStops k).length < 2) }).appletStopped k)) := by
  have hr : decide ((s.dev.now :: s.dev.appletStops k).length < 3) = decide ((s.dev.appletStops k).length < 2) :=
    decide_eq_decide.mpr Nat.succ_lt_succ_iff
  refine lift_eq_put ((if_neg (by simp [h, h2])).trans ?_)
  dsimp only
  rw [hr]

theorem appletRestart_runs (h : s.dev.fwRun = true) (h3 : (s.dev.applet k).state = 3) (hr : (s.dev.applet k).restart = true)
    (hc : (s.dev.applet k).checked = true) (hl : s.dev.lc = 3) : execAppletRestart k s =
    .next (s.put (s.dev.mapApplet k fun a => { a with state := 2, checked := true, restart := false, window := none })) :=
  lift_eq_put ((if_neg (by simp [h, h3, hr, hl])).trans (appletStart_runs (.inl hc)))

theorem appletRestart_notDeployed (hl : s.dev.lc ≠ 3) : execAppletRestart k s = .next s := lift_eq_self (if_pos (by simp [hl]))

theorem appletPreempt_waits (h2 : (s.dev.applet k).state = 2) : execAppletPreempt k s =
    .next (s.put (s.dev.mapApplet k fun a => { a with window := some (s.dev.now / (20 * tickMs)) })) :=
  lift_eq_put (if_neg (not_not.mpr h2))

end

/-! ## Expert access (R281, R282) -/

section
variable {s : State} {src : Src} {token : BitVec 64} (h : s.dev.admits src 0xAA00 .c = true)
include h

theorem expUnlock_open (hl : (s.dev.arrives 0xAA00).lc = 0 ∨ (s.dev.arrives 0xAA00).lc = 1 ∨ (s.dev.arrives 0xAA00).lc = 4) :
    let x := s.dev.arrives 0xAA00
    execExpUnlock src token s = .next (s.put (x.completes (x.entry src 0xAA00 .c) x [])) :=
  lift_eq_put (kci_completes h (if_pos (by rcases hl with hl | hl | hl <;> simp [hl])))

theorem expUnlock_scrapped (hl : (s.dev.arrives 0xAA00).lc = 5) : let x := s.dev.arrives 0xAA00
    execExpUnlock src token s = .next (s.put (x.declines (x.entry src 0xAA00 .c) .denied)) :=
  lift_eq_put (kci_declines h (by simp [hl]))

variable (hl : (s.dev.arrives 0xAA00).lc = 2 ∨ (s.dev.arrives 0xAA00).lc = 3)
include hl

theorem expUnlock_lockedOut (ho : (s.dev.arrives 0xAA00).mgmt.lockout = true) : let x := s.dev.arrives 0xAA00
    execExpUnlock src token s = .next (s.put (x.declines (x.entry src 0xAA00 .c) .denied)) :=
  lift_eq_put (kci_declines h (by rcases hl with hl | hl <;> simp [hl, -arrives_mgmt, ho]))

theorem expUnlock_token (ho : (s.dev.arrives 0xAA00).mgmt.lockout = false) (ht : token.toNat = (s.dev.arrives 0xAA00).token) :
    let x := s.dev.arrives 0xAA00
    execExpUnlock src token s = .next (s.put (x.completes (x.entry src 0xAA00 .c)
      ((x.set F.GLB_STAT_EXPERT).mapMgmt fun m => { m with wrongTokens := 0 }) [])) :=
  lift_eq_put (kci_completes h (by rcases hl with hl | hl <;> simp [hl, -arrives_mgmt, ho, ht]))

end

theorem expLock_closes {s : State} {src : Src} (h : s.dev.admits src 0xAA01 .c = true) : let x := s.dev.arrives 0xAA01
    execExpLock src s = .next (s.put (x.completes (x.entry src 0xAA01 .c) (x.clr F.GLB_STAT_EXPERT) [])) :=
  lift_eq_put (kci_completes h rfl)

theorem unlockLockoutEnd_forgets {s : State} (h : s.dev.mgmt.lockout = true) : execUnlockLockoutEnd s =
    .next (s.put (s.dev.mapMgmt fun m => { m with lockout := false, wrongTokens := 0 })) := lift_eq_put (if_pos h)

/-- Settles O31: one lemma per command, action and event. -/
theorem appletsExpert : Obligations.AppletsExpert := by
  intro s src k
  refine ⟨fun slot size offset data h ha => ?load, fun slot h => ⟨fun hs h0 => ⟨sysAppletCtl_stop h hs h0, sysAppletCtl_erase h hs h0,
        sysAppletCtl_notDeployed h hs, fun hl h2 hc => ?run⟩, sysAppletCtl_badSlot h⟩,
    fun h => ⟨_, sysAppletList_completes h, length_appletRows _, take_appletRows _⟩, appletFault_stops,
    fun h h3 hr hc => ⟨appletRestart_runs h h3 hr hc, appletRestart_notDeployed⟩, appletPreempt_waits,
    fun token h => ⟨expUnlock_open h, expUnlock_scrapped h, expUnlock_lockedOut h, expUnlock_token h⟩, expLock_closes, rfl,
    unlockLockoutEnd_forgets⟩
  case load =>
    intro x e hs h0 h1 hc hd hh hn
    have hblock := fun (last : Byte) => sysAppletLoad_block ha hs h0 h1 hc hd hh hn (last := last)
    exact ⟨(hblock 0 (by decide)).trans (by rw [if_pos (by decide)]), (hblock 1 (by decide)).trans (by rw [if_neg (by decide)])⟩
  case run =>
    have hr := sysAppletCtl_run h hs h0 hl h2
    dsimp only at hr
    rwa [appletStart_runs hc] at hr

end Sys2Proof.Machine

/-! PROOFS. Chapter 11, the management interface: register instructions of the SPI host and the Whetstone, and the register window. -/

namespace Sys2Proof.Machine

/-- A lifted update of memory and device answers with what it comes to. -/
theorem liftMem_eq_put {f : Memory → Dev → Memory × Dev} {s : State} {e : Dev} (h : f s.mem s.dev = (s.mem, e)) :
    liftMem f s = .next (s.put e) := by
  rw [liftMem_next, h]
  rfl

theorem liftMem_eq_next {f : Memory → Dev → Memory × Dev} {s : State} {m : Memory} {e : Dev} (h : f s.mem s.dev = (m, e)) :
    liftMem f s = .next { s with mem := m, dev := e } := by
  rw [liftMem_next, h]

/-! ## REG_READ and REG_WRITE (R264, R284) -/

theorem length_lookMany (m : Memory) (a : Accessor) (sel : Sel) (n addr : Nat) (d : Dev) :
    (Dev.lookMany m a sel n addr d).1.length = n := by
  induction n generalizing addr d with
  | zero => rfl
  | succ n ih => exact congrArg (· + 1) (ih _ _)

theorem lookMany_one (m : Memory) (a : Accessor) (sel : Sel) (addr : Nat) (d : Dev) :
    (Dev.lookMany m a sel 1 addr d).1 = [(d.look m a sel addr).1] := rfl

section
variable {s : State}

theorem regRead_drives (h : s.dev.spiUp = true) (addr : Word32) (n : Nat) :
    let p := Dev.lookMany s.mem .spi (s.dev.selOf .spi) n addr.toNat s.dev
    execRegRead addr n s = .next (s.put (p.2.drive (p.1.flatMap (be 4)))) :=
  liftMem_eq_put (by simp only [h, Bool.not_true, Bool.false_eq_true, if_false])

theorem regRead_down (h : s.dev.spiUp = false) (addr : Word32) (n : Nat) : execRegRead addr n s = .next (s.put (s.dev.drive [])) :=
  liftMem_eq_put (by simp only [h, Bool.not_false, if_true])

theorem regWrite_writes (h : s.dev.spiUp = true) (addr v : Word32) (t : List Word32) :
    let p := accessMany .spi ((s.dev.drive []).access s.mem .spi addr.toNat v.toNat) ((addr.toNat + 4) % 2 ^ 32) t
    execRegWrite addr (v :: t) s = .next { s with mem := p.1, dev := p.2 } :=
  liftMem_eq_next (by simp only [h, if_true, accessMany])

theorem regWrite_down (h : s.dev.spiUp = false) (addr : Word32) (l : List Word32) :
    execRegWrite addr l s = .next (s.put (s.dev.drive [])) :=
  liftMem_eq_put (by simp only [h, Bool.false_eq_true, if_false])

end

/-! ## RDREG, WRREG and posted writes (R195, R196) -/

section
variable {s : State} {b : Nat} (ht : s.dev.wsTask = some b) (hr : (s.dev.bank b).rep = 0) (hf : s.dev.fetchBad b = false)
include ht hr hf

/-- An instruction that an earlier write's trap leaves undone. -/
theorem wsMem_of_stopped (r : Bool) (f : Nat → Nat → Memory → Dev → WsRes) {m : Memory} {d : Dev}
    (h : f b 0 s.mem s.dev = .stopped m d) : wsMem r f s = .next { s with mem := m, dev := d } := by
  unfold wsMem
  rw [liftMem_next]
  simp [Dev.wsExec, ht, hr, hf, wsRepeat, h]

variable (addr : Word32) (i : Fin 8)

/-- The device after every posted write has completed, as RDREG sees to first. -/
theorem rdreg_stopped (hn : (wsPostedAll s.dev.ws.posted.length s.mem s.dev).2.wsTask = none) :
    let p := wsPostedAll s.dev.ws.posted.length s.mem s.dev
    execRdreg addr i s = .next { s with mem := p.1, dev := p.2 } :=
  wsMem_of_stopped ht hr hf _ _ (by simp only [hn, Option.isNone_none, if_true])

theorem rdreg_busError (hn : (wsPostedAll s.dev.ws.posted.length s.mem s.dev).2.wsTask.isSome = true)
    (hb : (wsPostedAll s.dev.ws.posted.length s.mem s.dev).2.wsBusError addr.toNat false = true) :
    let p := wsPostedAll s.dev.ws.posted.length s.mem s.dev
    execRdreg addr i s = .next { s with mem := p.1, dev := p.2.wsTrap 4 (s.dev.bank b).pc } :=
  wsMem_of_trap _ _ ht hr hf (by
    simp only [Option.isNone_eq_false_iff.mpr hn, hb, Bool.false_eq_true, if_false, if_true])

theorem rdreg_reads (hn : (wsPostedAll s.dev.ws.posted.length s.mem s.dev).2.wsTask.isSome = true)
    (hb : (wsPostedAll s.dev.ws.posted.length s.mem s.dev).2.wsBusError addr.toNat false = false) :
    let p := wsPostedAll s.dev.ws.posted.length s.mem s.dev
    let q := p.2.look p.1 .ws (p.2.selOf .ws) addr.toNat
    execRdreg addr i s = .next { s with
      mem := p.1, dev := (q.2.mapBank b fun k => (k.write (q.1 % 65536) (.int i)).write (q.1 / 65536) (.int (i + 1))).wsNext b } :=
  wsMem_of_done _ _ ht hr hf (by
    simp only [Option.isNone_eq_false_iff.mpr hn, hb, Bool.false_eq_true, if_false])

/-- The register pair joins the posted writes, with the task and the PC of its WRREG. -/
def Dev.posts (d : Dev) (b addr pc : Nat) (i : Fin 8) : Dev :=
  let lo := d.wsRead b (.int i)
  let hi := lo.2.wsRead b (.int (i + 1))
  hi.2.mapWs fun w => { w with posted := w.posted ++ [⟨addr, lo.1 + 65536 * hi.1, b + 1, pc⟩] }

theorem wrreg_posts (hq : s.dev.ws.posted.length < 8) :
    execWrreg addr i s = .next (s.put ((s.dev.posts b addr.toNat (s.dev.bank b).pc i).wsNext b)) :=
  wsMem_done_put ht _ _ hr hf (by
    simp only [Nat.not_le.mpr hq, if_false, ht, Option.isNone_some, Bool.false_eq_true, Dev.posts])

variable (hq : 8 ≤ s.dev.ws.posted.length)
include hq

/-- With 8 writes posted the oldest completes first. -/
theorem wrreg_stopped (hn : (wsPosted s.mem (s.dev.wsStall addr.toNat)).2.wsTask = none) :
    let p := wsPosted s.mem (s.dev.wsStall addr.toNat)
    execWrreg addr i s = .next { s with mem := p.1, dev := p.2 } :=
  wsMem_of_stopped ht hr hf _ _ (by simp only [hq, if_true, hn, Option.isNone_none])

theorem wrreg_stalls (hn : (wsPosted s.mem (s.dev.wsStall addr.toNat)).2.wsTask.isSome = true) :
    let p := wsPosted s.mem (s.dev.wsStall addr.toNat)
    execWrreg addr i s = .next { s with mem := p.1, dev := (p.2.posts b addr.toNat (s.dev.bank b).pc i).wsNext b } :=
  wsMem_of_done _ _ ht hr hf (by
    simp only [hq, if_true, Option.isNone_eq_false_iff.mpr hn, Bool.false_eq_true, if_false, Dev.posts])

end

section
variable {s : State}

theorem wrregComplete_none (h : s.dev.ws.posted = []) : execWrregComplete s = .next s :=
  liftMem_eq_put (by simp only [wsPosted, h])

theorem wrregComplete_oldest {o : Posted} {t : List Posted} (h : s.dev.ws.posted = o :: t) :
    let p := (s.dev.mapWs fun w => { w with posted := t }).access s.mem .ws o.addr o.data
    execWrregComplete s = .next { s with
      mem := p.1
      dev := if s.dev.wsBusError o.addr true = true ∧ s.dev.rd F.WS_STAT_STATE = 1 then p.2.wsTrapOf o.task 4 o.pc else p.2 } :=
  liftMem_eq_next (by simp only [wsPosted, h, Bool.and_eq_true, beq_iff_eq])

end

/-- Settles O58: one lemma per instruction and case. -/
theorem hostAndCoreRegisters : Obligations.HostAndCoreRegisters := by
  intro s
  refine ⟨fun h => ⟨fun addr => ?one, fun addr n => ⟨regRead_drives h addr n, length_lookMany _ _ _ _ _ _⟩,
      fun addr v => regWrite_writes h addr v [], regWrite_writes h⟩,
    fun h => ⟨regRead_down h, regWrite_down h⟩, fun b ht hr hf addr i => ⟨⟨rdreg_stopped ht hr hf addr i, rdreg_reads ht hr hf addr i,
      rdreg_busError ht hr hf addr i⟩, wrreg_posts ht hr hf addr i, fun hq => ⟨wrreg_stopped ht hr hf addr i hq,
      wrreg_stalls ht hr hf addr i hq⟩⟩,
    fun ht a i => ⟨wsMem_idle _ _ ht, wsMem_idle _ _ ht⟩, wrregComplete_none, fun o t => wrregComplete_oldest⟩
  case one =>
    exact (regRead_drives h addr 1).trans (by rw [lookMany_one, List.flatMap_singleton])

end Sys2Proof.Machine

/-! PROOFS. Chapter 11, the management interface: what an access of the register window finds and what turns it away. -/

namespace Sys2Proof.Machine

/-! ## Accessors that are turned away (R283, R297) -/

section
variable {d : Dev} (mem : Memory) {a : Accessor} (addr v : Nat)

theorem access_unreachable (h : d.reachable a = false) : d.access mem a addr v = (mem, d) := by
  unfold Dev.access
  rw [h]
  rfl

theorem access_open (h : d.reachable a = true) (he : d.expert = true) :
    d.access mem a addr v = d.regWrite mem a (d.selOf a) addr v fullMask := by
  unfold Dev.access
  simp only [h, he, Bool.not_true, Bool.and_false, Bool.false_eq_true, if_false]

/-- While expert access is closed a write of the SPI host sets LOCKED. -/
theorem access_lockedSpi (h : d.reachable .spi = true) (he : d.expert = false) :
    d.access mem .spi addr v = (mem, d.set F.GLB_ACCERR_LOCKED 2) := by
  unfold Dev.access
  rw [h, he]
  rfl

theorem access_lockedMbox (h : d.reachable .mbox = true) (he : d.expert = false) : d.access mem .mbox addr v = (mem, d) := by
  unfold Dev.access
  rw [h, he]
  rfl

end

/-! ## What an address finds (R285 to R287) -/

section
variable {x : Dev} {sel : Sel} {addr : Nat}

theorem hit_noReg (h : findReg addr = none) (w : Bool) : x.hit sel addr w = .err F.GLB_ACCERR_NOREG := by
  unfold Dev.hit
  rw [h]

variable {r : RegDesc} {m : Nat} (h : findReg addr = some (r, m))
include h

theorem hit_sec (hs : r.isSec = true) : x.hit sel addr true = .err F.GLB_ACCERR_WINDOW := by
  unfold Dev.hit
  simp only [h, hs, Bool.and_self, if_true]

variable (hs : r.isSec = false)
include hs

theorem hit_unselected {u : Nat} (hu : r.unit = some u) (hn : sel.unit ≠ u ∨ unitTop u < sel.index) :
    x.hit sel addr true = .err F.GLB_ACCERR_CHSEL := by
  have hn' : (decide (sel.unit ≠ u) || decide (unitTop u < sel.index)) = true := by simpa using hn
  unfold Dev.hit
  simp only [h, hs, hu, hn', Bool.and_false, Bool.false_eq_true, if_false, if_true]

theorem hit_off (hu : r.unit = none) (ho : x.regOn r 0 = false) : x.hit sel addr true = .err F.GLB_ACCERR_PWROFF := by
  unfold Dev.hit
  simp only [h, hs, hu, ho, Bool.and_false, Bool.false_eq_true, if_false]

end

/-! ## Writes and reads through the window (R207, R284) -/

section
variable {d : Dev} {mem : Memory} {a : Accessor} {sel : Sel} {addr v mask : Nat}

/-- A write that finds no register to write sets the bit of what it found. -/
theorem regWrite_err {f : Fld} (hw : (d.busAccess a addr 3).wsWindow addr = none) (hh : (d.busAccess a addr 3).hit sel addr true = .err f) :
    d.regWrite mem a sel addr v mask = (mem, (d.busAccess a addr 3).accErr a f) := by
  unfold Dev.regWrite
  simp only [hw, hh]

section
variable {w : Nat} (hw : (d.busAccess a addr 3).wsWindow addr = some w)
include hw

theorem regWrite_windowOff (ho : (d.busAccess a addr 3).domOn dWHET = false) :
    d.regWrite mem a sel addr v mask = (mem, (d.busAccess a addr 3).accErr a F.GLB_ACCERR_PWROFF) := by
  unfold Dev.regWrite
  simp only [hw, ho, Bool.not_false, if_true]

variable (ho : (d.busAccess a addr 3).domOn dWHET = true)
include ho

theorem regWrite_windowClosed (hc : (d.busAccess a addr 3).wsOpen = false) :
    d.regWrite mem a sel addr v mask = (mem, (d.busAccess a addr 3).accErr a F.GLB_ACCERR_WINDOW) := by
  unfold Dev.regWrite
  simp only [hw, ho, hc, Bool.not_true, Bool.not_false, Bool.false_eq_true, if_false, if_true]

theorem regWrite_window (hc : (d.busAccess a addr 3).wsOpen = true) :
    let x := d.busAccess a addr 3
    let old := x.wsMemRead mem addr
    d.regWrite mem a sel addr v mask = x.wsMemWrite mem addr ((old - (old &&& mask)) ||| (v &&& mask)) := by
  unfold Dev.regWrite
  simp only [hw, ho, hc, Bool.not_true, Bool.false_eq_true, if_false]

end

theorem regRead_window {w : Nat} (hw : (d.busAccess a addr 2).wsWindow addr = some w) (ho : (d.busAccess a addr 2).domOn dWHET = true) :
    let y := d.busAccess a addr 2
    d.regRead mem a sel addr = (y.wsMemRead mem addr, if y.wsOpen then y.eccRead a (winMem w).1 (winMem w).2 else y) := by
  unfold Dev.regRead
  simp only [hw, ho, if_true]

theorem look_open (h : d.reachable a = true) (he : d.expert = true) : d.look mem a sel addr = d.regRead mem a sel addr := by
  unfold Dev.look
  simp only [h, he, Bool.not_true, Bool.and_false, Bool.false_and, Bool.false_eq_true, if_false]

end

section
variable {s : State} {acc : Accessor} {addr : Nat} {v : Word32}

/-- A row whose access leaves the device `e`, and memory as it was. -/
theorem regRow_of_access {e : Dev} (h : s.dev.access s.mem acc addr v.toNat = (s.mem, e)) : regRow acc addr v s = .next (s.put e) :=
  liftMem_eq_put h

/-- A row that an accessor with expert access writes. -/
theorem regRow_of_regWrite {p : Memory × Dev} (h : s.dev.reachable acc = true) (he : s.dev.expert = true)
    (hp : s.dev.regWrite s.mem acc (s.dev.selOf acc) addr v.toNat fullMask = p) :
    regRow acc addr v s = .next { s with mem := p.1, dev := p.2 } :=
  liftMem_eq_next ((access_open _ _ _ h he).trans hp)

/-- A Whetstone memory window's word returns to an accessor with expert access. -/
theorem readRow_window {unit ch w : Nat} (h : s.dev.reachable acc = true) (he : s.dev.expert = true)
    (hw : (s.dev.busAccess acc addr 2).wsWindow addr = some w) (ho : (s.dev.busAccess acc addr 2).domOn dWHET = true) :
    let y := s.dev.busAccess acc addr 2
    readRow acc unit ch addr s =
      .next (s.put ((if y.wsOpen then y.eccRead acc (winMem w).1 (winMem w).2 else y).deliver acc (y.wsMemRead s.mem addr))) :=
  liftMem_eq_put (by simp only [look_open h he, regRead_window hw ho, h, if_true])

end

/-- Settles O54: an access is turned away by its accessor, by its window or by what its address finds; a granted one writes its channels. -/
theorem registerAccess : Obligations.RegisterAccess := by
  intro s acc addr v x
  refine ⟨fun h => regRow_of_access (access_unreachable _ _ _ h), fun h he => regRow_of_access (access_lockedSpi _ _ _ h he),
    fun h he => regRow_of_access (access_lockedMbox _ _ _ h he), fun h he => ⟨fun hw hf => ?noReg, fun r m hw hf => ?found, fun w hw => ?window,
      fun w hw ho => readRow_window h he hw ho, fun z r m chs hg => ?granted⟩⟩
  case noReg => exact regRow_of_regWrite h he (regWrite_err hw (hit_noReg hf _))
  case found =>
    exact ⟨fun hs => regRow_of_regWrite h he (regWrite_err hw (hit_sec hf hs)),
      fun u hs hu hn => regRow_of_regWrite h he (regWrite_err hw (hit_unselected hf hs hu hn)),
      fun hs hu ho => regRow_of_regWrite h he (regWrite_err hw (hit_off hf hs hu ho))⟩
  case window =>
    exact ⟨fun ho => ⟨regRow_of_regWrite h he (regWrite_windowOff hw ho), regRow_of_regWrite h he (regWrite_windowOff hw ho)⟩,
      fun ho hc => regRow_of_regWrite h he (regWrite_windowClosed hw ho hc),
      fun ho hc => regRow_of_regWrite h he (regWrite_window hw ho hc)⟩
  case granted =>
    obtain ⟨chs0, -, -, -, -, -, hz⟩ := grants_parts hg
    exact ⟨hz, fun hr => regRow_of_access (access_of_grants hg hr)⟩

end Sys2Proof.Machine

/-! PROOFS. Chapter 11, the management interface: the expert commands, the pins and the twin's register requests. -/

namespace Sys2Proof.Machine

/-- A lifted update that leaves memory as it was answers with what the device comes to. -/
theorem liftMem_eq_dev {f : Memory → Dev → Dev} {s : State} {e : Dev} (h : f s.mem s.dev = e) :
    liftMem (fun m d => (m, f m d)) s = .next (s.put e) := liftMem_eq_put (congrArg (Prod.mk s.mem) h)

/-! ## EXP.REG.RD and EXP.REG.WR (R289) -/

theorem expCount_iff (src : Src) (n : Nat) : expCount src n = true ↔ 1 ≤ n ∧ n ≤ 64 ∧ ∀ f, src = .cdb f → n ≤ 29 := by
  cases src <;> simp [expCount, and_assoc]

/-- Whether a register read or write by command names whole registers, few enough for its path. -/
def expReadFits (src : Src) (addr : Word32) (c : Byte) : Prop := addr.toNat % 4 = 0 ∧ expCount src c.toNat = true

section
variable {s : State} {src : Src}

section
variable {addr : Word32} {c : Byte} (h : s.dev.admits src 0xAA10 .q = true)
include h

theorem expRegRd_denied (he : (s.dev.arrives 0xAA10).expert = false) : let x := s.dev.arrives 0xAA10
    execExpRegRd src addr c s = .next (s.put (x.declines (x.entry src 0xAA10 .q) .denied)) :=
  liftMem_eq_dev ((kci_declines h (if_pos (by rw [he]; rfl))))

variable (he : (s.dev.arrives 0xAA10).expert = true)
include he

theorem expRegRd_badParam (hf : ¬ expReadFits src addr c) : let x := s.dev.arrives 0xAA10
    execExpRegRd src addr c s = .next (s.put (x.declines (x.entry src 0xAA10 .q) .badParam)) := by
  have hb : (decide (addr.toNat % 4 ≠ 0) || !expCount src c.toNat) = true := by
    unfold expReadFits at hf
    by_cases ha : addr.toNat % 4 = 0 <;> simp_all
  exact liftMem_eq_dev ((kci_declines h ((if_neg (by rw [he]; decide)).trans (if_pos hb))))

theorem expRegRd_answers (hf : expReadFits src addr c) : let x := s.dev.arrives 0xAA10
    let r := Dev.lookMany s.mem .mbox (x.selOf .mbox) c.toNat addr.toNat x
    execExpRegRd src addr c s = .next (s.put (x.completes (x.entry src 0xAA10 .q) r.2 (r.1.flatMap (be 4)))) := by
  obtain ⟨ha, hc⟩ := hf
  have hb : ¬ (decide (addr.toNat % 4 ≠ 0) || !expCount src c.toNat) = true := by simp [ha, hc]
  exact liftMem_eq_dev ((kci_completes h ((if_neg (by rw [he]; decide)).trans (if_neg hb))))

end

section
variable {addr mask value : Word32} (h : s.dev.admits src 0xAA11 .c = true)
include h

theorem expRegWr_denied (he : (s.dev.arrives 0xAA11).expert = false) : let x := s.dev.arrives 0xAA11
    execExpRegWr src addr mask value s = .next (s.put (x.declines (x.entry src 0xAA11 .c) .denied)) := by
  have h0 : s.dev.expert = false := (arrives_expert _ _).symm.trans he
  exact liftMem_eq_put (congrArg₂ Prod.mk (if_neg (by simp [h0])) (kci_declines h (if_pos (by rw [he]; rfl))))

theorem expRegWr_badParam (he : (s.dev.arrives 0xAA11).expert = true) (ha : addr.toNat % 4 ≠ 0) : let x := s.dev.arrives 0xAA11
    execExpRegWr src addr mask value s = .next (s.put (x.declines (x.entry src 0xAA11 .c) .badParam)) :=
  liftMem_eq_put (congrArg₂ Prod.mk (if_neg (by simp [ha])) (kci_declines h ((if_neg (by rw [he]; decide)).trans (if_pos ha))))

theorem expRegWr_writes (he : (s.dev.arrives 0xAA11).expert = true) (ha : addr.toNat % 4 = 0) : let x := s.dev.arrives 0xAA11
    let w := fun d : Dev => d.regWrite s.mem .mbox (d.selOf .mbox) addr.toNat value.toNat mask.toNat
    execExpRegWr src addr mask value s =
      .next { s with mem := (w s.dev).1, dev := x.completes (x.entry src 0xAA11 .c) (w x).2 [] } := by
  have h0 : s.dev.expert = true := (arrives_expert _ _).symm.trans he
  refine liftMem_eq_next (congrArg₂ Prod.mk (if_pos (by simp [h0, ha, h])) ?_)
  dsimp only
  exact kci_completes h ((if_neg (by rw [he]; decide)).trans (if_neg (not_not.mpr ha)))

end

/-! ## EXP.PIN and EXP.PIN.LIST (R290) -/

section
variable {unit : Byte} {index : BitVec 16} {addr mask value : Word32} (h : s.dev.admits src 0xAA20 .c = true)
include h

/-- The pin that EXP.PIN names; a register of unit none has index 0. -/
def pinOf (unit : Byte) (index : BitVec 16) (addr mask value : Word32) : Pin :=
  { addr := addr.toNat, unit := unit.toNat, index := if unit.toNat = 0xFF then 0 else index.toNat, mask := mask.toNat,
    value := value.toNat &&& mask.toNat }

theorem expPin_denied (he : (s.dev.arrives 0xAA20).expert = false) (action : Byte) : let x := s.dev.arrives 0xAA20
    execExpPin src action unit index addr mask value s = .next (s.put (x.declines (x.entry src 0xAA20 .c) .denied)) := by
  have h0 : s.dev.expert = false := (arrives_expert _ _).symm.trans he
  exact liftMem_eq_put (congrArg₂ Prod.mk (if_neg (by simp [h0])) (kci_declines h (if_pos (by rw [he]; rfl))))

variable (he : (s.dev.arrives 0xAA20).expert = true)
include he

theorem expPin_badAction {action : Byte} (hn : action.toNat = 0 ∨ 3 < action.toNat) : let x := s.dev.arrives 0xAA20
    execExpPin src action unit index addr mask value s = .next (s.put (x.declines (x.entry src 0xAA20 .c) .badParam)) := by
  have h1 : action.toNat ≠ 1 := by omega
  have h2 : action.toNat ≠ 2 := by omega
  have h3 : action.toNat ≠ 3 := by omega
  refine liftMem_eq_put (congrArg₂ Prod.mk (if_neg (by simp [h1])) (kci_declines h ?_))
  simp only [he, h1, h2, h3, Bool.not_true, Bool.false_eq_true, if_false]

theorem expPin_removeAll : let x := s.dev.arrives 0xAA20
    execExpPin src 3 unit index addr mask value s =
      .next (s.put (x.completes (x.entry src 0xAA20 .c) (x.mapMgmt fun g => { g with pins := [] }) (be 1 0))) := by
  refine liftMem_eq_put ?_
  dsimp only
  refine congrArg₂ Prod.mk (if_neg (by simp)) (kci_completes h ?_)
  exact if_neg (by rw [he]; decide)

theorem expPin_remove : let x := s.dev.arrives 0xAA20
    let p := pinOf unit index addr mask value
    let l := x.mgmt.pins.filter fun q => !(q.addr == p.addr && q.unit == p.unit && q.index == p.index)
    execExpPin src 2 unit index addr mask value s =
      .next (s.put (x.completes (x.entry src 0xAA20 .c) (x.mapMgmt fun g => { g with pins := l }) (be 1 l.length))) := by
  refine liftMem_eq_put ?_
  dsimp only
  refine congrArg₂ Prod.mk (if_neg (by simp)) (kci_completes h ?_)
  exact if_neg (by rw [he]; decide)

theorem expPin_noTarget (ht : pinTarget unit.toNat (pinOf unit index addr mask value).index addr.toNat mask.toNat = none) :
    let x := s.dev.arrives 0xAA20
    execExpPin src 1 unit index addr mask value s = .next (s.put (x.declines (x.entry src 0xAA20 .c) .badParam)) := by
  unfold pinOf at ht
  dsimp only at ht
  refine liftMem_eq_put ?_
  dsimp only
  rw [ht]
  refine congrArg₂ Prod.mk (if_neg (by simp)) (kci_declines h ?_)
  exact if_neg (by rw [he]; decide)

variable (ht : (pinTarget unit.toNat (pinOf unit index addr mask value).index addr.toNat mask.toNat).isSome = true)
include ht

/-- A pin of a whole field: its entry is there, or one is free. -/
theorem expPin_pins (hr : let x := s.dev.arrives 0xAA20; let p := pinOf unit index addr mask value
      x.mgmt.pins.length < 64 ∨ (x.mgmt.pinAt p.addr p.unit p.index).isSome = true) :
    let x := s.dev.arrives 0xAA20
    let p := pinOf unit index addr mask value
    let y := (pinWrite s.mem x p value.toNat).2.mapMgmt fun g => g.addPin p
    execExpPin src 1 unit index addr mask value s = .next { s with
      mem := (pinWrite s.mem s.dev p value.toNat).1
      dev := x.completes (x.entry src 0xAA20 .c) y (be 1 y.mgmt.pins.length) } := by
  have h0 : s.dev.expert = true := (arrives_expert _ _).symm.trans he
  have hb : (decide ((s.dev.arrives 0xAA20).mgmt.pins.length < 64) || ((s.dev.arrives 0xAA20).mgmt.pinAt
      (pinOf unit index addr mask value).addr (pinOf unit index addr mask value).unit (pinOf unit index addr mask value).index).isSome) = true := by
    rw [Bool.or_eq_true, decide_eq_true_eq]
    exact hr
  have hb0 := hb
  rw [arrives_mgmt] at hb0
  unfold pinOf at ht hb hb0
  dsimp only at ht hb hb0
  refine liftMem_eq_next ?_
  dsimp only
  refine congrArg₂ Prod.mk (if_pos (by simp only [ht, h0, hb0, h]; rfl)) (kci_completes h ?_)
  refine (if_neg (by rw [he]; decide)).trans ((if_pos (by decide)).trans ?_)
  rw [if_neg (by rw [ht]; decide), if_neg (by rw [hb]; decide)]
  rfl

theorem expPin_exhausted (hl : 64 ≤ (s.dev.arrives 0xAA20).mgmt.pins.length)
    (hn : let p := pinOf unit index addr mask value; (s.dev.arrives 0xAA20).mgmt.pinAt p.addr p.unit p.index = none) :
    let x := s.dev.arrives 0xAA20
    execExpPin src 1 unit index addr mask value s = .next (s.put (x.respond src 0xAA20 .exhausted []).count) := by
  have hb : (decide ((s.dev.arrives 0xAA20).mgmt.pins.length < 64) || ((s.dev.arrives 0xAA20).mgmt.pinAt
      (pinOf unit index addr mask value).addr (pinOf unit index addr mask value).unit (pinOf unit index addr mask value).index).isSome) = false := by
    rw [hn, decide_eq_false (Nat.not_lt.mpr hl)]
    rfl
  have hb0 := hb
  rw [arrives_mgmt] at hb0
  unfold pinOf at ht hb hb0
  dsimp only at ht hb hb0
  refine liftMem_eq_put ?_
  dsimp only
  refine congrArg₂ Prod.mk (if_neg (by simp only [hb0, Bool.and_false, Bool.false_and]; decide)) ((kci_of_admits _ h).trans ?_)
  unfold Dev.runBody
  simp only [he, ht, hb, Bool.not_true, Bool.not_false, Bool.false_eq_true, if_false, if_true]
  rfl

end

end

/-- The entries that one EXP.PIN.LIST gives. -/
def pinPage : Src → Nat
  | .cdb _ => 7
  | _ => 8

section
variable {s : State} {src : Src} {first : Byte} (h : s.dev.admits src 0xAA21 .q = true)
include h

theorem expPinList_denied (he : (s.dev.arrives 0xAA21).expert = false) : let x := s.dev.arrives 0xAA21
    execExpPinList src first s = .next (s.put (x.declines (x.entry src 0xAA21 .q) .denied)) :=
  lift_eq_put (kci_declines h (if_pos (by rw [he]; rfl)))

variable (he : (s.dev.arrives 0xAA21).expert = true)
include he

theorem expPinList_badParam (hf : 63 < first.toNat) : let x := s.dev.arrives 0xAA21
    execExpPinList src first s = .next (s.put (x.declines (x.entry src 0xAA21 .q) .badParam)) :=
  lift_eq_put (kci_declines h ((if_neg (by rw [he]; decide)).trans (if_pos hf)))

theorem expPinList_answers (hf : first.toNat ≤ 63) : let x := s.dev.arrives 0xAA21
    execExpPinList src first s = .next (s.put (x.completes (x.entry src 0xAA21 .q) x (be 1 x.mgmt.pins.length ++
      zeros 3 ++ ((x.mgmt.pins.drop first.toNat).take (pinPage src)).flatMap Pin.bytes))) :=
  lift_eq_put (kci_completes h ((if_neg (by rw [he]; decide)).trans (if_neg (Nat.not_lt.mpr hf))))

end

/-! ## The twin's register requests (R365) -/

section
variable {d : Dev} {seq : Byte} {type : Nat} (f : Dev → Dev)

theorem accept_linkOff (h : d.domOn dXCUT = false) : d.accept seq type f = d := if_pos (by rw [h]; rfl)

/-- A cell whose SEQ is one of the last 16 accepted changes nothing (R351). -/
theorem accept_seen (h : d.xc.seen.contains seq.toNat = true) : d.accept seq type f = d := if_pos (by rw [h, Bool.or_true])

theorem accept_fresh (hx : d.domOn dXCUT = true) (h : d.xc.seen.contains seq.toNat = false) : d.accept seq type f = f (d.taken seq type) :=
  if_neg (by rw [hx, h]; decide)

end

section
variable {s : State} {seq : Byte} {body : List Byte}

theorem rreqCell_ignored (h : ∀ f, s.dev.accept seq 10 f = s.dev) : execRreqCell seq body s = .next s :=
  liftMem_eq_dev ((h _))

/-- The records kept before a cell of TAG `tag`: those of its own message; an incomplete one of another TAG is dropped and counted. -/
theorem rreqBefore_eq {d e : Dev} {tag : Nat} {l : List XOp} (h : d.xc.rreq = some (tag, l) ∧ e = d ∨ l = [] ∧ d.xc.rreq = none ∧ e = d ∨
    l = [] ∧ (∃ t m, t ≠ tag ∧ d.xc.rreq = some (t, m)) ∧ e = d.inc F.XC_LERR_CRCERR 0) : d.rreqBefore tag = (l, e) := by
  unfold Dev.rreqBefore
  rcases h with ⟨hr, rfl⟩ | ⟨rfl, hr, rfl⟩ | ⟨rfl, ⟨t, m, ht, hr⟩, rfl⟩
  · rw [hr]
    exact if_pos rfl
  · rw [hr]
  · rw [hr]
    exact if_neg ht

variable (hx : s.dev.domOn dXCUT = true) (hs : s.dev.xc.seen.contains seq.toNat = false)
include hx hs

theorem rreqCell_solo (ha : (s.dev.taken seq 10).attached = false) : execRreqCell seq body s = .next (s.put (s.dev.taken seq 10)) :=
  liftMem_eq_dev (((accept_fresh _ hx hs).trans (if_pos (by rw [ha]; rfl))))

variable (ha : (s.dev.taken seq 10).attached = true) {l : List XOp} {e : Dev} (hb : (s.dev.taken seq 10).rreqBefore (fieldAt body 0 1) = (l, e))
include ha hb

theorem rreqCell_keeps (hl : (fieldAt body 1 1).testBit 7 = false) : execRreqCell seq body s =
    .next (s.put (e.mapXc fun c => { c with rreq := some (fieldAt body 0 1, l ++ rreqOps body) })) := by
  refine liftMem_eq_dev (((accept_fresh _ hx hs).trans ?_))
  simp only [ha, hb, hl, Bool.not_true, Bool.false_eq_true, if_false]

theorem rreqCell_executes (hl : (fieldAt body 1 1).testBit 7 = true) : execRreqCell seq body s = .next (s.put
    ((e.mapXc fun c => { c with rreq := none }).rreqRun s.mem (fieldAt body 0 1) (l ++ rreqOps body))) := by
  refine liftMem_eq_dev (((accept_fresh _ hx hs).trans ?_))
  simp only [ha, hb, hl, Bool.not_true, Bool.false_eq_true, if_false, if_true]

end

/-- Settles O59: expert access first, then the parameters; a pin's register decides before the free entries; a cell's SEQ, its pair and LAST. -/
theorem expertAndTwinAccess : Obligations.ExpertAndTwinAccess := by
  intro s src
  refine ⟨fun addr c h => ⟨expRegRd_denied h, fun he hn => expRegRd_badParam h he ?_, fun he ha h1 h2 hc =>
        expRegRd_answers h he ⟨ha, (expCount_iff _ _).mpr ⟨h1, h2, hc⟩⟩⟩,
    fun addr mask value h => ⟨expRegWr_denied h, expRegWr_badParam h, expRegWr_writes h⟩,
    fun h he => ⟨fun u i a m v => ⟨expPin_noTarget h he, expPin_pins h he, expPin_exhausted h he, expPin_remove h he⟩,
      fun u i a m v => expPin_removeAll h he, fun act u i a m v hn => expPin_badAction h he hn⟩,
    fun h he act u i a m v => expPin_denied h he act,
    fun first h => ⟨expPinList_denied h, expPinList_badParam h, expPinList_answers h⟩,
    fun seq body => ⟨fun hx => rreqCell_ignored fun f => accept_linkOff f hx, fun hx => ⟨fun hs => rreqCell_ignored fun f => accept_seen f hs,
      fun hs => ⟨rreqCell_solo hx hs, fun ha l e hb =>
        ⟨rreqCell_keeps hx hs ha (rreqBefore_eq hb), rreqCell_executes hx hs ha (rreqBefore_eq hb)⟩⟩⟩⟩⟩
  rintro ⟨ha, hc⟩
  obtain ⟨h1, h2, hf⟩ := (expCount_iff _ _).mp hc
  rcases hn with hn | hn | hn | ⟨hn, f, rfl⟩
  · exact hn ha
  · omega
  · omega
  · exact absurd (hf f rfl) (by omega)

end Sys2Proof.Machine

/-! PROOFS. Chapter 11, the management interface: identity, the commanded reset, and the twin's firmware messages. -/

namespace Sys2Proof.Machine

/-! ## SYS.ID.GET and SYS.RESET (R280) -/

section
variable {s : State} {src : Src}

theorem sysIdGet_answers (h : s.dev.admits src 0xA000 .q = true) : let x := s.dev.arrives 0xA000
    ∃ p, execSysIdGet src s = .next (s.put (x.completes (x.entry src 0xA000 .q) x p)) ∧ p.length = 20 ∧
      p.take 12 = be 2 (x.rd F.GLB_ID_PART) ++ be 1 (x.rd F.GLB_ID_STEP) ++ be 1 (x.rd F.GLB_ID_GRADE) ++ be 8 x.sec.serial := by
  refine ⟨_, lift_eq_put (kci_completes h rfl), ?_, ?_⟩
  · simp only [List.length_append, length_be]
  · simp only [List.append_assoc]
    simp only [← List.append_assoc (be 1 _) (be 8 _), ← List.append_assoc (be 1 _) (be 1 _ ++ be 8 _), ← List.append_assoc (be 2 _)]
    exact List.take_left' (by simp only [List.length_append, length_be])

variable (h : s.dev.admits src 0xA001 .c = true)
include h

theorem sysReset_due (ho : (s.dev.arrives 0xA001).mgmt.outst = []) : let x := s.dev.arrives 0xA001
    execSysReset src s = .next (s.put (x.completes (x.entry src 0xA001 .c) (x.mapMgmt fun m => { m with resetDue := true }) [])) :=
  lift_eq_put (kci_completes h (by rw [ho]))

theorem sysReset_busy {a : Accepted} {t : List Accepted} (ho : (s.dev.arrives 0xA001).mgmt.outst = a :: t) :
    let x := s.dev.arrives 0xA001
    execSysReset src s = .next (s.put (x.respondBusy src 0xA001 (x.retryOf a))) :=
  lift_eq_put ((kci_of_admits _ h).trans (runBody_busy (by rw [ho])))

end

/-! ## Firmware messages of the twin (R355, R357, R366, R368) -/

theorem taken_fwRun (d : Dev) (seq : Byte) (type : Nat) : (d.taken seq type).fwRun = d.fwRun := by
  unfold Dev.taken
  dsimp only
  split <;> rfl

/-- A cell's reception leaves the state of the pair as it was. -/
theorem taken_attached (d : Dev) (seq : Byte) (type : Nat) : (d.taken seq type).attached = d.attached := by
  unfold Dev.taken Dev.attached
  dsimp only
  split
  · rfl
  · exact congrArg (· == 3) (rd_wr_fld _ _ _ _ _ _ (by decide))

section
variable {s : State} {seq : Byte}

theorem relayedFrame_ignored (h : s.dev.domOn dXCUT = false ∨ s.dev.xc.seen.contains seq.toNat = true) (fr : List Byte) :
    s.dev.relayedFrame seq fr = false := by
  unfold Dev.relayedFrame
  rcases h with h | h
  · rw [h]
    rfl
  · rw [h, Bool.not_true, Bool.and_false]
    rfl

theorem accept_ignored (h : s.dev.domOn dXCUT = false ∨ s.dev.xc.seen.contains seq.toNat = true) (type : Nat) (f : Dev → Dev) :
    s.dev.accept seq type f = s.dev :=
  h.elim (accept_linkOff f) (accept_seen f)

theorem mailboxRelayCell_command_eq_lift {fr : List Byte} (hr : s.dev.relayedFrame seq fr = false) :
    execMailboxRelayCell seq (.command fr) s = lift (fun d => d.accept seq 7 id) s := if_neg (by rw [hr]; decide)

/-- Every message but a command has its own effect, under firmware. -/
theorem mailboxRelayCell_eq_lift {m : RelayMsg} (hm : ∀ fr, m ≠ .command fr) :
    execMailboxRelayCell seq m s = lift (fun d => d.accept seq 7 fun d1 => if d1.fwRun then d1.twinMessage m else d1) s := by
  cases m with
  | command fr => exact absurd rfl (hm fr)
  | _ => rfl

theorem mailboxRelayCell_ignored (h : s.dev.domOn dXCUT = false ∨ s.dev.xc.seen.contains seq.toNat = true) (m : RelayMsg) :
    execMailboxRelayCell seq m s = .next s := by
  by_cases hm : ∀ fr, m ≠ .command fr
  · exact (mailboxRelayCell_eq_lift hm).trans (lift_eq_self (accept_ignored h 7 _))
  · push Not at hm
    obtain ⟨fr, rfl⟩ := hm
    exact (mailboxRelayCell_command_eq_lift (relayedFrame_ignored h fr)).trans (lift_eq_self (accept_ignored h 7 _))

variable (hx : s.dev.domOn dXCUT = true) (hs : s.dev.xc.seen.contains seq.toNat = false) (hf : (s.dev.taken seq 7).fwRun = true)
include hx hs

/-- A command message that carries no frame for this device: its SEQ is kept. -/
theorem mailboxRelayCell_command_kept {fr : List Byte} (hr : s.dev.relayedFrame seq fr = false) :
    execMailboxRelayCell seq (.command fr) s = .next (s.put (s.dev.taken seq 7)) :=
  (mailboxRelayCell_command_eq_lift hr).trans (lift_eq_put (accept_fresh id hx hs))

include hf

theorem relayedFrame_eq (fr : List Byte) : s.dev.relayedFrame seq fr = ((s.dev.taken seq 7).attached && decide (8 ≤ fr.length)) := by
  rw [taken_fwRun] at hf
  unfold Dev.relayedFrame
  rw [taken_attached, hx, hs, hf]
  rfl

theorem mailboxRelayCell_command_runs (ha : (s.dev.taken seq 7).attached = true) {fr : List Byte} (hl : 8 ≤ fr.length) :
    execMailboxRelayCell seq (.command fr) s = runFrame (.twin (fr.getD 2 0)) fr (s.put (s.dev.taken seq 7)) :=
  if_pos (by rw [relayedFrame_eq hx hs hf, ha, decide_eq_true hl]; rfl)

/-- Any other message has its own effect. -/
theorem mailboxRelayCell_message {m : RelayMsg} {e : Dev} (hm : ∀ fr, m ≠ .command fr) (he : (s.dev.taken seq 7).twinMessage m = e) :
    exec (.mailboxRelayCell seq m) s = .next (s.put e) :=
  (mailboxRelayCell_eq_lift hm).trans (lift_eq_put ((accept_fresh _ hx hs).trans ((if_pos hf).trans he)))

end

/-- A pair that is not attached lets the certificate and attestation pass, and nothing else. -/
theorem twinMessage_detached {d : Dev} (h : d.attached = false) {m : RelayMsg} (hm : ∀ nonce, m ≠ .attest nonce) : d.twinMessage m = d := by
  cases m with
  | attest nonce => exact absurd rfl (hm nonce)
  | _ => exact if_pos (by rw [h]; rfl)

section
variable {s : State} {seq : Byte} (hx : s.dev.domOn dXCUT = true) (hs : s.dev.xc.seen.contains seq.toNat = false)
  (hf : (s.dev.taken seq 7).fwRun = true)
include hx hs hf

theorem mailboxRelayCell_detached (ha : (s.dev.taken seq 7).attached = false) {m : RelayMsg} (hm : ∀ nonce, m ≠ .attest nonce) :
    execMailboxRelayCell seq m s = .next (s.put (s.dev.taken seq 7)) := by
  by_cases hc : ∀ fr, m ≠ .command fr
  · exact mailboxRelayCell_message hx hs hf hc (twinMessage_detached ha hm)
  · push Not at hc
    obtain ⟨fr, rfl⟩ := hc
    exact mailboxRelayCell_command_kept hx hs (by rw [relayedFrame_eq hx hs hf, ha]; rfl)

theorem mailboxRelayCell_command_short {fr : List Byte} (hl : fr.length < 8) :
    execMailboxRelayCell seq (.command fr) s = .next (s.put (s.dev.taken seq 7)) :=
  mailboxRelayCell_command_kept hx hs (by rw [relayedFrame_eq hx hs hf, decide_eq_false (Nat.not_le.mpr hl), Bool.and_false])

end

/-- Settles O47: a fresh cell of an attached pair is one case of its message; what SYS.RESET finds outstanding decides. -/
theorem identityRelay : Obligations.IdentityRelay := by
  intro s src seq
  refine ⟨sysIdGet_answers, fun h => ⟨sysReset_due h, fun _ _ => sysReset_busy h⟩, mailboxRelayCell_ignored, fun hx hs hf => ⟨fun nonce =>
      mailboxRelayCell_message hx hs hf nofun rfl, fun ha => ?attached, fun ha m hm => mailboxRelayCell_detached hx hs hf ha hm⟩⟩
  have hn : ¬ (!(s.dev.taken seq 7).attached) = true := by rw [ha]; decide
  refine ⟨fun fr => ⟨mailboxRelayCell_command_runs hx hs hf ha, mailboxRelayCell_command_short hx hs hf,
      mailboxRelayCell_message hx hs hf nofun (if_neg hn)⟩,
    fun hl w => mailboxRelayCell_message hx hs hf nofun (if_neg hn),
    fun hl dis => mailboxRelayCell_message hx hs hf nofun (if_neg hn),
    fun hl b => ⟨mailboxRelayCell_message hx hs hf nofun (if_neg hn), fun on => mailboxRelayCell_message hx hs hf nofun (if_neg hn)⟩,
    fun _ _ _ _ _ _ _ => mailboxRelayCell_message hx hs hf nofun (if_neg hn),
    fun _ _ _ => mailboxRelayCell_message hx hs hf nofun (if_neg hn),
    mailboxRelayCell_message hx hs hf nofun (if_neg hn),
    fun w hw => mailboxRelayCell_message hx hs hf nofun ((if_neg hn).trans (by rw [hw])),
    fun hw => mailboxRelayCell_message hx hs hf nofun ((if_neg hn).trans (by rw [hw])),
    mailboxRelayCell_message hx hs hf nofun (if_neg hn), mailboxRelayCell_message hx hs hf nofun (if_neg hn)⟩

end Sys2Proof.Machine

/-! PROOFS. Chapter 11, the management interface: resets and the start-up timeline. -/

namespace Sys2Proof.Machine

/-! ## Resets of the whole device (R418, R421, R422) -/

section
variable {s : State}

theorem supplyUndervoltage_resets (h : s.dev.phase ≠ .held) : execSupplyUndervoltage s = .next (s.put s.dev.coldReset) :=
  lift_eq_put (if_neg (by rwa [beq_iff_eq]))

theorem supplyUndervoltage_held (h : s.dev.phase = .held) : execSupplyUndervoltage s = .next s :=
  lift_eq_self (if_pos (by rw [h]; rfl))

/-- A flag that has just been set is on. -/
theorem on_set {d : Dev} {f : Fld} (hw : 1 % 2 ^ f.w ≠ 0) : (d.set f).on f = true :=
  bne_iff_ne.mpr (by rwa [set_eq_wr, rd_wr_same])

/-- RESET_L_RISE samples the straps. -/
theorem resetLRise_samples (h : s.dev.phase = .held) (legacy : Bool) (tw : Fin 3) : ∃ t : Dev, execResetLRise legacy tw s = .next (s.put t) ∧
    t.phase = .rising ∧ t.mgmt.legStrap = legacy ∧ t.mgmt.twinId = tw.val ∧ t.on F.PW_CLKSTAT_REFOK = true :=
  ⟨_, lift_eq_put (if_neg (by rw [h]; decide)), rfl, rfl, rfl, on_set (by decide)⟩

/-! ## AON_READY (R309) -/

section
variable (h : s.dev.phase = .rising)
include h

theorem aonReady_loads {b : VoteCopy} (hb : s.dev.vote.best = some b) : ∃ t : Dev,
    execAonReady s = .next (s.put t) ∧ t.phase = .aon ∧ t.vote.gen = b.gen ∧ t.vote.flops = Vector.replicate 3 b.words := by
  refine ⟨_, lift_put _ _, ?_⟩
  rw [if_neg (by rw [h]; decide), hb]
  exact ⟨rfl, rfl, rfl⟩

theorem aonReady_loadErr (hb : s.dev.vote.best = none) : ∃ t : Dev,
    execAonReady s = .next (s.put t) ∧ t.phase = .aon ∧ t.on F.MI_VSTAT_LOADERR = true := by
  refine ⟨_, lift_put _ _, ?_⟩
  rw [if_neg (by rw [h]; decide), hb]
  exact ⟨rfl, on_set (by decide)⟩

end

/-! ## BOOT_ROM_START (R299, R371, R377) -/

/-- The device when the boot ROM has powered SEC and STOCK and shown what is fused and strapped. -/
def Dev.romPowered (d : Dev) : Dev := (((if d.power.boot = 2 then d else d.wr F.PW_STAT_CMIS 0 0).demand dSEC).demand dSTOCK).glbFused

section
variable (h : s.dev.phase = .aon) (hm : s.dev.domOn dMGMT = true)
include h hm

theorem bootRomStart_loadErr (hl : s.dev.romPowered.on F.MI_VSTAT_LOADERR = true) :
    execBootRomStart s = .next (s.put (s.dev.romPowered.bootFailed 0)) :=
  lift_eq_put ((if_neg (by rw [h, hm]; decide)).trans (if_pos hl))

variable (hl : s.dev.romPowered.on F.MI_VSTAT_LOADERR = false)
include hl

theorem bootRomStart_noSlot {order : List Nat} {d : Dev} (hp : s.dev.romPowered.bootTwin.shadowRepair.bootOrder = (order, d))
    (ho : order.find? d.slotOk = none) : execBootRomStart s = .next (s.put (d.bootFailed 7)) := by
  unfold Dev.romPowered at hl hp
  refine lift_eq_put ((if_neg (by rw [h, hm]; decide)).trans ?_)
  simp only [hl, hp, ho, Bool.false_eq_true, if_false]

theorem bootRomStart_runs {order : List Nat} {d : Dev} (hp : s.dev.romPowered.bootTwin.shadowRepair.bootOrder = (order, d))
    {sl : Nat} (ho : order.find? d.slotOk = some sl) : execBootRomStart s =
      .next (s.put (({ d with phase := .rom }).mapSec fun x => { x with chosen := sl, running := d.slotImage sl })) := by
  unfold Dev.romPowered at hl hp
  refine lift_eq_put ((if_neg (by rw [h, hm]; decide)).trans ?_)
  simp only [hl, hp, ho, Bool.false_eq_true, if_false]

end

/-! ## SRAM_INIT_DONE (R300) -/

section
variable (h : s.dev.phase = .aon ∨ s.dev.phase = .rom ∨ s.dev.phase = .fw) (hm : s.dev.domOn dMGMT = true) (hr : s.dev.on F.GLB_STAT_SRAMRDY = false)
include h hm hr

theorem sramInit_due : ¬ (s.dev.phase == .held || s.dev.phase == .rising || s.dev.phase == .off || !s.dev.domOn dMGMT ||
    s.dev.on F.GLB_STAT_SRAMRDY) = true := by
  rw [hm, hr]
  rcases h with h | h | h <;> (rw [h]; decide)

theorem sramInitDone_soft (hb : s.dev.power.boot = 2) : execSramInitDone s = .next (s.put (s.dev.set F.GLB_STAT_SRAMRDY)) :=
  liftMem_eq_put ((if_neg (sramInit_due h hm hr)).trans (if_pos hb))

theorem sramInitDone_clears (hb : s.dev.power.boot ≠ 2) : execSramInitDone s = .next { s with
    mem := memClear s.mem patBase (patBase + 0x100000), dev := (s.dev.set F.GLB_STAT_SRAMRDY).memFresh [.mgmt, .pattern] } :=
  liftMem_eq_next ((if_neg (sramInit_due h hm hr)).trans (if_neg hb))

end

/-! ## FIRMWARE_START (R429, R431) -/

/-- Firmware runs, out of the slot the boot ROM has chosen. -/
def Dev.fwBegun (d : Dev) : Dev :=
  ((((({ d with phase := .fw }).set F.GLB_STAT_FWRUN).wr F.GLB_STAT_BOOT 0 d.sec.chosen).wr F.SEC_BOOT_RUN 0
    d.sec.chosen).stateInt).mapMgmt fun m => { m with lowPwrAllowHW := true, lowPwrSW := false, coreFast := true }

section
variable (h : s.dev.phase = .rom) (hs : s.dev.domOn dSEC = true) (hp : s.dev.domOn dSTOCK = true)
include h hs hp

theorem firmwareStart_cold (hb : s.dev.power.boot ≠ 2) :
    let d2 := ({ s.dev.fwBegun with fw := [] }).services
    let d3 := ((d2.wr F.PW_STAT_STATE 0 1).wr F.PW_STAT_CMIS 0 (if d2.on F.PW_STAT_TTRIP then 5 else 1)).wr F.PW_AVS_DUTY 0
      (avsDuty s.dev.sec.avsTarget)
    execFirmwareStart s = .next (s.put (if s.dev.power.boot = 1 then d3.offAges else d3).powerEval) := by
  intro d2 d3
  refine lift_eq_put ((if_neg (by rw [h, hs, hp]; decide)).trans ?_)
  simp only [beq_eq_false_iff_ne.mpr hb, Bool.false_eq_true, if_false]
  rfl

theorem firmwareStart_soft (hb : s.dev.power.boot = 2) : let d1 := s.dev.fwBegun
    let d2 := iter 8 (fun k (e : Dev) => e.bistPowerDown k) ({ d1 with fw := d1.rebuilt }).services
    let d3 := if d2.domOn dWHET then d2.trapReport.wsRestart else d2
    execFirmwareStart s = .next (s.put
      (iter 8 (fun k (e : Dev) => e.mapLane k fun l => { l with alarm := l.alarm ||| 16 }) d3).xcResume.powerEval.powerProgress) := by
  intro d1 d2 d3
  refine lift_eq_put ((if_neg (by rw [h, hs, hp]; decide)).trans ?_)
  simp only [hb, beq_self_eq_true, if_true]
  rfl

end

/-! ## Resets of the management core (R280, R394) -/

theorem watchdogReset_idle (h : s.dev.fwRun = false) : execWatchdogReset s = .next s := lift_eq_self (if_pos (by rw [h]; rfl))

theorem watchdogReset_resets (h : s.dev.fwRun = true) :
    execWatchdogReset s = .next (s.put (s.dev.mgmt.outst.foldl Dev.endFault s.dev).softReset) :=
  lift_eq_put (if_neg (by rw [h]; decide))

theorem softResetStart_resets (h : s.dev.fwRun = true) (hd : s.dev.mgmt.resetDue = true) :
    execSoftResetStart s = .next (s.put (s.dev.mgmt.outst.foldl Dev.endFault s.dev).softReset) :=
  lift_eq_put (if_pos (by rw [h, hd]; rfl))

theorem softResetStart_idle (h : (s.dev.fwRun && s.dev.mgmt.resetDue) = false) : execSoftResetStart s = .next s :=
  lift_eq_self (if_neg (by rw [h]; decide))

end

/-- Settles O51: each event by the phase it meets; what a cold reset keeps and what firmware starts with stand in their definitions. -/
theorem resetAndBoot : Obligations.ResetAndBoot := fun s =>
  ⟨⟨rfl, rfl, rfl, rfl, rfl, rfl, rfl⟩, supplyUndervoltage_resets, supplyUndervoltage_held, rfl, fun legacy tw h => resetLRise_samples h legacy tw,
    fun h => ⟨fun _ => aonReady_loads h, aonReady_loadErr h⟩,
    fun h hm => ⟨bootRomStart_loadErr h hm, fun hl => ⟨bootRomStart_noSlot h hm hl rfl, fun _ => bootRomStart_runs h hm hl rfl⟩⟩,
    fun h hm hr => ⟨sramInitDone_soft h hm hr, sramInitDone_clears h hm hr⟩,
    fun h hs hp => ⟨firmwareStart_cold h hs hp, firmwareStart_soft h hs hp⟩,
    fun h => ⟨watchdogReset_idle h, softResetStart_idle (by rw [h]; rfl)⟩,
    fun h => ⟨watchdogReset_resets h, softResetStart_resets h, fun hd => softResetStart_idle (by rw [hd, Bool.and_false])⟩⟩

end Sys2Proof.Machine

/-! PROOFS. Chapter 11, the management interface: two-wire events, CMIS page writes and the status refresh. -/

namespace Sys2Proof.Machine

/-! ## Two-wire reads (R259, R260, R265) -/

theorem mgmt_cell (d : Dev) (type : Nat) (body : List Byte) : (d.cell type body).mgmt = d.mgmt := by
  unfold Dev.cell
  dsimp only
  split <;> rfl

theorem swap_cell (d : Dev) (type : Nat) (body : List Byte) : (d.cell type body).xc.swap = d.xc.swap := by
  unfold Dev.cell
  dsimp only
  split <;> rfl

/-- What the device holds for the master, and whether a swap is pending. -/
def Dev.twoWireView (d : Dev) : List Byte × Bool := (d.mgmt.twoOut, d.xc.swap)

theorem twoWireView_message (d : Dev) (l : List Byte) : (d.message l).twoWireView = d.twoWireView :=
  iter_keeps Dev.twoWireView (fun _ e _ => congrArg₂ Prod.mk (congrArg Mgmt.twoOut (mgmt_cell e _ _)) (swap_cell e _ _)) d

theorem twoWireView_twinBits (d : Dev) (o i kind : Nat) (v : Nat → Bool) : (d.twinBits o i kind v).twoWireView = d.twoWireView := by
  refine foldl_keeps Dev.twoWireView (fun e p => ?_) _ d
  dsimp only
  split
  · rfl
  · exact twoWireView_message _ _

theorem twoWireView_cmisReadClears (d : Dev) (o : Nat) : (d.cmisReadClears o).twoWireView = d.twoWireView := by
  unfold Dev.cmisReadClears
  split_ifs
  · rfl
  · rfl
  · split
    · exact twoWireView_twinBits _ _ _ _ _
    · rfl

theorem attached_of_regs {d e : Dev} (h : e.regs = d.regs) : e.attached = d.attached := by
  unfold Dev.attached Dev.rd
  rw [h]

theorem attached_mapMgmt (d : Dev) (f : Mgmt → Mgmt) : (d.mapMgmt f).attached = d.attached := attached_of_regs rfl

section
variable {d : Dev} (h : d.attached = false)
include h

/-- A module lane of a device without an attached twin is its own. -/
theorem cmisLane_detached (m : Nat) : d.cmisLane m = some (false, m) := if_pos (by rw [h]; rfl)

theorem twinBits_detached (o i kind : Nat) (v : Nat → Bool) : d.twinBits o i kind v = d := by
  have hl : d.twinLanes d.mgmt.bankSel = [] := by
    unfold Dev.twinLanes
    simp only [cmisLane_detached h, List.filterMap_none]
  unfold Dev.twinBits
  rw [hl]
  rfl

theorem regs_cmisReadClears_detached (o : Nat) : (d.cmisReadClears o).regs = d.regs := by
  unfold Dev.cmisReadClears
  split_ifs
  · rfl
  · rfl
  · split
    · rw [twinBits_detached ((attached_mapMgmt d _).trans h)]
      rfl
    · rfl

end

theorem regs_foldl_cmisReadClears {d : Dev} (h : d.attached = false) (l : List Nat) : (l.foldl Dev.cmisReadClears d).regs = d.regs := by
  induction l generalizing d with
  | nil => rfl
  | cons o l ih =>
    have hr := regs_cmisReadClears_detached h o
    exact (ih ((attached_of_regs hr).trans h)).trans hr

/-! ## TWO_WIRE_STOP (R260, R356, R367) -/

theorem swapStop_idle {d : Dev} (h : d.xc.swap = false) : d.swapStop = d := if_neg (by rw [h]; exact Bool.false_ne_true)

section
variable {s : State}

theorem twoWireStop_noPins (h : s.dev.pinsLive = false) (x : TwoWire) : execTwoWireStop x s = .next s :=
  lift_eq_self (if_neg (by rw [h]; decide))

variable (h : s.dev.pinsLive = true)
include h

/-- A transaction takes effect, and then a pending swap. -/
theorem twoWireStop_done {x : TwoWire} {e t : Dev} (he : s.dev.twoWireDone x = e) (ht : e.swapStop = t) :
    execTwoWireStop x s = .next (s.put t) :=
  lift_eq_put ((if_pos h).trans ((congrArg Dev.swapStop he).trans ht))

theorem twoWireStop_other_idle (hs : s.dev.xc.swap = false) : execTwoWireStop .other s = .next s :=
  twoWireStop_done h rfl (swapStop_idle hs)

theorem twoWireStop_other_swaps (hs : s.dev.xc.swap = true) (ha : s.dev.attached = true) :
    execTwoWireStop .other s = .next (s.put s.dev.swapNow) :=
  twoWireStop_done h (e := s.dev) rfl (if_pos (by rw [hs, ha]; rfl))

variable (ht : s.dev.twoWire = true) (hf : s.dev.fwRun = true) (hs : s.dev.xc.swap = false) {addr : BitVec 7} (ha : s.dev.answers addr = true)
include ht hf hs ha

theorem twoWireStop_read (off : Byte) (n : Nat) : ∃ t : Dev, execTwoWireStop (.read addr off n) s = .next (s.put t) ∧
    t.mgmt.twoOut = (cmisSpan off.toNat n).map s.dev.cmisByte ∧ (s.dev.attached = false → t.regs = s.dev.regs) := by
  let l := cmisSpan off.toNat n
  let d1 := s.dev.mapMgmt fun m => { m with twoOut := l.map s.dev.cmisByte }
  have hrom : s.dev.romOrFw = true := by
    unfold Dev.romOrFw
    unfold Dev.fwRun at hf
    rw [hf, Bool.or_true]
  have hdone : s.dev.twoWireDone (.read addr off n) = (l.foldl Dev.cmisReadClears d1).mapMgmt Mgmt.intEval :=
    (if_neg (by rw [ht, ha, hrom]; decide)).trans (if_pos hf)
  have hview : (l.foldl Dev.cmisReadClears d1).twoWireView = (l.map s.dev.cmisByte, false) :=
    (foldl_keeps Dev.twoWireView twoWireView_cmisReadClears l d1).trans (congrArg (Prod.mk _) hs)
  obtain ⟨hout, hswap⟩ := Prod.mk.inj hview
  refine ⟨_, twoWireStop_done h hdone (swapStop_idle hswap), hout, fun hd => ?_⟩
  exact regs_foldl_cmisReadClears ((attached_mapMgmt _ _).trans hd) l

/-- A write of two bytes from 126 on selects bank and page. -/
theorem twoWireStop_selects (bank page : Byte) : ∃ t : Dev, execTwoWireStop (.write addr 126 [bank, page]) s = .next (s.put t) ∧
    t.mgmt.bankSel = bank.toNat ∧ t.mgmt.pageSel = page.toNat ∧ t.regs = s.dev.regs := by
  have hdone : s.dev.twoWireDone (.write addr 126 [bank, page]) =
      (s.dev.mapMgmt fun m => { m with bankSel := bank.toNat, pageSel := page.toNat }).mapMgmt Mgmt.intEval :=
    if_neg (by rw [ht, ha, hf]; decide)
  exact ⟨_, twoWireStop_done h hdone (swapStop_idle hs), rfl, rfl, rfl⟩

end

/-! ## SETDASA and LPMODE (R259, R395) -/

section
variable {s : State}

theorem setdasa_keeps (a : BitVec 7) (hf : s.dev.fwRun = true) (ht : s.dev.twoWire = true) :
    execSetdasa a s = .next (s.put (s.dev.mapMgmt fun m => { m with i3cAddr := some a })) := lift_eq_put (if_pos (by rw [hf, ht]; rfl))

theorem setdasa_unheard (a : BitVec 7) (h : s.dev.fwRun = false ∨ s.dev.twoWire = false) : execSetdasa a s = .next s :=
  lift_eq_self (if_neg (by rw [Bool.and_eq_true]; rcases h with h | h <;> simp [h]))

theorem lpmodeChange_live (v : Bool) (h : s.dev.pinsLive = true) :
    execLpmodeChange v s = .next (s.put ((s.dev.mapMgmt fun m => { m with lpmode := v }).powerEval.powerProgress)) :=
  lift_eq_put (if_pos h)

theorem lpmodeChange_noPins (v : Bool) (h : s.dev.pinsLive = false) :
    execLpmodeChange v s = .next (s.put (s.dev.mapMgmt fun m => { m with lpmode := v })) :=
  lift_eq_put (if_neg (by rw [Bool.not_eq_true]; exact h))

end

/-! ## CMIS page writes (R146, R147, R237, R266, R268) -/

section
variable {s : State}

/-- A page write that does not reach firmware changes nothing. -/
theorem cmisWrite_off (h : s.dev.cmisOn = false) : (∀ k as size lrm outputs pretx prerx, execCmisAppselWrite k as size lrm outputs pretx prerx s = .next s) ∧
    (∀ n dis, execCmisOutputDisableWrite n dis s = .next s) ∧ (∀ n q, execCmisEqCodeWrite n q s = .next s) ∧
    (∀ r a, execCmisLowpwrSwWrite r a s = .next s) := by
  have hc : (!s.dev.cmisOn) = true := by rw [h]; rfl
  exact ⟨fun _ _ _ _ _ _ _ => lift_eq_self (if_pos hc), fun _ _ => lift_eq_self (if_pos hc), fun _ _ => lift_eq_self (if_pos hc),
    fun _ _ => lift_eq_self (if_pos hc)⟩

variable (h : s.dev.cmisOn = true)
include h

theorem cmisLowpwrSwWrite_keeps (r a : Bool) : execCmisLowpwrSwWrite r a s = .next (s.put ((s.dev.mapMgmt fun m =>
    { m with lowPwrSW := r, lowPwrAllowHW := a }).powerEval.powerProgress)) := lift_eq_put (if_neg (by rw [h]; decide))

section
variable {k : Fin 8} {n : Nat} (as : BitVec 4) (size lrm outputs pretx prerx : Byte)

theorem cmisAppselWrite_own (hn : s.dev.cmisLane (2 * k.val) = some (false, n)) {e : Dev}
    (he : s.dev.appsel ⟨n / 2, as.toNat, size.toNat, lrm.toNat, outputs.toNat, pretx.toNat, prerx.toNat⟩ = e) :
    execCmisAppselWrite k as size lrm outputs pretx prerx s = .next (s.put e) :=
  lift_eq_put ((if_neg (by rw [h]; decide)).trans (by rw [hn]; exact he))

theorem cmisAppselWrite_twin (hn : s.dev.cmisLane (2 * k.val) = some (true, n)) : execCmisAppselWrite k as size lrm outputs pretx prerx s =
    .next (s.put (s.dev.relayWrite n 0xE1 (be 1 (n / 2) ++ be 1 as.toNat ++ [size, lrm, outputs, pretx, prerx]))) :=
  lift_eq_put ((if_neg (by rw [h]; decide)).trans (by rw [hn]; rfl))

end

section
variable {hl : Fin 16} {n : Nat}

theorem cmisOutputDisableWrite_own (hn : s.dev.cmisLane hl.val = some (false, n)) (dis : Bool) :
    execCmisOutputDisableWrite hl dis s = .next (s.put (s.dev.outputDisable n dis)) :=
  lift_eq_put ((if_neg (by rw [h]; decide)).trans (by rw [hn]; rfl))

theorem cmisOutputDisableWrite_twin (hn : s.dev.cmisLane hl.val = some (true, n)) (dis : Bool) :
    execCmisOutputDisableWrite hl dis s = .next (s.put (s.dev.relayWrite n 0xE2 (be 1 n ++ be 1 (b2n dis)))) :=
  lift_eq_put ((if_neg (by rw [h]; decide)).trans (by rw [hn]; rfl))

theorem cmisOutputDisableWrite_unmapped (hn : s.dev.cmisLane hl.val = none) (dis : Bool) : execCmisOutputDisableWrite hl dis s = .next s :=
  lift_eq_self ((if_neg (by rw [h]; decide)).trans (by rw [hn]))

theorem cmisEqCodeWrite_own (hn : s.dev.cmisLane hl.val = some (false, n)) (q : EqWrite) :
    execCmisEqCodeWrite hl q s = .next (s.put (s.dev.cmisEq n q)) :=
  lift_eq_put ((if_neg (by rw [h]; decide)).trans (by rw [hn]; rfl))

theorem cmisEqCodeWrite_twin (hn : s.dev.cmisLane hl.val = some (true, n)) (q : EqWrite) :
    execCmisEqCodeWrite hl q s = .next (s.put (s.dev.relayWrite n 0xE3 (be 1 n ++ eqBytes q))) :=
  lift_eq_put ((if_neg (by rw [h]; decide)).trans (by rw [hn]; rfl))

theorem cmisEqCodeWrite_unmapped (hn : s.dev.cmisLane hl.val = none) (q : EqWrite) : execCmisEqCodeWrite hl q s = .next s :=
  lift_eq_self ((if_neg (by rw [h]; decide)).trans (by rw [hn]))

end

end

section
variable {d : Dev} {r : AppReq} (hw : d.mgmt.appselWait = [])
include hw

/-- A selection behind no other is evaluated at once, when nothing conflicts with it. -/
theorem appsel_free (hb : (d.appselBlock r).isSome = false) : d.appsel r = (d.appselTake r).mapMgmt fun m => { m with appselWait := [] } := by
  unfold Dev.appsel
  rw [hw]
  exact if_neg (by rw [hb]; decide)

theorem appsel_blocked (hb : (d.appselBlock r).isSome = true) : d.appsel r = d.mapMgmt fun m => { m with appselWait := [r] } := by
  unfold Dev.appsel
  rw [hw]
  exact if_pos hb

end

/-! ## CMIS_STATUS_REFRESH (R142, R267, R357) -/

section
variable {d : Dev} (h : d.attached = false)
include h

theorem mirrorChanges_detached : d.mirrorChanges = d := if_pos (by rw [h]; rfl)

theorem askLanes_detached : d.askLanes = d := if_pos (by rw [h]; rfl)

end

theorem appselProgress_none {d : Dev} (h : d.mgmt.appselWait = []) : d.appselProgress = d.mapMgmt fun m => { m with appselWait := [] } := by
  unfold Dev.appselProgress
  rw [h]
  rfl

/-- The pages that a refresh publishes. -/
def Dev.published (d : Dev) : Dev := d.mapMgmt fun m => Mgmt.intEval { m with
  page00 := d.rd F.PW_STAT_CMIS
  cmisFlags := (List.range 16).map fun n => m.cmisFlags.getD n 0 ||| d.newFlags n
  page11 := Vector.ofFn fun n : Fin 16 => d.laneStatus n.val
  page14 := Vector.ofFn fun k : Fin 8 => (d.tel.getD k.val {}).snrp }

section
variable {s : State}

/-- With no selection waiting and no twin attached a refresh publishes the status and does no more. -/
theorem cmisStatusRefresh_publishes (hf : s.dev.fwRun = true) (hw : s.dev.mgmt.appselWait = []) (ha : s.dev.attached = false) :
    execCmisStatusRefresh s = .next (s.put (s.dev.published.mapMgmt fun m => { m with appselWait := [] })) := by
  have hprog : s.dev.published.appselProgress = s.dev.published.mapMgmt fun m => { m with appselWait := [] } := appselProgress_none hw
  have hatt : s.dev.published.appselProgress.attached = false := by
    rw [hprog, attached_mapMgmt]
    exact (attached_mapMgmt _ _).trans ha
  have hrest : s.dev.published.appselProgress.mirrorChanges.askLanes = s.dev.published.appselProgress := by
    rw [mirrorChanges_detached hatt, askLanes_detached hatt]
  exact lift_eq_put ((if_neg (by rw [hf]; decide)).trans (hrest.trans hprog))

end

theorem cmisFlags_published (d : Dev) (n : Fin 16) : d.published.mgmt.cmisFlags.getD n 0 = (d.mgmt.cmisFlags.getD n 0 ||| d.newFlags n) := by
  have hget : ∀ f : Nat → Nat, ((List.range 16).map f).getD n 0 = f n := fun f => by
    simp [n.isLt]
  exact hget fun m => d.mgmt.cmisFlags.getD m 0 ||| d.newFlags m

theorem page11_published (d : Dev) (n : Fin 16) : d.published.mgmt.page11.getD n.val {} = d.laneStatus n.val := by
  have hget : ∀ f : Fin 16 → Page11, (Vector.ofFn f).getD n.val {} = f n := fun f => by
    simp [Vector.getD]
  exact hget fun m => d.laneStatus m.val

/-- Settles O45: who is selected and what runs decides first, then the lane behind the module lane. -/
theorem cmisEvents : Obligations.CmisEvents := by
  intro s k h
  refine ⟨rfl, rfl, fun a => setdasa_keeps a, fun a => setdasa_unheard a, lpmodeChange_live, lpmodeChange_noPins, fun x hp => twoWireStop_noPins hp x,
    fun hp => ⟨twoWireStop_other_idle hp, twoWireStop_other_swaps hp, fun ht hf hs addr ha =>
      ⟨twoWireStop_read hp ht hf hs ha, twoWireStop_selects hp ht hf hs ha⟩⟩,
    fun hc => ⟨fun n as size lrm outputs pretx prerx hn => ?own, fun n as size lrm outputs pretx prerx => cmisAppselWrite_twin hc as size lrm outputs pretx prerx,
      fun n dis hn => cmisOutputDisableWrite_own hc hn dis, fun n dis hn => cmisOutputDisableWrite_twin hc hn dis,
      fun n q hn => cmisEqCodeWrite_own hc hn q, fun n q hn => cmisEqCodeWrite_twin hc hn q,
      fun hn => ⟨cmisOutputDisableWrite_unmapped hc hn, cmisEqCodeWrite_unmapped hc hn⟩⟩,
    fun r a hc => cmisLowpwrSwWrite_keeps hc r a, fun hc => ?off, fun hf hw ha => ?refresh⟩
  case own =>
    have hrun {e : Dev} := cmisAppselWrite_own hc as size lrm outputs pretx prerx hn (e := e)
    exact ⟨hrun rfl, fun hw hb => hrun (appsel_free hw hb), fun hw hb => hrun (appsel_blocked hw hb)⟩
  case off =>
    obtain ⟨happ, hout, heq, hlow⟩ := cmisWrite_off hc
    exact ⟨happ k, hout h, heq h, hlow⟩
  case refresh =>
    exact ⟨_, cmisStatusRefresh_publishes hf hw ha, rfl, cmisFlags_published _ h, page11_published _ h, rfl⟩

end Sys2Proof.Machine

/-! PROOFS. Chapter 12, memory integrity and the Stockpot: the vote words, the scrubber, blocks, the log with its flush and mount, the summaries
of a second and the hourly copy. -/

namespace Sys2Proof.Machine

/-! ## The majority of three copies (R308) -/

theorem majority_last_differs (a b : Nat) : majority a a b = a :=
  Nat.eq_of_testBit_eq fun i => by
    simp only [majority, Nat.testBit_or, Nat.testBit_and]
    cases a.testBit i <;> cases b.testBit i <;> rfl

theorem majority_rotate (a b c : Nat) : majority a b c = majority b c a :=
  Nat.eq_of_testBit_eq fun i => by
    simp only [majority, Nat.testBit_or, Nat.testBit_and]
    cases a.testBit i <;> cases b.testBit i <;> cases c.testBit i <;> rfl

theorem majority_middle_differs (a b : Nat) : majority a b a = a := by
  rw [majority_rotate, majority_rotate, majority_last_differs]

theorem majority_first_differs (a b : Nat) : majority b a a = a := by
  rw [majority_rotate, majority_last_differs]

theorem Vote.word_eq_majority (v : Vote) (k : Nat) :
    v.word k = majority ((v.flops.get 0).getD k 0) ((v.flops.get 1).getD k 0) ((v.flops.get 2).getD k 0) := by
  simp [Vote.word, Vector.getD, Vector.get_eq_getElem]

/-- Two equal copies outvote the third, in whichever places they stand. -/
theorem Vote.word_of_agree {v : Vote} {w : List Nat} {i j : Fin 3} (hij : i ≠ j) (hi : v.flops.get i = w) (hj : v.flops.get j = w)
    (k : Nat) : v.word k = w.getD k 0 := by
  rw [Vote.word_eq_majority]
  match i, j with
  | 0, 0 | 1, 1 | 2, 2 => exact absurd rfl hij
  | 0, 1 | 1, 0 => rw [hi, hj, majority_last_differs]
  | 0, 2 | 2, 0 => rw [hi, hj, majority_middle_differs]
  | 1, 2 | 2, 1 => rw [hi, hj, majority_first_differs]

/-- The 16 voted words. -/
def Vote.words (v : Vote) : List Nat := (List.range 16).map v.word

theorem Vote.words_of_agree {v : Vote} {w : List Nat} {i j : Fin 3} (hij : i ≠ j) (hw : w.length = 16) (hi : v.flops.get i = w)
    (hj : v.flops.get j = w) : v.words = w :=
  List.ext_getElem (by simp [Vote.words, hw]) fun k _ hk => by
    simp [Vote.words, Vote.word_of_agree hij hi hj, hk]

theorem Vote.agrees_iff (v : Vote) : (v.flops.all fun l => l == v.words) = true ↔ v.flops = Vector.replicate 3 v.words := by
  simp only [Vector.all_eq_true, beq_iff_eq, Vector.ext_iff, Vector.getElem_replicate]

/-! ## VOTE_REVOTE -/

theorem rd_incSat_same (d : Dev) (f : Fld) (ch n : Nat) : (d.incSat f ch n).rd f ch = satN (2 ^ f.w - 1) (d.rd f ch + n) := by
  refine (rd_wr_same d f ch _).trans (Nat.mod_eq_of_lt ?_)
  have := Nat.two_pow_pos f.w
  unfold satN
  split <;> omega

/-- All three copies hold the voted words, and the repair is counted. -/
def Dev.revoted (d : Dev) : Dev :=
  ({ d with vote := { d.vote with flops := Vector.replicate 3 d.vote.words } }).incSat F.MI_VSTAT_REVOTES

section
variable {s : State}

theorem voteRevote_agrees (h : (s.dev.vote.flops.all fun l => l == s.dev.vote.words) = true) : execVoteRevote s = .next s :=
  lift_eq_self (if_pos (Bool.or_eq_true_iff.mpr (.inr h)))

theorem voteRevote_repairs (hh : s.dev.phase ≠ .held) (hr : s.dev.phase ≠ .rising)
    (h : (s.dev.vote.flops.all fun l => l == s.dev.vote.words) = false) : execVoteRevote s = .next (s.put s.dev.revoted) := by
  refine lift_eq_put (if_neg fun hc => ?_)
  rcases Bool.or_eq_true_iff.mp hc with hp | ha
  · rcases Bool.or_eq_true_iff.mp hp with hp | hp
    · exact hh (beq_iff_eq.mp hp)
    · exact hr (beq_iff_eq.mp hp)
  · exact Bool.eq_false_iff.mp h ha

end

/-- Settles O6: two equal copies outvote the third, so the voted words, which a repair writes to all three, are theirs. -/
theorem voteMajority : Obligations.VoteMajority := by
  intro s w i j hij hw hi hj
  have hwords : s.dev.vote.words = w := Vote.words_of_agree hij hw hi hj
  refine ⟨fun k _ => Vote.word_of_agree hij hi hj k, fun hh hr => ?_⟩
  have hagrees := s.dev.vote.agrees_iff
  rw [hwords] at hagrees
  by_cases hf : s.dev.vote.flops = Vector.replicate 3 w
  · exact ⟨s.dev, voteRevote_agrees (by rw [hwords]; exact hagrees.mpr hf), hf, fun _ => rfl, fun hn => absurd hf hn⟩
  · exact ⟨s.dev.revoted, voteRevote_repairs hh hr (by rw [hwords]; exact Bool.eq_false_iff.mpr (mt hagrees.mp hf)),
      congrArg (Vector.replicate 3) hwords, fun he => absurd he hf, fun _ => (rd_incSat_same _ _ _ _).trans (rd_incSat_same s.dev _ _ _).symm⟩

/-! ## The scrubber (R305, R306) -/

/-- What the read of word `n` finds and firmware does about it. -/
def Dev.scrubFound (d : Dev) (m : MemId) (n : Nat) : ScrubResult → Dev
  | .clean | .collide => d
  | .correctable | .dropped => d.eccEvent m false 13 3 (n * (memWords m).2)
  | .uncorrectable =>
    let e := (d.eccEvent m true 13 3 (n * (memWords m).2)).scrubLog m n
    if e.fwRun then e.event evEcc 0x900 (be 1 (memIdx m + 1) ++ be 4 n) else e

/-- The scrubber moves on from word `n`, to the next pass after the last. -/
def Dev.scrubbed (d : Dev) (m : MemId) (n : Nat) : Dev :=
  (d.mapPot fun p => { p with scrub := vset p.scrub (memIdx m) fun _ => n + 1 }).scrubPass m

section
variable {s : State} {m : MemId}

theorem scrubRead_off (h : s.dev.scrubs m = false) (r : ScrubResult) : execScrubRead m r s = .next s :=
  lift_eq_self (if_pos (by simp [h]))

theorem scrubRead_collide : execScrubRead m .collide s = .next s := lift_eq_self (if_pos (by simp))

variable (h : s.dev.scrubs m = true) (hn : s.dev.pot.scrub.getD (memIdx m) 0 ≠ (memWords m).1)
include h hn

/-- A word known to be bad is found uncorrectable whatever the read says. -/
theorem execScrubRead_reads {r : ScrubResult} (hr : r ≠ .collide) :
    execScrubRead m r s = .next (s.put ((s.dev.scrubFound m (s.dev.pot.scrub.getD (memIdx m) 0)
      (if s.dev.isBad m (s.dev.pot.scrub.getD (memIdx m) 0 * (memWords m).2) then .uncorrectable else r)).scrubbed m
        (s.dev.pot.scrub.getD (memIdx m) 0))) := by
  have hreads : (!s.dev.scrubs m || s.dev.pot.scrub.getD (memIdx m) 0 = (memWords m).1 || r = .collide) = false := by simp [h, hn, hr]
  refine lift_eq_put ((if_neg (Bool.eq_false_iff.mp hreads)).trans ?_)
  unfold Dev.scrubFound Dev.scrubbed
  rfl

theorem scrubRead_good (hb : s.dev.isBad m (s.dev.pot.scrub.getD (memIdx m) 0 * (memWords m).2) = false) {r : ScrubResult}
    (hr : r ≠ .collide) : execScrubRead m r s =
      .next (s.put ((s.dev.scrubFound m (s.dev.pot.scrub.getD (memIdx m) 0) r).scrubbed m (s.dev.pot.scrub.getD (memIdx m) 0))) := by
  rw [execScrubRead_reads h hn hr, hb]
  rfl

theorem scrubRead_uncorrectable : execScrubRead m .uncorrectable s =
    .next (s.put ((s.dev.scrubFound m (s.dev.pot.scrub.getD (memIdx m) 0) .uncorrectable).scrubbed m (s.dev.pot.scrub.getD (memIdx m) 0))) := by
  rw [execScrubRead_reads h hn ScrubResult.noConfusion, ite_self]

end

/-! ## The walker, the flush and the mount (R313 to R317, R335) -/

theorem pot_flush {d : Dev} (hm : d.pot.mounted = true) (hs : d.domOn dSTOCK = true) : d.flush.pot =
    { d.pot with log := ringFit (d.pot.logCap * 2 ^ 20) (d.pot.buf.length + 1) (d.pot.log ++ d.pot.buf), buf := [] } := by
  unfold Dev.flush
  rw [if_neg (by simp [hm, hs])]
  rfl

/-- The flush changes the records held, not what numbers them, and no register. -/
theorem flush_keeps (d : Dev) : d.flush.pot.mounted = d.pot.mounted ∧ d.flush.pot.nextSeq = d.pot.nextSeq ∧ d.flush.regs = d.regs := by
  unfold Dev.flush
  split <;> exact ⟨rfl, rfl, rfl⟩

theorem pot_bucketRestore (d : Dev) : d.bucketRestore.pot = d.pot := by
  unfold Dev.bucketRestore
  dsimp only
  split
  · rfl
  · split_ifs <;> rfl

theorem nextSeq_tb3Mount (d : Dev) : d.tb3Mount.pot.nextSeq = d.pot.nextSeq := by
  unfold Dev.tb3Mount
  split_ifs
  · rfl
  · split <;> rfl

theorem logMount_mounted {s : State} (hm : s.dev.pot.mounted = true) : execLogMount s = .next s := lift_eq_self (if_pos (by simp [hm]))

section
variable {s : State} (hf : s.dev.fwRun = true) (hs : s.dev.domOn dSTOCK = true)
include hf hs

theorem refreshWalker_keeps (b : Nat) : execRefreshWalker b .good false s = .next (s.put (s.dev.rewriteBlock b)) :=
  lift_eq_put (if_neg (by simp [hf, hs]))

theorem refreshWalker_retires (b : Nat) (read : FlashRead) {fails : Bool} (h : (fails || read != .good) = true) :
    execRefreshWalker b read fails s = .next (s.put ((s.dev.pageLost read).rewriteBlock b).retire) :=
  lift_eq_put ((if_neg (by simp [hf, hs])).trans (if_pos h))

theorem confCopyHourly_copies : execConfCopyHourly s = .next (s.put s.dev.confCopy) :=
  lift_eq_put (if_pos (by simp [hf, hs]))

theorem logMount_mounts (hm : s.dev.pot.mounted = false) :
    ∃ t : Dev, execLogMount s = .next (s.put t) ∧ t.pot.mounted = true ∧ t.pot.nextSeq = s.dev.pot.nextSeq := by
  obtain ⟨hmounted, hseq, -⟩ := flush_keeps (s.dev.tb3Mount.mapPot fun p => { p with mounted := true })
  refine ⟨_, lift_eq_put (if_neg (by simp [hf, hs, hm])), ?_, ?_⟩
  · rw [pot_bucketRestore, hmounted]
    rfl
  · rw [pot_bucketRestore, hseq]
    exact nextSeq_tb3Mount s.dev

variable (hm : s.dev.pot.mounted = true) (hbuf : s.dev.pot.buf ≠ []) (b : Nat)
include hm hbuf

/-- The records are programmed; a block that was erased before counts as written. -/
theorem execRecordFlush_eq (fails : Bool) : execRecordFlush b fails s = .next (s.put
    (let d := if s.dev.pot.blocks.any fun x => x.id == b then s.dev.flush else s.dev.flush.rewriteBlock b
     if fails then d.retire else d)) :=
  lift_eq_put (if_neg (by simp [hf, hs, hm, hbuf]))

theorem recordFlush_programs : ∃ t : Dev, execRecordFlush b false s = .next (s.put t) ∧ t.pot.buf = [] ∧ t.pot.nextSeq = s.dev.pot.nextSeq ∧
    t.pot.log = ringFit (s.dev.pot.logCap * 2 ^ 20) (s.dev.pot.buf.length + 1) (s.dev.pot.log ++ s.dev.pot.buf) ∧ t.regs = s.dev.regs := by
  refine ⟨_, execRecordFlush_eq hf hs hm hbuf b false, ?_⟩
  obtain ⟨-, hseq, hregs⟩ := flush_keeps s.dev
  have hpot := pot_flush hm hs
  have hprogrammed : s.dev.flush.pot.buf = [] ∧ s.dev.flush.pot.nextSeq = s.dev.pot.nextSeq ∧ s.dev.flush.pot.log =
      ringFit (s.dev.pot.logCap * 2 ^ 20) (s.dev.pot.buf.length + 1) (s.dev.pot.log ++ s.dev.pot.buf) ∧ s.dev.flush.regs = s.dev.regs :=
    ⟨by rw [hpot], hseq, by rw [hpot], hregs⟩
  dsimp only
  rw [if_neg Bool.false_ne_true]
  split
  · exact hprogrammed
  · exact hprogrammed

end

/-! ## The summaries of a second (R317, R318) -/

section
variable {s : State} (hf : s.dev.fwRun = true)
include hf

theorem eventSummary_writes (h : s.dev.pot.mounted = true ∨ s.dev.pot.buf.length + (summaries s.dev.pot.folded).length ≤ 512) :
    execEventSummary s =
      .next (s.put ((summaries s.dev.pot.folded).foldl Dev.summary (s.dev.mapPot fun p => { p with folded := [] }))) := by
  refine lift_eq_put (if_neg ?_)
  rcases h with hm | hl
  · simp [hf, hm]
  · simp [hf, Nat.not_lt.mpr hl]

/-- A single pair is its own summary, one record. -/
theorem eventSummary_single (hm : s.dev.pot.mounted = true) {c : Coalesced} (hc : s.dev.pot.folded = [c]) :
    ∃ t : Dev, execEventSummary s = .next (s.put t) ∧ t.pot.folded = [] ∧ t.pot.buf.length = s.dev.pot.buf.length + 1 ∧
      t.pot.nextSeq = s.dev.pot.nextSeq + 1 := by
  have hone : summaries s.dev.pot.folded = [c] := by rw [hc]; rfl
  refine ⟨(s.dev.mapPot fun p => { p with folded := [] }).summary c, ?_, rfl, List.length_append, rfl⟩
  rw [eventSummary_writes hf (.inl hm), hone]
  rfl

end

/-- Settles O29: each event of the memories and the Stockpot by whether it may run and what it meets. -/
theorem storageEvents : Obligations.StorageEvents := by
  intro s m
  refine ⟨fun h hn => ⟨fun hb => ?good, scrubRead_uncorrectable h hn, scrubRead_collide⟩, scrubRead_off,
    fun hp => ⟨voteRevote_agrees, fun hd => ?vote⟩, fun hf hs => ⟨fun b => ?walker, fun b hm hbuf => ?flush,
      logMount_mounts hf hs, logMount_mounted, confCopyHourly_copies hf hs⟩,
    eventSummary_writes, fun _ hf hm hc => eventSummary_single hf hm hc⟩
  case good =>
    have hread {r : ScrubResult} := scrubRead_good h hn hb (r := r)
    exact ⟨hread ScrubResult.noConfusion, hread ScrubResult.noConfusion, hread ScrubResult.noConfusion⟩
  case vote =>
    have hrun {p : Phase} (hne : Phase.fw ≠ p) : s.dev.phase ≠ p := by rwa [hp]
    exact ⟨s.dev.revoted, voteRevote_repairs (hrun Phase.noConfusion) (hrun Phase.noConfusion) hd, rfl, rd_incSat_same _ _ _ _, rfl⟩
  case walker =>
    exact ⟨refreshWalker_keeps hf hs b, fun read => refreshWalker_retires hf hs b read rfl,
      fun read fails hr => refreshWalker_retires hf hs b read (by simp [hr])⟩
  case flush => exact ⟨execRecordFlush_eq hf hs hm hbuf b true, recordFlush_programs hf hs hm hbuf b⟩

end Sys2Proof.Machine

/-! PROOFS. Chapter 00, the step: the front of the queue, or a tick. -/

namespace Sys2Proof.Machine

-- Checked in place: with the proofs above still queued beside those below, the text does not fit the check's memory.
set_option Elab.async false in
/-- Settles O1: the queue's front decides. -/
theorem stepRunsTheFront : Obligations.StepRunsTheFront := fun s => ⟨step_push s, step_of_empty⟩

end Sys2Proof.Machine

/-! PROOFS. Chapter 13, telemetry and Tally: the Colander, the cache, the TALLY record and the TEL commands. -/

namespace Sys2Proof.Machine

/-! ## Steps of a repetition -/

/-- What one update of a repetition brings about under an invariant of them all, and every other one keeps, holds at its end. -/
theorem iter_establishes {α : Type} {I P : α → Prop} {f : Nat → α → α} {n m : Nat} (hm : m < n) (hI : ∀ i e, i < n → I e → I (f i e))
    (hset : ∀ e, I e → P (f m e)) (hkeep : ∀ i e, i < n → i ≠ m → P e → P (f i e)) {a : α} (ha : I a) : P (iter n f a) := by
  have hall : ∀ k ≤ n, I (iter k f a) := fun k hk => by
    induction k with
    | zero => exact ha
    | succ k ih => exact hI k _ hk (ih (Nat.le_of_succ_le hk))
  have hone : ∀ k ≤ n, m < k → P (iter k f a) := fun k hk hmk => by
    induction k with
    | zero => exact absurd hmk (Nat.not_lt_zero m)
    | succ k ih =>
      by_cases h : k = m
      · subst h
        exact hset _ (hall k (Nat.le_of_succ_le hk))
      · exact hkeep k _ hk h (ih (Nat.le_of_succ_le hk) (by omega))
  exact hone n (Nat.le_refl n) hm

/-! ## The Colander (R323 to R325) -/

/-- The ring lies above the Colander's other registers. -/
theorem key_ne_clRing {g : Fld} (h : g.addr * 32 + g.lo < 0xF1000 * 32) (j n : Nat) : g.key n ≠ (F.TM_CLRING_NU.at j).key n := by
  simp only [Fld.key, Fld.at, F.TM_CLRING_NU]
  omega

theorem rd_clCount (d : Dev) (n nu : Nat) {g : Fld} (h : g.addr * 32 + g.lo < 0xF1000 * 32) : (d.clCount n nu).rd g n = d.rd g n :=
  rd_wr_ne _ _ _ _ _ _ (key_ne_clRing h _ n)

theorem clBin_ne : ∀ b < 16, [F.TM_CLSTAT_SSEQ, F.TM_CLCTL_SNAP].all (fldNe (F.TM_CLBIN_COUNT.at b)) = true ∧
    fldNe F.TM_CLUNC_COUNT (F.TM_CLBIN_COUNT.at b) = true ∧ ∀ i < 16, i ≠ b → fldNe (F.TM_CLBIN_COUNT.at b) (F.TM_CLBIN_COUNT.at i) = true := by
  decide

/-- The registers that a snapshot fills from the live counters. -/
def Dev.clCopied (d : Dev) (n : Nat) : Dev :=
  iter 16 (fun b e => e.wr ((F.TM_CLBIN_COUNT).at b) n ((d.host n).live.getD b 0)) (d.wr F.TM_CLUNC_COUNT n ((d.host n).live.getD 16 0))

theorem clSnap_eq (d : Dev) (n : Nat) : d.clSnap n = (((d.clCopied n).inc F.TM_CLSTAT_SSEQ n).clr F.TM_CLCTL_SNAP n).mapHost n fun x =>
    { x with live := List.replicate 17 0, snap := false
             totals := if x.snap then List.zipWith (fun a b => (a + b) % 2 ^ 64) x.totals x.live else x.totals } := rfl

theorem rd_clSnap_of_ne (d : Dev) (n : Nat) {g : Fld} (c : Nat) (h : [F.TM_CLSTAT_SSEQ, F.TM_CLCTL_SNAP].all (fldNe g) = true) :
    (d.clSnap n).rd g c = (d.clCopied n).rd g c := by
  rw [clSnap_eq, Dev.rd_mapHost, clr_eq_wr, rd_wr_of_all _ h (by decide), inc_eq_wr, rd_wr_of_all _ h (by decide)]

/-- What a snapshot leaves: each live counter in its register, and no request. -/
theorem clSnap_registers (d : Dev) (n : Nat) : (d.clSnap n).rd F.TM_CLCTL_SNAP n = 0 ∧
    (d.clSnap n).rd F.TM_CLUNC_COUNT n = (d.host n).live.getD 16 0 % 2 ^ 32 ∧
    ∀ b, b < 16 → (d.clSnap n).rd (F.TM_CLBIN_COUNT.at b) n = (d.host n).live.getD b 0 % 2 ^ 32 := by
  refine ⟨by rw [clSnap_eq, Dev.rd_mapHost]; exact rd_wr_same _ _ _ _, ?_, fun b hb => ?_⟩
  · rw [rd_clSnap_of_ne _ _ _ (by decide)]
    exact (iter_keeps (fun e : Dev => e.rd F.TM_CLUNC_COUNT n) (fun b e hb => rd_wr_fld _ _ _ _ _ _ (clBin_ne b hb).2.1) _).trans
      (rd_wr_same _ _ _ _)
  · obtain ⟨hsnap, -, hbins⟩ := clBin_ne b hb
    rw [rd_clSnap_of_ne _ _ _ hsnap]
    exact iter_establishes (I := fun _ => True) (P := fun e : Dev => e.rd (F.TM_CLBIN_COUNT.at b) n = (d.host n).live.getD b 0 % 2 ^ 32) hb
      (fun _ _ _ => id) (fun e _ => rd_wr_same _ _ _ _) (fun i e hi hib he => (rd_wr_fld _ _ _ _ _ _ (hbins i hi hib)).trans he) trivial

section
variable {s : State} {n : Fin 16} (hd : s.dev.domOn (dHTX n) = true) (hst : (s.dev.host n).state = 2)
  (he : s.dev.on F.TM_CLCTL_EN n = true) (cw : List (BitVec 10))
include hd hst he

theorem colander_counts : ¬ (!s.dev.domOn (dHTX n) || (s.dev.host n).state ≠ 2 || !s.dev.on F.TM_CLCTL_EN n) = true := by
  simp [hd, hst, he]

/-- With a snapshot asked for it is taken first, whatever the codeword then counts for. -/
theorem colanderCodeword_snaps (hs : s.dev.on F.TM_CLCTL_SNAP n = true) : ∃ t : Dev, execColanderCodeword n none cw s = .next (s.put t) ∧
    t.rd F.TM_CLCTL_SNAP n = 0 ∧ t.rd F.TM_CLUNC_COUNT n = (s.dev.host n).live.getD 16 0 % 2 ^ 32 ∧
    (∀ b, b < 16 → t.rd (F.TM_CLBIN_COUNT.at b) n = (s.dev.host n).live.getD b 0 % 2 ^ 32) := by
  obtain ⟨h0, h16, hb⟩ := clSnap_registers s.dev n
  have hregs : ∀ (p : Prop) [Decidable p] (g : Fld), g.addr * 32 + g.lo < 0xF1000 * 32 →
      (if p then (s.dev.clSnap n).clCount n (locatorDegree cw) else s.dev.clSnap n).rd g n = (s.dev.clSnap n).rd g n := by
    intro p _ g hg
    split_ifs
    · exact rd_clCount _ _ _ hg
    · rfl
  refine ⟨_, lift_eq_put ((if_neg (colander_counts hd hst he)).trans (by simp only [hs, if_true]; rfl)), (hregs _ _ (by decide)).trans h0,
    (hregs _ _ (by decide)).trans h16, fun b hb16 => (hregs _ _ ?_).trans (hb b hb16)⟩
  simp only [Fld.at, F.TM_CLBIN_COUNT]
  omega

variable (hs : s.dev.on F.TM_CLCTL_SNAP n = false)
include hs

theorem colanderCodeword_unlocked (hl : s.dev.on F.TM_CLSTAT_LOCK n = false) (hit : Bool) :
    execColanderCodeword n (some hit) cw s = .next (s.put (s.dev.clMarker n hit)) := by
  refine lift_eq_put ((if_neg (colander_counts hd hst he)).trans ?_)
  simp only [hs, hl, Bool.false_and, Bool.false_eq_true, if_false]

theorem colanderCodeword_locked (hl : s.dev.on F.TM_CLSTAT_LOCK n = true) (hlen : cw.length = 544) :
    execColanderCodeword n none cw s = .next (s.put (s.dev.clCount n (locatorDegree cw))) := by
  refine lift_eq_put ((if_neg (colander_counts hd hst he)).trans ?_)
  simp only [hs, hl, hlen, Bool.false_eq_true, if_false, Bool.and_self, decide_true, if_true]

end

section
variable {d : Dev} {n : Nat} (hl : d.on F.TM_CLSTAT_LOCK n = false)
include hl

theorem clMarker_miss : d.clMarker n false = d.mapHost n fun h => { h with mkGood := 0 } := if_neg (by rw [hl]; decide)

theorem clMarker_match (hg : (d.host n).mkGood < 2) : d.clMarker n true = d.mapHost n fun h => { h with mkGood := h.mkGood + 1 } :=
  (if_neg (by rw [hl]; decide)).trans ((if_neg (by decide)).trans (if_pos (Nat.succ_lt_succ hg)))

theorem clMarker_locks (hg : 2 ≤ (d.host n).mkGood) :
    d.clMarker n true = (d.wr F.TM_CLSTAT_LOCK n 1).mapHost n fun h => { h with mkGood := 0, mkBad := 0 } :=
  (if_neg (by rw [hl]; decide)).trans ((if_neg (by decide)).trans (if_neg (by omega)))

end

/-! ## The cache (R321) -/

theorem tel_clCopied (d : Dev) (n : Nat) : (d.clCopied n).tel = d.tel ∧ (d.clCopied n).optics = d.optics := by
  unfold Dev.clCopied
  constructor
  · rw [iter_keeps Dev.tel fun _ _ _ => Dev.wr_tel _ _ _ _, Dev.wr_tel]
  · rw [iter_keeps Dev.optics fun _ _ _ => Dev.wr_optics _ _ _ _, Dev.wr_optics]

theorem tel_clSnap (d : Dev) (n : Nat) : (d.clSnap n).tel = d.tel ∧ (d.clSnap n).optics = d.optics := by
  rw [clSnap_eq, Dev.mapHost_tel, Dev.mapHost_optics, clr_eq_wr, Dev.wr_tel, Dev.wr_optics, inc_eq_wr, Dev.wr_tel, Dev.wr_optics]
  exact tel_clCopied d n

theorem telHost_keeps (d : Dev) (n : Nat) : (d.telHost n).tel = d.tel ∧ (d.telHost n).optics = d.optics := by
  unfold Dev.telHost Dev.clSnapReq
  split
  · split
    · exact ⟨rfl, rfl⟩
    · rw [(tel_clSnap _ n).1, (tel_clSnap _ n).2]
      exact ⟨rfl, rfl⟩
  · exact ⟨rfl, rfl⟩

/-- What a refresh of a lane's entry reads is as it was before the refresh. -/
def Dev.telSource (d : Dev) (k : Nat) : Bool × Nat × Nat := (d.domOn (dLRXD k), d.rd F.LN_LQF_LQF k, d.now)

theorem telSource_telLane (d : Dev) (j k : Nat) : (d.telLane j).telSource k = d.telSource k := by
  unfold Dev.telLane
  dsimp only
  split
  · rfl
  · unfold Dev.telSource
    rw [set_eq_wr, domOn_wr _ _ _ _ _ (by decide), rd_wr_fld _ _ _ _ _ _ (by decide)]
    rfl

theorem optics_telLane (d : Dev) (k : Nat) : (d.telLane k).optics = d.optics := by
  unfold Dev.telLane
  dsimp only
  split <;> rfl

theorem getD_mapTel (d : Dev) (k : Fin 8) (f : TelLane → TelLane) : (d.mapTel k f).tel.getD k {} = f (d.tel.getD k {}) := by
  simp [Vector.getD]

theorem getD_mapTel_ne (d : Dev) {j k : Nat} (h : k ≠ j) (f : TelLane → TelLane) : (d.mapTel j f).tel.getD k {} = d.tel.getD k {} := by
  by_cases hk : k < 8 <;> simp [Vector.getD, hk, h]

/-- A lane's entry after its refresh. -/
def telFresh (t : TelLane) (on : Bool) (lqf now : Nat) : Prop :=
  (on = false → t.stale = true) ∧ (on = true → t.stale = false ∧ t.lqf = lqf ∧ t.since = now)

theorem telLane_fresh (d : Dev) (k : Fin 8) :
    telFresh ((d.telLane k).tel.getD k {}) (d.domOn (dLRXD k)) (d.rd F.LN_LQF_LQF k) d.now := by
  unfold Dev.telLane
  dsimp only
  cases hd : d.domOn (dLRXD k) with
  | false =>
    rw [if_pos (by decide), getD_mapTel]
    exact ⟨fun _ => rfl, nofun⟩
  | true =>
    rw [if_neg (by decide), set_eq_wr, Dev.wr_tel, getD_mapTel]
    exact ⟨nofun, fun _ => ⟨rfl, rfl, rfl⟩⟩

theorem telLane_other (d : Dev) {j k : Nat} (h : k ≠ j) : (d.telLane j).tel.getD k {} = d.tel.getD k {} := by
  unfold Dev.telLane
  dsimp only
  split
  · exact getD_mapTel_ne d h _
  · exact getD_mapTel_ne d h _

theorem telemetryRefresh_refreshes {s : State} (hf : s.dev.fwRun = true) : ∃ t : Dev, execTelemetryRefresh s = .next (s.put t) ∧
    t.optics.dieTemp = s.dev.optics.temps.toList.foldl (fun a v => max a (v.getD 0)) 0 ∧
    ∀ k : Fin 8, telFresh (t.tel.getD k {}) (s.dev.domOn (dLRXD k)) (s.dev.rd F.LN_LQF_LQF k) s.dev.now := by
  refine ⟨_, lift_eq_put (if_neg (by rw [hf]; decide)), ?_, fun k => ?_⟩
  · have hopt : (iter 16 (fun n e => e.telHost n) (iter 8 (fun k e => e.telLane k) s.dev)).optics = s.dev.optics :=
      (iter_keeps Dev.optics (fun n e _ => (telHost_keeps e n).2) _).trans (iter_keeps Dev.optics (fun k e _ => optics_telLane e k) _)
    dsimp only
    rw [Dev.mapOpt_optics, hopt]
  · dsimp only
    rw [Dev.mapOpt_tel, iter_keeps Dev.tel fun n e _ => (telHost_keeps e n).1]
    refine iter_establishes (I := fun e : Dev => e.telSource k = s.dev.telSource k)
      (P := fun e => telFresh (e.tel.getD k {}) (s.dev.domOn (dLRXD k)) (s.dev.rd F.LN_LQF_LQF k) s.dev.now)
      k.isLt (fun j e _ he => (telSource_telLane e j k).trans he) (fun e he => ?_) (fun j e _ hj he => ?_) rfl
    · simp only [Dev.telSource, Prod.mk.injEq] at he
      obtain ⟨hon, hlqf, hnow⟩ := he
      rw [← hon, ← hlqf, ← hnow]
      exact telLane_fresh e k
    · rw [telLane_other e (Ne.symm hj)]
      exact he

/-! ## The TALLY record (R331) -/

theorem tallyRecord_drops {s : State} (hf : s.dev.fwRun = true) (hm : s.dev.pot.mounted = false) (hl : 512 ≤ s.dev.pot.buf.length) :
    execTallyRecord s = .next (s.put { s.dev with pot := { s.dev.pot with dropped := (s.dev.pot.dropped + 1) % 2 ^ 32 } }) :=
  lift_eq_put ((if_neg (by rw [hf]; decide)).trans (if_pos (by rw [hm, decide_eq_true hl]; rfl)))

/-- A DMA transfer is seen in the Tally counters and in what is free. -/
theorem dma_keeps {β : Type} (p : Dev → β) (hwr : ∀ (e : Dev) f ch v, f ∈ eccFields → p (e.wr f ch v) = p e)
    (htally : ∀ (e : Dev) t, p { e with tally := t } = p e) (hfree : ∀ (e : Dev) n, p { e with free := n } = p e) (d : Dev) (bytes : Nat) :
    p (d.dma bytes) = p d :=
  (tallyEvent_keeps p hwr htally _ _ _ _ _ _ _).trans ((hfree _ _).trans (hfree d _))

theorem buf_record (d : Dev) (type flags src : Nat) (payload : List Byte) :
    (d.record type flags src payload).pot.buf.length = d.pot.buf.length + 1 := List.length_append

theorem host_mapHost_ne (d : Dev) {i : Nat} {n : Fin 16} (h : n.val ≠ i) (f : HostLane → HostLane) : (d.mapHost i f).host n = d.host n := by
  simp [Dev.mapHost, Dev.host, Vector.getD, h]

/-- The lanes' next deltas start at the counters of `o`. -/
def Dev.lanesMarked (d o : Dev) : Dev :=
  iter 8 (fun k e => if o.domOn (dLRXD k) then e.mapTel k fun t => { t with prev := o.tallyNow k } else e) d

/-- The host lanes' next deltas start here. -/
def Dev.hostsMarked (d : Dev) : Dev := iter 16 (fun n e => e.mapHost n fun h => { h with prev := h.totals }) d

theorem pot_hostsMarked (d : Dev) : d.hostsMarked.pot = d.pot := iter_keeps Dev.pot (fun n e _ => Dev.mapHost_pot e n _) d

theorem lanesMarked_keeps (d o : Dev) : (d.lanesMarked o).pot = d.pot ∧ (d.lanesMarked o).hosts = d.hosts :=
  ⟨iter_keeps Dev.pot (fun k e _ => by split <;> rfl) d, iter_keeps Dev.hosts (fun k e _ => by split <;> rfl) d⟩

theorem prev_hostsMarked (d : Dev) (n : Fin 16) : (d.hostsMarked.host n).prev = (d.host n).totals := by
  refine iter_establishes (I := fun e : Dev => (e.host n).totals = (d.host n).totals)
    (P := fun e => (e.host n).prev = (d.host n).totals) n.isLt (fun i e _ he => ?_) (fun e he => ?_) (fun i e _ hi he => ?_) rfl
  · by_cases hi : n.val = i
    · subst hi
      rw [host_mapHost]
      exact he
    · rw [host_mapHost_ne e hi]
      exact he
  · rw [host_mapHost]
    exact he
  · rw [host_mapHost_ne e (Ne.symm hi)]
    exact he

theorem execTallyRecord_eq {s : State} (hf : s.dev.fwRun = true) (hb : s.dev.pot.mounted = true ∨ s.dev.pot.buf.length < 512) :
    execTallyRecord s = .next (s.put ((((s.dev.record 1 0 0x800 s.dev.tallyPayload).dma 2048).lanesMarked s.dev).hostsMarked)) := by
  have hroom : ¬ (!s.dev.pot.mounted && decide (512 ≤ s.dev.pot.buf.length)) = true := by
    rcases hb with hb | hb
    · simp [hb]
    · simp [Nat.not_le.mpr hb]
  exact lift_eq_put ((if_neg (by rw [hf]; decide)).trans (if_neg hroom))

theorem tallyRecord_writes {s : State} (hf : s.dev.fwRun = true) (n : Fin 16) (hb : s.dev.pot.mounted = true ∨ s.dev.pot.buf.length < 512) :
    ∃ t : Dev, execTallyRecord s = .next (s.put t) ∧ t.pot.buf.length = s.dev.pot.buf.length + 1 ∧
      (t.host n).prev = (s.dev.host n).totals := by
  refine ⟨_, execTallyRecord_eq hf hb, ?_, ?_⟩
  · rw [pot_hostsMarked, (lanesMarked_keeps _ _).1, dma_keeps Dev.pot (fun _ _ _ _ _ => rfl) (fun _ _ => rfl) (fun _ _ => rfl), buf_record]
  · rw [prev_hostsMarked, Dev.host, (lanesMarked_keeps _ _).2, dma_keeps Dev.hosts (fun _ _ _ _ _ => rfl) (fun _ _ => rfl) (fun _ _ => rfl)]
    rfl

/-! ## TEL.LANE.GET and TEL.COL.GET (Tables 13-4 and 13-5) -/

section
variable {s : State} {src : Src}

theorem length_flatMap_range (n m : Nat) {f : Nat → List Byte} (hf : ∀ i, (f i).length = m) : ((List.range n).flatMap f).length = n * m := by
  simp [List.length_flatMap, hf]

theorem telLaneGet_answers {lane what : Byte} (h : s.dev.admits src 0xA900 .q = true) (hl : lane.toNat ≤ 7) (hw : what.toNat ≤ 1) :
    let x := s.dev.arrives 0xA900
    ∃ p, execTelLaneGet src lane what s = .next (s.put (x.completes (x.entry src 0xA900 .q) x p)) ∧
      p.length = (if what.toNat = 0 then 72 else 100) ∧ ((x.tel.getD lane.toNat {}).stale = true → p.take 2 = [0xFF, 0xFF]) := by
  intro x
  refine ⟨_, lift_eq_put (kci_completes h (if_neg (by simp [Nat.not_lt.mpr hl, Nat.not_lt.mpr hw]))), ?_, fun hs => ?_⟩
  · split_ifs <;> simp only [List.length_append, length_be, length_flatMap_range _ _ fun _ => length_be _ _]
  · rw [if_pos hs, List.append_assoc, List.append_assoc, List.append_assoc]
    exact List.take_left' (length_be _ _)

theorem telLaneGet_badParam {lane what : Byte} (h : s.dev.admits src 0xA900 .q = true) (hb : 7 < lane.toNat ∨ 1 < what.toNat) :
    let x := s.dev.arrives 0xA900
    execTelLaneGet src lane what s = .next (s.put (x.declines (x.entry src 0xA900 .q) .badParam)) :=
  lift_eq_put (kci_declines h (if_pos (by simpa using hb)))

theorem telColGet_answers {hlane part : Byte} (h : s.dev.admits src 0xA910 .q = true) (hn : hlane.toNat ≤ 15) (hp : part.toNat ≤ 1) :
    let x := s.dev.arrives 0xA910
    execTelColGet src hlane part s = .next (s.put (x.completes (x.entry src 0xA910 .q) x
      (be 4 (if x.domOn (dHTX hlane.toNat) then x.regWord 0xF0004 hlane.toNat else 0) ++
        (List.range (8 + part.toNat)).flatMap fun j => be 8 ((x.host hlane.toNat).totals.getD (8 * part.toNat + j) 0)))) :=
  lift_eq_put (kci_completes h (if_neg (by simp [Nat.not_lt.mpr hn, Nat.not_lt.mpr hp])))

theorem telColGet_badParam {hlane part : Byte} (h : s.dev.admits src 0xA910 .q = true) (hb : 15 < hlane.toNat ∨ 1 < part.toNat) :
    let x := s.dev.arrives 0xA910
    execTelColGet src hlane part s = .next (s.put (x.declines (x.entry src 0xA910 .q) .badParam)) :=
  lift_eq_put (kci_declines h (if_pos (by simpa using hb)))

/-! ## TEL.TALLY.SET and TEL.TALLY.GET (R328, R330) -/

/-- What TEL.TALLY.SET makes of a counter: its configuration, its user enable and its value, each as asked. -/
def Dev.tallyConfigured (d : Dev) (c : Nat) (cfg base limit : Word32) : Dev :=
  if cfg.toNat = 0xFFFFFFFF then d
  else (([F.TL_CFG_EVENT, F.TL_CFG_PRIV, F.TL_CFG_CLASS, F.TL_CFG_MASTER, F.TL_CFG_EN].foldl
    (fun (e : Dev) (g : Fld) => e.wr g c (slice cfg.toNat g.lo g.w)) d).wr F.TL_BASE_ADDR c base.toNat).wr F.TL_LIMIT_ADDR c limit.toNat

def Dev.tallyUser (d : Dev) (c : Nat) (uen : Byte) : Dev :=
  if uen.toNat = 0xFF then d else d.wr F.TL_UEN_UEN 0 (withBit (d.rd F.TL_UEN_UEN) c (uen.toNat == 1))

def Dev.tallyLoaded (d : Dev) (c : Nat) (load : Byte) : Dev :=
  if load.toNat = 1 then { d with tally := { d.tally with count := vset d.tally.count c fun _ => 0 } } else d

theorem testBit_withBit (n i : Nat) (b : Bool) : (withBit n i b).testBit i = b := by
  unfold withBit
  by_cases h : n.testBit i = b
  · rw [if_pos h, h]
  · rw [if_neg h]
    cases b with
    | true => rw [if_pos rfl, Nat.add_comm, Nat.testBit_two_pow_add_eq, Bool.eq_false_iff.mpr h, Bool.not_false]
    | false =>
      obtain ⟨m, rfl⟩ := Nat.exists_eq_add_of_le (Nat.ge_two_pow_of_testBit (Bool.eq_true_of_not_eq_false h))
      rw [if_neg Bool.false_ne_true, Nat.add_sub_cancel_left]
      rwa [Nat.testBit_two_pow_add_eq, Bool.not_eq_false, Bool.not_eq_true'] at h

section
variable (d : Dev) (c : Nat)

theorem rd_tallyLoaded (load : Byte) (g : Fld) (k : Nat) : (d.tallyLoaded c load).rd g k = d.rd g k := by
  unfold Dev.tallyLoaded
  split <;> rfl

theorem count_tallyLoaded (load : Byte) :
    (d.tallyLoaded c load).tally.count = if load.toNat = 1 then vset d.tally.count c fun _ => 0 else d.tally.count := by
  unfold Dev.tallyLoaded
  split <;> rfl

theorem rd_tallyUser (uen : Byte) {g : Fld} (k : Nat) (h : fldNe g F.TL_UEN_UEN = true) : (d.tallyUser c uen).rd g k = d.rd g k := by
  unfold Dev.tallyUser
  split
  · rfl
  · exact rd_wr_fld _ _ _ _ _ _ h

theorem tally_tallyUser (uen : Byte) : (d.tallyUser c uen).tally = d.tally := by
  unfold Dev.tallyUser
  split <;> rfl

theorem uen_tallyUser {c : Nat} (hc : c < 32) {uen : Byte} (hu : uen.toNat ≤ 1) :
    ((d.tallyUser c uen).rd F.TL_UEN_UEN).testBit c = decide (uen.toNat = 1) := by
  unfold Dev.tallyUser
  rw [if_neg (by omega), rd_wr_same]
  simp only [F.TL_UEN_UEN, Nat.testBit_mod_two_pow, hc, decide_true, Bool.true_and, testBit_withBit]
  rfl

variable (cfg base limit : Word32)

theorem tally_tallyConfigured : (d.tallyConfigured c cfg base limit).tally = d.tally := by
  unfold Dev.tallyConfigured
  split
  · rfl
  · simp only [List.foldl, Dev.wr_tally]

theorem uen_tallyConfigured : (d.tallyConfigured c cfg base limit).rd F.TL_UEN_UEN = d.rd F.TL_UEN_UEN := by
  unfold Dev.tallyConfigured
  split
  · rfl
  · simp +decide only [List.foldl_cons, List.foldl_nil, rd_wr_fld]

theorem rd_tallyConfigured (h : cfg.toNat ≠ 0xFFFFFFFF) : let t := d.tallyConfigured c cfg base limit
    t.rd F.TL_BASE_ADDR c = base.toNat ∧ t.rd F.TL_LIMIT_ADDR c = limit.toNat ∧
      t.rd F.TL_CFG_EN c = cfg.toNat / 2 ^ 31 ∧ t.rd F.TL_CFG_EVENT c = cfg.toNat % 16 := by
  have hcfg := cfg.isLt
  intro t
  simp only [t, Dev.tallyConfigured, if_neg h, List.foldl_cons, List.foldl_nil]
  refine ⟨?_, ?_, ?_, ?_⟩
  · rw [rd_wr_fld _ _ _ _ _ _ (by decide), rd_wr_same]
    exact Nat.mod_eq_of_lt base.isLt
  · rw [rd_wr_same]
    exact Nat.mod_eq_of_lt limit.isLt
  · rw [rd_wr_fld _ _ _ _ _ _ (by decide), rd_wr_fld _ _ _ _ _ _ (by decide), rd_wr_same]
    simp only [slice, F.TL_CFG_EN]
    omega
  · simp +decide only [rd_wr_fld, rd_wr_same]
    simp only [slice, F.TL_CFG_EVENT]
    omega

end

section
variable {cnt uen load : Byte} {cfg base limit : Word32} (h : s.dev.admits src 0xA920 .c = true) (hs : srcHost src = true)
include h hs

theorem telTallySet_completes (hc : cnt.toNat ≤ 31) (hu : uen.toNat ≤ 1 ∨ uen.toNat = 255) (hl : load.toNat ≤ 1) :
    let x := s.dev.arrives 0xA920
    execTelTallySet src cnt uen load cfg base limit s = .next (s.put (x.completes (x.entry src 0xA920 .c)
      (((x.tallyConfigured cnt.toNat cfg base limit).tallyUser cnt.toNat uen).tallyLoaded cnt.toNat load) [])) := by
  intro x
  have hok : ¬ (decide (31 < cnt.toNat) || !okKeep uen.toNat 1 || decide (1 < load.toNat)) = true := by
    simp only [okKeep, Bool.or_eq_true, Bool.not_eq_true', Bool.or_eq_false_iff, decide_eq_true_eq, decide_eq_false_iff_not, beq_eq_false_iff_ne]
    omega
  refine lift_eq_put (kci_completes h ((if_neg (by rw [hs]; decide)).trans ((if_neg hok).trans ?_)))
  unfold Dev.tallyLoaded Dev.tallyUser Dev.tallyConfigured
  simp only [beq_iff_eq]
  rfl

theorem telTallySet_sets (hc : cnt.toNat ≤ 31) (hu : uen.toNat ≤ 1 ∨ uen.toNat = 255) (hl : load.toNat ≤ 1) :
    let x := s.dev.arrives 0xA920
    let c := cnt.toNat
    ∃ t : Dev, execTelTallySet src cnt uen load cfg base limit s = .next (s.put (x.completes (x.entry src 0xA920 .c) t [])) ∧
      (cfg.toNat = 0xFFFFFFFF → t.rd F.TL_BASE_ADDR c = x.rd F.TL_BASE_ADDR c ∧ t.rd F.TL_LIMIT_ADDR c = x.rd F.TL_LIMIT_ADDR c ∧
        t.rd F.TL_CFG_EN c = x.rd F.TL_CFG_EN c) ∧
      (cfg.toNat ≠ 0xFFFFFFFF → t.rd F.TL_BASE_ADDR c = base.toNat ∧ t.rd F.TL_LIMIT_ADDR c = limit.toNat ∧
        t.rd F.TL_CFG_EN c = cfg.toNat / 2 ^ 31 ∧ t.rd F.TL_CFG_EVENT c = cfg.toNat % 16) ∧
      (uen.toNat = 255 → t.rd F.TL_UEN_UEN = x.rd F.TL_UEN_UEN) ∧
      (uen.toNat ≤ 1 → (t.rd F.TL_UEN_UEN).testBit c = decide (uen.toNat = 1)) ∧
      t.tally.count = (if load.toNat = 1 then vset x.tally.count c fun _ => 0 else x.tally.count) := by
  intro x c
  have hcfg : ∀ g : Fld, fldNe g F.TL_UEN_UEN = true → ((((x.tallyConfigured c cfg base limit).tallyUser c uen).tallyLoaded c load)).rd g c =
      (x.tallyConfigured c cfg base limit).rd g c := fun g hg => by rw [rd_tallyLoaded, rd_tallyUser _ _ _ _ hg]
  refine ⟨_, telTallySet_completes h hs hc hu hl, fun hk => ?_, fun hk => ?_, fun hk => ?_, fun hk => ?_, ?_⟩
  · have hx : x.tallyConfigured c cfg base limit = x := if_pos hk
    rw [hcfg _ (by decide), hcfg _ (by decide), hcfg _ (by decide), hx]
    exact ⟨rfl, rfl, rfl⟩
  · rw [hcfg _ (by decide), hcfg _ (by decide), hcfg _ (by decide), hcfg _ (by decide)]
    exact rd_tallyConfigured x c cfg base limit hk
  · rw [rd_tallyLoaded, Dev.tallyUser, if_pos hk, uen_tallyConfigured]
  · rw [rd_tallyLoaded]
    exact uen_tallyUser _ (by omega) hk
  · rw [count_tallyLoaded, tally_tallyUser, tally_tallyConfigured]

theorem telTallySet_badParam (hc : 31 < cnt.toNat) : let x := s.dev.arrives 0xA920
    execTelTallySet src cnt uen load cfg base limit s = .next (s.put (x.declines (x.entry src 0xA920 .c) .badParam)) :=
  lift_eq_put (kci_declines h ((if_neg (by rw [hs]; decide)).trans (if_pos (by simp [hc]))))

end

theorem telTallyGet_answers {first cnt : Byte} (h : s.dev.admits src 0xA921 .q = true)
    (hs : srcHost src = true ∨ ∀ j, j < cnt.toNat → (s.dev.arrives 0xA921).userSees (first.toNat + j) true = true)
    (h0 : 0 < cnt.toNat) (h8 : cnt.toNat ≤ 8) (hf : first.toNat + cnt.toNat ≤ 32) : let x := s.dev.arrives 0xA921
    execTelTallyGet src first cnt s = .next (s.put (x.completes (x.entry src 0xA921 .q) x ((List.range cnt.toNat).flatMap fun j =>
      be 6 (x.tally.count.getD (first.toNat + j) 0) ++ be 2 (x.rd F.TL_STAT_OVF (first.toNat + j))))) := by
  refine lift_eq_put (kci_completes h ((if_neg ?_).trans (if_neg ?_)))
  · simp only [Bool.or_eq_true, decide_eq_true_eq]
    omega
  · rcases hs with hs | hs
    · simp [hs]
    · simpa using fun _ => hs

theorem telTallyGet_badParam {first cnt : Byte} (h : s.dev.admits src 0xA921 .q = true)
    (hb : cnt.toNat = 0 ∨ 8 < cnt.toNat ∨ 32 < first.toNat + cnt.toNat) : let x := s.dev.arrives 0xA921
    execTelTallyGet src first cnt s = .next (s.put (x.declines (x.entry src 0xA921 .q) .badParam)) :=
  lift_eq_put (kci_declines h (if_pos (by simpa [or_assoc] using hb)))

end

/-- Settles O27: the Colander by its lock, the cache lane by lane, the record by its marks, and one lemma per answer of a command. -/
theorem telemetry : Obligations.Telemetry := by
  intro s src n
  refine ⟨fun cw hd hst he => ⟨fun hs hl => ⟨fun hg => ?first, fun hg => ?third, ?miss⟩, fun hs hl => colanderCodeword_locked hd hst he cw hs hl,
      colanderCodeword_snaps hd hst he cw⟩, telemetryRefresh_refreshes, fun hf => ⟨tallyRecord_drops hf, tallyRecord_writes hf n⟩,
    fun lane what h => ⟨telLaneGet_answers h, telLaneGet_badParam h⟩, fun hlane part h => ⟨telColGet_answers h, telColGet_badParam h⟩,
    fun cnt h hs => ⟨fun hc => telTallySet_completes h hs hc (.inr rfl) (Nat.le_refl 1), fun uen load cfg base limit => telTallySet_sets h hs,
      telTallySet_badParam h hs⟩, fun first cnt h hs => ⟨telTallyGet_answers h hs, telTallyGet_badParam h⟩⟩
  case first => exact (colanderCodeword_unlocked hd hst he cw hs hl true).trans (by rw [clMarker_match hl hg])
  case third => exact (colanderCodeword_unlocked hd hst he cw hs hl true).trans (by rw [clMarker_locks hl hg])
  case miss => exact (colanderCodeword_unlocked hd hst he cw hs hl false).trans (by rw [clMarker_miss hl])

end Sys2Proof.Machine

/-! PROOFS. Chapter 14, the time unit: offsets, sets and steps, the stamp FIFO and PPS. -/

namespace Sys2Proof.Machine

/-! ## The servo (R338 to R340) -/

section
variable {s : State} {i : Fin 4}

theorem servoOffsetApply_none (h : (s.dev.tb i).offs = []) : execServoOffsetApply i s = .next s := by
  refine lift_eq_self ?_
  unfold Dev.servo
  rw [h, ite_self]

/-- At most one offset is applied in a tick. -/
theorem servoOffsetApply_again (h : (s.dev.tb i).applied = some s.dev.now) : execServoOffsetApply i s = .next s := lift_eq_self (if_pos h)

/-- The time base has taken its oldest offset, the rest being `rest`. -/
def Dev.offsetTaken (d : Dev) (i : Nat) (rest : List Offset) : Dev := d.mapTb i fun t => { t with offs := rest, applied := some d.now }

section
variable {o : Offset} {rest : List Offset} (ho : (s.dev.tb i).offs = o :: rest) (ha : (s.dev.tb i).applied ≠ some s.dev.now)
include ho ha

theorem servo_oldest : s.dev.servo i =
    (if (o.source == 2 || o.source == 3) && o.epoch != (s.dev.tb i).steps then s.dev.offsetTaken i rest
     else if s.dev.stepMax i < o.theta.natAbs then ((s.dev.offsetTaken i rest).refuseOffset i o.theta).offsetResult o i 1
     else ((s.dev.offsetTaken i rest).applyOffset i o.theta).offsetResult o i 0) := by
  unfold Dev.servo
  rw [if_neg ha, ho]
  rfl

/-- An offset of PPS or of a link that was stamped before a step is discarded. -/
theorem servoOffsetApply_stale (hs : o.source = 2 ∨ o.source = 3) (he : o.epoch ≠ (s.dev.tb i).steps) :
    execServoOffsetApply i s = .next (s.put (s.dev.offsetTaken i rest)) :=
  lift_eq_put ((servo_oldest ho ha).trans (if_pos (by simp [hs, he])))

variable (hf : (o.source ≠ 2 ∧ o.source ≠ 3) ∨ o.epoch = (s.dev.tb i).steps)
include hf

omit ho ha in
theorem offset_fresh : ¬ ((o.source == 2 || o.source == 3) && o.epoch != (s.dev.tb i).steps) = true := by
  rcases hf with ⟨h2, h3⟩ | he
  · simp [h2, h3]
  · simp [he]

theorem servoOffsetApply_refuses (hm : s.dev.stepMax i < o.theta.natAbs) : execServoOffsetApply i s =
    .next (s.put (((s.dev.offsetTaken i rest).refuseOffset i o.theta).offsetResult o i 1)) :=
  lift_eq_put ((servo_oldest ho ha).trans ((if_neg (offset_fresh hf)).trans (if_pos hm)))

theorem servoOffsetApply_applies (hm : (o.theta.natAbs : Int) ≤ s.dev.stepMax i) : execServoOffsetApply i s =
    .next (s.put (((s.dev.offsetTaken i rest).applyOffset i o.theta).offsetResult o i 0)) :=
  lift_eq_put ((servo_oldest ho ha).trans ((if_neg (offset_fresh hf)).trans (if_neg (Int.not_lt.mpr hm))))

end

/-! ## Sets and steps (R336) -/

theorem tbStepApply_none (h : (s.dev.tb i).moves = []) : execTbStepApply i s = .next s := lift_eq_self (by rw [h])

theorem tbStepApply_oldest {m : TbMove} {src : Src} {rest : List (TbMove × Src)} (h : (s.dev.tb i).moves = (m, src) :: rest)
    (ha : (s.dev.tb i).applied ≠ some s.dev.now) :
    let y := (s.dev.mapTb i fun t => { t with moves := rest }).applyMove i m
    execTbStepApply i s = .next (s.put (y.settle fun a =>
      if a.src == src && a.wait == .timeStep i then some (.ok, stampBytes (y.stamp i)) else none)) :=
  lift_eq_put (by rw [h]; exact if_neg ha)

end

/-- A set of a time base that is not VALID makes it VALID and is no step. -/
theorem applyMove_set_invalid {d : Dev} {i : Nat} (hv : d.on F.TU_TBSTAT_VALID i = false) (sec ns frac : Nat) :
    d.applyMove i (.set sec ns frac) =
      ((d.mapTb i fun t => t.setTotal (((sec * 1000000000 + ns) * 65536 + frac : Nat) * (25 * 2 ^ 32))).wr F.TU_TBSTAT_VALID i 1).mapTb i
        fun t => { t with passed := false } := if_pos (by rw [hv]; rfl)

/-! ## The stamp FIFO (R343) -/

section
variable {s : State} {e : FifoEntry} {rest : List FifoEntry} (h : s.dev.tu.fifo = e :: rest)
include h

theorem fifoDrain_takes (hf : s.dev.fwRun = true) (hw : s.dev.fifoFw = true) : execFifoDrain s = .next (s.put (s.dev.fifoPop.fwEntry e)) :=
  lift_eq_put (by rw [h]; exact if_pos (by rw [hf, hw]; rfl))

theorem fifoDrain_unowned (hw : s.dev.fifoFw = false) : execFifoDrain s = .next s :=
  lift_eq_self (by rw [h]; exact if_neg (by rw [hw, Bool.and_false]; decide))

end

/-! ## PPS (R341, R342) -/

section
variable {s : State} {falling : Bool}

theorem ppsInEdge_otherPolarity (h : s.dev.on F.TU_PPSCFG_EDGE ≠ falling) : execPpsInEdge falling s = .next s :=
  lift_eq_self (if_pos (by rw [bne_iff_ne.mpr h, Bool.or_true]))

variable (hp : s.dev.pinsLive = true) (hd : s.dev.domOn dTIME = true) (hen : s.dev.on F.TU_PPSCFG_EN = true)
  (hed : s.dev.on F.TU_PPSCFG_EDGE = falling)
include hp hd hen hed

theorem ppsInEdge_heard :
    ¬ (!s.dev.pinsLive || !s.dev.domOn dTIME || !s.dev.on F.TU_PPSCFG_EN || s.dev.on F.TU_PPSCFG_EDGE != falling) = true := by
  simp [hp, hd, hen, hed]

/-- An edge too soon after the last used one is only stamped. -/
theorem ppsInEdge_tooSoon {t0 : Nat} (hl : s.dev.tu.lastEdge = some t0) (hn : s.dev.now < t0 + tickS / 2) :
    execPpsInEdge falling s = .next (s.put (s.dev.fifoPush 0 0 (s.dev.rd F.TU_PPSCFG_TB) 0)) := by
  refine lift_eq_put ((if_neg (ppsInEdge_heard hp hd hen hed)).trans (if_pos ?_))
  rw [hl]
  simp [hn]

theorem ppsInEdge_noListener (hl : ∀ j, j < 3 → s.dev.tbSrc j ≠ 2) :
    execPpsInEdge falling s = .next (s.put (s.dev.fifoPush 0 0 (s.dev.rd F.TU_PPSCFG_TB) 0)) := by
  refine lift_eq_put ((if_neg (ppsInEdge_heard hp hd hen hed)).trans (if_pos ?_))
  simp [hl]

theorem ppsInEdge_offers {j : Nat} (hj : j < 3) (hs : s.dev.tbSrc j = 2) (hl : ∀ t0, s.dev.tu.lastEdge = some t0 → t0 + tickS / 2 ≤ s.dev.now) :
    let y := iter 3 (fun j z => if z.tbSrc j = 2 then (z.offer j 2 (ppsTheta (s.dev.stamp j) (s.dev.rdS F.TU_PPSCFG_COMP)) none).2 else z)
      (s.dev.fifoPush 0 0 (s.dev.rd F.TU_PPSCFG_TB) 0)
    execPpsInEdge falling s = .next (s.put { y with tu := { y.tu with lastEdge := some s.dev.now } }) := by
  refine lift_eq_put ((if_neg (ppsInEdge_heard hp hd hen hed)).trans (if_neg ?_))
  have hany : ([0, 1, 2].any fun i => s.dev.tbSrc i = 2) = true :=
    List.any_eq_true.mpr ⟨j, by simp; omega, by simpa using hs⟩
  rw [hany]
  cases he : s.dev.tu.lastEdge with
  | none => simp
  | some t0 => simpa using hl t0 he

end

section
variable {s : State} {n : Fin 2}

theorem ppsOutPulse_raises (hd : s.dev.domOn dTIME = true) (hen : s.dev.on ((F.TU_PPSOUT_EN).at n) = true) :
    let b := s.dev.tb (s.dev.rd ((F.TU_PPSOUT_TB).at n))
    s.dev.on F.TU_TBSTAT_VALID (s.dev.rd ((F.TU_PPSOUT_TB).at n)) = true → s.dev.tu.ppsSec.getD n 0 < b.sec → b.passed = true →
    execPpsOutPulse n s = .next (s.put { s.dev with tu := { s.dev.tu with
      ppsSec := vset s.dev.tu.ppsSec n fun _ => b.sec, ppsHigh := vset s.dev.tu.ppsHigh n fun _ => true
      ppsAt := vset s.dev.tu.ppsAt n fun _ => s.dev.now } }) := by
  intro b hv hsec hp
  exact lift_eq_put (if_pos (by simp [hd, hen, hv, b, hsec, hp] ))

theorem ppsOutPulse_notPassed (hp : (s.dev.tb (s.dev.rd ((F.TU_PPSOUT_TB).at n))).passed = false) : execPpsOutPulse n s = .next s :=
  lift_eq_self (if_neg (by rw [hp, Bool.and_false]; decide))

theorem ppsWidthExpiry_lowers (h : 2 * s.dev.tu.ppsAt.getD n 0 + 3125 * max 1 (s.dev.rd ((F.TU_PPSOUT_WIDTH).at n)) ≤ 2 * s.dev.now) :
    execPpsWidthExpiry n s = .next (s.put { s.dev with tu := { s.dev.tu with ppsHigh := vset s.dev.tu.ppsHigh n fun _ => false } }) :=
  lift_eq_put (if_neg (Nat.not_lt.mpr h))

end

/-- Settles O34: one lemma per event and case. -/
theorem timeEvents : Obligations.TimeEvents := by
  intro s i n
  refine ⟨servoOffsetApply_none, servoOffsetApply_again, fun o rest ho ha => ⟨servoOffsetApply_stale ho ha, fun hf =>
      ⟨servoOffsetApply_refuses ho ha hf, servoOffsetApply_applies ho ha hf⟩⟩,
    fun m src rest h ha => ⟨tbStepApply_oldest h ha, ?set⟩, tbStepApply_none,
    fun e rest h => ⟨fifoDrain_takes h, fifoDrain_unowned h⟩, fun _ => ppsInEdge_otherPolarity,
    fun _ hp hd hen hed => ⟨fun _ => ppsInEdge_tooSoon hp hd hen hed, ppsInEdge_noListener hp hd hen hed,
      fun _ => ppsInEdge_offers hp hd hen hed⟩,
    ⟨ppsOutPulse_raises, ppsOutPulse_notPassed⟩, ppsWidthExpiry_lowers⟩
  case set =>
    rintro sec ns frac rfl hv
    exact applyMove_set_invalid (d := s.dev.mapTb i fun t => { t with moves := rest }) hv sec ns frac

end Sys2Proof.Machine

/-! PROOFS. Chapter 14, the time unit: the TIME commands. -/

namespace Sys2Proof.Machine

section
variable {s : State} {src : Src} {tb : Byte}

/-! ## TIME.TB.GET and TIME.TB.CFG (R337) -/

theorem timeTbGet_answers (h : s.dev.admits src 0xA500 .q = true) (ht : tb.toNat ≤ 3) : let x := s.dev.arrives 0xA500
    ∃ p, execTimeTbGet src tb s = .next (s.put (x.completes (x.entry src 0xA500 .q) x p)) ∧ p.length = 36 ∧
      (p.drop 4).take 12 = stampBytes (x.stamp tb.toNat) := by
  refine ⟨_, lift_eq_put (kci_completes h (if_neg (Nat.not_lt.mpr ht))), ?_, ?_⟩
  · simp only [stampBytes, List.length_append, length_be]
  · simp only [List.append_assoc]
    rw [← List.append_assoc, ← List.append_assoc, List.drop_left' (by simp only [List.length_append, length_be])]
    exact List.take_left' (by simp only [stampBytes, List.length_append, length_be])

theorem timeTbGet_badParam (h : s.dev.admits src 0xA500 .q = true) (ht : 3 < tb.toNat) : let x := s.dev.arrives 0xA500
    execTimeTbGet src tb s = .next (s.put (x.declines (x.entry src 0xA500 .q) .badParam)) :=
  lift_eq_put (kci_declines h (if_pos ht))

section
variable (h : s.dev.admits src 0xA501 .c = true)
include h

theorem timeTbCfg_keeps (ht : tb.toNat ≤ 3) : let x := s.dev.arrives 0xA501
    execTimeTbCfg src tb 0xFF 0xFF 0xFFFF 0xFFFF 0xFFFFFFFF s = .next (s.put (x.completes (x.entry src 0xA501 .c) x [])) := by
  refine lift_eq_put (kci_completes h ((if_neg ?_).trans ((if_neg ?_).trans rfl)))
  · simpa +decide [okKeep] using ht
  · simp

theorem timeTbCfg_sets {source lane : Byte} {kp ki : BitVec 16} {stepmax : Word32} (ht : tb.toNat ≤ 3) (hs : source.toNat ≤ 3)
    (h3 : tb.toNat = 3 → source.toNat = 0) (hl : lane.toNat ≤ 7) (hkp : kp.toNat ≠ 0xFFFF) (hki : ki.toNat ≠ 0xFFFF)
    (h1 : 1 ≤ stepmax.toNat) (hm : stepmax.toNat ≤ 1000000) : let x := s.dev.arrives 0xA501
    execTimeTbCfg src tb source lane kp ki stepmax s = .next (s.put (x.completes (x.entry src 0xA501 .c)
      (((((x.cfg dTIME F.TU_TBCTL_SRC tb.toNat source.toNat).cfg dTIME F.TU_TBCTL_LANE tb.toNat lane.toNat).cfg dTIME
        F.TU_SRVGAIN_KP tb.toNat kp.toNat).cfg dTIME F.TU_SRVGAIN_KI tb.toNat ki.toNat).cfg dTIME F.TU_STEPMAX_NS tb.toNat stepmax.toNat)
      [])) := by
  refine lift_eq_put (kci_completes h ((if_neg ?_).trans ((if_neg ?_).trans ?_)))
  · simp [okKeep_of_le hs, okKeep_of_le hl, Nat.not_lt.mpr ht, h1, hm]
  · simp +contextual [h3]
  · rw [cfgKeep_of_ne (show source.toNat ≠ 0xFF by omega), cfgKeep_of_ne (show lane.toNat ≠ 0xFF by omega), cfgKeep_of_ne hkp, cfgKeep_of_ne hki,
      cfgKeep_of_ne (show stepmax.toNat ≠ 0xFFFFFFFF by omega)]

/-- TB3 takes no offset source (R335). -/
theorem timeTbCfg_denied {source : Byte} (ht : tb.toNat = 3) (h1 : 1 ≤ source.toNat) (h3 : source.toNat ≤ 3) : let x := s.dev.arrives 0xA501
    execTimeTbCfg src tb source 0xFF 0xFFFF 0xFFFF 0xFFFFFFFF s = .next (s.put (x.declines (x.entry src 0xA501 .c) .denied)) := by
  refine lift_eq_put (kci_declines h ((if_neg ?_).trans (if_pos ?_)))
  · simp +decide [okKeep, ht]
    omega
  · simp only [ht, decide_true, Bool.true_and, Bool.and_eq_true, decide_eq_true_eq]
    omega

theorem timeTbCfg_badStepmax {stepmax : Word32} (hm : 1000000 < stepmax.toNat) (hk : stepmax.toNat ≠ 0xFFFFFFFF) :
    let x := s.dev.arrives 0xA501
    execTimeTbCfg src tb 0xFF 0xFF 0xFFFF 0xFFFF stepmax s = .next (s.put (x.declines (x.entry src 0xA501 .c) .badParam)) :=
  lift_eq_put (kci_declines h (if_pos (by simp [hk, Nat.not_le.mpr hm])))

end

/-! ## TIME.TB.STEP (R335, R336) -/

/-- A set or step joins the time base's waiting moves. -/
def Dev.movePosted (d : Dev) (i : Nat) (m : TbMove) (src : Src) : Dev := d.mapTb i fun t => { t with moves := t.moves ++ [(m, src)] }

section
variable {sec : BitVec 48} {ns : Word32} {frac : BitVec 16} {delta : BitVec 64} (h : s.dev.admits src 0xA502 .c = true)
include h

theorem timeTbStep_badParam (hn : 1000000000 ≤ ns.toNat) : let x := s.dev.arrives 0xA502
    execTimeTbStep src tb 1 sec ns frac delta s = .next (s.put (x.declines (x.entry src 0xA502 .c) .badParam)) :=
  lift_eq_put (kci_declines h (if_pos (by simp [hn])))

variable (ht : tb.toNat ≤ 3)
include ht

theorem timeTbStep_sets (hn : ns.toNat < 1000000000) (hv : let x := s.dev.arrives 0xA502
      x.on F.TU_TBSTAT_VALID tb.toNat = false ∨ (tb.toNat ≠ 3 ∧ x.expert = true)) : let x := s.dev.arrives 0xA502
    execTimeTbStep src tb 1 sec ns frac delta s = .next (s.put
      ((x.movePosted tb.toNat (.set sec.toNat ns.toNat frac.toNat) src).holds (x.entry src 0xA502 .c) (.timeStep tb.toNat))) := by
  refine lift_eq_put (kci_holds h ((if_neg ?_).trans ((if_neg ?_).trans rfl)))
  · simp [Nat.not_lt.mpr ht, Nat.not_le.mpr hn]
  · rcases hv with hv | ⟨h3, he⟩
    · simp [hv]
    · rw [he, beq_eq_false_iff_ne.mpr h3, Bool.not_true, Bool.or_false, Bool.and_false]
      decide

theorem timeTbStep_denied (he : (s.dev.arrives 0xA502).expert = false) : let x := s.dev.arrives 0xA502
    execTimeTbStep src tb 2 sec ns frac delta s = .next (s.put (x.declines (x.entry src 0xA502 .c) .denied)) := by
  refine lift_eq_put (kci_declines h ((if_neg ?_).trans (if_pos ?_)))
  · simp [Nat.not_lt.mpr ht]
  · rw [he]
    simp

theorem timeTbStep_steps (he : (s.dev.arrives 0xA502).expert = true) (h3 : tb.toNat ≠ 3) : let x := s.dev.arrives 0xA502
    execTimeTbStep src tb 2 sec ns frac delta s = .next (s.put
      ((x.movePosted tb.toNat (.add delta.toInt) src).holds (x.entry src 0xA502 .c) (.timeStep tb.toNat))) := by
  refine lift_eq_put (kci_holds h ((if_neg ?_).trans ((if_neg ?_).trans rfl)))
  · simp [Nat.not_lt.mpr ht]
  · rw [he, beq_eq_false_iff_ne.mpr h3, Bool.not_true, Bool.or_false, Bool.and_false]
    decide

end

/-! ## TIME.OFFSET (R337, R338) -/

section
variable {o : Word32} (h : s.dev.admits src 0xA503 .c = true) (ht : tb.toNat ≤ 3)
include h ht

theorem timeOffset_queues (hs : (s.dev.arrives 0xA503).tbSrc tb.toNat = 1) (hv : (s.dev.arrives 0xA503).on F.TU_TBSTAT_VALID tb.toNat = true) :
    let x := s.dev.arrives 0xA503
    execTimeOffset src tb o s = .next (s.put ((x.mapTb tb.toNat fun t =>
      { t with offs := t.offs ++ [{ source := 1, theta := hostTheta o.toNat, epoch := t.steps, src := some src }] }).holds
        (x.entry src 0xA503 .c) (.timeOffset tb.toNat))) := by
  refine lift_eq_put (kci_holds h ((if_neg (Nat.not_lt.mpr ht)).trans ?_))
  simp only [Dev.offer, hs, hv, ne_eq, not_true_eq_false, Bool.not_true, Bool.false_eq_true, if_false, if_true]

theorem timeOffset_wrongSource (hs : (s.dev.arrives 0xA503).tbSrc tb.toNat ≠ 1) : let x := s.dev.arrives 0xA503
    execTimeOffset src tb o s = .next (s.put (x.completes (x.entry src 0xA503 .c) (x.set F.TU_TBSTAT_SRCERR tb.toNat) (be 1 2))) := by
  refine lift_eq_put (kci_completes h ((if_neg (Nat.not_lt.mpr ht)).trans ?_))
  unfold Dev.offer
  rw [if_pos hs]
  rfl

theorem timeOffset_notValid (hs : (s.dev.arrives 0xA503).tbSrc tb.toNat = 1) (hv : (s.dev.arrives 0xA503).on F.TU_TBSTAT_VALID tb.toNat = false) :
    let x := s.dev.arrives 0xA503
    execTimeOffset src tb o s = .next (s.put (x.completes (x.entry src 0xA503 .c) x (be 1 3))) := by
  refine lift_eq_put (kci_completes h ((if_neg (Nat.not_lt.mpr ht)).trans ?_))
  unfold Dev.offer
  rw [if_neg (not_not.mpr hs), hv]
  rfl

end

/-! ## TIME.PPS.SET (R341, R342) -/

section
variable {pin en pol width : Byte} {comp : BitVec 16} (h : s.dev.admits src 0xA504 .c = true)
include h

section
variable (hen : en.toNat ≤ 1) (ht : tb.toNat ≤ 3) (hp : pol.toNat ≤ 1)
include hen ht hp

theorem timePpsSet_input (hpin : pin.toNat = 2) (hc : comp.toNat ≠ 0x7FFF) : let x := s.dev.arrives 0xA504
    execTimePpsSet src pin en tb pol width comp s = .next (s.put (x.completes (x.entry src 0xA504 .c)
      ((((x.cfg dTIME F.TU_PPSCFG_EN 0 en.toNat).cfg dTIME F.TU_PPSCFG_TB 0 tb.toNat).cfg dTIME F.TU_PPSCFG_EDGE 0 pol.toNat).cfg dTIME
        F.TU_PPSCFG_COMP 0 comp.toNat) [])) := by
  refine lift_eq_put (kci_completes h ((if_neg ?_).trans ((if_pos hpin).trans ?_)))
  · simp [hpin, okKeep_of_le hen, okKeep_of_le ht, okKeep_of_le hp]
  · rw [cfgKeep_of_ne (show en.toNat ≠ 0xFF by omega), cfgKeep_of_ne (show tb.toNat ≠ 0xFF by omega),
      cfgKeep_of_ne (show pol.toNat ≠ 0xFF by omega), cfgKeep_of_ne hc]

theorem timePpsSet_output (hpin : pin.toNat ≤ 1) (hw : width.toNat ≠ 255) : let x := s.dev.arrives 0xA504
    execTimePpsSet src pin en tb pol width comp s = .next (s.put (x.completes (x.entry src 0xA504 .c)
      ((((x.cfg dTIME ((F.TU_PPSOUT_EN).at pin.toNat) 0 en.toNat).cfg dTIME ((F.TU_PPSOUT_TB).at pin.toNat) 0 tb.toNat).cfg dTIME
        ((F.TU_PPSOUT_POL).at pin.toNat) 0 pol.toNat).cfg dTIME ((F.TU_PPSOUT_WIDTH).at pin.toNat) 0 width.toNat) [])) := by
  refine lift_eq_put (kci_completes h ((if_neg ?_).trans ((if_neg (by omega)).trans ?_)))
  · simp [okKeep_of_le hen, okKeep_of_le ht, okKeep_of_le hp]
    omega
  · dsimp only
    rw [cfgKeep_of_ne (show en.toNat ≠ 0xFF by omega), cfgKeep_of_ne (show tb.toNat ≠ 0xFF by omega),
      cfgKeep_of_ne (show pol.toNat ≠ 0xFF by omega), cfgKeep_of_ne hw]

end

theorem timePpsSet_keeps (hpin : pin.toNat ≤ 2) : let x := s.dev.arrives 0xA504
    execTimePpsSet src pin 0xFF 0xFF 0xFF 0xFF 0x7FFF s = .next (s.put (x.completes (x.entry src 0xA504 .c) x [])) := by
  have hkeep : (0xFF : Byte).toNat = 0xFF := rfl
  have hcomp : (0x7FFF : BitVec 16).toNat = 0x7FFF := rfl
  refine lift_eq_put (kci_completes h ?_)
  simp only [hkeep, hcomp, okKeep_keep, cfgKeep_keep, Nat.not_lt.mpr hpin, decide_false, Bool.not_true, Bool.or_self, Bool.false_eq_true, if_false,
    ite_self]

theorem timePpsSet_badPin (hpin : 2 < pin.toNat) : let x := s.dev.arrives 0xA504
    execTimePpsSet src pin en tb pol width comp s = .next (s.put (x.declines (x.entry src 0xA504 .c) .badParam)) :=
  lift_eq_put (kci_declines h (if_pos (by simp [hpin])))

end

/-! ## TIME.LINK.GET and TIME.LINK.SET (R344) -/

section
variable {lane : Byte}

theorem timeLinkGet_answers (h : s.dev.admits src 0xA510 .q = true) (hl : lane.toNat ≤ 7) : let x := s.dev.arrives 0xA510
    ∃ p, execTimeLinkGet src lane s = .next (s.put (x.completes (x.entry src 0xA510 .q) x p)) ∧ p.length = 36 ∧
      (x.on F.TU_TTCTL_EN lane.toNat = false → p.take 1 = [0]) := by
  refine ⟨_, lift_eq_put (kci_completes h (if_neg (Nat.not_lt.mpr hl))), ?_, fun hen => ?_⟩
  · simp only [List.length_append, length_be]
  · simp only [List.append_assoc, hen, Bool.not_false, if_true]
    exact List.take_left' (length_be _ _)

theorem timeLinkGet_badParam (h : s.dev.admits src 0xA510 .q = true) (hl : 7 < lane.toNat) : let x := s.dev.arrives 0xA510
    execTimeLinkGet src lane s = .next (s.put (x.declines (x.entry src 0xA510 .q) .badParam)) :=
  lift_eq_put (kci_declines h (if_pos hl))

variable (h : s.dev.admits src 0xA511 .c = true) (hl : lane.toNat ≤ 7)
include h hl

theorem timeLinkSet_stops : let x := s.dev.arrives 0xA511
    execTimeLinkSet src lane 0 0xFF 0xFF 0xFF 0xFF 0xFFFF 0xFFFF 0x7FFFFFFF s = .next (s.put (x.completes (x.entry src 0xA511 .c)
      ((x.cfg dTIME F.TU_TTCTL_EN lane.toNat 0).mapTt lane.toNat fun t => { t with running := false }) [])) := by
  refine lift_eq_put (kci_completes h ((if_neg ?_).trans ((if_neg (by simp)).trans rfl)))
  simpa +decide [okKeep] using hl

theorem timeLinkSet_starts (hc : (s.dev.arrives 0xA511).isC lane.toNat = true) : let x := s.dev.arrives 0xA511
    execTimeLinkSet src lane 1 0xFF 0xFF 0xFF 0xFF 0xFFFF 0xFFFF 0x7FFFFFFF s = .next (s.put (x.completes (x.entry src 0xA511 .c)
      (x.cfg dTIME F.TU_TTCTL_EN lane.toNat 1) [])) := by
  refine lift_eq_put (kci_completes h ((if_neg ?_).trans ((if_neg (by simp [hc])).trans rfl)))
  simpa +decide [okKeep] using hl

theorem timeLinkSet_notReady (hc : (s.dev.arrives 0xA511).isC lane.toNat = false) : let x := s.dev.arrives 0xA511
    execTimeLinkSet src lane 1 0xFF 0xFF 0xFF 0xFF 0xFFFF 0xFFFF 0x7FFFFFFF s =
      .next (s.put (x.declines (x.entry src 0xA511 .c) .notReady)) := by
  refine lift_eq_put (kci_declines h ((if_neg ?_).trans (if_pos (by simp [hc]))))
  simpa +decide [okKeep] using hl

theorem timeLinkSet_sets {en role calmode per : Byte} {txcomp rxcomp : BitVec 16} {asym : Word32} (hen : en.toNat ≤ 1)
    (hc : en.toNat = 1 → (s.dev.arrives 0xA511).isC lane.toNat = true) (hr : role.toNat ≤ 2) (hcal : calmode.toNat ≤ 1) (hper : per.toNat ≠ 255)
    (ht : tb.toNat ≤ 3) (htx : txcomp.toNat ≠ 0xFFFF) (hrx : rxcomp.toNat ≠ 0xFFFF) (ha : asym.toNat ≠ 0x7FFFFFFF) :
    let x := s.dev.arrives 0xA511
    let k := lane.toNat
    let y := (((((((x.cfg dTIME F.TU_TTCTL_EN k en.toNat).cfg dTIME F.TU_TTCTL_ROLE k role.toNat).cfg dTIME F.TU_TTCTL_CALMODE k calmode.toNat).cfg
      dTIME F.TU_TTCTL_PER k per.toNat).cfg dTIME F.TU_TTCTL_TB k tb.toNat).cfg dTIME F.TU_TTCOMP_TXCOMP k txcomp.toNat).cfg dTIME
      F.TU_TTCOMP_RXCOMP k rxcomp.toNat).cfg dTIME F.TU_ASYM_VALUE k asym.toNat
    execTimeLinkSet src lane en role calmode per tb txcomp rxcomp asym s = .next (s.put (x.completes (x.entry src 0xA511 .c)
      (if en.toNat = 0 then y.mapTt k fun t => { t with running := false } else y) [])) := by
  intro x k y
  refine lift_eq_put (kci_completes h ((if_neg ?_).trans ((if_neg ?_).trans ?_)))
  · simp [okKeep_of_le hen, okKeep_of_le hr, okKeep_of_le hcal, okKeep_of_le ht, Nat.not_lt.mpr hl]
  · simpa using hc
  · dsimp only
    rw [cfgKeep_of_ne (show en.toNat ≠ 0xFF by omega), cfgKeep_of_ne (show role.toNat ≠ 0xFF by omega),
      cfgKeep_of_ne (show calmode.toNat ≠ 0xFF by omega), cfgKeep_of_ne hper, cfgKeep_of_ne (show tb.toNat ≠ 0xFF by omega), cfgKeep_of_ne htx,
      cfgKeep_of_ne hrx, cfgKeep_of_ne ha]

end

/-! ## TIME.STAMP.READ (R343) -/

section
variable {m : Byte} (h : s.dev.admits src 0xA520 .q = true)
include h

theorem timeStampRead_badParam (hm : m.toNat = 0 ∨ 8 < m.toNat) : let x := s.dev.arrives 0xA520
    execTimeStampRead src m s = .next (s.put (x.declines (x.entry src 0xA520 .q) .badParam)) := by
  refine lift_eq_put (kci_declines h (if_pos ?_))
  simp only [Bool.or_eq_true, decide_eq_true_eq]
  split <;> omega

variable (h0 : 0 < m.toNat) (hm : m.toNat ≤ (if srcRoom src = 118 then 7 else 8))
include h0 hm

theorem timeStampRead_copy (hf : (s.dev.arrives 0xA520).fifoFw = true) : let x := s.dev.arrives 0xA520
    execTimeStampRead src m s = .next (s.put (x.completes (x.entry src 0xA520 .q) { x with tu := { x.tu with kept := x.tu.kept.drop m.toNat } }
      (be 1 (x.tu.kept.take m.toNat).length ++ be 1 0 ++ be 2 (x.rd F.TU_FIFOSTAT_LOST) ++ (x.tu.kept.take m.toNat).flatMap stampEntry))) := by
  refine lift_eq_put (kci_completes h ((if_neg ?_).trans ?_))
  · simp [h0.ne', Nat.not_lt.mpr hm]
  · simp only [hf, if_true]

theorem timeStampRead_fifo (hf : (s.dev.arrives 0xA520).fifoFw = false) : let x := s.dev.arrives 0xA520
    execTimeStampRead src m s = .next (s.put (x.completes (x.entry src 0xA520 .q)
      (({ x with tu := { x.tu with fifo := x.tu.fifo.drop m.toNat } }).wr F.TU_FIFOSTAT_COUNT 0 (x.tu.fifo.drop m.toNat).length)
      (be 1 (x.tu.fifo.take m.toNat).length ++ be 1 0 ++ be 2 (x.rd F.TU_FIFOSTAT_LOST) ++ (x.tu.fifo.take m.toNat).flatMap stampEntry))) := by
  refine lift_eq_put (kci_completes h ((if_neg ?_).trans ?_))
  · simp [h0.ne', Nat.not_lt.mpr hm]
  · simp only [hf, Bool.false_eq_true, if_false]

end

end

/-- Settles O35: one lemma per answer of a command. -/
theorem timeCommands : Obligations.TimeCommands := by
  intro s src
  refine ⟨fun tb h => ⟨timeTbGet_answers h, timeTbGet_badParam h⟩, fun tb h => ⟨fun ht => ⟨timeTbCfg_keeps h ht, fun _ _ _ _ _ =>
      timeTbCfg_sets h ht⟩, fun _ => timeTbCfg_denied h, fun _ => timeTbCfg_badStepmax h⟩,
    fun tb sec ns frac delta h ht => ⟨timeTbStep_sets h ht, timeTbStep_denied h ht, timeTbStep_steps h ht, timeTbStep_badParam h⟩,
    fun tb o h ht => ⟨timeOffset_queues h ht, timeOffset_wrongSource h ht, timeOffset_notValid h ht⟩,
    fun h => ⟨fun pin en tb pol width comp hen ht hp => ⟨timePpsSet_input h hen ht hp, timePpsSet_output h hen ht hp⟩,
      fun _ => timePpsSet_keeps h, fun _ _ _ _ _ _ => timePpsSet_badPin h⟩,
    fun lane h => ⟨timeLinkGet_answers h, timeLinkGet_badParam h⟩,
    fun lane h hl => ⟨timeLinkSet_stops h hl, timeLinkSet_starts h hl, fun _ _ _ _ _ _ _ _ => timeLinkSet_sets h hl, timeLinkSet_notReady h hl⟩,
    fun m h => ⟨fun h0 hm => ⟨timeStampRead_copy h h0 hm, timeStampRead_fifo h h0 hm⟩, timeStampRead_badParam h⟩⟩

end Sys2Proof.Machine

/-! PROOFS. Chapters 11 and 14, the register window, for the commands of the time unit, the link and the Tally counters. -/

namespace Sys2Proof.Machine

/-! ## A granted register of one channel, by its base (R284 to R287) -/

/-- Where no later-ranked accessor has written the register in this clock, its low bits take those of the value. -/
theorem mod_masked_fullMask {d : Dev} {a : Accessor} {r : RegDesc} {m ch : Nat} (h : d.kept a r m ch = 0) (mem : Memory) {w : Nat}
    (hw : w ≤ 32) (v : Nat) : d.masked mem a r m v fullMask ch % 2 ^ w = v % 2 ^ w := by
  have hs := slice_masked_fullMask h mem (lo := 0) (w := w) (by omega) v
  simpa only [slice, Nat.pow_zero, Nat.div_one] using hs

/-- A granted access reaches the register at the base that its address finds. -/
theorem grants_base {d x : Dev} {a : Accessor} {sel : Sel} {addr : Nat} {w : Bool} {r : RegDesc} {m b : Nat} {chs : List Nat}
    (hb : (findReg addr).map (fun p => p.1.base) = some b) (h : d.grants a sel addr w = some (x, r, m, chs)) : r.base = b := by
  rw [grants_findReg h] at hb
  exact Option.some.inj hb

/-- A granted access of the `c`-th register at a base reaches the `c`-th member. -/
theorem grants_member {d x : Dev} {a : Accessor} {sel : Sel} {addr : Nat} {w : Bool} {r : RegDesc} {m c b : Nat} {chs : List Nat}
    (hb : (findReg addr).map (fun p => (p.1.base, p.2)) = some (b, c)) (h : d.grants a sel addr w = some (x, r, m, chs)) :
    r.base = b ∧ m = c := by
  rw [grants_findReg h] at hb
  exact Prod.mk.inj (Option.some.inj hb)

/-- Rows of the map that meet the addresses of the Tally counters are the counters' two halves. -/
theorem regTable_counters : regTable.all (fun r => decide (0xA0200 ≤ r.base) || decide (r.base + r.stride * r.count ≤ 0xA0100) ||
    (r.stride == 8 && (r.base == 0xA0100 || r.base == 0xA0104))) = true := by decide

theorem regTable_cntlo : regTable.any (fun r => r.base == 0xA0100 && (r.stride == 8 && r.count == 32)) = true := by decide

theorem regTable_cnthi : regTable.any (fun r => r.base == 0xA0104 && (r.stride == 8 && r.count == 32)) = true := by decide

/-- Both halves of the Tally counters have a row of 32 members. -/
theorem counter_row {half : Nat} (hh : half = 0 ∨ half = 4) :
    ∃ r ∈ regTable, r.base = 0xA0100 + half ∧ r.stride = 8 ∧ r.count = 32 := by
  obtain rfl | rfl := hh
  · simpa only [List.any_eq_true, Bool.and_eq_true, beq_iff_eq] using regTable_cntlo
  · simpa only [List.any_eq_true, Bool.and_eq_true, beq_iff_eq] using regTable_cnthi

/-- The register found at a half of a counter is that half's, of the counter's number. -/
theorem findReg_counter {half : Nat} (hh : half = 0 ∨ half = 4) (c : Fin 32) :
    (findReg (0xA0100 + half + 8 * c.val)).map (fun p => (p.1.base, p.2)) = some (0xA0100 + half, c.val) := by
  obtain ⟨r, hr, hb, hs, hc⟩ := counter_row hh
  have hsome : (findReg (0xA0100 + half + 8 * c.val)).isSome = true := by
    rw [findReg, Option.isSome_map, List.find?_isSome]
    refine ⟨r, hr, ?_⟩
    simp only [hb, hs, hc, Bool.and_eq_true, decide_eq_true_eq, beq_iff_eq]
    omega
  obtain ⟨⟨q, m⟩, hq⟩ := Option.isSome_iff_exists.mp hsome
  obtain ⟨hl, ha, hm⟩ := findReg_some hq
  have hpos : 0 < q.stride := by
    simp only [RegDesc.laidOut, Bool.and_eq_true, decide_eq_true_eq] at hl
    obtain ⟨⟨-, hs⟩, -⟩ := hl
    exact hs
  have hlt : q.stride * m < q.stride * q.count := Nat.mul_lt_mul_of_pos_left hm hpos
  have hmem : q ∈ regTable := by
    obtain ⟨q', hf, he⟩ := Option.map_eq_some_iff.mp hq
    cases he
    exact List.mem_of_find?_eq_some hf
  have hk := List.all_eq_true.mp regTable_counters q hmem
  simp only [Bool.or_eq_true, Bool.and_eq_true, decide_eq_true_eq, beq_iff_eq] at hk
  rw [hq, Option.map_some]
  obtain ⟨h8, hbase⟩ : q.stride = 8 ∧ (q.base = 0xA0100 ∨ q.base = 0xA0104) := by omega
  rw [h8] at ha
  obtain ⟨hb', hm'⟩ : q.base = 0xA0100 + half ∧ m = c.val := by omega
  rw [hb', hm']

theorem findReg_cntlo (c : Fin 32) : (findReg (0xA0100 + 8 * c.val)).map (fun p => (p.1.base, p.2)) = some (0xA0100, c.val) :=
  findReg_counter (.inl rfl) c

theorem findReg_cnthi (c : Fin 32) : (findReg (0xA0104 + 8 * c.val)).map (fun p => (p.1.base, p.2)) = some (0xA0104, c.val) :=
  findReg_counter (.inr rfl) c

/-! ## The time unit's registers -/

section
variable {s : State} {a : Accessor} {x : Dev} {r : RegDesc} {m ch : Nat}

/-- A read of TU_FIFOHDR of an empty FIFO drives 0 and takes nothing (R343). -/
theorem readRow_fifoHdr_empty (h : s.dev.grants a { unit := 0, index := 0 } 0x80114 false = some (x, r, m, [ch])) (he : x.tu.fifo = []) :
    readRow a 0 0 0x80114 s = .next (s.put (x.deliver a 0)) := by
  have hb : r.base = 0x80114 := grants_base rfl h
  rw [readRow_of_grants h]
  simp [Dev.readEffect, Dev.peek, Dev.readFifoHdr, hb, he]

/-- A read of TU_FIFOHDR drives the oldest entry's word and takes the entry (R343). -/
theorem readRow_fifoHdr_oldest (h : s.dev.grants a { unit := 0, index := 0 } 0x80114 false = some (x, r, m, [ch])) {e : FifoEntry}
    {l : List FifoEntry} (he : x.tu.fifo = e :: l) :
    readRow a 0 0 0x80114 s = .next (s.put ((x.readFifoHdr (Accessor.idx a)).deliver a e.word)) := by
  have hb : r.base = 0x80114 := grants_base rfl h
  rw [readRow_of_grants h]
  simp [Dev.readEffect, Dev.peek, hb, he]

/-- A read of TU_TNS drives NS and latches the rest of the same instant (R334). -/
theorem readRow_tns (tb : Fin 4) (h : s.dev.grants a { unit := 9, index := tb.val } 0x80008 false = some (x, r, m, [ch])) :
    readRow a 9 tb.val 0x80008 s = .next (s.put ((x.readTns (Accessor.idx a) ch).deliver a (x.stamp ch).ns)) := by
  have hb : r.base = 0x80008 := grants_base rfl h
  rw [readRow_of_grants h]
  simp [Dev.readEffect, Dev.peek, hb]

variable (v : Word32) (hk : x.kept a r m ch = 0)
include hk

/-- TU_RATEHI written alone stages the high half of the rate. -/
theorem writeRow_rateHi (tb : Fin 4) (h : s.dev.grants a { unit := 9, index := tb.val } 0x80018 true = some (x, r, m, [ch])) :
    writeRow a 9 tb.val 0x80018 v s = .next (s.put ((x.stored s.mem a r m v.toNat fullMask ch).mapTb ch fun t =>
      { t with stage := vset t.stage (Accessor.idx a) fun _ => v.toNat % 2 ^ 16 })) := by
  have hb : r.base = 0x80018 := grants_base rfl h
  rw [writeRow_of_grants h (by rw [hb]; decide), Dev.chanWrite, ← mod_masked_fullMask hk s.mem (by decide)]
  simp [Dev.writeEffect, hb, Dev.writeRateHi]

/-- TU_RATELO written alone loads the whole rate, the staged half above it. -/
theorem writeRow_rateLo (tb : Fin 4) (h : s.dev.grants a { unit := 9, index := tb.val } 0x80014 true = some (x, r, m, [ch])) :
    let y := x.stored s.mem a r m v.toNat fullMask ch
    writeRow a 9 tb.val 0x80014 v s = .next (s.put
      ((y.setRate ch (sx 48 ((y.tb ch).stage.getD (Accessor.idx a) 0 * 2 ^ 32 + v.toNat))).mapTb ch fun t =>
        { t with stage := vset t.stage (Accessor.idx a) fun _ => 0 })) := by
  have hb : r.base = 0x80014 := grants_base rfl h
  have hv : x.masked s.mem a r m v.toNat fullMask ch % 2 ^ 32 = v.toNat := by
    rw [mod_masked_fullMask hk s.mem (Nat.le_refl _), Nat.mod_eq_of_lt v.isLt]
  simp only [writeRow_of_grants h (show r.base ≠ 0x78000 by rw [hb]; decide), Dev.chanWrite, Dev.writeEffect, hb, Dev.writeRateLo, hv]
  rfl

/-- TU_OFFSET written alone offers its value to the servo. -/
theorem writeRow_offset (tb : Fin 4) (h : s.dev.grants a { unit := 9, index := tb.val } 0x80024 true = some (x, r, m, [ch])) :
    writeRow a 9 tb.val 0x80024 v s = .next (s.put
      ((x.stored s.mem a r m v.toNat fullMask ch).offer ch 1 (hostTheta v.toNat) none).2) := by
  have hb : r.base = 0x80024 := grants_base rfl h
  rw [writeRow_of_grants h (by rw [hb]; decide), Dev.chanWrite, freeMask_alone hk, and_fullMask]
  simp [Dev.writeEffect, hb, fullMask]

end

/-! ## The Tally counters' registers (R329, R330) -/

section
variable {s : State} {a : Accessor} {x : Dev} {r : RegDesc} {m ch : Nat} (c : Fin 32)

/-- A read of a low half drives it and latches the high half. -/
theorem readRow_cntlo (h : s.dev.grants a { unit := 0, index := 0 } (0xA0100 + 8 * c.val) false = some (x, r, m, [ch])) :
    readRow a 0 0 (0xA0100 + 8 * c.val) s = .next (s.put ((x.tallyRead (Accessor.idx a) c.val false).deliver a
      (x.tally.count.getD c.val 0 % 2 ^ 32))) := by
  obtain ⟨hb, rfl⟩ := grants_member (findReg_cntlo c) h
  rw [readRow_of_grants h]
  simp [Dev.readEffect, Dev.peek, hb]

/-- A high half written alone is staged. -/
theorem regRow_cnthi (v : Word32) (h : s.dev.grants a (s.dev.selOf a) (0xA0104 + 8 * c.val) true = some (x, r, m, [ch]))
    (hk : x.kept a r m ch = 0) : regRow a (0xA0104 + 8 * c.val) v s = .next (s.put
      ((x.stored s.mem a r m v.toNat fullMask ch).tallyHi (Accessor.idx a) c.val false v.toNat)) := by
  obtain ⟨hb, rfl⟩ := grants_member (findReg_cnthi c) h
  rw [regRow_of_grants h (by rw [hb]; decide), Dev.chanWrite]
  simp only [Dev.writeEffect, hb, Dev.tallyHi, mod_masked_fullMask hk s.mem (show 16 ≤ 32 by decide)]
  rfl

/-- A low half written alone loads the counter, the staged half above it. -/
theorem regRow_cntlo (v : Word32) (h : s.dev.grants a (s.dev.selOf a) (0xA0100 + 8 * c.val) true = some (x, r, m, [ch]))
    (hk : x.kept a r m ch = 0) : regRow a (0xA0100 + 8 * c.val) v s = .next (s.put
      ((x.stored s.mem a r m v.toNat fullMask ch).tallyLo (Accessor.idx a) c.val false v.toNat)) := by
  obtain ⟨hb, rfl⟩ := grants_member (findReg_cntlo c) h
  rw [regRow_of_grants h (by rw [hb]; decide), Dev.chanWrite]
  simp only [Dev.writeEffect, hb, Dev.tallyLo, mod_masked_fullMask hk s.mem (Nat.le_refl 32)]
  rfl

/-! Outside user mode the commands of the counters are accesses of their registers. -/

variable {u : Bool}

theorem execTlCntloRead_supervisor (h : userOf a u = false) (s : State) : execTlCntloRead a c u s = readRow a 0 0 (0xA0100 + 8 * c.val) s := by
  unfold execTlCntloRead
  rw [h, if_neg Bool.false_ne_true]

theorem execTlCnthiWrite_supervisor (h : userOf a u = false) (v : Word32) (s : State) :
    execTlCnthiWrite a c u v s = regRow a (0xA0104 + 8 * c.val) v s := by
  unfold execTlCnthiWrite
  rw [h, if_neg Bool.false_ne_true]

theorem execTlCntloWrite_supervisor (h : userOf a u = false) (v : Word32) (s : State) :
    execTlCntloWrite a c u v s = regRow a (0xA0100 + 8 * c.val) v s := by
  unfold execTlCntloWrite
  rw [h, if_neg Bool.false_ne_true]

/-! In user mode the management core's writes count as accesses and do no more; it reads the counters that TL_UEN shows. -/

variable (hd : s.dev.domOn dMGMT = true)
include hd

theorem execTlCnthiWrite_user (v : Word32) :
    execTlCnthiWrite .mgmt c true v s = .next (s.put (s.dev.busAccess .mgmt (0xA0104 + 8 * c.val) 3 true)) :=
  lift_eq_put (if_pos hd)

theorem execTlCntloWrite_user (v : Word32) :
    execTlCntloWrite .mgmt c true v s = .next (s.put (s.dev.busAccess .mgmt (0xA0100 + 8 * c.val) 3 true)) :=
  lift_eq_put (if_pos hd)

theorem execTlCntloRead_user :
    let e := s.dev.busAccess .mgmt (0xA0100 + 8 * c.val) 2 true
    execTlCntloRead .mgmt c true s = .next (s.put ((e.tallyRead (Accessor.idx .mgmt) c.val true).deliver .mgmt
      (if e.userSees c.val true then e.tally.count.getD c.val 0 % 2 ^ 32 else 0))) :=
  lift_eq_put (if_pos hd)

theorem execTlCntloRead_shown (hsee : (s.dev.busAccess .mgmt (0xA0100 + 8 * c.val) 2 true).userSees c.val true = true) :
    let e := s.dev.busAccess .mgmt (0xA0100 + 8 * c.val) 2 true
    execTlCntloRead .mgmt c true s = .next (s.put ((e.tallyRead (Accessor.idx .mgmt) c.val true).deliver .mgmt
      (e.tally.count.getD c.val 0 % 2 ^ 32))) := by
  have hread := execTlCntloRead_user c hd
  dsimp only at hread ⊢
  rw [hread, if_pos hsee]

theorem execTlCntloRead_hidden (hsee : (s.dev.busAccess .mgmt (0xA0100 + 8 * c.val) 2 true).userSees c.val true = false) :
    execTlCntloRead .mgmt c true s = .next (s.put ((s.dev.busAccess .mgmt (0xA0100 + 8 * c.val) 2 true).deliver .mgmt 0)) := by
  have hno : ¬ (s.dev.busAccess .mgmt (0xA0100 + 8 * c.val) 2 true).userSees c.val true = true := by rw [hsee]; exact Bool.false_ne_true
  have hread := execTlCntloRead_user c hd
  dsimp only at hread
  rw [hread, if_neg hno, Dev.tallyRead, if_neg hno]

end

/-- A kick sets ALIVE (R360). -/
theorem on_hbKick_alive (d : Dev) : d.hbKick.on F.XC_HB_ALIVE = true :=
  show ((d.clr F.XC_HB_KICK).set F.XC_HB_ALIVE).on F.XC_HB_ALIVE = true from on_set (by decide)

/-- Settles O57: each command accesses its register, and the rule at the register's base says what the access does beyond its fields. -/
theorem timeLinkTallyCommands : Obligations.TimeLinkTallyCommands := by
  intro s acc v x r m ch
  refine ⟨fun hg => ?swstamp, fun hg => ⟨readRow_fifoHdr_empty hg, fun e t he => readRow_fifoHdr_oldest hg he⟩, fun tb hg => readRow_tns tb hg,
    fun tb hg hk => writeRow_rateHi v hk tb hg, fun tb hg hk => writeRow_rateLo v hk tb hg, fun tb hg hk => writeRow_offset v hk tb hg,
    fun hg hv => ⟨?kick, on_hbKick_alive _⟩, fun hg hv => ?detach, fun c => ⟨fun hg u hu => ?cntloRead, fun hg hk u hu => ?cnthiWrite,
      fun hg hk u hu => ?cntloWrite, fun hd => ⟨⟨execTlCntloRead_shown c hd, execTlCntloRead_hidden c hd⟩, execTlCnthiWrite_user c hd v,
        execTlCntloWrite_user c hd v⟩⟩⟩
  case swstamp =>
    exact regRow_request F.TU_FIFOCTL_SWSTAMP (fun y => y.fifoPush 5 0 (y.rd F.TU_FIFOCTL_TB) 0) (by decide) rfl (by decide)
      (fun hb _ _ _ _ => by simp [Dev.writeEffect, hb]) hg
  case kick =>
    exact (regRow_request F.XC_HB_KICK Dev.hbKick (by decide) rfl (by decide)
      (fun hb _ _ _ _ => by simp [Dev.writeEffect, hb]) hg).1 hv
  case detach =>
    exact (regRow_request F.XC_CTL_DETACH Dev.detachReq (by decide) rfl (by decide)
      (fun hb _ _ _ _ => by simp [Dev.writeEffect, hb]) hg).1 hv
  case cntloRead => exact (execTlCntloRead_supervisor c hu s).trans (readRow_cntlo c hg)
  case cnthiWrite => exact (execTlCnthiWrite_supervisor c hu v s).trans (regRow_cnthi c v hg hk)
  case cntloWrite => exact (execTlCntloWrite_supervisor c hu v s).trans (regRow_cntlo c v hg hk)

end Sys2Proof.Machine

/-! PROOFS. Chapter 15, the cells of the Crosscut link. -/

namespace Sys2Proof.Machine

/-! ## The checks of the handshake (R355), in their order -/

section
variable {d : Dev} {far : AttachInfo}

theorem attachCheck_part (h : far.part ≠ d.rd F.GLB_ID_PART) : d.attachCheck far = 2 := if_pos h

variable (hp : far.part = d.rd F.GLB_ID_PART)
include hp

theorem attachCheck_idClash (hid : far.isB = true ↔ d.mgmt.twinId = 2) : d.attachCheck far = 3 := by
  have hb : far.isB = (d.mgmt.twinId == 2) := Bool.eq_iff_iff.mpr (by rw [beq_iff_eq]; exact hid)
  exact (if_neg (not_not_intro hp)).trans (if_pos hb)

variable (hid : ¬ (far.isB = true ↔ d.mgmt.twinId = 2))
include hid

/-- Two devices of one part and of both straps compare protocols and lane maps, then credentials. -/
theorem attachCheck_pair : d.attachCheck far =
    if d.sec.running.xproto < far.xmin.toNat ∨ far.xproto.toNat < d.sec.running.xmin then 2
    else if far.mapCrc ≠ crc16 ((d.conf 0x0801).getD []) then 2 else if d.credOk far then 0 else 4 := by
  have hb : ¬ far.isB = (d.mgmt.twinId == 2) := fun h => hid (by rw [h, beq_iff_eq])
  refine (if_neg (not_not_intro hp)).trans ((if_neg hb).trans ?_)
  simp only [Bool.or_eq_true, decide_eq_true_eq]

theorem attachCheck_incompatible (h : d.sec.running.xproto < far.xmin.toNat ∨ far.xproto.toNat < d.sec.running.xmin ∨
    far.mapCrc ≠ crc16 ((d.conf 0x0801).getD [])) : d.attachCheck far = 2 := by
  rw [attachCheck_pair hp hid]
  rcases h with h | h | h
  · exact if_pos (.inl h)
  · exact if_pos (.inr h)
  · rw [if_pos h, ite_self]

theorem attachCheck_credentials (h1 : far.xmin.toNat ≤ d.sec.running.xproto) (h2 : d.sec.running.xmin ≤ far.xproto.toNat)
    (hc : far.mapCrc = crc16 ((d.conf 0x0801).getD [])) : d.attachCheck far = if d.credOk far then 0 else 4 := by
  rw [attachCheck_pair hp hid, if_neg (by omega), if_neg (not_not_intro hc)]

end

/-- The outcome of a handshake: an attach, or the failure of the first check that fails. -/
def Dev.attachOutcome (d : Dev) (far : AttachInfo) : Dev :=
  if d.attachCheck far = 0 then d.attachOk far else d.attachFail (d.attachCheck far)

theorem attachOutcome_fails {d : Dev} {far : AttachInfo} {n : Nat} (hn : n ≠ 0) (h : d.attachCheck far = n) :
    d.attachOutcome far = d.attachFail n := by
  rw [Dev.attachOutcome, h, if_neg hn]

theorem attachOutcome_credentials {d : Dev} {far : AttachInfo} (h : d.attachCheck far = if d.credOk far then 0 else 4) :
    d.attachOutcome far = if d.credOk far then d.attachOk far else d.attachFail 4 := by
  rw [Dev.attachOutcome, h]
  split <;> rfl

/-! ## A reserved type, and a cell whose SEQ has been accepted -/

section
variable {s : State} {seq : Byte}

theorem reservedCell_counted (hx : s.dev.domOn dXCUT = true) (xlane : Fin 2) {type : Byte} (h : 13 < type.toNat) :
    execReservedCell xlane type s = .next (s.put (s.dev.inc F.XC_LERR_CRCERR xlane.val)) := by
  refine lift_eq_put (if_neg ?_)
  rw [hx, decide_eq_false (by omega)]
  decide

theorem reservedCell_known (xlane : Fin 2) {type : Byte} (h : type.toNat ≤ 13) : execReservedCell xlane type s = .next s :=
  lift_eq_self (if_pos (by rw [decide_eq_true h, Bool.or_true]))

/-! ## A fresh cell (R351): its SEQ is kept, then its type acts -/

variable (hx : s.dev.domOn dXCUT = true) (hs : s.dev.xc.seen.contains seq.toNat = false)
include hx hs

theorem sleepCell_sleeps : execSleepCell seq s =
    .next (s.put (((s.dev.taken seq 12).set F.XC_STAT_RXSLEEP).mapXc fun x => { x with rxSleepAt := s.dev.now })) :=
  lift_eq_put (accept_fresh _ hx hs)

theorem heartbeatCell_kept (role : Fin 3) (lp al : Bool) : execHeartbeatCell seq role lp al s =
    .next (s.put ((s.dev.taken seq 3).mapXc fun x => { x with lastHb := some s.dev.now, farHb := some (role.val, lp, al) })) :=
  lift_eq_put (accept_fresh _ hx hs)

theorem detachCell_detaches : execDetachCell seq s =
    .next (s.put (if (s.dev.taken seq 13).attached then (s.dev.taken seq 13).detached else s.dev.taken seq 13)) :=
  lift_eq_put (accept_fresh _ hx hs)

theorem takeoverCell_attached (ha : (s.dev.taken seq 8).attached = true) : execTakeoverCell seq s =
    .next (s.put (((((s.dev.taken seq 8).set F.XC_AON_DEPOSED).wr F.XC_AON_LOOPSOUT 0 0xFF).setEndpt false).wr F.XC_STAT_ROLE 0 0).swapDrop) :=
  lift_eq_put ((accept_fresh _ hx hs).trans (if_neg (by rw [ha]; decide)))

theorem takeoverCell_solo (ha : (s.dev.taken seq 8).attached = false) : execTakeoverCell seq s = .next (s.put (s.dev.taken seq 8)) :=
  lift_eq_put ((accept_fresh _ hx hs).trans (if_pos (by rw [ha]; rfl)))

theorem faultCell_attached (cause : BitVec 4) (ha : (s.dev.taken seq 4).attached = true) : execFaultCell seq cause s =
    .next (s.put (((s.dev.taken seq 4).wr F.XC_FLTSTAT_RXCAUSE 0 cause.toNat).faultRx false F.XC_FLTSTAT_RXFLT)) :=
  lift_eq_put ((accept_fresh _ hx hs).trans (if_neg (by rw [ha]; decide)))

theorem faultCell_solo (cause : BitVec 4) (ha : (s.dev.taken seq 4).attached = false) : execFaultCell seq cause s =
    .next (s.put (s.dev.taken seq 4)) :=
  lift_eq_put ((accept_fresh _ hx hs).trans (if_pos (by rw [ha]; rfl)))

/-! ### ATTACH (R355) -/

theorem attachCell_handshake (far : AttachInfo) (hst : (s.dev.taken seq 2).rd F.XC_STAT_STATE = 2) : execAttachCell seq far s =
    .next (s.put ((s.dev.taken seq 2).attachOutcome far)) := by
  refine lift_eq_put ((accept_fresh _ hx hs).trans ?_)
  dsimp only
  rw [hst]
  rfl

theorem attachCell_attached (far : AttachInfo) (hst : (s.dev.taken seq 2).rd F.XC_STAT_STATE = 3) : execAttachCell seq far s =
    .next (s.put ((s.dev.taken seq 2).attachCell.attachOutcome far)) := by
  refine lift_eq_put ((accept_fresh _ hx hs).trans ?_)
  dsimp only
  rw [hst]
  rfl

theorem attachCell_elsewhere (far : AttachInfo) (h2 : (s.dev.taken seq 2).rd F.XC_STAT_STATE ≠ 2)
    (h3 : (s.dev.taken seq 2).rd F.XC_STAT_STATE ≠ 3) : execAttachCell seq far s = .next (s.put (s.dev.taken seq 2)) :=
  lift_eq_put ((accept_fresh _ hx hs).trans (if_pos (by rw [decide_eq_true h2, decide_eq_true h3]; rfl)))

/-! ### Loops handed over, answers and the mirror (R358, R365, R366) -/

theorem loopHandoverCell_attached (ha : (s.dev.taken seq 6).attached = true) (kind : Handover) (mask : Byte) :
    let d := s.dev.taken seq 6
    execLoopHandoverCell seq kind mask s = .next (s.put (match kind with
      | .take => (d.setRemote (d.ws.remote ||| mask.toNat)).cell 6 [1, mask]
      | .takeAck => (d.wr F.XC_AON_LOOPSOUT 0 (d.rd F.XC_AON_LOOPSOUT ||| (mask.toNat &&& d.xc.asked))).mapXc fun x =>
          { x with asked := x.asked &&& (255 - mask.toNat) }
      | .back => (d.wr F.XC_AON_LOOPSOUT 0 (d.rd F.XC_AON_LOOPSOUT &&& (255 - mask.toNat))).reseed mask.toNat)) := by
  refine lift_eq_put ((accept_fresh _ hx hs).trans ((if_neg (by rw [ha]; decide)).trans ?_))
  cases kind <;> rfl

theorem loopHandoverCell_solo (ha : (s.dev.taken seq 6).attached = false) (kind : Handover) (mask : Byte) :
    execLoopHandoverCell seq kind mask s = .next (s.put (s.dev.taken seq 6)) :=
  lift_eq_put ((accept_fresh _ hx hs).trans (if_pos (by rw [ha]; rfl)))

theorem rrspCell_answers {body : List Byte} {a : XAsk}
    (h : ((s.dev.taken seq 11).xc.asks.find? fun a => a.tag == fieldAt body 0 1) = some a) :
    let vals := (List.range (min 5 (fieldAt body 2 1))).map fun j => fieldAt body (3 + 4 * j) 4
    execRrspCell seq body s = .next (s.put
      (((s.dev.taken seq 11).mapXc fun x => { x with rrsp := some (fieldAt body 1 1, vals) }).rrspTake a vals)) := by
  refine lift_eq_put ((accept_fresh _ hx hs).trans ?_)
  dsimp only
  rw [h]

theorem rrspCell_unasked {body : List Byte}
    (h : ((s.dev.taken seq 11).xc.asks.find? fun a => a.tag == fieldAt body 0 1) = none) :
    execRrspCell seq body s = .next (s.put (s.dev.taken seq 11)) := by
  refine lift_eq_put ((accept_fresh _ hx hs).trans ?_)
  dsimp only
  rw [h]

/-- A mirrored fragment of an attached pair: the first one begins a refresh, and the others go on with it. -/
theorem mirrorCell_attached (ha : (s.dev.taken seq 5).attached = true) (o : Nat) (data : List Byte) (first last : Bool) :
    execMirrorCell seq o data first last s = .next (s.put ((s.dev.taken seq 5).mapXc fun x =>
      match (if first then some (putImage [] o data) else x.part.map fun p => putImage p o data) with
      | none => { x with image := putImage x.image o data }
      | some p => if last then { x with image := p, part := none } else { x with part := some p })) :=
  lift_eq_put ((accept_fresh _ hx hs).trans (if_neg (by rw [ha]; decide)))

theorem mirrorCell_continues (ha : (s.dev.taken seq 5).attached = true) {p : List (Nat × Byte)} (hp : (s.dev.taken seq 5).xc.part = some p)
    (o : Nat) (data : List Byte) (last : Bool) : execMirrorCell seq o data false last s = .next (s.put ((s.dev.taken seq 5).mapXc fun x =>
      if last then { x with image := putImage p o data, part := none } else { x with part := some (putImage p o data) })) := by
  rw [mirrorCell_attached hx hs ha, Dev.mapXc, Dev.mapXc, hp]
  rfl

theorem mirrorCell_changes (ha : (s.dev.taken seq 5).attached = true) (hp : (s.dev.taken seq 5).xc.part = none) (o : Nat)
    (data : List Byte) (last : Bool) : execMirrorCell seq o data false last s =
      .next (s.put ((s.dev.taken seq 5).mapXc fun x => { x with image := putImage x.image o data })) := by
  rw [mirrorCell_attached hx hs ha, Dev.mapXc, Dev.mapXc, hp]
  rfl

theorem mirrorCell_solo (ha : (s.dev.taken seq 5).attached = false) (o : Nat) (data : List Byte) (first last : Bool) :
    execMirrorCell seq o data first last s = .next (s.put (s.dev.taken seq 5)) :=
  lift_eq_put ((accept_fresh _ hx hs).trans (if_pos (by rw [ha]; rfl)))

/-! ### SWAP (R367) -/

theorem swapCell_attached (ha : (s.dev.taken seq 9).attached = true) :
    let d := if (s.dev.taken seq 9).xc.swapOwn then s.dev.taken seq 9 else (s.dev.taken seq 9).cell 9 [1]
    execSwapCell seq s = .next (s.put (if (d.freeVal 1).1 = 1 then (d.freeVal 1).2.mapXc fun x => { x with swap := true }
      else (d.freeVal 1).2.swapNow)) :=
  lift_eq_put ((accept_fresh _ hx hs).trans (if_neg (by rw [ha]; decide)))

theorem swapCell_solo (ha : (s.dev.taken seq 9).attached = false) : execSwapCell seq s = .next (s.put (s.dev.taken seq 9)) :=
  lift_eq_put ((accept_fresh _ hx hs).trans (if_pos (by rw [ha]; rfl)))

end

/-- Settles O48: a SEQ seen before ends a cell's reception; a fresh one is kept and the cell's type acts. -/
theorem twinCells : Obligations.TwinCells := by
  intro s seq hx
  refine ⟨fun xlane type => ⟨reservedCell_counted hx xlane, reservedCell_known xlane⟩, fun hs => ?seen, fun hs => ?fresh⟩
  case seen =>
    have hignored : ∀ type f, lift (fun d => d.accept seq type f) s = .next s := fun type f => lift_eq_self (accept_seen f hs)
    exact ⟨hignored 12 _, hignored 13 _, hignored 8 _, hignored 9 _, fun _ _ _ => hignored 3 _, fun _ => hignored 4 _,
      fun _ => hignored 2 _, fun _ _ => hignored 6 _, fun _ => hignored 11 _, fun _ _ _ _ => hignored 5 _⟩
  case fresh =>
    refine ⟨sleepCell_sleeps hx hs, heartbeatCell_kept hx hs, detachCell_detaches hx hs, takeoverCell_attached hx hs,
      faultCell_attached hx hs, fun far hst => ?handshake, fun far hst => attachCell_attached hx hs far hst,
      fun far h2 h3 => attachCell_elsewhere hx hs far h2 h3,
      fun mask ha => ⟨loopHandoverCell_attached hx hs ha .take mask, loopHandoverCell_attached hx hs ha .takeAck mask,
        loopHandoverCell_attached hx hs ha .back mask⟩,
      fun body => ⟨fun a h => rrspCell_answers hx hs h, rrspCell_unasked hx hs⟩, fun o data ha => ?mirror, swapCell_attached hx hs,
      fun kind m cause o data f l => ⟨swapCell_solo hx hs, takeoverCell_solo hx hs, faultCell_solo hx hs cause,
        fun ha => loopHandoverCell_solo hx hs ha kind m, fun ha => mirrorCell_solo hx hs ha o data f l⟩⟩
    case handshake =>
      have hout := attachCell_handshake hx hs far hst
      refine ⟨fun hp => ?_, fun hp hid => ?_, fun hp hid => ⟨fun h => ?_, fun h1 h2 hc => ?_⟩⟩
      · exact hout.trans (by rw [attachOutcome_fails (by decide) (attachCheck_part hp)])
      · exact hout.trans (by rw [attachOutcome_fails (by decide) (attachCheck_idClash hp hid)])
      · exact hout.trans (by rw [attachOutcome_fails (by decide) (attachCheck_incompatible hp hid h)])
      · exact hout.trans (by rw [attachOutcome_credentials (attachCheck_credentials hp hid h1 h2 hc)])
    case mirror =>
      exact ⟨mirrorCell_attached hx hs ha o data true true, mirrorCell_attached hx hs ha o data true false,
        fun p hp => ⟨mirrorCell_continues hx hs ha hp o data true, mirrorCell_continues hx hs ha hp o data false⟩,
        fun hp last => mirrorCell_changes hx hs ha hp o data last⟩

end Sys2Proof.Machine

/-! PROOFS. Chapter 15, the link's events: lock, training, loss, sleep, heartbeat, takeover, faults and the mirror. -/

namespace Sys2Proof.Machine

/-! ## Lock (R350 to R352) -/

/-- The lock of a receive lane kept, a lost one counted. -/
def Dev.lockNoted (d : Dev) (xlane : Nat) (locked : Bool) : Dev :=
  let d1 := d.wr F.XC_LANE_RXLOCK xlane (b2n locked)
  if d.on F.XC_LANE_RXLOCK xlane && !locked then d1.inc F.XC_LERR_LOCKLOSS xlane else d1

theorem on_lockNoted (d : Dev) (xlane : Nat) (locked : Bool) : (d.lockNoted xlane locked).on F.XC_LANE_RXLOCK xlane = locked := by
  have hwr : (d.wr F.XC_LANE_RXLOCK xlane (b2n locked)).on F.XC_LANE_RXLOCK xlane = locked := by
    rw [Dev.on, rd_wr_same]
    cases locked <;> rfl
  unfold Dev.lockNoted
  dsimp only
  split
  · rw [Dev.on, inc_eq_wr, rd_wr_fld _ _ _ _ _ _ (by decide)]
    exact hwr
  · exact hwr

theorem rd_lockNoted (d : Dev) (xlane : Nat) (locked : Bool) : (d.lockNoted xlane locked).rd F.XC_LERR_LOCKLOSS xlane =
    if d.on F.XC_LANE_RXLOCK xlane && !locked then (d.inc F.XC_LERR_LOCKLOSS xlane).rd F.XC_LERR_LOCKLOSS xlane
    else d.rd F.XC_LERR_LOCKLOSS xlane := by
  unfold Dev.lockNoted
  dsimp only
  split
  · simp only [inc_eq_wr, rd_wr_same]
    rw [rd_wr_fld _ _ _ _ _ _ (by decide)]
  · exact rd_wr_fld _ _ _ _ _ _ (by decide)

section
variable {s : State}

theorem xcLaneLock_noted (hx : s.dev.domOn dXCUT = true) (xlane : Fin 2) (locked : Bool) : ∃ t : Dev,
    execXcLaneLock xlane locked s = .next (s.put t) ∧ t.on F.XC_LANE_RXLOCK xlane.val = locked ∧
    t.rd F.XC_LERR_LOCKLOSS xlane.val = (if s.dev.on F.XC_LANE_RXLOCK xlane.val && !locked then
      (s.dev.inc F.XC_LERR_LOCKLOSS xlane.val).rd F.XC_LERR_LOCKLOSS xlane.val else s.dev.rd F.XC_LERR_LOCKLOSS xlane.val) := by
  refine ⟨_, lift_eq_put (if_neg (by rw [hx]; decide)), ?_, ?_⟩
  · exact (congrArg (· != 0) (rd_wr_fld (s.dev.lockNoted xlane.val locked) F.XC_STAT_DEGRADED F.XC_LANE_RXLOCK _ _ _ (by decide))).trans
      (on_lockNoted _ _ _)
  · exact (rd_wr_fld (s.dev.lockNoted xlane.val locked) F.XC_STAT_DEGRADED F.XC_LERR_LOCKLOSS _ _ _ (by decide)).trans (rd_lockNoted _ _ _)

theorem xcLaneLock_linkOff (hx : s.dev.domOn dXCUT = false) (xlane : Fin 2) (locked : Bool) : execXcLaneLock xlane locked s = .next s :=
  lift_eq_self (if_pos (by rw [hx]; rfl))

/-! ## Training (R352) -/

theorem trainCell_linkOff (hx : s.dev.domOn dXCUT = false) (maxrate : Fin 4) (ready : Bool) : execTrainCell maxrate ready s = .next s :=
  lift_eq_self (if_pos (by rw [hx]; rfl))

section
variable (hx : s.dev.domOn dXCUT = true) (hid : s.dev.mgmt.twinId ≠ 0) (hat : s.dev.on F.XC_CTL_ATTEN = true)
  (hf : s.dev.xc.failed = false) (hsp : s.dev.xc.stepping = false) (hst : s.dev.rd F.XC_STAT_STATE = 1 ∨ s.dev.rd F.XC_STAT_STATE = 4)
  (hready : s.dev.xc.sentReady = true ∨ s.dev.rxLocks = 2) (maxrate : Fin 4)
include hx hid hat hf hsp hst hready

/-- A TRAIN cell in training at a transmitter that is READY: the far rate is kept, and the 64th READY in a row ends the step. -/
theorem trainCell_ready (ready : Bool) :
    let d := (s.dev.wr F.XC_STAT_STATE 0 1).mapXc fun x =>
      { x with farMax := maxrate.val, rxReady := if ready then x.rxReady + 1 else 0, sentReady := true }
    execTrainCell maxrate ready s = .next (s.put (if 64 ≤ d.xc.rxReady then d.trainNext else d.trainCell)) := by
  have hin : (!s.dev.domOn dXCUT || s.dev.mgmt.twinId = 0 || !s.dev.on F.XC_CTL_ATTEN || s.dev.xc.failed || s.dev.xc.stepping ||
      !(s.dev.rd F.XC_STAT_STATE = 1 || s.dev.rd F.XC_STAT_STATE = 4)) = false := by
    rcases hst with hst | hst <;> simp [hx, hid, hat, hf, hsp, hst]
  have hsent : ∀ b : Bool, (s.dev.xc.sentReady || s.dev.rxLocks == 2 || b) = true := by
    intro b
    rcases hready with h | h <;> simp [h]
  refine lift_eq_put ((if_neg (by rw [hin]; decide)).trans ?_)
  simp only [hsent, Dev.mapXc, Dev.wr_xc, Bool.true_and, decide_eq_true_eq]
  rfl

theorem trainCell_last (hn : 63 ≤ s.dev.xc.rxReady) : execTrainCell maxrate true s = .next (s.put
    ((s.dev.wr F.XC_STAT_STATE 0 1).mapXc fun x =>
      { x with farMax := maxrate.val, rxReady := x.rxReady + 1, sentReady := true }).trainNext) := by
  have hnext := trainCell_ready hx hid hat hf hsp hst hready maxrate true
  exact hnext.trans (congrArg (fun d => Host.Outcome.next (s.put d)) (if_pos (Nat.succ_le_succ hn)))

theorem trainCell_more (hn : s.dev.xc.rxReady < 63) : execTrainCell maxrate true s = .next (s.put
    ((s.dev.wr F.XC_STAT_STATE 0 1).mapXc fun x =>
      { x with farMax := maxrate.val, rxReady := x.rxReady + 1, sentReady := true }).trainCell) := by
  have hnext := trainCell_ready hx hid hat hf hsp hst hready maxrate true
  exact hnext.trans (congrArg (fun d => Host.Outcome.next (s.put d)) (if_neg (Nat.not_le.mpr (Nat.succ_lt_succ hn))))

theorem trainCell_broken : execTrainCell maxrate false s = .next (s.put
    ((s.dev.wr F.XC_STAT_STATE 0 1).mapXc fun x => { x with farMax := maxrate.val, rxReady := 0, sentReady := true }).trainCell) := by
  have hnext := trainCell_ready hx hid hat hf hsp hst hready maxrate false
  exact hnext.trans (congrArg (fun d => Host.Outcome.next (s.put d)) (if_neg (show ¬ 64 ≤ 0 by decide)))

end

theorem trainStepTimeout_stepping (h : s.dev.xc.stepping = true) : execTrainStepTimeout s =
    .next (s.put ((s.dev.linkRate (s.dev.rd F.XC_STAT_RATE - 1)).set F.XC_STAT_RATEFB).handshake) :=
  lift_eq_put (if_neg (by rw [h]; decide))

theorem trainStepTimeout_idle (h : s.dev.xc.stepping = false) : execTrainStepTimeout s = .next s :=
  lift_eq_self (if_pos (by rw [h]; rfl))

theorem rd_linkRate (d : Dev) (r : Nat) : (d.linkRate r).rd F.XC_STAT_RATE = r % 4 := rd_wr_same d F.XC_STAT_RATE 0 r

/-! ## A lost link (R353, R362) -/

theorem linkLoss_awake (ht : s.dev.xc.trained = true) (hr : s.dev.on F.XC_STAT_RXSLEEP = false) :
    execLinkLoss s = .next (s.put s.dev.linkLost) :=
  lift_eq_put (if_pos (by rw [ht, hr]; rfl))

theorem linkLoss_asleep (hr : s.dev.on F.XC_STAT_RXSLEEP = true) : execLinkLoss s = .next s :=
  lift_eq_self (if_neg (by rw [hr, Bool.not_true, Bool.and_false]; decide))

theorem linkLoss_untrained (ht : s.dev.xc.trained = false) : execLinkLoss s = .next s :=
  lift_eq_self (if_neg (by rw [ht, Bool.false_and]; decide))

theorem sleepHeartbeatTimeout_due (ht : s.dev.xc.trained = true) (hr : s.dev.on F.XC_STAT_RXSLEEP = true)
    (hn : max s.dev.xc.rxSleepAt (s.dev.xc.lastHb.getD 0) + 2 * tickMs ≤ s.dev.now) :
    execSleepHeartbeatTimeout s = .next (s.put (s.dev.clr F.XC_STAT_RXSLEEP).linkLost) :=
  lift_eq_put (if_pos (by rw [ht, hr, decide_eq_true hn]; rfl))

theorem sleepHeartbeatTimeout_early (hn : s.dev.now < max s.dev.xc.rxSleepAt (s.dev.xc.lastHb.getD 0) + 2 * tickMs) :
    execSleepHeartbeatTimeout s = .next s :=
  lift_eq_self (if_neg (by rw [decide_eq_false (Nat.not_le.mpr hn), Bool.and_false]; decide))

theorem sleepHeartbeatTimeout_untrained (ht : s.dev.xc.trained = false) : execSleepHeartbeatTimeout s = .next s :=
  lift_eq_self (if_neg (by rw [ht, Bool.and_false, Bool.false_and]; decide))

/-! ## Heartbeats (R353, R360) -/

theorem heartbeatSend_alive (hx : s.dev.domOn dXCUT = true) (ha : s.dev.on F.XC_HB_ALIVE = true) (hst : s.dev.rd F.XC_STAT_STATE ≠ 0)
    (hs : s.dev.on F.XC_STAT_TXSLEEP = false) : execHeartbeatSend s = .next (s.put (s.dev.cell 3 [BitVec.ofNat 8 (s.dev.rd F.XC_STAT_ROLE),
      BitVec.ofNat 8 (b2n (decide (s.dev.rd F.PW_STAT_STATE = 1))), 1])) := by
  refine lift_eq_put ((if_pos (by rw [hx, ha, hs, decide_eq_true hst]; rfl)).trans ?_)
  unfold Dev.heartbeat
  rw [ha]
  rfl

theorem heartbeatSend_silent (ha : s.dev.on F.XC_HB_ALIVE = false) : execHeartbeatSend s = .next s :=
  lift_eq_self (if_neg (by rw [ha, Bool.and_false, Bool.false_and, Bool.false_and]; decide))

theorem aliveExpiry_due (h : s.dev.xc.kickAt + 25000 ≤ s.dev.now) : execAliveExpiry s = .next (s.put (s.dev.clr F.XC_HB_ALIVE)) :=
  lift_eq_put (if_pos h)

theorem aliveExpiry_early (h : s.dev.now < s.dev.xc.kickAt + 25000) : execAliveExpiry s = .next s :=
  lift_eq_self (if_neg (Nat.not_le.mpr h))

theorem sleepWakeTimer_sends (h : s.dev.on F.XC_STAT_TXSLEEP = true) : execSleepWakeTimer s = .next (s.put s.dev.heartbeat) :=
  lift_eq_put (if_pos h)

section
variable (ha : s.dev.attached = true) (hr : s.dev.on F.XC_STAT_RXSLEEP = false) (ho : s.dev.hbOld = true)
include ha hr ho

theorem hbloss_follow (hrole : s.dev.rd F.XC_STAT_ROLE = 2) :
    execHbloss s = .next (s.put ((s.dev.set F.XC_STAT_HBLOSS).inc F.XC_CNT_HBLOSSES).takeover) :=
  lift_eq_put ((if_neg (by rw [ha, hr, ho]; decide)).trans (if_pos hrole))

theorem hbloss_lead (hrole : s.dev.rd F.XC_STAT_ROLE ≠ 2) :
    execHbloss s = .next (s.put (((s.dev.set F.XC_STAT_HBLOSS).inc F.XC_CNT_HBLOSSES).int.event evHbLoss 0xB00)) :=
  lift_eq_put ((if_neg (by rw [ha, hr, ho]; decide)).trans (if_neg hrole))

end

/-! ## Faults (R361) -/

section
variable {source : Fin 4}

theorem faultDetect_ignored (h : s.dev.attached = false ∨ (s.dev.rd F.XC_FLTCFG_SRC).testBit source.val = false) :
    execFaultDetect source s = .next s := by
  refine lift_eq_self (if_pos ?_)
  rcases h with h | h
  · rw [h]; rfl
  · rw [h, Bool.not_false, Bool.or_true]

variable (ha : s.dev.attached = true) (hsrc : (s.dev.rd F.XC_FLTCFG_SRC).testBit source.val = true)
include ha hsrc

theorem faultDetect_cell (hp : s.dev.on F.XC_FLTCFG_PINEN = false) : execFaultDetect source s =
    .next (s.put ((s.dev.cell 4 [BitVec.ofNat 8 (2 ^ source.val)]).wr F.XC_FLTSTAT_TXCAUSE 0 (2 ^ source.val))) :=
  lift_eq_put ((if_neg (by rw [ha, hsrc]; decide)).trans (if_neg (by rw [hp]; decide)))

theorem faultDetect_pin (hp : s.dev.on F.XC_FLTCFG_PINEN = true) : execFaultDetect source s =
    .next (s.put (((s.dev.cell 4 [BitVec.ofNat 8 (2 ^ source.val)]).wr F.XC_FLTSTAT_TXCAUSE 0 (2 ^ source.val)).mapXc fun x =>
      { x with fltAt := some s.dev.now })) :=
  lift_eq_put ((if_neg (by rw [ha, hsrc]; decide)).trans (if_pos hp))

end

theorem twinFltFall_ignored (h : s.dev.attached = false ∨ s.dev.on F.XC_FLTCFG_PINEN = false) : execTwinFltFall s = .next s := by
  refine lift_eq_self (if_pos ?_)
  rcases h with h | h
  · rw [h, Bool.not_false, Bool.or_true, Bool.true_or]
  · rw [h, Bool.not_false, Bool.or_true]

/-- The pin's fault is acted on where the cell has not just brought it. -/
theorem twinFltFall_acts (hl : s.dev.pinsLive = true) (ha : s.dev.attached = true) (hp : s.dev.on F.XC_FLTCFG_PINEN = true)
    (hn : s.dev.xc.acted = none) : execTwinFltFall s =
      .next (s.put (((s.dev.set F.XC_FLTSTAT_PINFLT).faultAct).mapXc fun x => { x with acted := some (s.dev.now, true) })) := by
  have hseen : s.dev.faultSeen true = false := by rw [Dev.faultSeen, hn]
  exact lift_eq_put ((if_neg (by rw [hl, ha, hp]; decide)).trans (if_neg (by rw [hseen, Bool.and_false]; decide)))

theorem rreqTimeout_discards {p : Nat × List XOp} (h : s.dev.xc.rreq = some p) :
    execRreqTimeout s = .next (s.put ((s.dev.mapXc fun x => { x with rreq := none }).inc F.XC_LERR_CRCERR 0)) :=
  lift_eq_put (by rw [h])

/-! ## The mirror (R358) -/

theorem mirrorRefresh_endpoint (ha : s.dev.attached = true) (he : s.dev.mgmt.endpt = true) (hf : s.dev.fwRun = true) :
    execMirrorRefresh s = .next (s.put s.dev.mirrorAll) :=
  lift_eq_put (if_pos (by rw [ha, he, hf]; rfl))

theorem mirrorRefresh_elsewhere (h : s.dev.mgmt.endpt = false ∨ s.dev.attached = false) : execMirrorRefresh s = .next s := by
  refine lift_eq_self (if_neg ?_)
  rcases h with h | h
  · rw [h, Bool.and_false, Bool.false_and]; decide
  · rw [h, Bool.false_and, Bool.false_and]; decide

end

/-- Settles O49: one lemma per event and case. -/
theorem twinEvents : Obligations.TwinEvents := fun _ =>
  ⟨fun xlane locked hx => xcLaneLock_noted hx xlane locked,
    fun maxrate hx hid hat hf hsp hst hready => ⟨trainCell_last hx hid hat hf hsp hst hready maxrate,
      trainCell_more hx hid hat hf hsp hst hready maxrate, trainCell_broken hx hid hat hf hsp hst hready maxrate⟩,
    fun h => ⟨trainStepTimeout_stepping h, rd_linkRate _ _⟩, trainStepTimeout_idle,
    fun ht => ⟨linkLoss_awake ht, fun hr => ⟨linkLoss_asleep hr, sleepHeartbeatTimeout_due ht hr, sleepHeartbeatTimeout_early⟩⟩,
    fun ht => ⟨linkLoss_untrained ht, sleepHeartbeatTimeout_untrained ht⟩,
    heartbeatSend_alive, heartbeatSend_silent, aliveExpiry_due, aliveExpiry_early, sleepWakeTimer_sends,
    fun ha hr ho => ⟨hbloss_follow ha hr ho, hbloss_lead ha hr ho⟩,
    fun _ => ⟨faultDetect_cell, faultDetect_pin, faultDetect_ignored⟩,
    twinFltFall_ignored, twinFltFall_acts, fun _ => rreqTimeout_discards, mirrorRefresh_endpoint, mirrorRefresh_elsewhere,
    fun hx => ⟨xcLaneLock_linkOff hx, trainCell_linkOff hx⟩⟩

end Sys2Proof.Machine

/-! PROOFS. Chapter 15, the TWIN commands. -/

namespace Sys2Proof.Machine

/-- An operand that may be given as 0xFF is in range or the keep value. -/
theorem okKeep_iff (v hi : Nat) : okKeep v hi = true ↔ v ≤ hi ∨ v = 0xFF := by
  simp only [okKeep, Bool.or_eq_true, decide_eq_true_eq, beq_iff_eq]

section
variable {s : State} {src : Src}

/-! ## TWIN.STAT.GET (Table 15-7) -/

section
variable (h : s.dev.admits src 0xA600 .q = true)
include h

theorem twinStatGet_far {far : AttachInfo} (hf : (s.dev.arrives 0xA600).xc.far = some far) : let x := s.dev.arrives 0xA600
    let on := fun (a : Nat) => if x.domOn dXCUT then x.regWord a 0 else 0
    execTwinStatGet src s = .next (s.put (x.completes (x.entry src 0xA600 .q) x (be 4 (on 0x90004) ++ be 4 (x.regWord 0x9001C 0) ++
      be 8 far.serial ++ be 4 far.fwver ++ [far.xproto, BitVec.ofNat 8 x.xc.upg, BitVec.ofNat 8 x.xc.upgPct, 0] ++ be 4 (on 0x90014)))) :=
  lift_eq_put (kci_completes h (by rw [hf]; rfl))

theorem twinStatGet_alone (hf : (s.dev.arrives 0xA600).xc.far = none) : let x := s.dev.arrives 0xA600
    let on := fun (a : Nat) => if x.domOn dXCUT then x.regWord a 0 else 0
    execTwinStatGet src s = .next (s.put (x.completes (x.entry src 0xA600 .q) x (be 4 (on 0x90004) ++ be 4 (x.regWord 0x9001C 0) ++
      be 8 0 ++ be 4 0 ++ [0, BitVec.ofNat 8 x.xc.upg, BitVec.ofNat 8 x.xc.upgPct, 0] ++ be 4 (on 0x90014)))) :=
  lift_eq_put (kci_completes h (by rw [hf]; rfl))

end

/-! ## TWIN.CFG.SET (Table 15-8) -/

section
variable {a r st sl fs fa p : Byte} (h : s.dev.admits src 0xA601 .c = true)
include h

theorem twinCfgSet_solo (hid : (s.dev.arrives 0xA601).mgmt.twinId = 0) : let x := s.dev.arrives 0xA601
    execTwinCfgSet src a r st sl fs fa p s = .next (s.put (x.declines (x.entry src 0xA601 .c) .notReady)) :=
  lift_eq_put (kci_declines h (if_pos hid))

variable (hid : (s.dev.arrives 0xA601).mgmt.twinId ≠ 0)
include hid

/-- Every field in range: each one given is written. -/
theorem twinCfgSet_ok (hok : ∀ q ∈ [(a, 1), (r, 3), (st, 1), (sl, 1), (fs, 15), (fa, 7), (p, 1)], okKeep q.1.toNat q.2 = true) :
    let x := s.dev.arrives 0xA601
    execTwinCfgSet src a r st sl fs fa p s = .next (s.put (x.completes (x.entry src 0xA601 .c)
      (((((((x.cfgKeep dXCUT F.XC_CTL_ATTEN 0 a.toNat 0xFF).cfgKeep dXCUT F.XC_CTL_MAXRATE 0 r.toNat 0xFF).cfgKeep dXCUT F.XC_CTL_STRICT 0
        st.toNat 0xFF).cfgKeep dXCUT F.XC_CTL_SLEEPEN 0 sl.toNat 0xFF).cfgKeep dXCUT F.XC_FLTCFG_SRC 0 fs.toNat 0xFF).cfgKeep dXCUT
        F.XC_FLTCFG_ACT 0 fa.toNat 0xFF).cfgKeep dXCUT F.XC_FLTCFG_PINEN 0 p.toNat 0xFF) [])) := by
  simp only [List.forall_mem_cons] at hok
  obtain ⟨h1, h2, h3, h4, h5, h6, h7, _⟩ := hok
  exact lift_eq_put (kci_completes h ((if_neg hid).trans (if_neg (by rw [h1, h2, h3, h4, h5, h6, h7]; decide))))

/-- A field out of range. -/
theorem twinCfgSet_badParam (hbad : ¬ ∀ q ∈ [(a, 1), (r, 3), (st, 1), (sl, 1), (fs, 15), (fa, 7), (p, 1)], okKeep q.1.toNat q.2 = true) :
    let x := s.dev.arrives 0xA601
    execTwinCfgSet src a r st sl fs fa p s = .next (s.put (x.declines (x.entry src 0xA601 .c) .badParam)) := by
  refine lift_eq_put (kci_declines h ((if_neg hid).trans (if_pos ?_)))
  by_contra hall
  refine hbad ?_
  simp only [Bool.or_eq_true, Bool.not_eq_true', not_or, Bool.not_eq_false] at hall
  simp only [List.forall_mem_cons]
  obtain ⟨⟨⟨⟨⟨⟨h1, h2⟩, h3⟩, h4⟩, h5⟩, h6⟩, h7⟩ := hall
  exact ⟨h1, h2, h3, h4, h5, h6, h7, List.forall_mem_nil _⟩

end

/-! ## TWIN.ATTACH (R354, R355) -/

section
variable (h : s.dev.admits src 0xA602 .d = true)
include h

theorem twinAttach_solo (hid : (s.dev.arrives 0xA602).mgmt.twinId = 0) : let x := s.dev.arrives 0xA602
    execTwinAttach src s = .next (s.put (x.declines (x.entry src 0xA602 .d) .notReady)) :=
  lift_eq_put (kci_declines h (if_pos hid))

variable (hid : (s.dev.arrives 0xA602).mgmt.twinId ≠ 0)
include hid

theorem twinAttach_attached (ha : (s.dev.arrives 0xA602).attached = true) : let x := s.dev.arrives 0xA602
    execTwinAttach src s = .next (s.put (x.completes (x.entry src 0xA602 .d) x [0])) :=
  lift_eq_put (kci_completes h ((if_neg hid).trans (if_pos ha)))

variable (ha : (s.dev.arrives 0xA602).attached = false)
include ha

/-- A pair not attached waits for what the handshake, training or the wake of XCUT brings. -/
theorem twinAttach_holds {z : Dev}
    (hz : (let y := (s.dev.arrives 0xA602).mapXc fun c => { c with failed := false }
      (if y.xc.trained then y.handshake else if y.domOn dXCUT then (y.xcConf.wr F.XC_STAT_STATE 0 1).retrainLink else y.wake dXCUT)) = z) :
    execTwinAttach src s = .next (s.put (z.holds ((s.dev.arrives 0xA602).entry src 0xA602 .d) .twinAttach)) :=
  lift_eq_put (kci_holds h ((if_neg hid).trans ((if_neg (by rw [ha]; decide)).trans (congrArg (fun z => Res.hold z .twinAttach) hz))))

theorem twinAttach_handshake (ht : (s.dev.arrives 0xA602).xc.trained = true) : let x := s.dev.arrives 0xA602
    execTwinAttach src s = .next (s.put (((x.mapXc fun c => { c with failed := false }).handshake).holds (x.entry src 0xA602 .d) .twinAttach)) :=
  twinAttach_holds h hid ha (if_pos ht)

variable (ht : (s.dev.arrives 0xA602).xc.trained = false)
include ht

theorem twinAttach_trains (hx : (s.dev.arrives 0xA602).domOn dXCUT = true) : let x := s.dev.arrives 0xA602
    execTwinAttach src s = .next (s.put ((((x.mapXc fun c => { c with failed := false }).xcConf.wr F.XC_STAT_STATE 0 1).retrainLink).holds
      (x.entry src 0xA602 .d) .twinAttach)) :=
  twinAttach_holds h hid ha ((if_neg (by simp only [Dev.mapXc, ht]; decide)).trans (if_pos hx))

theorem twinAttach_wakes (hx : (s.dev.arrives 0xA602).domOn dXCUT = false) : let x := s.dev.arrives 0xA602
    execTwinAttach src s = .next (s.put (((x.mapXc fun c => { c with failed := false }).wake dXCUT).holds (x.entry src 0xA602 .d) .twinAttach)) :=
  twinAttach_holds h hid ha ((if_neg (by simp only [Dev.mapXc, ht]; decide)).trans (if_neg (Bool.eq_false_iff.mp hx)))

end

/-! ## TWIN.DETACH (R362) -/

section
variable (h : s.dev.admits src 0xA603 .c = true)
include h

theorem twinDetach_attached (ha : (s.dev.arrives 0xA603).attached = true) : let x := s.dev.arrives 0xA603
    execTwinDetach src s = .next (s.put (x.completes (x.entry src 0xA603 .c) x.detachReq [])) :=
  lift_eq_put (kci_completes h (if_pos ha))

theorem twinDetach_solo (ha : (s.dev.arrives 0xA603).attached = false) : let x := s.dev.arrives 0xA603
    execTwinDetach src s = .next (s.put (x.declines (x.entry src 0xA603 .c) .notReady)) :=
  lift_eq_put (kci_declines h (if_neg (by rw [ha]; decide)))

end

theorem detachReq_first {d : Dev} (ha : d.attached = true) (hd : d.on F.XC_CTL_DETACH = false) :
    d.detachReq = (d.cell 13 []).set F.XC_CTL_DETACH := (if_pos ha).trans (if_neg (by rw [hd]; decide))

theorem detachReq_again {d : Dev} (ha : d.attached = true) (hd : d.on F.XC_CTL_DETACH = true) : d.detachReq = d :=
  (if_pos ha).trans (if_pos hd)

/-! ## TWIN.SWAP (R367) -/

section
variable (h : s.dev.admits src 0xA604 .c = true)
include h

theorem twinSwap_endpoint (ha : (s.dev.arrives 0xA604).attached = true) (he : (s.dev.arrives 0xA604).mgmt.endpt = true) :
    let x := s.dev.arrives 0xA604
    execTwinSwap src s = .next (s.put (((x.cell 9 [0]).mapXc fun c => { c with swapOwn := true }).holds (x.entry src 0xA604 .c) .twinSwap)) :=
  lift_eq_put (kci_holds h (if_pos (by rw [ha, he]; rfl)))

theorem twinSwap_elsewhere (hn : (s.dev.arrives 0xA604).attached = false ∨ (s.dev.arrives 0xA604).mgmt.endpt = false) :
    let x := s.dev.arrives 0xA604
    execTwinSwap src s = .next (s.put (x.declines (x.entry src 0xA604 .c) .notReady)) := by
  refine lift_eq_put (kci_declines h (if_neg ?_))
  rw [Bool.and_eq_true]
  rcases hn with hn | hn <;> rw [hn] <;> simp

end

/-! ## TWIN.RELAY -/

section
variable {frame : List Byte} (h : s.dev.admits src 0xA610 ((relayCls (fieldAt frame 0 2)).getD .c) = true)
include h

theorem twinRelay_unattached (hn : (s.dev.arrives 0xA610).attached = false ∨ (s.dev.arrives 0xA610).xc.twinDown = true) :
    let x := s.dev.arrives 0xA610
    execTwinRelay src frame s = .next (s.put (x.declines (x.entry src 0xA610 ((relayCls (fieldAt frame 0 2)).getD .c)) .notReady)) := by
  refine lift_eq_put (kci_declines h (if_pos ?_))
  rw [Bool.or_eq_true, Bool.not_eq_true']
  exact hn

variable (ha : (s.dev.arrives 0xA610).attached = true) (hd : (s.dev.arrives 0xA610).xc.twinDown = false)
include ha hd

theorem twinRelay_sends (hlo : 8 ≤ frame.length) (hhi : frame.length ≤ 1016) (hc : (relayCls (fieldAt frame 0 2)).isSome = true) :
    let x := s.dev.arrives 0xA610
    execTwinRelay src frame s =
      .next (s.put ((x.message frame).holds (x.entry src 0xA610 ((relayCls (fieldAt frame 0 2)).getD .c)) .twinRelay)) := by
  refine lift_eq_put (kci_holds h ((if_neg (by rw [ha, hd]; decide)).trans (if_neg ?_)))
  simp [LenRule.fits, hlo, hhi, Option.isSome_iff_ne_none.mp hc]

theorem twinRelay_badParam (hn : frame.length < 8 ∨ 1016 < frame.length ∨ relayCls (fieldAt frame 0 2) = none) :
    let x := s.dev.arrives 0xA610
    execTwinRelay src frame s = .next (s.put (x.declines (x.entry src 0xA610 ((relayCls (fieldAt frame 0 2)).getD .c)) .badParam)) := by
  refine lift_eq_put (kci_declines h ((if_neg (by rw [ha, hd]; decide)).trans (if_pos ?_)))
  have hfits : LenRule.frame.fits frame = true ↔ 8 ≤ frame.length ∧ frame.length ≤ 1016 := by simp [LenRule.fits]
  rw [Bool.or_eq_true, Bool.not_eq_true', Option.isNone_iff_eq_none, ← Bool.not_eq_true, hfits]
  rcases hn with hn | hn | hn
  · exact .inl (by omega)
  · exact .inl (by omega)
  · exact .inr hn

end

/-! ## TWIN.UPGRADE (R368) -/

/-- An upgrade may start: on the attached endpoint with no other under way, and a good image where one is to be copied. -/
def Dev.mayUpgrade (d : Dev) (a : Nat) : Prop :=
  d.attached = true ∧ d.mgmt.endpt = true ∧ d.xc.upg = 0 ∧ (a = 1 → (d.slotImage d.freeSlot).good = true)

theorem mayUpgrade_iff (d : Dev) (a : Nat) : d.mayUpgrade a ↔
    (!d.attached || !d.mgmt.endpt || d.xc.upg ≠ 0 || (a = 1 && !(d.slotImage d.freeSlot).good)) = false := by
  simp [Dev.mayUpgrade, and_assoc]

section
variable {a : Byte} (h : s.dev.admits src 0xA620 .c = true)
include h

theorem twinUpgrade_solo (hid : (s.dev.arrives 0xA620).mgmt.twinId = 0) : let x := s.dev.arrives 0xA620
    execTwinUpgrade src a s = .next (s.put (x.declines (x.entry src 0xA620 .c) .notReady)) :=
  lift_eq_put (kci_declines h (if_pos hid))

variable (hid : (s.dev.arrives 0xA620).mgmt.twinId ≠ 0)
include hid

theorem twinUpgrade_badParam (hn : a.toNat = 0 ∨ 3 < a.toNat) : let x := s.dev.arrives 0xA620
    execTwinUpgrade src a s = .next (s.put (x.declines (x.entry src 0xA620 .c) .badParam)) := by
  refine lift_eq_put (kci_declines h ((if_neg hid).trans (if_pos ?_)))
  rw [Bool.or_eq_true, decide_eq_true_eq, decide_eq_true_eq]
  omega

variable (hlo : 1 ≤ a.toNat) (hhi : a.toNat ≤ 3)
include hlo hhi

theorem twinUpgrade_notReady (hn : ¬ (s.dev.arrives 0xA620).mayUpgrade a.toNat) : let x := s.dev.arrives 0xA620
    execTwinUpgrade src a s = .next (s.put (x.declines (x.entry src 0xA620 .c) .notReady)) := by
  rw [mayUpgrade_iff, Bool.not_eq_false] at hn
  refine lift_eq_put (kci_declines h ((if_neg hid).trans ((if_neg ?_).trans (if_pos hn))))
  rw [Bool.or_eq_true, decide_eq_true_eq, decide_eq_true_eq]
  omega

/-- The action starts: FOLLOW is told, and action 3 commits this device's image. -/
theorem twinUpgrade_starts (hgo : (s.dev.arrives 0xA620).mayUpgrade a.toNat) : let x := s.dev.arrives 0xA620
    let y := (x.message [BitVec.ofNat 8 (0xF0 + a.toNat)]).mapXc fun c => { c with upg := a.toNat, upgPct := 0 }
    execTwinUpgrade src a s = .next (s.put (x.completes (x.entry src 0xA620 .c)
      (match (if a.toNat = 3 then x.commitWords else none) with | some w => y.voteJob w .nothing | none => y) [])) := by
  rw [mayUpgrade_iff] at hgo
  refine lift_eq_put (kci_completes h ((if_neg hid).trans ((if_neg ?_).trans (if_neg (Bool.eq_false_iff.mp hgo)))))
  rw [Bool.or_eq_true, decide_eq_true_eq, decide_eq_true_eq]
  omega

theorem twinUpgrade_plain (hgo : (s.dev.arrives 0xA620).mayUpgrade a.toNat)
    (hn : a.toNat ≠ 3 ∨ (s.dev.arrives 0xA620).commitWords = none) : let x := s.dev.arrives 0xA620
    execTwinUpgrade src a s = .next (s.put (x.completes (x.entry src 0xA620 .c)
      ((x.message [BitVec.ofNat 8 (0xF0 + a.toNat)]).mapXc fun c => { c with upg := a.toNat, upgPct := 0 }) [])) := by
  have hw : (if a.toNat = 3 then (s.dev.arrives 0xA620).commitWords else none) = none := by
    rcases hn with hn | hn
    · exact if_neg hn
    · rw [hn, ite_self]
  have hstart := twinUpgrade_starts h hid hlo hhi hgo
  dsimp only at hstart
  rw [hw] at hstart
  exact hstart

theorem twinUpgrade_commits {w : List (Nat × Nat)} (hgo : (s.dev.arrives 0xA620).mayUpgrade a.toNat) (h3 : a.toNat = 3)
    (hw : (s.dev.arrives 0xA620).commitWords = some w) : let x := s.dev.arrives 0xA620
    execTwinUpgrade src a s = .next (s.put (x.completes (x.entry src 0xA620 .c)
      (((x.message [BitVec.ofNat 8 (0xF0 + a.toNat)]).mapXc fun c => { c with upg := a.toNat, upgPct := 0 }).voteJob w .nothing) [])) := by
  have hstart := twinUpgrade_starts h hid hlo hhi hgo
  dsimp only at hstart
  rw [if_pos h3, hw] at hstart
  exact hstart

end

/-! ## TWIN.FAULT.SEND (R361) -/

section
variable (h : s.dev.admits src 0xA630 .c = true)
include h

theorem twinFaultSend_attached (ha : (s.dev.arrives 0xA630).attached = true) : let x := s.dev.arrives 0xA630
    execTwinFaultSend src s = .next (s.put (x.completes (x.entry src 0xA630 .c) (x.faultRaise 3) [])) :=
  lift_eq_put (kci_completes h (if_pos ha))

theorem twinFaultSend_solo (ha : (s.dev.arrives 0xA630).attached = false) : let x := s.dev.arrives 0xA630
    execTwinFaultSend src s = .next (s.put (x.declines (x.entry src 0xA630 .c) .notReady)) :=
  lift_eq_put (kci_declines h (if_neg (by rw [ha]; decide)))

end

end

/-- Settles O50: one lemma per answer of each command. -/
theorem twinCommands : Obligations.TwinCommands := by
  intro s src
  refine ⟨fun h => ⟨fun far hf => twinStatGet_far h hf, twinStatGet_alone h⟩, fun a r st sl fs fa p h => ?cfg,
    fun h => ⟨twinAttach_solo h, twinAttach_attached h, fun hid ha =>
      ⟨twinAttach_handshake h hid ha, twinAttach_trains h hid ha, twinAttach_wakes h hid ha⟩⟩,
    fun h => ⟨fun ha hd => ?detach, fun ha hd => ?detachAgain, twinDetach_solo h⟩,
    fun h => ⟨twinSwap_endpoint h, twinSwap_elsewhere h⟩,
    fun frame h => ⟨fun ha hd => ⟨twinRelay_sends h ha hd, twinRelay_badParam h ha hd⟩, twinRelay_unattached h⟩,
    fun a h => ⟨twinUpgrade_solo h, twinUpgrade_badParam h, fun hid hlo hhi => ⟨twinUpgrade_notReady h hid hlo hhi,
      twinUpgrade_plain h hid hlo hhi, fun w hgo h3 hw => twinUpgrade_commits h hid hlo hhi hgo h3 hw⟩⟩,
    fun h => ⟨twinFaultSend_attached h, twinFaultSend_solo h⟩⟩
  case cfg =>
    simp only [← okKeep_iff]
    exact ⟨twinCfgSet_ok h, twinCfgSet_badParam h, twinCfgSet_solo h⟩
  case detach =>
    have hdone := twinDetach_attached h ha
    dsimp only at hdone
    rwa [detachReq_first ha hd] at hdone
  case detachAgain =>
    have hdone := twinDetach_attached h ha
    dsimp only at hdone
    rwa [detachReq_again ha hd] at hdone

end Sys2Proof.Machine

/-! PROOFS. Chapter 17, power states, domains, clocks and the thermal trip. -/

namespace Sys2Proof.Machine

/-! ## A thermal trip (R404) -/

/-- The device after a sensor has tripped and before firmware acts: every bias channel off, the fault raised, a self-test about to end. -/
def Dev.thermalTripped (d : Dev) (sensor : Nat) : Dev :=
  let d1 := d.wr F.PW_THERM_TRIPSRC 0 (withBit (d.rd F.PW_THERM_TRIPSRC) sensor true)
  let d2 := if d.domOn dBDAC then iter 16 (fun ch (e : Dev) => e.biasEn ch false) d1 else d1
  (((d2.set F.PW_STAT_TTRIP).int).faultRaise 1).mapBist fun b => if b.state = 1 then { b with ending := true } else b

theorem phase_biasEn_off (d : Dev) (ch : Nat) : (d.biasEn ch false).phase = d.phase := by
  have hnow : ∀ e : Dev, (e.biasNow ch).phase = e.phase := fun e => by
    unfold Dev.biasNow
    split <;> rfl
  exact hnow _

/-- A bias channel turned off changes its EN and status fields alone. -/
theorem rd_biasEn_off (d : Dev) (ch : Nat) {g : Fld} (c : Nat) (h : [F.OC_BCTL_EN, F.OC_BSTAT_LIVE, F.OC_BACT_CODE, F.OC_BSTAT_COMPLNOW,
    F.OC_BSTAT_OPENNOW, F.OC_BSTAT_SHUT].all (fldNe g) = true) : (d.biasEn ch false).rd g c = d.rd g c := by
  have hclr : ∀ f ∈ [F.OC_BCTL_EN, F.OC_BSTAT_LIVE, F.OC_BACT_CODE, F.OC_BSTAT_COMPLNOW, F.OC_BSTAT_OPENNOW, F.OC_BSTAT_SHUT],
      ∀ e : Dev, (e.clr f ch).rd g c = e.rd g c := fun f hf e => rd_wr_of_all e h hf ch 0 c
  have hnow : ∀ e : Dev, (e.biasNow ch).rd g c = e.rd g c := fun e => by
    unfold Dev.biasNow
    split
    · exact (hclr F.OC_BSTAT_OPENNOW (by simp) _).trans (hclr F.OC_BSTAT_COMPLNOW (by simp) e)
    · rfl
  calc (d.biasEn ch false).rd g c
      = ((d.clr F.OC_BCTL_EN ch).biasDead ch).rd g c := hclr F.OC_BSTAT_SHUT (by simp) _
    _ = (((d.clr F.OC_BCTL_EN ch).clr F.OC_BSTAT_LIVE ch).clr F.OC_BACT_CODE ch).rd g c := hnow _
    _ = ((d.clr F.OC_BCTL_EN ch).clr F.OC_BSTAT_LIVE ch).rd g c := hclr F.OC_BACT_CODE (by simp) _
    _ = (d.clr F.OC_BCTL_EN ch).rd g c := hclr F.OC_BSTAT_LIVE (by simp) _
    _ = d.rd g c := hclr F.OC_BCTL_EN (by simp) d

theorem phase_faultRaise (d : Dev) (source : Nat) : (d.faultRaise source).phase = d.phase := by
  unfold Dev.faultRaise
  dsimp only
  repeat' split
  all_goals rfl

theorem rd_faultRaise (d : Dev) (source : Nat) {g : Fld} (c : Nat) (h : fldNe g F.XC_STAT_TXSLEEP = true)
    (h' : fldNe g F.XC_FLTSTAT_TXCAUSE = true) : (d.faultRaise source).rd g c = d.rd g c := by
  have hcell : ∀ b v, ((d.cell 4 b).wr F.XC_FLTSTAT_TXCAUSE 0 v).rd g c = d.rd g c := fun b v =>
    (rd_wr_fld _ _ _ _ _ _ h').trans (rd_cell d 4 b c h)
  unfold Dev.faultRaise
  dsimp only
  split
  · rfl
  · split <;> exact hcell _ _

theorem fwRun_thermalTripped (d : Dev) (sensor : Nat) : (d.thermalTripped sensor).fwRun = d.fwRun := by
  have hbias : ∀ e : Dev, (iter 16 (fun ch (e : Dev) => e.biasEn ch false) e).phase = e.phase :=
    iter_keeps Dev.phase fun ch e _ => phase_biasEn_off e ch
  have hphase : (d.thermalTripped sensor).phase = d.phase := by
    refine (phase_faultRaise _ 1).trans ?_
    show (if d.domOn dBDAC then _ else _ : Dev).phase = d.phase
    split
    · exact hbias _
    · rfl
  exact congrArg (· == Phase.fw) hphase

theorem cmis_thermalTripped (d : Dev) (sensor : Nat) : (d.thermalTripped sensor).rd F.PW_STAT_CMIS = d.rd F.PW_STAT_CMIS := by
  have hbias : ∀ e : Dev, (iter 16 (fun ch (e : Dev) => e.biasEn ch false) e).rd F.PW_STAT_CMIS = e.rd F.PW_STAT_CMIS :=
    iter_keeps (fun e : Dev => e.rd F.PW_STAT_CMIS) fun ch e _ => rd_biasEn_off e ch 0 (by decide)
  refine (rd_faultRaise _ 1 0 (by decide) (by decide)).trans ?_
  refine (rd_wr_fld _ F.PW_STAT_TTRIP F.PW_STAT_CMIS 0 0 1 (by decide)).trans ?_
  split
  · exact (hbias _).trans (rd_wr_fld _ _ _ _ _ _ (by decide))
  · exact rd_wr_fld _ _ _ _ _ _ (by decide)

section
variable {s : State}

section
variable (ha : s.dev.aonUp = true) (k : Fin 4)
include ha

theorem thermalTrip_eq : execThermalTrip k s = .next (s.put
    (if !(s.dev.thermalTripped k.val).fwRun then s.dev.thermalTripped k.val
    else if (s.dev.thermalTripped k.val).rd F.PW_STAT_CMIS = 1 then ((s.dev.thermalTripped k.val).wr F.PW_STAT_CMIS 0 5).stateInt
    else (s.dev.thermalTripped k.val).powerEval.powerProgress)) := by
  refine lift_eq_put ((if_neg (by rw [ha]; decide)).trans ?_)
  dsimp only
  rw [domOn_wr _ _ _ _ _ (by decide)]
  rfl

theorem thermalTrip_noFirmware (hf : s.dev.fwRun = false) : execThermalTrip k s = .next (s.put (s.dev.thermalTripped k.val)) := by
  rw [thermalTrip_eq ha, fwRun_thermalTripped, hf]
  rfl

theorem thermalTrip_lowPower (hf : s.dev.fwRun = true) (hc : s.dev.rd F.PW_STAT_CMIS = 1) :
    execThermalTrip k s = .next (s.put ((s.dev.thermalTripped k.val).wr F.PW_STAT_CMIS 0 5).stateInt) := by
  rw [thermalTrip_eq ha, fwRun_thermalTripped, hf, cmis_thermalTripped, if_neg (by decide), if_pos hc]

theorem thermalTrip_goesDown (hf : s.dev.fwRun = true) (hc : s.dev.rd F.PW_STAT_CMIS ≠ 1) :
    execThermalTrip k s = .next (s.put (s.dev.thermalTripped k.val).powerEval.powerProgress) := by
  rw [thermalTrip_eq ha, fwRun_thermalTripped, hf, cmis_thermalTripped, if_neg (by decide), if_neg hc]

end

theorem thermalTrip_aonDown (ha : s.dev.aonUp = false) (k : Fin 4) : execThermalTrip k s = .next s :=
  lift_eq_self (if_pos (by rw [ha]; rfl))

/-! ## Power states (R395 to R397, R403) -/

section
variable (hf : s.dev.fwRun = true)
include hf

theorem powerEval_up (hr : s.dev.lowReq = false) (hc : s.dev.rd F.PW_STAT_CMIS = 1) (hav : s.dev.on F.PW_STAT_AVSSET = true) :
    s.dev.powerEval = ((s.dev.wr F.PW_STAT_CMIS 0 2).mapPower fun p => { p with upStep := 1 }).wakeAll s.dev.readyDomains :=
  (if_neg (by rw [hf]; decide)).trans ((if_pos (by rw [hc, hr]; rfl)).trans (if_pos hav))

theorem powerEval_down (hr : s.dev.lowReq = true) (hc : s.dev.rd F.PW_STAT_CMIS = 3) : s.dev.powerEval = s.dev.pwrDn :=
  (if_neg (by rw [hf]; decide)).trans ((if_neg (by rw [hr, Bool.not_true, Bool.and_false]; decide)).trans (if_pos (by rw [hc, hr]; rfl)))

section
variable (hu : s.dev.power.upStep = 2) (hw : s.dev.ws.restarting = false)
include hu hw

theorem moduleReadyEntry_ready (hr : s.dev.lowReq = false) : execModuleReadyEntry s =
    .next (s.put ((((s.dev.mapPower fun p => { p with upStep := 0 }).wr F.PW_STAT_STATE 0 2).wr F.PW_STAT_CMIS 0 3).stateInt).loopsAuto) :=
  lift_eq_put ((if_neg (by rw [hf, hu, hw]; decide)).trans (if_neg (by rw [hr]; decide)))

theorem moduleReadyEntry_requested (hr : s.dev.lowReq = true) : execModuleReadyEntry s = .next (s.put s.dev.pwrDn.powerProgress) :=
  lift_eq_put ((if_neg (by rw [hf, hu, hw]; decide)).trans (if_pos hr))

end

theorem avsSet_driven (hd : s.dev.rd F.PW_AVS_DUTY ≠ 0) :
    execAvsSet s = .next (s.put ((s.dev.set F.PW_STAT_AVSSET).powerEval.powerProgress)) :=
  lift_eq_put (if_neg (by rw [hf, decide_eq_false hd]; decide))

end

theorem moduleReadyEntry_elsewhere (hu : s.dev.power.upStep ≠ 2) : execModuleReadyEntry s = .next s :=
  lift_eq_self (if_pos (by rw [decide_eq_true hu, Bool.or_true, Bool.true_or]))

theorem avsSet_idle (h : s.dev.fwRun = false ∨ s.dev.rd F.PW_AVS_DUTY = 0) : execAvsSet s = .next s := by
  refine lift_eq_self (if_pos ?_)
  rcases h with h | h
  · rw [h]; rfl
  · rw [decide_eq_true h, Bool.or_true]

/-! ## Domains (R387 to R390) -/

theorem pwDreqWrite_other {acc : Accessor} (ha : acc ≠ .mgmt) (i : Fin 3) (v : Word32) : execPwDreqWrite acc i v s = .next s :=
  lift_eq_self (if_pos (bne_iff_ne.mpr ha))

theorem pwDreqWrite_mgmt (i : Fin 3) (v : Word32) : execPwDreqWrite .mgmt i v s =
    .next (s.put (iter 32 (fun b e => if 80 ≤ 32 * i.val + b then e
      else if v.toNat.testBit b = e.domReq (32 * i.val + b) then e
      else if v.toNat.testBit b then e.wake (32 * i.val + b) else e.down (32 * i.val + b)) s.dev)) :=
  lift_eq_put (by simp only [bne_self_eq_false, Bool.false_eq_true, if_false, Dev.dreqWrite, beq_iff_eq])

section
variable {i : Fin 80}

theorem domainWakeDone_idle (h : s.dev.power.waking.testBit i.val = false) : execDomainWakeDone i s = .next s :=
  liftMem_eq_next (if_pos (by rw [h]; rfl))

theorem domainWakeDone_up (h : s.dev.power.waking.testBit i.val = true) (hx : i.val ≠ dXCUT) : execDomainWakeDone i s =
    .next { s with mem := (if i.val = dWHET then memClear s.mem xBase (pmBase + 0x40000) else s.mem),
                   dev := ((if i.val = dWHET then (s.dev.domUp i.val).memFresh [.prog, .x, .y]
                     else s.dev.domUp i.val).prepareReady).powerProgress } := by
  have hlink : (if i.val = dXCUT && (s.dev.domUp i.val).fwRun then (s.dev.domUp i.val).xcTrain else s.dev.domUp i.val) =
      s.dev.domUp i.val := if_neg (by rw [decide_eq_false hx]; simp)
  refine (liftMem_next _ s).trans ?_
  simp only [h, Bool.not_true, Bool.false_eq_true, if_false, hlink]

theorem domainWakeDone_link (h : s.dev.power.waking.testBit i.val = true) (hx : i.val = dXCUT) : execDomainWakeDone i s =
    .next (s.put (((let d := s.dev.domUp dXCUT; if d.fwRun then d.xcTrain else d).prepareReady).powerProgress)) := by
  refine (liftMem_next _ s).trans ?_
  rw [hx] at h
  have hne : dXCUT ≠ dWHET := by decide
  simp only [hx, h, hne, Bool.not_true, Bool.false_eq_true, if_false, decide_true, Bool.true_and]
  rfl

theorem domainDownDone_idle (h : s.dev.power.downing.testBit i.val = false) : execDomainDownDone i s = .next s :=
  lift_eq_self (if_pos (by rw [h]; rfl))

theorem domainDownDone_off (h : s.dev.power.downing.testBit i.val = true) : execDomainDownDone i s =
    .next (s.put ((((if dLADC 0 ≤ i.val && i.val < dLRXD 0 then s.dev.tbDead (i.val - 8) else if i.val = dBDAC then s.dev.biasOff
      else s.dev).mapPower fun p => { p with downing := withBit p.downing i.val false }).fixTrans).pathsGone).powerProgress) :=
  lift_eq_put (if_neg (by rw [h]; decide))

end

/-! ## Clocks (R392, R393) -/

theorem refclkLoss_lost (ha : s.dev.aonUp = true) (hr : s.dev.on F.PW_CLKSTAT_REFOK = true) :
    let d1 := (((s.dev.clr F.PW_CLKSTAT_REFOK).set F.PW_CLKSTAT_REFLOS).inc F.PW_CLKSTAT_REFLOSCNT).int
    execRefclkLoss s = .next (s.put (if s.dev.fwRun then d1.event evRefclk 0x800 else d1)) :=
  lift_eq_put (if_neg (by rw [ha, hr]; decide))

theorem refclkLoss_already (hr : s.dev.on F.PW_CLKSTAT_REFOK = false) : execRefclkLoss s = .next s :=
  lift_eq_self (if_pos (by rw [hr, Bool.not_false, Bool.or_true]))

theorem refclkLoss_aonDown (ha : s.dev.aonUp = false) : execRefclkLoss s = .next s :=
  lift_eq_self (if_pos (by rw [ha]; rfl))

theorem refclkReturn_sets (ha : s.dev.aonUp = true) : execRefclkReturn s = .next (s.put (s.dev.set F.PW_CLKSTAT_REFOK)) :=
  lift_eq_put (if_pos ha)

theorem refclkReturn_aonDown (ha : s.dev.aonUp = false) : execRefclkReturn s = .next s :=
  lift_eq_self (if_neg (by rw [ha]; decide))

end

/-- Settles O52: one lemma per event and case. -/
theorem powerAndClocks : Obligations.PowerAndClocks := by
  intro s
  refine ⟨fun hf hr hc hav => ?up, fun hf hr hc => ?down, moduleReadyEntry_ready, moduleReadyEntry_requested, moduleReadyEntry_elsewhere,
    avsSet_driven, avsSet_idle, fun acc i v => ⟨fun ha => pwDreqWrite_other ha i v, pwDreqWrite_mgmt i v⟩,
    fun i => ⟨domainWakeDone_idle, domainWakeDone_up, domainWakeDone_link, domainDownDone_idle, domainDownDone_off⟩, rfl,
    refclkLoss_lost, refclkLoss_already, refclkReturn_sets,
    fun ha => ⟨refclkReturn_aonDown ha, refclkLoss_aonDown ha, thermalTrip_aonDown ha⟩,
    fun k ha => ⟨thermalTrip_noFirmware ha k, thermalTrip_lowPower ha k, thermalTrip_goesDown ha k⟩⟩
  case up => exact lift_eq_put (f := fun d => d.powerEval.powerProgress) (congrArg Dev.powerProgress (powerEval_up hf hr hc hav))
  case down => exact lift_eq_put (f := fun d => d.powerEval.powerProgress) (congrArg Dev.powerProgress (powerEval_down hf hr hc))

end Sys2Proof.Machine

/-! PROOFS. Chapter 17, OFF-AON and the power commands. -/

namespace Sys2Proof.Machine

/-! ## OFF-AON entry (R399 to R401) -/

/-- What AON keeps of a device: its registers, the vote words, the straps and the count of wrong tokens. -/
def Dev.aonKept (d : Dev) : Dev :=
  let e := d.coldReset
  { e with
    phase := .off
    regs := d.regs.filter fun x => aonKey x.1
    vote := { d.vote with jobs := [] }
    pot := { e.pot with offSeen := d.pot.offSeen }
    mgmt := { e.mgmt with twinId := d.mgmt.twinId, legStrap := d.mgmt.legStrap, wrongTokens := d.mgmt.wrongTokens
                          lockout := d.mgmt.lockout } }

/-- Every domain off, and no PLL locked. -/
def Dev.domainsOff (d : Dev) : Dev := (iter 80 (fun i x => (x.setDon i false).setDreq i false) d).fixTrans.fixPlls

/-- What OFF-AON leaves of a device: what AON keeps, every domain off. -/
def Dev.offAon (d : Dev) : Dev := d.aonKept.domainsOff.wr F.PW_STAT_STATE 0 0

/-- The timer is armed where it may wake. -/
def Dev.timerArmed (d : Dev) : Dev := if d.on F.PW_WAKE_TMR then d.wr F.PW_WAKETMR_SEC 0 2592000 else d

/-- Switching every domain off and its request away changes registers alone. -/
theorem domainsOff_keeps {β : Type} (p : Dev → β) (h : ∀ (e : Dev) f ch v, p (e.wr f ch v) = p e) (d : Dev) :
    p d.domainsOff = p d := by
  simp only [Dev.domainsOff, Dev.fixPlls, Dev.fixTrans, h]
  exact iter_keeps p (fun i e _ => (h _ _ _ _).trans (h _ _ _ _)) d

theorem phase_offAon (d : Dev) : d.offAon.phase = .off := by
  rw [Dev.offAon, Dev.wr_phase, domainsOff_keeps Dev.phase Dev.wr_phase]
  rfl

theorem flops_offAon (d : Dev) : d.offAon.vote.flops = d.vote.flops := by
  rw [Dev.offAon, Dev.wr_vote, domainsOff_keeps Dev.vote Dev.wr_vote]
  rfl

theorem state_offAon (d : Dev) : d.offAon.rd F.PW_STAT_STATE = 0 := rd_wr_same d.aonKept.domainsOff F.PW_STAT_STATE 0 0

theorem vote_wake (d : Dev) (i : Nat) : (d.wake i).vote = d.vote := by
  unfold Dev.wake
  dsimp only
  split <;> rfl

theorem vote_offWake (d : Dev) (sources sec : Nat) : (d.offWake sources sec).vote = d.vote := vote_wake _ _

section
variable {d : Dev}

theorem vote_timerArmed : d.timerArmed.vote = d.vote := by
  unfold Dev.timerArmed
  split <;> rfl

theorem mgmt_timerArmed : d.timerArmed.mgmt = d.mgmt := by
  unfold Dev.timerArmed
  split <;> rfl

/-- No source came: none wakes. -/
theorem wakeEn_zero : d.wakeEn 0 = 0 := Nat.zero_and _

end

section
variable {s : State}

theorem offAonEntry_undue (h : s.dev.offReady = false) : execOffAonEntry s = .next s :=
  lift_eq_self (if_pos (by rw [h]; rfl))

/-- An entry that is due programs the records and leaves AON; a source latched meanwhile wakes at once. -/
theorem offAonEntry_solo (h : s.dev.offReady = true) (ha : s.dev.attached = false) : let e := s.dev.flush.timerArmed
    execOffAonEntry s = .next (s.put (if e.wakeEn e.mgmt.wakeLatched = 0 then e.offAon else e.offAon.offWake (e.wakeEn e.mgmt.wakeLatched) 0)) := by
  refine lift_eq_put ((if_neg (by rw [h]; decide)).trans ?_)
  rw [if_neg (Bool.eq_false_iff.mp ha)]
  rfl

theorem offAonEntry_leaves (h : s.dev.offReady = true) (ha : s.dev.attached = false) : ∃ t : Dev,
    execOffAonEntry s = .next (s.put t) ∧ (s.dev.flush.mgmt.wakeLatched = 0 → t.phase = .off ∧ t.rd F.PW_STAT_STATE = 0) ∧
    t.vote.flops = s.dev.flush.vote.flops := by
  refine ⟨_, offAonEntry_solo h ha, fun hl => ?_, ?_⟩
  · rw [mgmt_timerArmed, hl, wakeEn_zero, if_pos rfl]
    exact ⟨phase_offAon _, state_offAon _⟩
  · have hflops : s.dev.flush.timerArmed.offAon.vote.flops = s.dev.flush.vote.flops := by rw [flops_offAon, vote_timerArmed]
    split
    · exact hflops
    · rw [vote_offWake, hflops]

/-! ## Wakes (R401, R402) -/

section
variable (sources : BitVec 4) (sec : Nat)

theorem offAonWake_latched (hf : s.dev.fwRun = true) (hd : s.dev.mgmt.offDue = true) : execOffAonWake sources sec s =
    .next (s.put (s.dev.mapMgmt fun m => { m with wakeLatched := m.wakeLatched ||| s.dev.wakeEn sources.toNat })) :=
  lift_eq_put (if_pos (by rw [hf, hd]; rfl))

section
variable (hn : (s.dev.fwRun && s.dev.mgmt.offDue) = false)
include hn

theorem offAonWake_unwanted (h : s.dev.wakeEn sources.toNat = 0) : execOffAonWake sources sec s = .next s :=
  lift_eq_self ((if_neg (Bool.eq_false_iff.mp hn)).trans (if_pos h))

theorem offAonWake_awake (h : s.dev.wakeEn sources.toNat ≠ 0) (hp : s.dev.phase ≠ .off) :
    execOffAonWake sources sec s = .next (s.put (s.dev.mapPower fun p => { p with timerWake := false })) :=
  lift_eq_put ((if_neg (Bool.eq_false_iff.mp hn)).trans ((if_neg h).trans (if_pos (bne_iff_ne.mpr hp))))

end

theorem offAonWake_wakes (hp : s.dev.phase = .off) (h : s.dev.wakeEn sources.toNat ≠ 0) :
    execOffAonWake sources sec s = .next (s.put (s.dev.offWake (s.dev.wakeEn sources.toNat) sec)) := by
  have hf : s.dev.fwRun = false := by rw [Dev.fwRun, hp]; rfl
  exact lift_eq_put ((if_neg (by rw [hf, Bool.false_and]; decide)).trans ((if_neg h).trans (if_neg (by rw [hp]; decide))))

end

theorem wakeTimerExpiry_wakes (hp : s.dev.phase = .off) (ht : s.dev.on F.PW_WAKE_TMR = true) (hs : s.dev.rd F.PW_WAKETMR_SEC ≠ 0) :
    execWakeTimerExpiry s = .next (s.put (s.dev.offWake 8 (s.dev.rd F.PW_WAKETMR_SEC))) :=
  lift_eq_put (if_neg (by rw [hp, ht, decide_eq_false hs]; decide))

theorem wakeTimerExpiry_unset (hs : s.dev.rd F.PW_WAKETMR_SEC = 0) : execWakeTimerExpiry s = .next s :=
  lift_eq_self (if_pos (by rw [decide_eq_true hs, Bool.or_true, Bool.true_or]))

/-! ## SYS.PWR.GET and SYS.PWR.SET (Tables 17-8 and 17-9) -/

theorem sysPwrGet_answers {src : Src} (h : s.dev.admits src 0xA050 .q = true) : let x := s.dev.arrives 0xA050
    execSysPwrGet src s = .next (s.put (x.completes (x.entry src 0xA050 .q) x
      (be 1 (x.rd F.PW_STAT_STATE) ++ be 1 (x.rd F.PW_STAT_CMIS) ++ be 1 (x.rd F.PW_WAKE_LAST) ++
       be 1 (x.rd F.PW_STAT_TTRIP + 2 * x.rd F.PW_STAT_AVSSET + 4 * x.rd F.PW_CLKSTAT_REFLOS + 8 * x.rd F.PW_STAT_TRANS) ++
       be 4 (x.regWord 0xC0020 0) ++ be 4 (x.regWord 0xC0024 0) ++ be 4 (x.regWord 0xC0028 0) ++ be 4 (x.regWord 0xC0030 0) ++
       be 4 (x.rd F.PW_WAKETMR_SEC)))) :=
  lift_eq_put (kci_completes h rfl)

/-- The wake fields that SYS.PWR.SET is given, and the timer. -/
def Dev.wakeSet (d : Dev) (w : Byte) (tm : Word32) : Dev :=
  let bit := fun (e : Dev) (f : Fld) (i : Nat) => if w.toNat = 0xFF then e else e.wr f 0 (b2n (w.toNat.testBit i))
  let d1 := bit (bit (bit (bit d F.PW_WAKE_TWI 0) F.PW_WAKE_SPI 1) F.PW_WAKE_LPM 2) F.PW_WAKE_TMR 3
  if tm.toNat = 0xFFFFFFFF then d1 else d1.wr F.PW_WAKETMR_SEC 0 tm.toNat

/-- Operands that Table 17-9 allows. -/
def pwrSetOk (t w : Byte) (tm : Word32) : Prop :=
  (t.toNat ≤ 2 ∨ t.toNat = 0xFF) ∧ (w.toNat ≤ 15 ∨ w.toNat = 0xFF) ∧ (tm.toNat ≤ 16777215 ∨ tm.toNat = 0xFFFFFFFF)

theorem pwrSetOk_iff (t w : Byte) (tm : Word32) : pwrSetOk t w tm ↔
    (!okKeep t.toNat 2 || !okKeep w.toNat 15 || (16777215 < tm.toNat && tm.toNat ≠ 0xFFFFFFFF)) = false := by
  have htm : (16777215 < tm.toNat && tm.toNat ≠ 0xFFFFFFFF : Bool) = false ↔ tm.toNat ≤ 16777215 ∨ tm.toNat = 0xFFFFFFFF := by
    simp only [Bool.and_eq_false_iff, decide_eq_false_iff_not, not_lt, not_not, ne_eq]
  rw [Bool.or_eq_false_iff, Bool.or_eq_false_iff, Bool.not_eq_false', Bool.not_eq_false', okKeep_iff, okKeep_iff, htm, and_assoc]
  rfl

section
variable {src : Src} {t w : Byte} {tm : Word32} (h : s.dev.admits src 0xA051 .c = true)
include h

theorem sysPwrSet_denied (hs : srcHost src = false) : let x := s.dev.arrives 0xA051
    execSysPwrSet src t w tm s = .next (s.put (x.declines (x.entry src 0xA051 .c) .denied)) :=
  lift_eq_put (kci_declines h (if_pos (by rw [hs]; rfl)))

variable (hs : srcHost src = true)
include hs

theorem sysPwrSet_badParam (hn : ¬ pwrSetOk t w tm) : let x := s.dev.arrives 0xA051
    execSysPwrSet src t w tm s = .next (s.put (x.declines (x.entry src 0xA051 .c) .badParam)) := by
  rw [pwrSetOk_iff, Bool.not_eq_false] at hn
  exact lift_eq_put (kci_declines h ((if_neg (by rw [hs]; decide)).trans (if_pos hn)))

variable (hok : pwrSetOk t w tm)
include hok

theorem sysPwrSet_busy (ht : t.toNat = 0) {a : Accepted} {l : List Accepted} (ho : (s.dev.arrives 0xA051).mgmt.outst = a :: l) :
    let x := s.dev.arrives 0xA051
    execSysPwrSet src t w tm s = .next (s.put (x.respondBusy src 0xA051 (x.retryOf a))) := by
  rw [pwrSetOk_iff] at hok
  refine lift_eq_put ((kci_of_admits _ h).trans (runBody_busy ?_))
  refine (if_neg (by rw [hs]; decide)).trans ((if_neg (Bool.eq_false_iff.mp hok)).trans ((if_pos ?_).trans ?_))
  · rw [decide_eq_true ht, ho]
    rfl
  · rw [ho]

theorem sysPwrSet_notReady (ho : t.toNat = 0 → (s.dev.arrives 0xA051).mgmt.outst = [])
    (hn : t.toNat = 0 ∧ (s.dev.arrives 0xA051).rd F.PW_STAT_CMIS ≠ 1 ∨ t.toNat = 2 ∧ (s.dev.arrives 0xA051).on F.PW_STAT_TTRIP = true) :
    let x := s.dev.arrives 0xA051
    execSysPwrSet src t w tm s = .next (s.put (x.declines (x.entry src 0xA051 .c) .notReady)) := by
  rw [pwrSetOk_iff] at hok
  refine lift_eq_put (kci_declines h ((if_neg (by rw [hs]; decide)).trans ((if_neg (Bool.eq_false_iff.mp hok)).trans
    ((if_neg ?_).trans (if_pos ?_)))))
  · rw [Bool.and_eq_true, decide_eq_true_eq]
    rintro ⟨h0, hb⟩
    rw [ho h0] at hb
    exact Bool.false_ne_true hb
  · rw [Bool.or_eq_true, Bool.and_eq_true, Bool.and_eq_true, decide_eq_true_eq, decide_eq_true_eq, decide_eq_true_eq]
    exact hn

/-- A change that may be made: the fields given are written, and the request follows TARGET. -/
theorem sysPwrSet_sets (ho : t.toNat = 0 → (s.dev.arrives 0xA051).mgmt.outst = [] ∧ (s.dev.arrives 0xA051).rd F.PW_STAT_CMIS = 1)
    (h2 : t.toNat = 2 → (s.dev.arrives 0xA051).on F.PW_STAT_TTRIP = false) : let x := s.dev.arrives 0xA051
    let d3 := (x.wakeSet w tm).mapMgmt fun m =>
      { m with lowPwrSW := if t.toNat = 1 then true else if t.toNat = 2 then false else m.lowPwrSW, offDue := m.offDue || t.toNat == 0
               wakeLatched := if t.toNat = 0 then 0 else m.wakeLatched }
    execSysPwrSet src t w tm s = .next (s.put (x.completes (x.entry src 0xA051 .c)
      (if t.toNat = 1 ∨ t.toNat = 2 then d3.powerEval.powerProgress else d3) [])) := by
  rw [pwrSetOk_iff] at hok
  refine lift_eq_put (kci_completes h ((if_neg (by rw [hs]; decide)).trans ((if_neg (Bool.eq_false_iff.mp hok)).trans
    ((if_neg ?_).trans ((if_neg ?_).trans ?_)))))
  · rw [Bool.and_eq_true, decide_eq_true_eq]
    rintro ⟨h0, hb⟩
    rw [(ho h0).1] at hb
    exact Bool.false_ne_true hb
  · rw [Bool.or_eq_true, Bool.and_eq_true, Bool.and_eq_true, decide_eq_true_eq, decide_eq_true_eq, decide_eq_true_eq]
    rintro (⟨h0, hc⟩ | ⟨ht, htrip⟩)
    · exact hc (ho h0).2
    · exact Bool.false_ne_true ((h2 ht).symm.trans htrip)
  · simp only [Bool.or_eq_true, decide_eq_true_eq]
    rfl

theorem sysPwrSet_off (ht : t.toNat = 0) (ho : (s.dev.arrives 0xA051).mgmt.outst = [])
    (hc : (s.dev.arrives 0xA051).rd F.PW_STAT_CMIS = 1) : let x := s.dev.arrives 0xA051
    execSysPwrSet src t w tm s = .next (s.put (x.completes (x.entry src 0xA051 .c)
      ((x.wakeSet w tm).mapMgmt fun m => { m with offDue := true, wakeLatched := 0 }) [])) := by
  have hset := sysPwrSet_sets h hs hok (fun _ => ⟨ho, hc⟩) (by omega)
  simpa [ht] using hset

theorem sysPwrSet_lowPower (ht : t.toNat = 1) : let x := s.dev.arrives 0xA051
    execSysPwrSet src t w tm s = .next (s.put (x.completes (x.entry src 0xA051 .c)
      ((x.wakeSet w tm).mapMgmt fun m => { m with lowPwrSW := true }).powerEval.powerProgress [])) := by
  have hset := sysPwrSet_sets h hs hok (by omega) (by omega)
  simpa [ht] using hset

theorem sysPwrSet_ready (ht : t.toNat = 2) (htrip : (s.dev.arrives 0xA051).on F.PW_STAT_TTRIP = false) : let x := s.dev.arrives 0xA051
    execSysPwrSet src t w tm s = .next (s.put (x.completes (x.entry src 0xA051 .c)
      ((x.wakeSet w tm).mapMgmt fun m => { m with lowPwrSW := false }).powerEval.powerProgress [])) := by
  have hset := sysPwrSet_sets h hs hok (by omega) fun _ => htrip
  simpa [ht] using hset

theorem sysPwrSet_wakeOnly (ht : t.toNat = 0xFF) : let x := s.dev.arrives 0xA051
    execSysPwrSet src t w tm s = .next (s.put (x.completes (x.entry src 0xA051 .c) (x.wakeSet w tm) [])) := by
  have hset := sysPwrSet_sets h hs hok (by omega) (by omega)
  simpa [ht, Dev.mapMgmt] using hset

end

end

/-- Settles O53: entry, wakes, and one lemma per answer of the power commands. -/
theorem offAonAndPowerCommands : Obligations.OffAonAndPowerCommands := by
  intro s src
  have hidle : s.dev.fwRun = false ∨ s.dev.mgmt.offDue = false → (s.dev.fwRun && s.dev.mgmt.offDue) = false := fun h =>
    Bool.and_eq_false_iff.mpr h
  refine ⟨offAonEntry_undue, offAonEntry_leaves,
    fun sources sec => ⟨offAonWake_wakes sources sec, fun hn => offAonWake_unwanted sources sec (hidle hn),
      fun hn => offAonWake_awake sources sec (hidle hn), offAonWake_latched sources sec⟩,
    fun hp ht => ⟨wakeTimerExpiry_wakes hp ht, wakeTimerExpiry_unset⟩, sysPwrGet_answers,
    fun h t w tm => ⟨sysPwrSet_denied h, fun hs => ⟨sysPwrSet_badParam h hs, fun a l hok ht ho => sysPwrSet_busy h hs hok ht ho,
      fun hok ht ho hc => sysPwrSet_notReady h hs hok (fun _ => ho) (.inl ⟨ht, hc⟩),
      fun hok ht ho hc => sysPwrSet_off h hs hok ht ho hc, fun hok ht => sysPwrSet_lowPower h hs hok ht,
      fun hok ht htrip => sysPwrSet_ready h hs hok ht htrip,
      fun hok ht htrip => sysPwrSet_notReady h hs hok (by omega) (.inr ⟨ht, htrip⟩), fun hok ht => sysPwrSet_wakeOnly h hs hok ht⟩⟩⟩

end Sys2Proof.Machine

/-! PROOFS. Chapter 18, self-test, and the test access port. -/

namespace Sys2Proof.Machine

/-! ## The boundaries of a run's steps (R408 to R414) -/

section
variable {s : State}

theorem bistStep_noRun (h : s.dev.bist.state ≠ 1) (meas : List StepMeas) : execBistStep meas s = .next s :=
  liftMem_eq_next (if_pos h)

theorem bistStep_ends (h : s.dev.bist.state = 1) (he : s.dev.bist.ending = true ∨ s.dev.isReady = false) (meas : List StepMeas) :
    execBistStep meas s = .next (s.put s.dev.bistEnd) := by
  refine liftMem_eq_put ((if_neg (not_not_intro h)).trans (if_pos ?_))
  rcases he with he | he
  · rw [he, Bool.true_or]
  · rw [he, Bool.not_false, Bool.or_true]

/-- The step ends a MEM test. -/
def Dev.memEnds (d : Dev) (meas : List StepMeas) : Bool :=
  d.bist.running.any fun t => t.test == 8 && (d.bistAborts t || meas.any fun x => x.test == 8 && x.last)

/-- What a step leaves of a run whose only test was judged: the run ends, or goes on. -/
def Dev.bistEndsOrGoesOn (d : Dev) : Dev := if d.bist.running.isEmpty && d.bist.todo.isEmpty then d.bistClose 2 else d

section
variable {t : BistTest} {m : StepMeas} (hst : s.dev.bist.state = 1) (he : s.dev.bist.ending = false) (hr : s.dev.isReady = true)
  (hrun : s.dev.bist.running = [t])
include hst he hr hrun

/-- A step of a run that goes on, with one test running: the test is judged, and what may start then starts. -/
theorem bistStep_judges : execBistStep [m] s = .next { s with
    mem := if s.dev.memEnds [m] then memClear s.mem patBase (patBase + 0x100000) else s.mem
    dev := (Dev.bistNext 64 (if s.dev.memEnds [m] then (s.dev.bistJudge [m] t).mapPg fun g => { g with march := g.march + 1 }
      else s.dev.bistJudge [m] t)).bistEndsOrGoesOn } := by
  refine liftMem_eq_next ((if_neg (not_not_intro hst)).trans ((if_neg (by rw [he, hr]; decide)).trans ?_))
  simp only [hrun, List.foldl]
  rw [Dev.memEnds, hrun]
  rfl

theorem bistStep_memEnds (h8 : t.test = 8) (hm : m.test = t.test) (hl : m.last = true) : ∃ d : Dev, execBistStep [m] s =
    .next { s with mem := memClear s.mem patBase (patBase + 0x100000), dev := d } := by
  have hmem : s.dev.memEnds [m] = true := by simp [Dev.memEnds, hrun, hm, h8, hl]
  exact ⟨_, (bistStep_judges hst he hr hrun).trans (by rw [if_pos hmem])⟩

/-- The step leaves the pattern RAM as it is, and nothing waits to start. -/
theorem bistStep_alone {b : Bist} (hmem : s.dev.memEnds [m] = false) (hj : s.dev.bistJudge [m] t = s.dev.mapBist fun _ => b)
    (ht : b.todo = []) : execBistStep [m] s = .next (s.put (s.dev.mapBist fun _ => b).bistEndsOrGoesOn) := by
  have hnext : Dev.bistNext 64 (s.dev.mapBist fun _ => b) = s.dev.mapBist fun _ => b := by
    unfold Dev.bistNext
    simp only [Dev.mapBist_bist, ht, List.find?_nil]
    split <;> rfl
  rw [bistStep_judges hst he hr hrun, hmem, if_neg Bool.false_ne_true, if_neg Bool.false_ne_true, hj, hnext]
  rfl

end

/-! ## A test judged (R408, R410) -/

section
variable {d : Dev} {t : BistTest} {m : StepMeas} (hm : m.test = t.test) (hu : m.unit = t.unit) (ha : d.bistAborts t = false)
include hm hu ha

/-- A test that does not abort and goes on keeps the worst value of its steps. -/
theorem bistJudge_goesOn (hl : m.last = false) (hrun : d.bist.running = [t]) : d.bistJudge [m] t = d.mapBist fun _ =>
    { d.bist with running := [{ t with value := if t.started then worse t.test t.value (stepValue m) else stepValue m, started := true,
                                       failed := t.failed || !stepOk m }] } := by
  have hfind : ([m].find? fun m => m.test == t.test && m.unit == t.unit) = some m := by simp [hm, hu]
  unfold Dev.bistJudge
  rw [ha, if_neg Bool.false_ne_true, hfind]
  simp only [hl, Bool.false_eq_true, if_false, Dev.mapBist, hrun, List.map_cons, List.map_nil, beq_self_eq_true, if_true]

/-- The last step of a test adds its entry. -/
theorem bistJudge_ends (hl : m.last = true) (hs : t.started = false) (hf : t.failed = false) (hrun : d.bist.running = [t]) :
    d.bistJudge [m] t = (d.mapBist fun _ =>
      ({ d.bist with running := [] } : Bist).add t.test t.unit (b2n (!stepOk m)) (stepValue m)).bistAfter t := by
  have hfind : ([m].find? fun m => m.test == t.test && m.unit == t.unit) = some m := by simp [hm, hu]
  unfold Dev.bistJudge
  rw [ha, if_neg Bool.false_ne_true, hfind]
  simp only [hl, hs, hf, Bool.false_eq_true, if_false, if_true, Bool.false_or, Dev.mapBist, hrun, List.erase_cons_head]

end

theorem bistAborts_seven {d : Dev} {t : BistTest} (h : t.test = 7) : d.bistAborts t = false := by
  simp [Dev.bistAborts, h, laneTest]

theorem bistAfter_seven {d : Dev} {t : BistTest} (h : t.test = 7) : d.bistAfter t = d := by
  simp [Dev.bistAfter, h, laneTest]

/-- An entry leaves the rest of the run as it is. -/
theorem add_keeps {β : Type} (p : Bist → β) (hp : ∀ (b : Bist) l, p { b with entries := l } = p b) (b : Bist) (test unit result : Nat)
    (value : Int) : p (b.add test unit result value) = p b := by
  unfold Bist.add
  split
  · rfl
  · exact hp _ _

section
variable {t : BistTest} {m : StepMeas} (hst : s.dev.bist.state = 1) (he : s.dev.bist.ending = false) (hr : s.dev.isReady = true)
  (hrun : s.dev.bist.running = [t]) (htodo : s.dev.bist.todo = []) (hm : m.test = t.test) (hu : m.unit = t.unit)
include hst he hr hrun htodo hm hu

theorem bistStep_goesOn (hl : m.last = false) (ha : s.dev.bistAborts t = false) : execBistStep [m] s =
    .next (s.put (s.dev.mapBist fun b => { b with running :=
      [{ t with value := if t.started then worse t.test t.value (stepValue m) else stepValue m, started := true,
                failed := t.failed || !stepOk m }] })) := by
  have hmem : s.dev.memEnds [m] = false := by simp [Dev.memEnds, hrun, ha, hl]
  exact bistStep_alone hst he hr hrun hmem (bistJudge_goesOn hm hu ha hl hrun) htodo

theorem bistStep_completes (h7 : t.test = 7) (hl : m.last = true) (hs : t.started = false) (hf : t.failed = false) : execBistStep [m] s =
    .next (s.put ((s.dev.mapBist fun b =>
      ({ b with running := [] } : Bist).add 7 t.unit (b2n (!stepOk m)) (stepValue m)).bistClose 2)) := by
  have hmem : s.dev.memEnds [m] = false := by simp [Dev.memEnds, hrun, h7]
  have hj := bistJudge_ends hm hu (bistAborts_seven h7) hl hs hf hrun
  rw [bistAfter_seven h7, h7] at hj
  refine (bistStep_alone hst he hr hrun hmem hj ((add_keeps Bist.todo (fun _ _ => rfl) _ _ _ _ _).trans htodo)).trans ?_
  refine congrArg (fun d => Host.Outcome.next (s.put d)) (if_pos ?_)
  rw [Dev.mapBist_bist, add_keeps Bist.running fun _ _ => rfl, add_keeps Bist.todo fun _ _ => rfl, htodo]
  rfl

end

/-! ## BIST.RUN (Tables 18-3 and 18-4) -/

theorem bist_wakeAll (d : Dev) (l : List Nat) : (d.wakeAll l).bist = d.bist := by
  refine foldl_keeps Dev.bist (fun e i => ?_) l d
  unfold Dev.wake
  dsimp only
  split <;> rfl

section
variable {β : Type} (p : Bist → β) (hp : ∀ (b : Bist) todo running entries powered fams,
  p { b with todo := todo, running := running, entries := entries, powered := powered, fams := fams } = p b)
include hp

theorem laneTestStart_keeps (d : Dev) (t k : Nat) : p (d.laneTestStart t k).bist = p d.bist := by
  have hwake := congrArg p (bist_wakeAll d ((laneDomains k).filter fun i => !d.domReq i))
  unfold Dev.laneTestStart
  dsimp only
  split
  · exact (hp _ _ _ _ _ _).trans hwake
  · exact (hp _ _ _ _ _ _).trans ((hp _ _ _ _ _ _).trans hwake)

/-- What starts next changes the lists of a run, not its number or state. -/
theorem bistNext_keeps (n : Nat) (d : Dev) : p (Dev.bistNext n d).bist = p d.bist := by
  induction n generalizing d with
  | zero => rfl
  | succ n ih =>
    unfold Dev.bistNext
    dsimp only
    split
    · split
      · rfl
      · exact (ih _).trans ((laneTestStart_keeps p hp _ _ _).trans (hp d.bist _ _ _ _ _))
    · split
      · rfl
      · split
        · rfl
        · split
          · exact (ih _).trans ((add_keeps p (fun b l => hp b _ _ l _ _) _ _ _ _ _).trans (hp d.bist _ _ _ _ _))
          · exact hp d.bist _ _ _ _ _

end

section
variable {src : Src} {lanes flags set : Byte} {tests : BitVec 16} (h : s.dev.admits src 0xAB00 .c = true)
include h

theorem bistRun_denied (ha : srcApplet src = true) : let x := s.dev.arrives 0xAB00
    execBistRun src set lanes tests flags s = .next (s.put (x.declines (x.entry src 0xAB00 .c) .denied)) :=
  lift_eq_put (kci_declines h (if_pos ha))

variable (ha : srcApplet src = false)
include ha

theorem bistRun_badParam (hset : 1 < set.toNat) : let x := s.dev.arrives 0xAB00
    execBistRun src set lanes tests flags s = .next (s.put (x.declines (x.entry src 0xAB00 .c) .badParam)) :=
  lift_eq_put (kci_declines h ((if_neg (Bool.eq_false_iff.mp ha)).trans (if_pos (by rw [decide_eq_true hset]; rfl))))

/-- A run that may start answers its number and its estimate. -/
theorem bistRun_starts (hset : set.toNat ≤ 1) (hfl : flags.toNat ≤ 1)
    (htests : ∀ i, i < 16 → tests.getLsbD i = true → i ∈ setTests (decide (set.toNat = 1)))
    (hlc : set.toNat = 1 → (s.dev.arrives 0xAB00).lc = 0 ∨ (s.dev.arrives 0xAB00).lc = 1 ∨ (s.dev.arrives 0xAB00).lc = 4)
    (hfree : (s.dev.arrives 0xAB00).bistFree (decide (set.toNat = 1)) (if tests = 0 then setTests (decide (set.toNat = 1))
      else (setTests (decide (set.toNat = 1))).filter fun i => tests.getLsbD i) lanes.toNat = true) : let x := s.dev.arrives 0xAB00
    ∃ t : Dev, ∃ p, execBistRun src set lanes tests flags s = .next (s.put (x.completes (x.entry src 0xAB00 .c) t p)) ∧
      p.take 2 = be 2 ((x.bist.runid + 1) % 65536) ∧ p.length = 8 ∧ t.bist.runid = (x.bist.runid + 1) % 65536 ∧ t.bist.state = 1 := by
  have hstray : ((List.range 16).any fun t => tests.getLsbD t && !(setTests (decide (set.toNat = 1))).contains t) = false := by
    rw [List.any_eq_false]
    intro i hi hstray
    rw [Bool.and_eq_true, Bool.not_eq_true'] at hstray
    have hin := List.contains_iff_mem.mpr (htests i (List.mem_range.mp hi) hstray.1)
    exact Bool.false_ne_true (hstray.2.symm.trans hin)
  have hcycle : (decide (set.toNat = 1) && !((s.dev.arrives 0xAB00).lc == 0 || (s.dev.arrives 0xAB00).lc == 1 ||
      (s.dev.arrives 0xAB00).lc == 4)) = false := by
    by_cases h1 : set.toNat = 1
    · rcases hlc h1 with hl | hl | hl <;> simp [hl]
    · rw [decide_eq_false h1, Bool.false_and]
  refine ⟨_, _, lift_eq_put (kci_completes h ((if_neg (Bool.eq_false_iff.mp ha)).trans ((if_neg ?_).trans
    ((if_neg (Bool.eq_false_iff.mp hcycle)).trans (if_neg ?_))))), ?_, ?_, ?_, ?_⟩
  · rw [decide_eq_false (Nat.not_lt.mpr hset), decide_eq_false (Nat.not_lt.mpr hfl), Bool.false_or, Bool.or_false]
    exact Bool.eq_false_iff.mp hstray
  · exact Bool.eq_false_iff.mp ((congrArg (!·) hfree))
  · exact List.take_left' (length_be 2 _)
  · simp only [List.length_append, length_be, List.length_cons, List.length_nil]
  · exact bistNext_keeps Bist.runid (fun _ _ _ _ _ _ => rfl) _ _
  · exact bistNext_keeps Bist.state (fun _ _ _ _ _ _ => rfl) _ _

end

/-! ## The other BIST commands (Tables 18-5 and 18-6) -/

section
variable {src : Src}

theorem bistStatGet_answers (h : s.dev.admits src 0xAB01 .q = true) : let x := s.dev.arrives 0xAB01
    ∃ p, execBistStatGet src s = .next (s.put (x.completes (x.entry src 0xAB01 .q) x p)) ∧ p.length = 12 ∧ p.take 2 = be 2 x.bist.runid := by
  refine ⟨_, lift_eq_put (kci_completes h rfl), ?_, ?_⟩
  · simp only [List.length_append, length_be, List.length_cons, List.length_nil, List.length_map]
  · rw [List.append_assoc, List.append_assoc]
    exact List.take_left' (length_be 2 _)

section
variable {first : Byte} (h : s.dev.admits src 0xAB02 .q = true)
include h

theorem bistResultGet_answers (hf : first.toNat ≤ 63) : let x := s.dev.arrives 0xAB02
    execBistResultGet src first s = .next (s.put (x.completes (x.entry src 0xAB02 .q) x
      ([BitVec.ofNat 8 ((x.bist.entries.drop first.toNat).take 8).length, 0, 0, 0] ++
        ((x.bist.entries.drop first.toNat).take 8).flatMap fun r => [BitVec.ofNat 8 r.test, BitVec.ofNat 8 r.unit,
          BitVec.ofNat 8 r.result, 0] ++ be 4 (tc 32 r.value) ++ be 4 r.limit))) :=
  lift_eq_put (kci_completes h (if_neg (Nat.not_lt.mpr hf)))

theorem bistResultGet_badParam (hf : 63 < first.toNat) : let x := s.dev.arrives 0xAB02
    execBistResultGet src first s = .next (s.put (x.declines (x.entry src 0xAB02 .q) .badParam)) :=
  lift_eq_put (kci_declines h (if_pos hf))

end

section
variable (h : s.dev.admits src 0xAB03 .c = true) (ha : srcApplet src = false)
include h ha

theorem bistAbort_running (hst : (s.dev.arrives 0xAB03).bist.state = 1) : let x := s.dev.arrives 0xAB03
    execBistAbort src s = .next (s.put ((x.mapBist fun b => { b with ending := true }).holds (x.entry src 0xAB03 .c) .bistEnd)) :=
  lift_eq_put (kci_holds h ((if_neg (Bool.eq_false_iff.mp ha)).trans (if_neg (not_not_intro hst))))

theorem bistAbort_noRun (hst : (s.dev.arrives 0xAB03).bist.state ≠ 1) : let x := s.dev.arrives 0xAB03
    execBistAbort src s = .next (s.put (x.declines (x.entry src 0xAB03 .c) .notReady)) :=
  lift_eq_put (kci_declines h ((if_neg (Bool.eq_false_iff.mp ha)).trans (if_pos hst)))

end

end

end

/-- Settles O28: the boundaries of a step, then one lemma per answer; the test port's commands are what the model says. -/
theorem selfTest : Obligations.SelfTest := fun _ _ =>
  ⟨fun meas => ⟨fun h => bistStep_noRun h meas, fun h he => bistStep_ends h he meas⟩,
    fun _ _ hst he hr hrun htodo hm hu hl hs hf => ⟨fun h7 => bistStep_completes hst he hr hrun htodo hm hu h7 hl hs hf,
      fun h8 => bistStep_memEnds hst he hr hrun h8 hm hl⟩,
    fun _ _ hst he hr hrun htodo hm hu hl ha => bistStep_goesOn hst he hr hrun htodo hm hu hl ha,
    fun _ _ _ _ h => ⟨bistRun_denied h, bistRun_badParam h, fun ha hset hfl htests hlc hfree =>
      bistRun_starts h ha hset hfl htests (fun h1 => hlc (decide_eq_true h1)) hfree⟩,
    bistStatGet_answers, fun _ h => ⟨bistResultGet_answers h, bistResultGet_badParam h⟩,
    fun h ha => ⟨bistAbort_running h ha, bistAbort_noRun h ha⟩, fun _ => rfl, fun _ => rfl, rfl, fun _ _ => rfl⟩

end Sys2Proof.Machine

/-! PROOFS. Chapters 01 and 07, the data-path and bring-up commands. -/

namespace Sys2Proof.Machine

/-! ## APP.STAT.GET, APP.SELECT and APP.DEACT (R39, R40, R434) -/

/-- A command's arrival leaves the data paths as they are. -/
theorem arrives_pathOf (d : Dev) (op k : Nat) : (d.arrives op).pathOf k = d.pathOf k := by
  unfold Dev.arrives
  split <;> rfl

section
variable {s : State} {src : Src}

section
variable {first mode size lrm outputs pretx prerx : Byte} {r : AppReq}
  (hr : r = ⟨first.toNat, mode.toNat, size.toNat, lrm.toNat, outputs.toNat, pretx.toNat, prerx.toNat⟩)
  (h : s.dev.admits src 0xAC01 .d (laneMask r.touch) (s.dev.famMask r) = true)
include hr h

theorem appSelect_busy (hw : (s.dev.arrives 0xAC01).mgmt.appselWait ≠ []) : let x := s.dev.arrives 0xAC01
    execAppSelect src first mode size lrm outputs pretx prerx s = .next (s.put (x.respondBusy src 0xAC01 x.appselRetry)) := by
  subst hr
  refine lift_eq_put ((kci_of_admits _ h).trans (runBody_busy (if_pos ?_)))
  rw [Bool.not_eq_true', List.isEmpty_eq_false_iff]
  exact hw

variable (hw : (s.dev.arrives 0xAC01).mgmt.appselWait = [])
include hw

theorem appSelect_noPath (hp : r.path = none) : let x := s.dev.arrives 0xAC01
    execAppSelect src first mode size lrm outputs pretx prerx s =
      .next (s.put (x.declines (x.entry src 0xAC01 .d (laneMask r.touch) (s.dev.famMask r)) .badParam)) := by
  subst hr
  exact lift_eq_put (kci_declines h ((if_neg (by rw [hw]; decide)).trans (by rw [hp])))

variable {p : Path} (hp : r.path = some p)
include hp

theorem appSelect_notReady (hc : (s.dev.arrives 0xAC01).canSelect = false) : let x := s.dev.arrives 0xAC01
    execAppSelect src first mode size lrm outputs pretx prerx s =
      .next (s.put (x.declines (x.entry src 0xAC01 .d (laneMask r.touch) (s.dev.famMask r)) .notReady)) := by
  subst hr
  refine lift_eq_put (kci_declines h ((if_neg (by rw [hw]; decide)).trans ?_))
  rw [hp]
  exact if_pos (by rw [hc]; rfl)

variable (hc : (s.dev.arrives 0xAC01).canSelect = true)
include hc

theorem appSelect_misfit (hf : (s.dev.arrives 0xAC01).fits p = false) : let x := s.dev.arrives 0xAC01
    execAppSelect src first mode size lrm outputs pretx prerx s =
      .next (s.put (x.declines (x.entry src 0xAC01 .d (laneMask r.touch) (s.dev.famMask r)) .badParam)) := by
  subst hr
  refine lift_eq_put (kci_declines h ((if_neg (by rw [hw]; decide)).trans ?_))
  rw [hp]
  exact (if_neg (by rw [hc]; decide)).trans (if_pos (by rw [hf]; rfl))

theorem appSelect_selects (hf : (s.dev.arrives 0xAC01).fits p = true) : let x := s.dev.arrives 0xAC01
    execAppSelect src first mode size lrm outputs pretx prerx s =
      .next (s.put ((x.selectPath p).holds (x.entry src 0xAC01 .d (laneMask r.touch) (s.dev.famMask r)) (.activate p.first))) := by
  subst hr
  refine lift_eq_put (kci_holds h ((if_neg (by rw [hw]; decide)).trans ?_))
  rw [hp]
  exact (if_neg (by rw [hc]; decide)).trans (if_neg (by rw [hf]; decide))

end

theorem appDeact_starts {first : Byte} {p : Path} (hp : (s.dev.paths.find? fun q => q.first == first.toNat && q.state != 3) = some p)
    (h : s.dev.admits src 0xAC02 .d (laneMask p.lanes) 0 = true) : let x := s.dev.arrives 0xAC02
    execAppDeact src first s = .next (s.put
      (((x.startDeact p.first).holds (x.entry src 0xAC02 .d (laneMask p.lanes) 0) (.deact (laneMask p.lanes))).pathsGone)) := by
  refine lift_eq_put ?_
  dsimp only
  rw [hp]
  exact (kciThen_of_admits _ _ h).trans (congrArg Dev.pathsGone (runBody_hold rfl))

theorem appDeact_noGroup {first : Byte} (hp : (s.dev.paths.find? fun q => q.first == first.toNat && q.state != 3) = none)
    (h : s.dev.admits src 0xAC02 .d 0 0 = true) : let x := s.dev.arrives 0xAC02
    execAppDeact src first s = .next (s.put ((x.declines (x.entry src 0xAC02 .d 0 0) .badParam).pathsGone)) := by
  refine lift_eq_put ?_
  dsimp only
  rw [hp]
  exact (kciThen_of_admits _ _ h).trans (congrArg Dev.pathsGone (runBody_no rfl))

/-! ## LINE.BRUP.GET (Table 7-7) -/

section
variable {lane : Byte} (h : s.dev.admits src 0xA110 .q = true)
include h

theorem lineBrupGet_answers (hl : lane.toNat ≤ 7) : let x := s.dev.arrives 0xA110
    ∃ us, execLineBrupGet src lane s = .next (s.put (let r := fun f => if x.domOn (dLRXD lane.toNat) then x.rd f lane.toNat else 0
      x.completes (x.entry src 0xA110 .q) x (be 1 (r F.LN_STAT_STEP) ++ be 1 ((x.lane lane.toNat).outcome.getD 0xFF) ++
        be 2 (if x.domOn (dLRXD lane.toNat) then x.regWord 0x10004 lane.toNat else 0) ++ be 2 (r F.LN_RTCNT_RETRAINS) ++
        be 2 (r F.LN_RTCNT_SYNCFAIL) ++ be 2 (r F.LN_FEID_PART) ++ be 1 (r F.LN_FEID_LANE) ++ be 1 (r F.LN_FEID_MODE) ++
        be 4 (x.lane lane.toNat).rx.feFwver ++ be 4 (x.lane lane.toNat).rx.feDevid ++ be 4 us))) :=
  ⟨_, lift_eq_put (kci_completes h (if_neg (Nat.not_lt.mpr hl)))⟩

theorem lineBrupGet_badParam (hl : 7 < lane.toNat) : let x := s.dev.arrives 0xA110
    execLineBrupGet src lane s = .next (s.put (x.declines (x.entry src 0xA110 .q) .badParam)) :=
  lift_eq_put (kci_declines h (if_pos hl))

end

/-! ## LINE.BRUP.CFG.SET (Table 7-8) -/

/-- Where every lead is the old one, no CAP goes out. -/
theorem capChange_of_leadOf {d o : Dev} (h : ∀ p, d.leadOf p = o.leadOf p) : d.capChange o = d := by
  refine List.foldl_fixed' (fun p => if_neg ?_) d.paths
  rw [h p, bne_self_eq_false, Bool.and_false]
  exact Bool.false_ne_true

section
variable {lane : Byte} (h : s.dev.admits src 0xA111 .c = true)
include h

theorem lineBrupCfgSet_badParam {srchto : Byte} (trnto : BitVec 16) (rtdly actmarg autort urxinv lead ptflags pcth : Byte)
    (hn : srchto.toNat = 0 ∨ (200 < srchto.toNat ∧ srchto.toNat < 255)) : let x := s.dev.arrives 0xA111
    execLineBrupCfgSet src lane srchto trnto rtdly actmarg autort urxinv lead ptflags pcth s =
      .next (s.put (x.declines (x.entry src 0xA111 .c) .badParam)) := by
  refine lift_eq_put (kci_declines h (if_pos ?_))
  rcases hn with hn | ⟨hlo, hhi⟩
  · simp only [hn, decide_true, Bool.or_true, Bool.true_or]
  · have hbad : okKeep srchto.toNat 200 = false := by
      rw [← Bool.not_eq_true, okKeep_iff]
      omega
    simp only [hbad, Bool.not_false, Bool.or_true, Bool.true_or]

variable (hl : lane.toNat ≤ 7)
include hl

/-- With every other operand the keep value the search time alone is set. -/
theorem lineBrupCfgSet_srchto {srchto : Byte} (ho : okKeep srchto.toNat 200 = true) (h0 : srchto.toNat ≠ 0) :
    let x := s.dev.arrives 0xA111
    execLineBrupCfgSet src lane srchto 0xFFFF 0xFF 0xFF 0xFF 0xFF 0xFF 0xFF 0xFF s = .next (s.put (x.completes (x.entry src 0xA111 .c)
      ((x.cfgKeep (dLRXD lane.toNat) F.LN_BRCFG_SRCHTO lane.toNat srchto.toNat 0xFF).capChange x) [])) := by
  have hkeep : (0xFF : Byte).toNat = 0xFF := rfl
  have hkeep2 : (0xFFFF : BitVec 16).toNat = 0xFFFF := rfl
  refine lift_eq_put (kci_completes h ((if_neg ?_).trans ?_))
  · simp only [hkeep, hkeep2, ho, okKeep_keep, decide_eq_false h0, decide_eq_false (Nat.not_lt.mpr hl), beq_self_eq_true, Bool.true_or]
    decide
  · simp only [hkeep, hkeep2, cfgKeep_keep, if_true]

theorem lineBrupCfgSet_keep : let x := s.dev.arrives 0xA111
    execLineBrupCfgSet src lane 0xFF 0xFFFF 0xFF 0xFF 0xFF 0xFF 0xFF 0xFF 0xFF s =
      .next (s.put (x.completes (x.entry src 0xA111 .c) x [])) := by
  have hset := lineBrupCfgSet_srchto h hl (srchto := 0xFF) (okKeep_keep 200) (by decide)
  dsimp only at hset ⊢
  rwa [show (0xFF : Byte).toNat = 0xFF from rfl, cfgKeep_keep, capChange_of_leadOf fun _ => rfl] at hset

theorem lineBrupCfgSet_sets {srchto : Byte} (hlo : 1 ≤ srchto.toNat) (hhi : srchto.toNat ≤ 200)
    (hd : (s.dev.arrives 0xA111).domOn (dLRXD lane.toNat) = true) : let x := s.dev.arrives 0xA111
    execLineBrupCfgSet src lane srchto 0xFFFF 0xFF 0xFF 0xFF 0xFF 0xFF 0xFF 0xFF s = .next (s.put (x.completes (x.entry src 0xA111 .c)
      ((x.fwPut F.LN_BRCFG_SRCHTO lane.toNat srchto.toNat).wr F.LN_BRCFG_SRCHTO lane.toNat srchto.toNat) [])) := by
  have hset := lineBrupCfgSet_srchto h hl (okKeep_of_le hhi) (show srchto.toNat ≠ 0 by omega)
  have hlead : ∀ p, ((((s.dev.arrives 0xA111).fwPut F.LN_BRCFG_SRCHTO lane.toNat srchto.toNat).wr F.LN_BRCFG_SRCHTO lane.toNat
      srchto.toNat)).leadOf p = (s.dev.arrives 0xA111).leadOf p := fun p => by
    unfold Dev.leadOf
    rw [rd_wr_fld _ _ _ _ _ _ (by decide), Dev.rd_fwPut]
  dsimp only at hset ⊢
  rwa [cfgKeep_of_ne (show srchto.toNat ≠ 0xFF by omega), Dev.cfg, if_pos hd, capChange_of_leadOf hlead] at hset

end

/-! ## LINE.FALLBACK.SET (Table 7-9) -/

/-- With no fallback armed for the path none is tried. -/
theorem tryFallback_disarmed (d : Dev) (p : Path) : Dev.tryFallback { d with fallbacks := d.fallbacks.filter fun f => f.first != p.first } p =
    { d with fallbacks := d.fallbacks.filter fun f => f.first != p.first } := by
  have hnone : ((d.fallbacks.filter fun f => f.first != p.first).find? fun f => f.first == p.first) = none := by
    rw [List.find?_eq_none]
    intro f hf heq
    have hne := (List.mem_filter.mp hf).2
    rw [bne, heq] at hne
    exact Bool.false_ne_true hne
  unfold Dev.tryFallback
  dsimp only
  rw [hnone]

section
variable {lane m pretx prerx : Byte} {p : Path} (h : s.dev.admits src 0xA112 .c = true)
  (hp : ((s.dev.arrives 0xA112).paths.find? fun q => q.first == lane.toNat && q.lrm < 2) = some p) (hl : lane.toNat ≤ 7)
include h hp hl

/-- A fallback that Table 7-9 allows is armed, or disarmed with FBMODE 0. -/
theorem lineFallbackSet_sets (hm : m.toNat ∈ [0, 6, 7, 8, 9]) (h8 : m.toNat = 6 ∨ m.toNat = 8 → p.size = 8) (ht : pretx.toNat ≤ 1)
    (hr : prerx.toNat ≤ 1) : let x := s.dev.arrives 0xA112
    let rest := x.fallbacks.filter fun f => f.first != p.first
    execLineFallbackSet src lane m pretx prerx s = .next (s.put (x.completes (x.entry src 0xA112 .c) (Dev.tryFallback { x with fallbacks :=
      if m.toNat = 0 then rest else rest ++ [⟨p.first, m.toNat, pretx.toNat == 1, prerx.toNat == 1⟩] } p) [])) := by
  refine lift_eq_put (kci_completes h ?_)
  dsimp only
  rw [hp]
  refine if_neg ?_
  have hsize : ((m.toNat == 6 || m.toNat == 8) && p.size != 8) = false := by
    rw [← Bool.not_eq_true, Bool.and_eq_true, Bool.or_eq_true, beq_iff_eq, beq_iff_eq, bne_iff_ne]
    exact fun hc => hc.2 (h8 hc.1)
  rw [List.contains_iff_mem.mpr hm, decide_eq_false (Nat.not_lt.mpr hl), decide_eq_false (Nat.not_lt.mpr ht),
    decide_eq_false (Nat.not_lt.mpr hr), hsize]
  decide

theorem lineFallbackSet_disarms : let x := s.dev.arrives 0xA112
    execLineFallbackSet src lane 0 0 0 s = .next (s.put (x.completes (x.entry src 0xA112 .c)
      { x with fallbacks := x.fallbacks.filter fun f => f.first != p.first } [])) := by
  have hset := lineFallbackSet_sets (m := 0) (pretx := 0) (prerx := 0) h hp hl (by decide) (fun hc => absurd hc (by decide)) (by decide)
    (by decide)
  dsimp only at hset ⊢
  rwa [if_pos (show (0 : Byte).toNat = 0 from rfl), tryFallback_disarmed] at hset

theorem lineFallbackSet_arms (hm : m.toNat = 7 ∨ m.toNat = 9 ∨ ((m.toNat = 6 ∨ m.toNat = 8) ∧ p.size = 8)) (ht : pretx.toNat ≤ 1)
    (hr : prerx.toNat ≤ 1) : let x := s.dev.arrives 0xA112
    execLineFallbackSet src lane m pretx prerx s = .next (s.put (x.completes (x.entry src 0xA112 .c) (Dev.tryFallback { x with fallbacks :=
      (x.fallbacks.filter fun f => f.first != p.first) ++ [⟨p.first, m.toNat, pretx.toNat == 1, prerx.toNat == 1⟩] } p) [])) := by
  have hmem : m.toNat ∈ [0, 6, 7, 8, 9] := by
    simp only [List.mem_cons, List.not_mem_nil, or_false]
    omega
  have hset := lineFallbackSet_sets h hp hl hmem (by omega) ht hr
  dsimp only at hset ⊢
  rwa [if_neg (show m.toNat ≠ 0 by omega)] at hset

end

/-! ## LINE.RETRAIN (R170) -/

theorem lineRetrain_requests {lane : Byte} {p : Path} (hp : s.dev.pathOf lane.toNat = some p)
    (h : s.dev.admits src 0xA113 .d (laneMask p.lanes) 0 = true) (hl : lane.toNat ≤ 7) (hr : (s.dev.arrives 0xA113).isReady = true)
    (ha : ((s.dev.arrives 0xA113).lane lane.toNat).active = true) (hb : p.bringup = true) : let x := s.dev.arrives 0xA113
    execLineRetrain src lane s = .next (s.put ((((x.retrainRequest lane.toNat).fallback lane.toNat).holds
      (x.entry src 0xA113 .d (laneMask p.lanes) 0) (.retrain lane.toNat)).settlePaths)) := by
  refine lift_eq_put ?_
  dsimp only
  rw [hp]
  refine (kciThen_of_admits _ _ h).trans (congrArg Dev.settlePaths (runBody_hold ((if_neg (Nat.not_lt.mpr hl)).trans ?_)))
  rw [arrives_pathOf, hp]
  exact if_neg (by rw [hr, ha, hb]; decide)

end

/-- Settles O14: one lemma per answer of each command. -/
theorem pathCommands : Obligations.PathCommands := by
  intro s src
  refine ⟨fun h => ?stat, fun first mode size lrm outputs pretx prerx => ?select, fun first p hp h => appDeact_starts hp h,
    fun first hp h => appDeact_noGroup hp h, fun h lane => ⟨lineBrupGet_answers h, lineBrupGet_badParam h⟩,
    fun h lane hl => ⟨lineBrupCfgSet_keep h hl, fun srchto hlo hhi hd => lineBrupCfgSet_sets h hl hlo hhi hd,
      fun srchto trnto rtdly actmarg autort urxinv lead ptflags pcth hn => lineBrupCfgSet_badParam h trnto rtdly actmarg autort urxinv lead
        ptflags pcth hn⟩,
    fun h lane p hp hl => ⟨lineFallbackSet_disarms h hp hl, fun m pretx prerx hm ht hr => lineFallbackSet_arms h hp hl hm ht hr⟩,
    fun lane p hp h hl hr ha hb => lineRetrain_requests hp h hl hr ha hb⟩
  case stat =>
    intro x e
    show execAppStatGet src s = _
    refine lift_eq_put (kci_completes h (congrArg (Res.ok _) ?_))
    refine congrArg (fun f => (List.range 8).flatMap f) (funext fun k => ?_)
    cases x.pathOf k <;> rfl
  case select =>
    exact fun h => ⟨fun p hw hp hc hf => appSelect_selects rfl h hw hp hc hf, fun p hw hp hc => appSelect_notReady rfl h hw hp hc,
      fun p hw hp hc hf => appSelect_misfit rfl h hw hp hc hf, fun hw hp => appSelect_noPath rfl h hw hp, fun hw => appSelect_busy rfl h hw⟩

end Sys2Proof.Machine

/-! PROOFS. Chapter 09, the OPT commands. -/

namespace Sys2Proof.Machine

section
variable {s : State} {src : Src}

/-! ## OPT.BIAS.GET (Table 9-10) -/

section
variable {ch : Byte} (h : s.dev.admits src 0xA300 .q = true)
include h

theorem optBiasGet_answers (hc : ch.toNat ≤ 15) : let x := s.dev.arrives 0xA300
    ∃ p, execOptBiasGet src ch s = .next (s.put (x.completes (x.entry src 0xA300 .q) (x.demand dBDAC) p)) ∧
      p.length = 12 ∧ (p.drop 4).take 2 = be 2 ((x.demand dBDAC).rd F.OC_BACT_CODE ch.toNat) := by
  refine ⟨_, lift_eq_put (kci_completes h (if_neg (Nat.not_lt.mpr hc))), ?_, ?_⟩
  · simp only [List.length_append, length_be, List.length_cons, List.length_nil]
  · simp only [List.append_assoc]
    rw [← List.append_assoc (be 2 _) (be 2 _), List.drop_left' (by simp only [List.length_append, length_be])]
    exact List.take_left' (length_be 2 _)

theorem optBiasGet_badParam (hc : 15 < ch.toNat) : let x := s.dev.arrives 0xA300
    execOptBiasGet src ch s = .next (s.put (x.declines (x.entry src 0xA300 .q) .badParam)) :=
  lift_eq_put (kci_declines h (if_pos hc))

end

/-! ## OPT.BIAS.SET (Table 9-11) -/

/-- Operands that Table 9-11 allows. -/
def biasSetOk (ch en rg nco : Byte) (code damp : BitVec 16) (sd strobe : Byte) : Prop :=
  ch.toNat ≤ 15 ∧ (en.toNat ≤ 1 ∨ en.toNat = 0xFF) ∧ (rg.toNat ≤ 2 ∨ rg.toNat = 0xFF) ∧
    (nco.toNat ≤ 7 ∨ nco.toNat = 0x80 ∨ nco.toNat = 0xFF) ∧ (code.toNat ≤ 16383 ∨ code.toNat = 0xFFFF) ∧
    (damp.toNat ≤ 1023 ∨ damp.toNat = 0xFFFF) ∧ (sd.toNat ≤ 3 ∨ sd.toNat = 0xFF) ∧ (strobe.toNat ≤ 1 ∨ strobe.toNat = 0xFF)

theorem biasSetOk_iff (ch en rg nco : Byte) (code damp : BitVec 16) (sd strobe : Byte) : biasSetOk ch en rg nco code damp sd strobe ↔
    (15 < ch.toNat || !okKeep en.toNat 1 || !okKeep rg.toNat 2 || !(okKeep nco.toNat 7 || nco.toNat = 0x80) ||
      !(code.toNat ≤ 16383 || code.toNat = 0xFFFF) || !(damp.toNat ≤ 1023 || damp.toNat = 0xFFFF) || !okKeep sd.toNat 3 ||
      !okKeep strobe.toNat 1) = false := by
  have hnco : (nco.toNat ≤ 7 ∨ nco.toNat = 0xFF) ∨ nco.toNat = 0x80 ↔ nco.toNat ≤ 7 ∨ nco.toNat = 0x80 ∨ nco.toNat = 0xFF := by omega
  simp only [biasSetOk, Bool.or_eq_false_iff, Bool.not_eq_false', decide_eq_false_iff_not, Nat.not_lt, Bool.or_eq_true, decide_eq_true_eq,
    okKeep_iff, hnco, and_assoc]

/-- A loop owns the channel, and the command would turn it off or give it another range. -/
def Dev.biasOwned (d : Dev) (c : Nat) (en rg : Byte) : Prop :=
  (d.biasLoop c).isSome = true ∧ (en.toNat = 0 ∨ (rg.toNat ≠ 0xFF ∧ rg.toNat ≠ d.rd F.OC_BCTL_RANGE c))

theorem biasOwned_iff (d : Dev) (c : Nat) (en rg : Byte) : d.biasOwned c en rg ↔
    ((d.biasLoop c).isSome && (en.toNat = 0 || (rg.toNat ≠ 0xFF && rg.toNat ≠ d.rd F.OC_BCTL_RANGE c))) = true := by
  simp only [Dev.biasOwned, Bool.and_eq_true, Bool.or_eq_true, decide_eq_true_eq]

/-- The channel with each field set that the command gives. -/
def Dev.biasGiven (d : Dev) (c : Nat) (en rg nco : Byte) (code damp : BitVec 16) (sd : Byte) : Dev :=
  let a1 := if rg.toNat = 0xFF then d else (d.fwPut F.OC_BCTL_RANGE c rg.toNat).biasRange c rg.toNat
  let a2 := if en.toNat = 0xFF then a1 else (a1.fwPut F.OC_BCTL_EN c en.toNat).biasEn c (en.toNat = 1)
  let a3 := if nco.toNat = 0xFF then a2 else if nco.toNat = 0x80 then a2.cfg dBDAC F.OC_BCTL_DITH c 0
    else (a2.cfg dBDAC F.OC_BCTL_DITH c 1).cfg dBDAC F.OC_BCTL_NCO c nco.toNat
  let a4 := (a3.cfgKeep dBDAC F.OC_BHOLD_CODE c code.toNat 0xFFFF).cfgKeep dBDAC F.OC_BHOLD_DAMP c damp.toNat 0xFFFF
  if sd.toNat = 0xFF then a4 else (a4.cfg dBDAC F.OC_BCTL_SDCOMP c sd.toNat).cfg dBDAC F.OC_BCTL_SDOPEN c (sd.toNat / 2)

section
variable {ch en rg nco : Byte} {code damp : BitVec 16} {sd strobe : Byte} (h : s.dev.admits src 0xA301 .c = true)
include h

theorem optBiasSet_badParam (hn : ¬ biasSetOk ch en rg nco code damp sd strobe) : let x := s.dev.arrives 0xA301
    execOptBiasSet src ch en rg nco code damp sd strobe s = .next (s.put (x.declines (x.entry src 0xA301 .c) .badParam)) := by
  rw [biasSetOk_iff, Bool.not_eq_false] at hn
  exact lift_eq_put (kci_declines h (if_pos hn))

variable (hok : biasSetOk ch en rg nco code damp sd strobe)
include hok

theorem optBiasSet_denied (ho : ((s.dev.arrives 0xA301).demand dBDAC).biasOwned ch.toNat en rg) : let x := s.dev.arrives 0xA301
    execOptBiasSet src ch en rg nco code damp sd strobe s = .next (s.put (x.declines (x.entry src 0xA301 .c) .denied)) := by
  rw [biasSetOk_iff] at hok
  rw [biasOwned_iff] at ho
  exact lift_eq_put (kci_declines h ((if_neg (Bool.eq_false_iff.mp hok)).trans (if_pos ho)))

variable (ho : ¬ ((s.dev.arrives 0xA301).demand dBDAC).biasOwned ch.toNat en rg)
include ho

theorem optBiasSet_sets (hs : strobe.toNat ≠ 1) : let x := s.dev.arrives 0xA301
    execOptBiasSet src ch en rg nco code damp sd strobe s = .next (s.put (x.completes (x.entry src 0xA301 .c)
      ((x.demand dBDAC).biasGiven ch.toNat en rg nco code damp sd) [])) := by
  rw [biasSetOk_iff] at hok
  rw [biasOwned_iff] at ho
  exact lift_eq_put (kci_completes h ((if_neg (Bool.eq_false_iff.mp hok)).trans ((if_neg ho).trans (if_neg hs))))

theorem optBiasSet_strobes (hs : strobe.toNat = 1) : let x := s.dev.arrives 0xA301
    execOptBiasSet src ch en rg nco code damp sd strobe s = .next (s.put
      (((x.demand dBDAC).biasGiven ch.toNat en rg nco code damp sd).holds (x.entry src 0xA301 .c) (.strobe (ch.toNat / 8)))) := by
  rw [biasSetOk_iff] at hok
  rw [biasOwned_iff] at ho
  exact lift_eq_put (kci_holds h ((if_neg (Bool.eq_false_iff.mp hok)).trans ((if_neg ho).trans (if_pos hs))))

end

/-! ## OPT.NCO.SET (Table 9-12) -/

/-- Operands that Table 9-12 allows. -/
def ncoSetOk (nco en tb : Byte) (fw : Word32) : Prop :=
  nco.toNat ≤ 7 ∧ (en.toNat ≤ 1 ∨ en.toNat = 0xFF) ∧ (tb.toNat ≤ 3 ∨ tb.toNat = 0xFF) ∧ (fw.toNat < 2 ^ 31 ∨ fw.toNat = 0xFFFFFFFF)

theorem ncoSetOk_iff (nco en tb : Byte) (fw : Word32) : ncoSetOk nco en tb fw ↔
    (7 < nco.toNat || !okKeep en.toNat 1 || !okKeep tb.toNat 3 || !(fw.toNat < 2 ^ 31 || fw.toNat = 0xFFFFFFFF)) = false := by
  simp only [ncoSetOk, Bool.or_eq_false_iff, Bool.not_eq_false', decide_eq_false_iff_not, Nat.not_lt, Bool.or_eq_true, decide_eq_true_eq,
    okKeep_iff, and_assoc]

/-- The oscillator with each field set that the command gives. -/
def Dev.ncoGiven (d : Dev) (j : Nat) (en tb : Byte) (fw ph : Word32) : Dev :=
  (((d.cfgKeep dBDAC F.OC_NCOCTL_EN j en.toNat 0xFF).cfgKeep dBDAC F.OC_NCOCTL_TB j tb.toNat 0xFF).cfgKeep
    dBDAC F.OC_NCOFW_VALUE j fw.toNat 0xFFFFFFFF).cfgKeep dBDAC F.OC_NCOPH_VALUE j ph.toNat 0xFFFFFFFF

section
variable {nco en tb : Byte} {fw ph es : Word32} (h : s.dev.admits src 0xA310 .c = true)
include h

theorem optNcoSet_badParam (hn : ¬ ncoSetOk nco en tb fw) : let x := s.dev.arrives 0xA310
    execOptNcoSet src nco en tb fw ph es s = .next (s.put (x.declines (x.entry src 0xA310 .c) .badParam)) := by
  rw [ncoSetOk_iff, Bool.not_eq_false] at hn
  exact lift_eq_put (kci_declines h (if_pos hn))

variable (hok : ncoSetOk nco en tb fw)
include hok

theorem optNcoSet_waits (he : es.toNat = 0xFFFFFFFF) : let x := s.dev.arrives 0xA310
    execOptNcoSet src nco en tb fw ph es s =
      .next (s.put (((x.demand dBDAC).ncoGiven nco.toNat en tb fw ph).holds (x.entry src 0xA310 .c) .nco)) := by
  rw [ncoSetOk_iff] at hok
  exact lift_eq_put (kci_holds h ((if_neg (Bool.eq_false_iff.mp hok)).trans (if_pos he)))

theorem optNcoSet_arms (he : es.toNat ≠ 0xFFFFFFFF) : let x := s.dev.arrives 0xA310
    execOptNcoSet src nco en tb fw ph es s = .next (s.put (x.completes (x.entry src 0xA310 .c)
      ((((x.demand dBDAC).ncoGiven nco.toNat en tb fw ph).cfg dBDAC F.OC_NCOESEC_VALUE nco.toNat es.toNat).set F.OC_NCOCTL_EARM nco.toNat)
      [])) := by
  rw [ncoSetOk_iff] at hok
  exact lift_eq_put (kci_completes h ((if_neg (Bool.eq_false_iff.mp hok)).trans (if_neg he)))

end

/-! ## OPT.MADC.READ and OPT.MADC.CAL (Tables 9-13 and 9-14) -/

section
variable {conv chan st g : Byte} (h : s.dev.admits src 0xA320 .c = true)
include h

theorem optMadcRead_injects (hok : conv.toNat ≤ 1 ∧ chan.toNat ≤ 27 ∧ st.toNat ≤ 15 ∧ g.toNat ≤ 3) : let x := s.dev.arrives 0xA320
    execOptMadcRead src conv chan st g s = .next (s.put (((x.demand dMADC).holds (x.entry src 0xA320 .c)
      (.inject conv.toNat chan.toNat st.toNat g.toNat false)).madcNext conv.toNat)) := by
  refine lift_eq_put ((kciThen_of_admits _ _ h).trans (congrArg (fun d : Dev => d.madcNext conv.toNat) (runBody_hold (if_neg ?_))))
  simp only [Bool.or_eq_true, decide_eq_true_eq]
  omega

theorem optMadcRead_badParam (hn : ¬ (conv.toNat ≤ 1 ∧ chan.toNat ≤ 27 ∧ st.toNat ≤ 15 ∧ g.toNat ≤ 3)) : let x := s.dev.arrives 0xA320
    execOptMadcRead src conv chan st g s = .next (s.put ((x.declines (x.entry src 0xA320 .c) .badParam).madcNext conv.toNat)) := by
  refine lift_eq_put ((kciThen_of_admits _ _ h).trans (congrArg (fun d : Dev => d.madcNext conv.toNat) (runBody_no (if_pos ?_))))
  simp only [Bool.or_eq_true, decide_eq_true_eq]
  omega

end

section
variable {conv : Byte} (h : s.dev.admits src 0xA321 .c = true)
include h

theorem optMadcCal_waits (hv : conv.toNat ≤ 1 ∨ conv.toNat = 0xFF) : let x := s.dev.arrives 0xA321
    let a := x.demand dMADC
    let c := if conv.toNat = 1 then 1 else 0
    let b := a.madcCalReq c
    execOptMadcCal src conv s = .next (s.put (b.holds (x.entry src 0xA321 .c) (.madcCal (if conv.toNat = 0xFF then 3 else 2 ^ conv.toNat)
      (if a.on F.OC_MASTAT_CAL c || b.on F.OC_MASTAT_CAL c then b.rd F.OC_MACNT_MA_MISSED c else 0)))) := by
  refine lift_eq_put (kci_holds h (if_neg ?_))
  rw [Bool.and_eq_true, decide_eq_true_eq, decide_eq_true_eq]
  omega

theorem optMadcCal_badParam (h1 : 1 < conv.toNat) (hk : conv.toNat ≠ 0xFF) : let x := s.dev.arrives 0xA321
    execOptMadcCal src conv s = .next (s.put (x.declines (x.entry src 0xA321 .c) .badParam)) :=
  lift_eq_put (kci_declines h (if_pos (by rw [decide_eq_true h1, decide_eq_true hk]; rfl)))

end

/-! ## OPT.LOOP.GET (Table 9-15) -/

section
variable {lane : Byte} (h : s.dev.admits src 0xA330 .q = true)
include h

theorem optLoopGet_answers (hl : lane.toNat ≤ 7) : let x := s.dev.arrives 0xA330
    ∃ p, execOptLoopGet src lane s = .next (s.put (x.completes (x.entry src 0xA330 .q) x p)) ∧ p.length = 16 ∧
      p.take 2 = [BitVec.ofNat 8 (x.loop lane.toNat).state, BitVec.ofNat 8 (x.loop lane.toNat).fcause] ∧
      p.drop 12 = be 4 (x.loop lane.toNat).holds := by
  refine ⟨_, lift_eq_put (kci_completes h (if_neg (Nat.not_lt.mpr hl))), ?_, rfl, ?_⟩
  · simp only [List.length_append, length_be, List.length_cons, List.length_nil]
  · exact List.drop_left' (by simp only [List.length_append, length_be, List.length_cons, List.length_nil])

theorem optLoopGet_badParam (hl : 7 < lane.toNat) : let x := s.dev.arrives 0xA330
    execOptLoopGet src lane s = .next (s.put (x.declines (x.entry src 0xA330 .q) .badParam)) :=
  lift_eq_put (kci_declines h (if_pos hl))

end

/-! ## OPT.LOOP.SET (Table 9-16) -/

section
variable (lane en auto mode lch lmon mch mmon nco ramp nint bstep : Byte) (setpt ilim kp ki kb mcode : BitVec 16)

/-- Operands that Table 9-16 allows. -/
def loopSetOk : Prop :=
  lane.toNat ≤ 7 ∧ ∀ q ∈ [(en, 0, 1), (auto, 0, 1), (mode, 0, 4), (lch, 0, 15), (lmon, 0, 15), (mch, 0, 15), (mmon, 0, 15),
    (nco, 0, 7), (ramp, 1, 255), (nint, 1, 64), (bstep, 1, 64)], (q.2.1 ≤ q.1.toNat ∧ q.1.toNat ≤ q.2.2) ∨ q.1.toNat = 0xFF

/-- An operand within its range, or the keep value. -/
def inRange (v : Byte) (lo hi : Nat) : Bool := (lo ≤ v.toNat && v.toNat ≤ hi) || v.toNat = 0xFF

theorem inRange_iff (v : Byte) (lo hi : Nat) : inRange v lo hi = true ↔ (lo ≤ v.toNat ∧ v.toNat ≤ hi) ∨ v.toNat = 0xFF := by
  simp only [inRange, Bool.or_eq_true, Bool.and_eq_true, decide_eq_true_eq]

theorem loopSetOk_iff : loopSetOk lane en auto mode lch lmon mch mmon nco ramp nint bstep ↔
    (7 < lane.toNat || !inRange en 0 1 || !inRange auto 0 1 || !inRange mode 0 4 || !inRange lch 0 15 || !inRange lmon 0 15 ||
      !inRange mch 0 15 || !inRange mmon 0 15 || !inRange nco 0 7 || !inRange ramp 1 255 || !inRange nint 1 64 ||
      !inRange bstep 1 64) = false := by
  simp only [loopSetOk, ← inRange_iff, List.forall_mem_cons, List.not_mem_nil, false_implies, implies_true, and_true,
    Bool.or_eq_false_iff, Bool.not_eq_false', decide_eq_false_iff_not, Nat.not_lt, and_assoc]

/-- A loop's configuration with each field set that the command gives. -/
def LoopCfg.given (c : LoopCfg) : LoopCfg :=
  let b := fun (v : Byte) (old : Nat) => if v.toNat = 0xFF then old else v.toNat
  let w := fun (v : BitVec 16) (old : Nat) => if v.toNat = 0xFFFF then old else v.toNat
  { auto := if auto.toNat = 0xFF then c.auto else auto.toNat == 1, mode := b mode c.mode, lch := b lch c.lch
    lmon := b lmon c.lmon, mch := b mch c.mch, mmon := b mmon c.mmon, nco := b nco c.nco
    ramp := b ramp c.ramp, nint := b nint c.nint, bstep := b bstep c.bstep, setpt := w setpt c.setpt
    ilim := w ilim c.ilim, kp := w kp c.kp, ki := w ki c.ki, kb := w kb c.kb, mcode := w mcode c.mcode }

end

/-- A configuration names another channel, monitor or oscillator. -/
def LoopCfg.moved (c1 c : LoopCfg) : Prop := c1.lch ≠ c.lch ∨ c1.lmon ≠ c.lmon ∨ c1.mch ≠ c.mch ∨ c1.mmon ≠ c.mmon ∨ c1.nco ≠ c.nco

theorem moved_iff (c1 c : LoopCfg) : c1.moved c ↔
    (c1.lch != c.lch || c1.lmon != c.lmon || c1.mch != c.mch || c1.mmon != c.mmon || c1.nco != c.nco) = true := by
  simp only [LoopCfg.moved, Bool.or_eq_true, bne_iff_ne, or_assoc]

section
variable {lane en auto mode lch lmon mch mmon nco ramp nint bstep : Byte} {setpt ilim kp ki kb mcode : BitVec 16}
  (h : s.dev.admits src 0xA331 .c = true)
include h

theorem optLoopSet_badParam (hn : ¬ loopSetOk lane en auto mode lch lmon mch mmon nco ramp nint bstep) : let x := s.dev.arrives 0xA331
    execOptLoopSet src lane en auto mode lch lmon mch mmon nco ramp nint bstep setpt ilim kp ki kb mcode s =
      .next (s.put (x.declines (x.entry src 0xA331 .c) .badParam)) := by
  rw [loopSetOk_iff, Bool.not_eq_false] at hn
  exact lift_eq_put (kci_declines h (if_pos hn))

variable (hok : loopSetOk lane en auto mode lch lmon mch mmon nco ramp nint bstep) {c1 : LoopCfg}
  (hc1 : c1 = ((s.dev.arrives 0xA331).loop lane.toNat).cfg.given auto mode lch lmon mch mmon nco ramp nint bstep setpt ilim kp ki kb mcode)
include hok hc1

theorem optLoopSet_denied (hst : ((s.dev.arrives 0xA331).loop lane.toNat).state ≠ 0)
    (hmv : c1.moved ((s.dev.arrives 0xA331).loop lane.toNat).cfg) : let x := s.dev.arrives 0xA331
    execOptLoopSet src lane en auto mode lch lmon mch mmon nco ramp nint bstep setpt ilim kp ki kb mcode s =
      .next (s.put (x.declines (x.entry src 0xA331 .c) .denied)) := by
  rw [loopSetOk_iff] at hok
  rw [moved_iff, hc1] at hmv
  refine lift_eq_put (kci_declines h ((if_neg (Bool.eq_false_iff.mp hok)).trans (if_pos ?_)))
  rw [Bool.and_eq_true, decide_eq_true_eq]
  exact ⟨hst, hmv⟩

variable (hmay : ((s.dev.arrives 0xA331).loop lane.toNat).state = 0 ∨ ¬ c1.moved ((s.dev.arrives 0xA331).loop lane.toNat).cfg)
include hmay

/-- A configuration that may be given is set, and EN turns the loop on or off. -/
theorem optLoopSet_sets : let x := s.dev.arrives 0xA331
    let a := (x.demand dBDAC).mapLoop lane.toNat fun l => { l with cfg := c1 }
    execOptLoopSet src lane en auto mode lch lmon mch mmon nco ramp nint bstep setpt ilim kp ki kb mcode s =
      .next (s.put (x.completes (x.entry src 0xA331 .c)
        (if en.toNat = 1 then a.loopStart lane.toNat else if en.toNat = 0 then a.loopOff lane.toNat else a) [])) := by
  rw [loopSetOk_iff] at hok
  rw [moved_iff] at hmay
  subst hc1
  refine lift_eq_put (kci_completes h ((if_neg (Bool.eq_false_iff.mp hok)).trans (if_neg ?_)))
  rw [Bool.and_eq_true, decide_eq_true_eq]
  rintro ⟨hst, hmv⟩
  exact hmay.elim hst fun hn => hn hmv

theorem optLoopSet_starts (he : en.toNat = 1) : let x := s.dev.arrives 0xA331
    execOptLoopSet src lane en auto mode lch lmon mch mmon nco ramp nint bstep setpt ilim kp ki kb mcode s =
      .next (s.put (x.completes (x.entry src 0xA331 .c)
        (((x.demand dBDAC).mapLoop lane.toNat fun l => { l with cfg := c1 }).loopStart lane.toNat) [])) := by
  have hset := optLoopSet_sets h hok hc1 hmay
  dsimp only at hset ⊢
  rwa [if_pos he] at hset

theorem optLoopSet_stops (he : en.toNat = 0) : let x := s.dev.arrives 0xA331
    execOptLoopSet src lane en auto mode lch lmon mch mmon nco ramp nint bstep setpt ilim kp ki kb mcode s =
      .next (s.put (x.completes (x.entry src 0xA331 .c)
        (((x.demand dBDAC).mapLoop lane.toNat fun l => { l with cfg := c1 }).loopOff lane.toNat) [])) := by
  have hset := optLoopSet_sets h hok hc1 hmay
  dsimp only at hset ⊢
  rwa [if_neg (show en.toNat ≠ 1 by omega), if_pos he] at hset

theorem optLoopSet_configures (he : en.toNat = 0xFF) : let x := s.dev.arrives 0xA331
    execOptLoopSet src lane en auto mode lch lmon mch mmon nco ramp nint bstep setpt ilim kp ki kb mcode s =
      .next (s.put (x.completes (x.entry src 0xA331 .c) ((x.demand dBDAC).mapLoop lane.toNat fun l => { l with cfg := c1 }) [])) := by
  have hset := optLoopSet_sets h hok hc1 hmay
  dsimp only at hset ⊢
  rwa [if_neg (show en.toNat ≠ 1 by omega), if_neg (show en.toNat ≠ 0 by omega)] at hset

end

/-! ## OPT.OSPI.XFER (Table 9-17) -/

section
variable {bus count : Byte} {fr : List Word32} (h : s.dev.admits src 0xA340 .c = true)
include h

theorem optOspiXfer_queues (hok : bus.toNat ≤ 1 ∧ 0 < count.toNat ∧ count.toNat ≤ 8 ∧ fr.length = count.toNat) :
    let x := s.dev.arrives 0xA340
    execOptOspiXfer src bus count fr s = .next (s.put (((x.demand dBDAC).holds (x.entry src 0xA340 .c)
      (.ospi bus.toNat count.toNat (fr.map fun f => f.toNat) [])).ospiFeed)) := by
  refine lift_eq_put ((kciThen_of_admits _ _ h).trans (congrArg Dev.ospiFeed (runBody_hold (if_neg ?_))))
  simp only [Bool.or_eq_true, decide_eq_true_eq]
  omega

theorem optOspiXfer_badParam (hn : ¬ (bus.toNat ≤ 1 ∧ 0 < count.toNat ∧ count.toNat ≤ 8 ∧ fr.length = count.toNat)) :
    let x := s.dev.arrives 0xA340
    execOptOspiXfer src bus count fr s = .next (s.put ((x.declines (x.entry src 0xA340 .c) .badParam).ospiFeed)) := by
  refine lift_eq_put ((kciThen_of_admits _ _ h).trans (congrArg Dev.ospiFeed (runBody_no (if_pos ?_))))
  simp only [Bool.or_eq_true, decide_eq_true_eq]
  omega

end

end

/-- Settles O43: one lemma per answer of each command. -/
theorem opticsCommands : Obligations.OpticsCommands := by
  intro s src
  refine ⟨fun ch h => ⟨optBiasGet_answers h, optBiasGet_badParam h⟩,
    fun ch en rg nco code damp sd strobe h => ⟨optBiasSet_sets h, optBiasSet_strobes h, optBiasSet_denied h, optBiasSet_badParam h⟩,
    fun nco en tb fw ph es h => ⟨optNcoSet_waits h, optNcoSet_arms h, optNcoSet_badParam h⟩,
    fun conv chan st g h => ⟨optMadcRead_injects h, optMadcRead_badParam h⟩,
    fun conv h => ⟨optMadcCal_waits h, optMadcCal_badParam h⟩, fun lane h => ⟨optLoopGet_answers h, optLoopGet_badParam h⟩,
    fun lane en auto mode lch lmon mch mmon nco ramp nint bstep setpt ilim kp ki kb mcode h =>
      ⟨fun hok hmay => ⟨optLoopSet_starts h hok rfl hmay, optLoopSet_stops h hok rfl hmay, optLoopSet_configures h hok rfl hmay⟩,
        fun hok hst hmv => optLoopSet_denied h hok rfl hst hmv, optLoopSet_badParam h⟩,
    fun bus count fr h => ⟨optOspiXfer_queues h, optOspiXfer_badParam h⟩⟩

end Sys2Proof.Machine
